-- ==== Sys2Proof/Word.lean ====
section
/-! DEFINITION. The word types of the IG-6400: bytes, 32-bit mailbox and register words (R5, R43). -/

namespace Sys2Proof

/-- An 8-bit byte. -/
abbrev Byte := BitVec 8

/-- A 32-bit little-endian register or mailbox word (R5). -/
abbrev Word := BitVec 32

/-- A 64-bit value: times, addresses, serials. -/
abbrev Word64 := BitVec 64

/-- The integer `x` held between `lo` and `hi`. -/
def clampInt (lo hi x : Int) : Int := if x < lo then lo else if hi < x then hi else x

/-- Floor division of integers by a positive number. -/
def floorDiv (a : Int) (b : Nat) : Int := Int.fdiv a (Int.ofNat b)

end Sys2Proof
end

