-- ==== Sys2Proof/Machine/Operands.lean ====
section
/-! DEFINITION. Operands of rows that bring more than one thing at once. -/

namespace Sys2Proof.Machine

/-- How a decode on an engine ended (R137, R154, R158): the fault met, by the row's codes, and how long it took, in ps. -/
structure DecodeEnd where
  fault : Nat
  dur : Nat
  deriving DecidableEq, Repr

/-- What a Mule read brings back (R109, R110): the bytes of a fixed-address aperture, and whether the completion is an error. -/
structure ReadReply where
  fifo : List Byte
  err : Bool
  deriving DecidableEq, Repr

/-- A change of a VSYNC ball (R273): its new level and its time in ps. -/
structure VsyncEdge where
  level : Bool
  t : Nat
  deriving DecidableEq, Repr

/-- Clocks of a camera port (R271, R272): the time of the first, and what the balls show at the rising and at the falling edge of each. -/
structure CamClocks where
  t : Nat
  rise : List Nat
  fall : List Nat
  deriving DecidableEq, Repr

/-- How a pipeline's line ended: words of four pixels that read as uncorrectable (R397), and what has fallen behind under the throttle:
streams more than one frame behind in bits 0 to 3 (R284), the line's statistics in bit 4 (R286). -/
structure PipeEnd where
  lost : List Nat
  late : Nat
  deriving DecidableEq, Repr

/-- Temperatures of a DDR5 channel (R409), 1/16 °C: that of MR4 and that of the nearest die sensor. -/
structure DramTemps where
  mr4 : Int
  die : Int
  deriving DecidableEq, Repr

/-- The payload of an ordered set received on a lane (R226, R230). -/
structure SetRx where
  lane : Nat
  bytes : List Byte
  deriving DecidableEq, Repr

end Sys2Proof.Machine
end

