-- ==== Sys2Proof/Machine/State/Pci.lean ====
section
/-! DEFINITION. The part of PCI Express configuration space that the host sets (Table 2.1, R40, R511). -/

namespace Sys2Proof.Machine

/-- The base address registers, BAR0/1 256 KiB aligned and BAR2/3 64 MiB aligned, and the Command register's Memory Space Enable and Bus
Master Enable; before the host sets them they hold the PCI Express defaults (R40; PRESUMED, log entry 81). -/
structure PciBase where
  bar0 : Nat := 0
  bar2 : Nat := 0
  memSpace : Bool := false
  busMaster : Bool := false
  deriving DecidableEq, Repr

/-- The Device Control register: Enable Relaxed Ordering, and the max payload and max read request sizes in bytes (PRESUMED defaults, log
entry 81). -/
structure PciDev where
  relaxed : Bool := true
  mps : Nat := 128
  mrrs : Nat := 512
  deriving DecidableEq, Repr

/-- The enables of the capabilities: MSI-X Enable, and ECRC generation and checking of AER (PRESUMED defaults, log entry 81). -/
structure PciCaps where
  msixEn : Bool := false
  ecrcGen : Bool := false
  ecrcChk : Bool := false
  deriving DecidableEq, Repr

/-- What the host sets in configuration space (Table 2.1). -/
structure PciCfg extends PciBase, PciDev, PciCaps
  deriving DecidableEq, Repr

/-- Values that the host can set: aligned BARs, payload sizes from 128 to 4,096 (those above 512 are obeyed as 512), and read request
sizes from 128 to 4,096 bytes. -/
def PciCfg.wf (c : PciCfg) : Bool :=
  decide (c.bar0 % 2 ^ 18 = 0 ∧ c.bar2 % 2 ^ 26 = 0 ∧ c.bar0 < 2 ^ 64 ∧ c.bar2 < 2 ^ 64)
    && [128, 256, 512, 1024, 2048, 4096].contains c.mps && [128, 256, 512, 1024, 2048, 4096].contains c.mrrs

end Sys2Proof.Machine
end

