-- ==== Sys2Proof/Syntax.lean ====
section
/-! DEFINITION. The commands of the block: one constructor per row of spec/opcode_table.json, in the table's order.
A mailbox command carries no operand: its parameters lie in the slot at the head of the ring order (R43, R49). The other
rows carry what arrives from outside (register offsets and data, samples, received bits, measured values, times in ps
of Rooster time) and the choice of the part they concern. -/

namespace Sys2Proof

/-- The commands of the IG-6400. -/
inductive Instr where
  /-- REGISTER_WRITE (R7). -/
  | registerWrite (off : Nat) (v : Word)
  /-- BAD_SIZE_ACCESS (R41). -/
  | badSizeAccess (write : Bool) (off : Nat)
  /-- RESERVED_ADDR_ACCESS (R42). -/
  | reservedAddrAccess (write : Bool) (off : Nat)
  /-- TIME_LO_READ (R476). -/
  | timeLoRead
  /-- BAR2_READ (R63). -/
  | bar2Read (off : Nat) (err : Nat)
  /-- BAR2_WRITE (R61). -/
  | bar2Write (off : Nat)
  /-- MAILBOX_SLOT_WRITE (R45). -/
  | mailboxSlotWrite (slot : Nat) (word : Nat) (ws : List Word)
  /-- DOORBELL (R46). -/
  | doorbell (v : Word)
  /-- EVR_EN_WRITE (R54). -/
  | evrEnWrite (v : Word)
  /-- EVR_READ_WRITE (R56). -/
  | evrReadWrite (v : Word)
  /-- EVENT_BACKLOG_DRAIN (R57). -/
  | eventBacklogDrain
  /-- MOD_TIMER_EXPIRY (R59). -/
  | modTimerExpiry
  /-- HOST_INTERFACE_RESET (R40). -/
  | hostInterfaceReset (kind : Nat)
  /-- HOST_LINK_RETRAIN (R39). -/
  | hostLinkRetrain (speed : Nat) (width : Nat)
  /-- PCIE_POWER_STATE_CHANGE (R40). -/
  | pciePowerStateChange (d3hot : Bool) (base : Machine.PciBase) (dev : Machine.PciDev) (caps : Machine.PciCaps)
  /-- MULE_EN_WRITE (R105). -/
  | muleEnWrite (ch : Nat) (v : Word)
  /-- MULE_STOP_WRITE (R110). -/
  | muleStopWrite (ch : Nat) (v : Word)
  /-- MULE_TAIL_WRITE (R105). -/
  | muleTailWrite (ch : Nat) (v : Word)
  /-- MULE_RESUME_LO_READ (R103). -/
  | muleResumeLoRead (ch : Nat)
  /-- PIO_WINDOW_WRITE (R113). -/
  | pioWindowWrite (ch : Nat) (ws : List Byte)
  /-- MULE_DESCRIPTOR_FETCH (R108). -/
  | muleDescriptorFetch (ch : Nat)
  /-- MULE_READ_COMPLETION (R109). -/
  | muleReadCompletion (ch : Nat) (len : Nat) (reply : Machine.ReadReply)
  /-- MULE_READ_TIMEOUT (R110). -/
  | muleReadTimeout (ch : Nat)
  /-- INGEST_RECORD (R89). -/
  | ingestRecord (ch : Nat)
  /-- PREVERIFY_BLOCK (R121). -/
  | preverifyBlock (seen : List Byte) (fault : Nat)
  /-- PAGE_ANNOUNCE (R35). -/
  | pageAnnounce
  /-- PAGE_ADMIT (R14). -/
  | pageAdmit
  /-- PAGE_WITHDRAW (R111). -/
  | pageWithdraw
  /-- PAGE_STATUS (R34). -/
  | pageStatus
  /-- PAGE_CONFIG (R20). -/
  | pageConfig
  /-- PAGE_GAP (R27). -/
  | pageGap
  /-- PAGE_SPOIL (R28). -/
  | pageSpoil
  /-- TOS_EDGE (R17). -/
  | tosEdge (t : Nat)
  /-- POS_SAMPLE (R173). -/
  | posSample (input : Nat) (a : Nat) (b : Nat) (t : Nat)
  /-- VELOCITY_STOP_TIMEOUT (R180). -/
  | velocityStopTimeout (station : Nat)
  /-- Z_EDGE (R172). -/
  | zEdge (input : Nat) (t : Nat)
  /-- STROBE_COMMIT (R194). -/
  | strobeCommit (lane : Nat)
  /-- TIME_REF_LOSS (R181). -/
  | timeRefLoss
  /-- TIME_REF_LOCK (R181). -/
  | timeRefLock
  /-- GAP_ITEM_START (R24). -/
  | gapItemStart
  /-- GAP_ITEM_DONE (R24). -/
  | gapItemDone (tests : List (Nat × Nat × Nat)) (eyes : List Nat)
  /-- GAP_WANTED_REPEAT (R26). -/
  | gapWantedRepeat
  /-- SYS_IDENTIFY (R66). -/
  | sysIdentify
  /-- SYS_PING (R66). -/
  | sysPing
  /-- SYS_TIME (R66). -/
  | sysTime
  /-- SYS_STATUS (R66). -/
  | sysStatus
  /-- SYS_PENDING (R66). -/
  | sysPending
  /-- STREAM_BANDMAP (R92). -/
  | streamBandmap
  /-- CODEC_COMPRESS (R93). -/
  | codecCompress
  /-- CODEC_FLUSH (R97). -/
  | codecFlush
  /-- CODEC_VERIFY (R99). -/
  | codecVerify
  /-- CODEC_JOB_START (R96). -/
  | codecJobStart
  /-- CODEC_JOB_DONE (R96). -/
  | codecJobDone
  /-- SPOOL_BIND (R104). -/
  | spoolBind
  /-- SPOOL_UNBIND (R125). -/
  | spoolUnbind
  /-- SPOOL_STATUS (R124). -/
  | spoolStatus
  /-- SPOOL_INFO (R124). -/
  | spoolInfo
  /-- SPOOL_RETAIN (R122). -/
  | spoolRetain
  /-- SPOOL_REPEAT (R122). -/
  | spoolRepeat
  /-- SPOOL_RELEASE (R122). -/
  | spoolRelease
  /-- EXP_STATUS (R167). -/
  | expStatus
  /-- EXP_GEOM_LOAD (R168). -/
  | expGeomLoad
  /-- EXP_SCREEN_LOAD (R168). -/
  | expScreenLoad
  /-- EXP_TONE_NEUTRAL (R168). -/
  | expToneNeutral
  /-- EXP_POLICY (R168). -/
  | expPolicy
  /-- EXP_SLACK (R165). -/
  | expSlack
  /-- EXP_FORECAST (R166). -/
  | expForecast
  /-- EXP_ENGINE (R168). -/
  | expEngine
  /-- BLOCK_FETCH (R138). -/
  | blockFetch (engine : Nat) (tile : Nat) (err : Nat) (bit : Nat)
  /-- BLOCK_DECODE_DONE (R137). -/
  | blockDecodeDone (engine : Nat) (tile : Nat) (seen : List Byte) (run : Machine.DecodeEnd)
  /-- BAND_LINE_DONE (R133). -/
  | bandLineDone (engine : Nat) (dur : Nat) (check : Nat) (place : Nat)
  /-- BAND_LINE_RELEASE (R134). -/
  | bandLineRelease (engine : Nat) (tile : Nat)
  /-- ENGINE_HANG (R155). -/
  | engineHang (engine : Nat)
  /-- REPLAY_START (R158). -/
  | replayStart
  /-- REPLAY_DONE (R158). -/
  | replayDone (engine : Nat) (seen : List Byte) (run : Machine.DecodeEnd)
  /-- SELF_TEST_DONE (R163). -/
  | selfTestDone (engine : Nat) (ok : Bool)
  /-- ENGINE_WARMUP_DONE (R160). -/
  | engineWarmupDone (engine : Nat)
  /-- ROTATION_TIMER (R162). -/
  | rotationTimer
  /-- POS_INPUT (R172). -/
  | posInput
  /-- POS_TRACK (R175). -/
  | posTrack
  /-- POS_STATUS (R199). -/
  | posStatus
  /-- POS_DELAY (R185). -/
  | posDelay
  /-- POS_MASK (R192). -/
  | posMask
  /-- POS_OVERRIDE (R193). -/
  | posOverride
  /-- POS_LATENCY (R199). -/
  | posLatency
  /-- TIME_CONFIG (R181). -/
  | timeConfig
  /-- LINE_FRAME_START (R215). -/
  | lineFrameStart (lane : Nat) (poison : Bool)
  /-- PRBS_SLOT_SEND (R225). -/
  | prbsSlotSend (lane : Nat)
  /-- CODEWORD_RX (R208). -/
  | codewordRx (lane : Nat) (ws : List Bool)
  /-- STATUS_FRAME_RX (R221). -/
  | statusFrameRx (lane : Nat)
  /-- MGMT_RESPONSE_RX (R223). -/
  | mgmtResponseRx (lane : Nat)
  /-- MGMT_RETRY_TIMEOUT (R223). -/
  | mgmtRetryTimeout (lane : Nat)
  /-- PROBE_TIMER (R195). -/
  | probeTimer (lane : Nat)
  /-- ECHO_RX (R219). -/
  | echoRx (lane : Nat) (bytes : List Byte) (t : Nat)
  /-- PROBE_TIMEOUT (R219). -/
  | probeTimeout (lane : Nat)
  /-- PRBS_SLOT_RX (R224). -/
  | prbsSlotRx (lane : Nat)
  /-- ACQUIRE_PEAK_TIMER (R228). -/
  | acquirePeakTimer (lane : Nat) (eye : Nat)
  /-- ACQUIRE_RATE_TIMER (R228). -/
  | acquireRateTimer (lane : Nat)
  /-- OFFLINE_RETRY_TIMER (R227). -/
  | offlineRetryTimer (lane : Nat)
  /-- MGMT_ONLY_RETRY_TIMER (R227). -/
  | mgmtOnlyRetryTimer (lane : Nat)
  /-- FAST_EXIT_TIMEOUT (R231). -/
  | fastExitTimeout (lane : Nat)
  /-- LINK_ERROR_WINDOW (R232). -/
  | linkErrorWindow (lane : Nat) (eye : Nat)
  /-- LINK_STATUS (R238). -/
  | linkStatus
  /-- LINK_TRAIN (R239). -/
  | linkTrain
  /-- LINK_CONFIG (R238). -/
  | linkConfig
  /-- LINK_ENABLE (R239). -/
  | linkEnable
  /-- LINK_ERRORS (R238). -/
  | linkErrors
  /-- TILE_INFO (R267). -/
  | tileInfo
  /-- TILE_THERMAL (R267). -/
  | tileThermal
  /-- TILE_MEM (R267). -/
  | tileMem
  /-- REC_DISCARD (R248). -/
  | recDiscard
  /-- TILE_POWER (R257). -/
  | tilePower
  /-- TILE_POWER_DELAY_EXPIRY (R257). -/
  | tilePowerDelayExpiry (station : Nat)
  /-- RECORD_WRITE (R249). -/
  | recordWrite (kind : Nat) (location : Nat)
  /-- CONS_STATUS (R266). -/
  | consStatus
  /-- CONS_BIND (R262). -/
  | consBind
  /-- CONS_AUTH (R260). -/
  | consAuth
  /-- CONS_OTP_KEY (R260). -/
  | consOtpKey
  /-- CONS_POLL (R261). -/
  | consPoll (acks : Nat)
  /-- CONS_AUTH_TIMER (R260). -/
  | consAuthTimer (slot : Nat)
  /-- CONS_CHIP_RESPONSE (R259). -/
  | consChipResponse (slot : Nat) (data : List Byte) (ok : Bool)
  /-- CONS_BUSY_RETRY (R259). -/
  | consBusyRetry (slot : Nat)
  /-- CONS_INCREMENT (R263). -/
  | consIncrement (slot : Nat)
  /-- CAM_FRAME_START (R273). -/
  | camFrameStart (port : Nat) (vs : Machine.VsyncEdge)
  /-- CAM_LINE (R272). -/
  | camLine (port : Nat) (clocks : Machine.CamClocks)
  /-- CAM_PIPE_LINE_DONE (R276). -/
  | camPipeLineDone (pipe : Nat) (line : Machine.PipeEnd)
  /-- CAM_TRIG_PERIOD (R289). -/
  | camTrigPeriod (trig : Nat)
  /-- CAM_PORT (R287). -/
  | camPort
  /-- CAM_MOSAIC (R288). -/
  | camMosaic
  /-- CAM_STREAM (R281). -/
  | camStream
  /-- CAM_STATS (R285). -/
  | camStats
  /-- CAM_STATUS (R290). -/
  | camStatus
  /-- CAM_TRIGGER (R289). -/
  | camTrigger
  /-- CAM_I2C (R290). -/
  | camI2c (acks : Nat) (data : List Byte)
  /-- CAL_VIEW (R296). -/
  | calView
  /-- CAL_CONFIG (R319). -/
  | calConfig
  /-- CAL_START (R314). -/
  | calStart
  /-- CAL_STOP (R316). -/
  | calStop
  /-- CAL_RESULT (R319). -/
  | calResult
  /-- CAL_WINDOW_TIMEOUT (R314). -/
  | calWindowTimeout (kind : Nat) (subject : Nat)
  /-- CAL_INTERVAL (R314). -/
  | calInterval (kind : Nat) (subject : Nat)
  /-- LOOP_TICK (R325). -/
  | loopTick (vmon : List Nat) (imon : List Nat) (overruns : Nat)
  /-- PROG_STEP_TIMEOUT (R352). -/
  | progStepTimeout (inst : Nat)
  /-- PROG_INSTANCE_EXPIRY (R353). -/
  | progInstanceExpiry (inst : Nat)
  /-- SEQ_IN_EDGE (R350). -/
  | seqInEdge (input : Nat) (level : Bool)
  /-- HV_ARC_EDGE (R341). -/
  | hvArcEdge (chan : Nat)
  /-- HV_ARC_HOLD_EXPIRY (R341). -/
  | hvArcHoldExpiry (chan : Nat)
  /-- HV_COMPLIANCE_END (R340). -/
  | hvComplianceEnd (chan : Nat)
  /-- THERMISTOR_SAMPLE (R344). -/
  | thermistorSample (codes : List Nat)
  /-- FUS_ZC_EDGE (R343). -/
  | fusZcEdge
  /-- FUS_ZC_TIMEOUT (R345). -/
  | fusZcTimeout
  /-- FUSER_COMPARATOR_TRIP (R346). -/
  | fuserComparatorTrip (zone : Nat)
  /-- LOOP_CONFIG (R357). -/
  | loopConfig
  /-- LOOP_COEF (R337). -/
  | loopCoef
  /-- LOOP_MODE (R333). -/
  | loopMode
  /-- LOOP_SETPOINT (R338). -/
  | loopSetpoint
  /-- LOOP_STATUS (R356). -/
  | loopStatus
  /-- HV_CONFIG (R339). -/
  | hvConfig
  /-- FUS_CONFIG (R346). -/
  | fusConfig
  /-- PROG_LOAD (R349). -/
  | progLoad
  /-- PROG_STATUS (R356). -/
  | progStatus
  /-- SEQ_IO (R356). -/
  | seqIo
  /-- PWM_PERIOD (R369). -/
  | pwmPeriod (axis : Nat) (su : Int) (sv : Int) (sw : Int)
  /-- DRV_FAULT_INPUT (R362). -/
  | drvFaultInput (axis : Nat)
  /-- AXIS_STOP_TIMEOUT (R367). -/
  | axisStopTimeout (axis : Nat)
  /-- AXIS_ALIGN_DONE (R368). -/
  | axisAlignDone (axis : Nat)
  /-- BUS_SAMPLE (R377). -/
  | busSample (bus : Nat) (vbus : Nat) (isns : Nat)
  /-- CHOPPER_DETECT_TIMEOUT (R377). -/
  | chopperDetectTimeout (bus : Nat)
  /-- VBUS_HARD_TRIP (R379). -/
  | vbusHardTrip (bus : Nat)
  /-- MICROSTEP (R383). -/
  | microstep (axis : Nat)
  /-- STEP_HOLD_TIMEOUT (R382). -/
  | stepHoldTimeout (axis : Nat)
  /-- SWITCH_EDGE (R385). -/
  | switchEdge (axis : Nat) (switch : Nat) (level : Bool) (accepted : Bool)
  /-- CHATTER_WINDOW_END (R386). -/
  | chatterWindowEnd (axis : Nat) (switch : Nat)
  /-- AXIS_CONFIG (R390). -/
  | axisConfig
  /-- AXIS_ADVANCE (R366). -/
  | axisAdvance
  /-- AXIS_ALIGN (R368). -/
  | axisAlign
  /-- AXIS_ENABLE (R374). -/
  | axisEnable
  /-- AXIS_START (R375). -/
  | axisStart
  /-- AXIS_STATUS (R389). -/
  | axisStatus
  /-- AXIS_BUS (R380). -/
  | axisBus
  /-- STEP_CONFIG (R389). -/
  | stepConfig
  /-- STEP_MOVE (R384). -/
  | stepMove
  /-- STEP_HOME (R387). -/
  | stepHome
  /-- STEP_STOP (R384). -/
  | stepStop
  /-- STEP_STATUS (R389). -/
  | stepStatus
  /-- SCRUB_READ (R400). -/
  | scrubRead (store : Nat) (err : Nat) (bit : Nat) (dropped : Bool)
  /-- SCRUB_LATE_TIMEOUT (R400). -/
  | scrubLateTimeout (store : Nat)
  /-- DDR_SWEEP_START (R409). -/
  | ddrSweepStart (chan : Nat) (temps : Machine.DramTemps)
  /-- DDR_SWEEP_PAUSE (R409). -/
  | ddrSweepPause (chan : Nat) (last : Bool) (found : Bool) (centre : List Int)
  /-- EXTENT_MIGRATE (R415). -/
  | extentMigrate (ok : Bool)
  /-- MEM_FILL_EXTENT_DONE (R399). -/
  | memFillExtentDone
  /-- MEM_TRAIN_DONE (R413). -/
  | memTrainDone (ok : Bool)
  /-- CHK_SCAN_DONE (R417). -/
  | chkScanDone (engine : Nat) (err : Bool)
  /-- MEM_STATUS (R418). -/
  | memStatus
  /-- MEM_CONFIG (R420). -/
  | memConfig
  /-- MEM_FILL (R399). -/
  | memFill
  /-- MEM_TEST (R419). -/
  | memTest
  /-- MEM_RATE (R411). -/
  | memRate
  /-- MEM_TRAIN (R413). -/
  | memTrain
  /-- MEM_RETIRE (R414). -/
  | memRetire
  /-- CHK_SCAN (R417). -/
  | chkScan
  /-- GOOSE_WATCHDOG_EXPIRY (R424). -/
  | gooseWatchdogExpiry
  /-- CORE_WATCHDOG_EXPIRY (R425). -/
  | coreWatchdogExpiry
  /-- SAFE_IN_EDGE (R431). -/
  | safeInEdge (chan : Nat)
  /-- SAFE_IN_DETAIL_TIMER (R431). -/
  | safeInDetailTimer
  /-- HV_INTERLOCK_CHANGE (R432). -/
  | hvInterlockChange (ilk : Nat) (level : Bool)
  /-- VIN_SAMPLE (R436). -/
  | vinSample (code : Nat)
  /-- MACHINE_POR_ASSERT (R436). -/
  | machinePorAssert
  /-- MACHINE_POR_RELEASE (R436). -/
  | machinePorRelease
  /-- SYS_RST_N (R437). -/
  | sysRstN
  /-- ENG_WAKE (R438). -/
  | engWake
  /-- POWER_SEQ_STEP (R438). -/
  | powerSeqStep (rail : Nat)
  /-- POWER_SEQ_TIMEOUT (R438). -/
  | powerSeqTimeout
  /-- POWER_DOWN_STEP (R440). -/
  | powerDownStep
  /-- PWR_PG_LOSS (R441). -/
  | pwrPgLoss (rail : Nat)
  /-- ENGINE_AUTO_RESTART (R441). -/
  | engineAutoRestart
  /-- DIE_TEMP_SAMPLE (R442). -/
  | dieTempSample (machine : Bool) (values : List Int)
  /-- SUP_STATUS (R448). -/
  | supStatus
  /-- SUP_CONFIG (R448). -/
  | supConfig
  /-- SUP_OUTPUT (R435). -/
  | supOutput
  /-- SUP_TRIP (R426). -/
  | supTrip
  /-- SUP_CLEAR (R429). -/
  | supClear
  /-- SUP_LOG (R448). -/
  | supLog
  /-- THERM_STATUS (R448). -/
  | thermStatus
  /-- THERM_CONFIG (R449). -/
  | thermConfig
  /-- BOOT_ROM_START (R455). -/
  | bootRomStart
  /-- FW_READY (R456). -/
  | fwReady
  /-- HEARTBEAT_TICK (R456). -/
  | heartbeatTick
  /-- CORE_RESTART (R458). -/
  | coreRestart
  /-- FW_LOAD_DONE (R460). -/
  | fwLoadDone
  /-- FW_PRELOAD_DONE (R461). -/
  | fwPreloadDone (ok : Bool)
  /-- HANDOVER_COMPLETE (R461). -/
  | handoverComplete (ok : Bool)
  /-- WAKE_TIMER (R463). -/
  | wakeTimer
  /-- FW_STATUS (R467). -/
  | fwStatus
  /-- FW_LOAD (R460). -/
  | fwLoad
  /-- FW_ACTIVATE (R461). -/
  | fwActivate
  /-- FW_COMMIT (R462). -/
  | fwCommit
  /-- LIFE_IDLE (R463). -/
  | lifeIdle
  /-- LIFE_STANDBY (R464). -/
  | lifeStandby
  /-- LIFE_WAKE (R463). -/
  | lifeWake
  /-- CTR_READ (R478). -/
  | ctrRead
  /-- CTR_CLEAR (R474). -/
  | ctrClear
  /-- TEST_PRBS (R481). -/
  | testPrbs
  /-- INJ_ARM (R486). -/
  | injArm
  /-- SPINE_FRAME_RX (R485). -/
  | spineFrameRx (toMachine : Bool) (corrected : Bool) (ok : Bool)
  /-- JTAG_INSTRUCTION (R488). -/
  | jtagInstruction (machine : Bool) (code : Nat)
  /-- BLOCK_LOCK (R228). -/
  | blockLock (lane : Nat) (headers : List Bool)
  /-- IDLE_ENTER_RX (R230). -/
  | idleEnterRx (rx : Machine.SetRx)
  /-- SAFE_IN_HEALTHY (R429). -/
  | safeInHealthy (chan : Nat)
  /-- CONS_BUS_TIMEOUT (R259). -/
  | consBusTimeout (slot : Nat)
  /-- TRIAL_FAILED (R462). -/
  | trialFailed
  /-- LIFECYCLE_POWER_DOWN (R464). -/
  | lifecyclePowerDown
  /-- PRBS_CHECKER_SYNC (R482). -/
  | prbsCheckerSync (spine : Bool) (index : Nat) (bits : List Bool)
  deriving DecidableEq, Repr

end Sys2Proof
end

