-- ==== Sys2Proof/WellFormed.lean ====
section
/-! DEFINITION. Well-formed commands: every operand names a part that exists and lies in the range the spec gives it. A command that is
not well-formed stands for nothing that can arrive. -/

namespace Sys2Proof

/-- The operands of a command lie in their ranges. -/
def Instr.wf (i : Instr) : Bool :=
  match i with
  | .registerWrite off _ => off % 4 == 0
  | .badSizeAccess _ _ => true
  | .reservedAddrAccess _ _ => true
  | .timeLoRead => true
  | .bar2Read _ _ => true
  | .bar2Write _ => true
  | .mailboxSlotWrite slot word ws => decide (slot < 16 ∧ word + ws.length ≤ 64)
  | .doorbell _ => true
  | .evrEnWrite _ => true
  | .evrReadWrite _ => true
  | .eventBacklogDrain => true
  | .modTimerExpiry => true
  | .hostInterfaceReset kind => decide (kind < 4)
  | .hostLinkRetrain speed width => decide (1 ≤ speed ∧ speed ≤ 5) && [1, 2, 4, 8, 16].contains width
  | .pciePowerStateChange _ base dev caps => ({ toPciBase := base, toPciDev := dev, toPciCaps := caps } : Machine.PciCfg).wf
  | .muleEnWrite ch _ => decide (ch < 16)
  | .muleStopWrite ch _ => decide (ch < 16)
  | .muleTailWrite ch _ => decide (ch < 16)
  | .muleResumeLoRead ch => decide (ch < 16)
  | .pioWindowWrite ch ws => decide (ch < 16) && (ws.length == 4 || ws.length == 8)
  | .muleDescriptorFetch ch => decide (ch < 16)
  | .muleReadCompletion ch _ _ => decide (ch < 16)
  | .muleReadTimeout ch => decide (ch < 16)
  | .ingestRecord ch => decide (ch < 16)
  | .preverifyBlock _ _ => true
  | .pageAnnounce => true
  | .pageAdmit => true
  | .pageWithdraw => true
  | .pageStatus => true
  | .pageConfig => true
  | .pageGap => true
  | .pageSpoil => true
  | .tosEdge _ => true
  | .posSample input _ _ _ => decide (input < 8)
  | .velocityStopTimeout station => decide (station < 6)
  | .zEdge input _ => decide (input < 8)
  | .strobeCommit lane => decide (lane < 96)
  | .timeRefLoss => true
  | .timeRefLock => true
  | .gapItemStart => true
  | .gapItemDone _ _ => true
  | .gapWantedRepeat => true
  | .sysIdentify => true
  | .sysPing => true
  | .sysTime => true
  | .sysStatus => true
  | .sysPending => true
  | .streamBandmap => true
  | .codecCompress => true
  | .codecFlush => true
  | .codecVerify => true
  | .codecJobStart => true
  | .codecJobDone => true
  | .spoolBind => true
  | .spoolUnbind => true
  | .spoolStatus => true
  | .spoolInfo => true
  | .spoolRetain => true
  | .spoolRepeat => true
  | .spoolRelease => true
  | .expStatus => true
  | .expGeomLoad => true
  | .expScreenLoad => true
  | .expToneNeutral => true
  | .expPolicy => true
  | .expSlack => true
  | .expForecast => true
  | .expEngine => true
  | .blockFetch engine tile _ _ => decide (engine < 28) && decide (tile < 96)
  | .blockDecodeDone engine tile _ _ => decide (engine < 28) && decide (tile < 96)
  | .bandLineDone engine _ _ _ => decide (engine < 28)
  | .bandLineRelease engine tile => decide (engine < 28) && decide (tile < 96)
  | .engineHang engine => decide (engine < 28)
  | .replayStart => true
  | .replayDone engine _ _ => decide (engine < 28)
  | .selfTestDone engine _ => decide (engine < 28)
  | .engineWarmupDone engine => decide (engine < 28)
  | .rotationTimer => true
  | .posInput => true
  | .posTrack => true
  | .posStatus => true
  | .posDelay => true
  | .posMask => true
  | .posOverride => true
  | .posLatency => true
  | .timeConfig => true
  | .lineFrameStart lane _ => decide (lane < 96)
  | .prbsSlotSend lane => decide (lane < 96)
  | .codewordRx lane _ => decide (lane < 96)
  | .statusFrameRx lane => decide (lane < 96)
  | .mgmtResponseRx lane => decide (lane < 96)
  | .mgmtRetryTimeout lane => decide (lane < 96)
  | .probeTimer lane => decide (lane < 96)
  | .echoRx lane _ _ => decide (lane < 96)
  | .probeTimeout lane => decide (lane < 96)
  | .prbsSlotRx lane => decide (lane < 96)
  | .acquirePeakTimer lane _ => decide (lane < 96)
  | .acquireRateTimer lane => decide (lane < 96)
  | .offlineRetryTimer lane => decide (lane < 96)
  | .mgmtOnlyRetryTimer lane => decide (lane < 96)
  | .fastExitTimeout lane => decide (lane < 96)
  | .linkErrorWindow lane _ => decide (lane < 96)
  | .linkStatus => true
  | .linkTrain => true
  | .linkConfig => true
  | .linkEnable => true
  | .linkErrors => true
  | .tileInfo => true
  | .tileThermal => true
  | .tileMem => true
  | .recDiscard => true
  | .tilePower => true
  | .tilePowerDelayExpiry station => decide (station < 6)
  | .recordWrite kind _ => decide (1 ≤ kind ∧ kind ≤ 4)
  | .consStatus => true
  | .consBind => true
  | .consAuth => true
  | .consOtpKey => true
  | .consPoll _ => true
  | .consAuthTimer slot => decide (slot < 32)
  | .consChipResponse slot _ _ => decide (slot < 32)
  | .consBusyRetry slot => decide (slot < 32)
  | .consIncrement slot => decide (slot < 32)
  | .camFrameStart port _ => decide (port < 4)
  | .camLine port _ => decide (port < 4)
  | .camPipeLineDone pipe line => decide (pipe < 2 ∧ line.late < 32)
  | .camTrigPeriod trig => decide (trig < 4)
  | .camPort => true
  | .camMosaic => true
  | .camStream => true
  | .camStats => true
  | .camStatus => true
  | .camTrigger => true
  | .camI2c acks _ => decide (acks ≤ 256)
  | .calView => true
  | .calConfig => true
  | .calStart => true
  | .calStop => true
  | .calResult => true
  | .calWindowTimeout kind subject => decide (kind ≤ 4 ∧ subject < (if kind = 4 then 8 else 6))
  | .calInterval kind subject => decide (kind ≤ 4 ∧ subject < (if kind = 4 then 8 else 6))
  | .loopTick vmon imon overruns => decide (vmon.length ≤ 24 ∧ imon.length ≤ 24 ∧ overruns < 2 ^ 64)
  | .progStepTimeout _ => true
  | .progInstanceExpiry _ => true
  | .seqInEdge input _ => decide (input < 8)
  | .hvArcEdge chan => decide (chan < 24)
  | .hvArcHoldExpiry chan => decide (chan < 24)
  | .hvComplianceEnd chan => decide (chan < 24)
  | .thermistorSample codes => decide (codes.length ≤ 16) && codes.all (fun c => decide (c ≤ 65536))
  | .fusZcEdge => true
  | .fusZcTimeout => true
  | .fuserComparatorTrip zone => decide (zone < 4)
  | .loopConfig => true
  | .loopCoef => true
  | .loopMode => true
  | .loopSetpoint => true
  | .loopStatus => true
  | .hvConfig => true
  | .fusConfig => true
  | .progLoad => true
  | .progStatus => true
  | .seqIo => true
  | .pwmPeriod axis _ _ _ => decide (axis < 8)
  | .drvFaultInput axis => decide (axis < 8)
  | .axisStopTimeout axis => decide (axis < 8)
  | .axisAlignDone axis => decide (axis < 8)
  | .busSample bus vbus isns => decide (bus < 2 ∧ vbus < 4096 ∧ isns < 4096)
  | .chopperDetectTimeout bus => decide (bus < 2)
  | .vbusHardTrip bus => decide (bus < 2)
  | .microstep axis => decide (axis < 8)
  | .stepHoldTimeout axis => decide (axis < 8)
  | .switchEdge axis switch _ _ => decide (axis < 8) && decide (switch < 3)
  | .chatterWindowEnd axis switch => decide (axis < 8) && decide (switch < 3)
  | .axisConfig => true
  | .axisAdvance => true
  | .axisAlign => true
  | .axisEnable => true
  | .axisStart => true
  | .axisStatus => true
  | .axisBus => true
  | .stepConfig => true
  | .stepMove => true
  | .stepHome => true
  | .stepStop => true
  | .stepStatus => true
  | .scrubRead store _ _ _ => decide (store < 5 ∨ (8 ≤ store ∧ store < 12))
  | .scrubLateTimeout store => decide (store < 5 ∨ (8 ≤ store ∧ store < 12))
  | .ddrSweepStart chan _ => decide (chan < 4)
  | .ddrSweepPause chan _ _ _ => decide (chan < 4)
  | .extentMigrate _ => true
  | .memFillExtentDone => true
  | .memTrainDone _ => true
  | .chkScanDone engine _ => decide (engine < 2)
  | .memStatus => true
  | .memConfig => true
  | .memFill => true
  | .memTest => true
  | .memRate => true
  | .memTrain => true
  | .memRetire => true
  | .chkScan => true
  | .gooseWatchdogExpiry => true
  | .coreWatchdogExpiry => true
  | .safeInEdge chan => decide (chan < 2)
  | .safeInDetailTimer => true
  | .hvInterlockChange ilk _ => decide (ilk < 4)
  | .vinSample _ => true
  | .machinePorAssert => true
  | .machinePorRelease => true
  | .sysRstN => true
  | .engWake => true
  | .powerSeqStep rail => decide (rail < 7)
  | .powerSeqTimeout => true
  | .powerDownStep => true
  | .pwrPgLoss rail => decide (rail < 7)
  | .engineAutoRestart => true
  | .dieTempSample _ _ => true
  | .supStatus => true
  | .supConfig => true
  | .supOutput => true
  | .supTrip => true
  | .supClear => true
  | .supLog => true
  | .thermStatus => true
  | .thermConfig => true
  | .bootRomStart => true
  | .fwReady => true
  | .heartbeatTick => true
  | .coreRestart => true
  | .fwLoadDone => true
  | .fwPreloadDone _ => true
  | .handoverComplete _ => true
  | .wakeTimer => true
  | .fwStatus => true
  | .fwLoad => true
  | .fwActivate => true
  | .fwCommit => true
  | .lifeIdle => true
  | .lifeStandby => true
  | .lifeWake => true
  | .ctrRead => true
  | .ctrClear => true
  | .testPrbs => true
  | .injArm => true
  | .spineFrameRx _ _ _ => true
  | .jtagInstruction _ code => decide (code < 4)
  | .blockLock lane _ => decide (lane < 96)
  | .idleEnterRx rx => decide (rx.lane < 96)
  | .safeInHealthy chan => decide (chan < 2)
  | .consBusTimeout slot => decide (slot < 32)
  | .trialFailed => true
  | .lifecyclePowerDown => true
  | .prbsCheckerSync spine index _ => decide (index < if spine then 2 else 96)

end Sys2Proof
end

