-- ==== Sys2Proof/Decode.lean ====
section
/-! DEFINITION. Commands by the bits of spec/opcode_table.json: the table gives no row any bits, so no word spells a command. -/

namespace Sys2Proof

/-- The command that a word spells by the table's bits: none, whatever the word. -/
def decodeTableWord (nbits w : Nat) : Option Instr :=
  match nbits, w with
  | _, _ => none

end Sys2Proof
end

