-- ==== Sys2Proof/Machine/Maps.lean ====
section
/-! DEFINITION. Plain helpers of every operation: bit fields, sign extension, byte order (R5), sparse maps in
ascending key order, and byte memory in canonical form. -/

namespace Sys2Proof.Machine

/-- Bits `[lo+len-1 : lo]` of `w` (R5: bit 0 is the least significant). -/
def bits (w lo len : Nat) : Nat := (w >>> lo) % 2 ^ len

/-- Bit `i` of `w`. -/
def bitOf (w i : Nat) : Bool := bits w i 1 == 1

/-- The two's-complement reading of the low `len` bits of `w`. -/
def sint (w len : Nat) : Int :=
  let v := w % 2 ^ len
  if 2 ^ (len - 1) ≤ v then (v : Int) - (2 ^ len : Nat) else (v : Int)

/-- The low `len` bits of an integer, two's complement. -/
def unsig (i : Int) (len : Nat) : Nat := (i % ((2 ^ len : Nat) : Int)).toNat

/-- The signed field `[lo+len-1 : lo]` of `w`. -/
def sbits (w lo len : Nat) : Int := sint (bits w lo len) len

/-- 1 for true. -/
def b2n (b : Bool) : Nat := if b then 1 else 0

/-- A count that sticks at all ones of `width` bits (class S, R472). -/
def satAdd (width a n : Nat) : Nat := Nat.min (2 ^ width - 1) (a + n)

/-- The number of one bits of `w` among its low `n`. -/
def popCount : Nat → Nat → Nat
  | 0, _ => 0
  | n + 1, w => w % 2 + popCount n (w / 2)

/-- The indices below `n` whose bit of `w` is set, ascending. -/
def bitList (n w : Nat) : List Nat := (List.range n).filter (bitOf w)

/-- The mask with the bits of `l` set. -/
def maskOf (l : List Nat) : Nat := l.foldl (fun a i => a ||| (1 <<< i)) 0

/-- The `n` low bytes of `v`, least significant first (R5). -/
def leBytes : Nat → Nat → List Byte
  | 0, _ => []
  | n + 1, v => BitVec.ofNat 8 v :: leBytes n (v / 256)

/-- The number that little-endian bytes spell (R5). -/
def leNat : List Byte → Nat
  | [] => 0
  | b :: t => b.toNat + 256 * leNat t

/-- `n` elements of `l` from index `i`. -/
def slice {α : Type} (l : List α) (i n : Nat) : List α := (l.drop i).take n

/-- The little-endian field of `n` bytes at byte `i`. -/
def leAt (l : List Byte) (i n : Nat) : Nat := leNat (slice l i n)

/-- The 32-bit words that bytes spell, little-endian. -/
def wordsOf (bs : List Byte) : List Word :=
  (List.range (bs.length / 4)).map (fun i => BitVec.ofNat 32 (leAt bs (4 * i) 4))

/-- `l` with element `i` replaced by its image; unchanged where there is none. -/
def updAt {α : Type} (l : List α) (i : Nat) (f : α → α) : List α := l.modify i f

/-- Value under key `k` of an association list. -/
def mapGet {α : Type} (m : List (Nat × α)) (k : Nat) : Option α :=
  match m with
  | [] => none
  | (k', v) :: t => if k' = k then some v else mapGet t k

/-- Sets key `k`, keeping keys strictly ascending. -/
def mapSet {α : Type} (m : List (Nat × α)) (k : Nat) (v : α) : List (Nat × α) :=
  match m with
  | [] => [(k, v)]
  | (k', v') :: t =>
    if k < k' then (k, v) :: (k', v') :: t
    else if k = k' then (k, v) :: t
    else (k', v') :: mapSet t k v

/-- Removes key `k`. -/
def mapErase {α : Type} (m : List (Nat × α)) (k : Nat) : List (Nat × α) :=
  m.filter (fun p => p.1 != k)

/-- Sparse naturals whose absent keys read 0. -/
def natGet (m : List (Nat × Nat)) (k : Nat) : Nat := (mapGet m k).getD 0

/-- Writes a sparse natural; 0 removes the key. -/
def natSet (m : List (Nat × Nat)) (k v : Nat) : List (Nat × Nat) :=
  if v = 0 then mapErase m k else mapSet m k v

/-- Byte memory: (address, byte) pairs, addresses strictly rising, no entry equal to 0, which is what an unlisted
address reads as (a DESIGN CHOICE of the log). -/
abbrev Bytes := List Host.Cell

/-- One byte. -/
def memGet (m : Bytes) (a : Nat) : Byte := (mapGet m a).getD 0

/-- Writes one byte, keeping the canonical form. -/
def memSet (m : Bytes) (a : Nat) (b : Byte) : Bytes :=
  if b = 0 then mapErase m a else mapSet m a b

/-- `n` bytes from `a`, read in one walk of the sorted list. -/
def memRead (m : Bytes) (a : Nat) : Nat → List Byte
  | 0 => []
  | n + 1 => memGet m a :: memRead m (a + 1) n

/-- Writes bytes from `a` upward. -/
def memWrite (m : Bytes) (a : Nat) : List Byte → Bytes
  | [] => m
  | b :: t => memWrite (memSet m a b) (a + 1) t

/-- The keys rise strictly and stand above `lo`. -/
def keysAbove {α : Type} (lo : Nat) : List (Nat × α) → Bool
  | [] => true
  | (k, _) :: t => decide (lo ≤ k) && keysAbove (k + 1) t

/-- Canonical form of byte memory. -/
def memWf (m : Bytes) : Bool := keysAbove 0 m && m.all (fun c => c.2 != 0)

/-- The least index of `l` that satisfies `p`. -/
def findIdx {α : Type} (p : α → Bool) : List α → Option Nat
  | [] => none
  | a :: t => if p a then some 0 else (findIdx p t).map (· + 1)

/-- A sum over a list. -/
def sumBy {α : Type} (f : α → Nat) (l : List α) : Nat := l.foldl (fun a x => a + f x) 0

/-- How many elements satisfy `p`. -/
def countBy {α : Type} (p : α → Bool) (l : List α) : Nat := (l.filter p).length

/-- Folds `f` over the indices below `n`, in rising order. -/
def forRange {σ : Type} (n : Nat) (s : σ) (f : Nat → σ → σ) : σ := (List.range n).foldl (fun s i => f i s) s

/-- Folds `f` over a list, in order. -/
def forList {α σ : Type} (l : List α) (s : σ) (f : α → σ → σ) : σ := l.foldl (fun s a => f a s) s

/-- Repeats `f` until it answers none, at most `fuel` times. -/
def iterate {σ : Type} (f : σ → Option σ) : Nat → σ → σ
  | 0, s => s
  | n + 1, s => match f s with
    | none => s
    | some t => iterate f n t

end Sys2Proof.Machine
end

