-- ==== Sys2Proof/Machine/Crc.lean ====
section
/-! DEFINITION. The cyclic redundancy checks: reflected CRC-32C of the stream (R69), and the other codes of the
check-value units and links, each over bytes in order. -/

namespace Sys2Proof.Machine

/-- Eight steps of a reflected CRC register over one byte (R69). -/
def crcRefByte (poly crc b : Nat) : Nat :=
  (List.range 8).foldl (fun c _ => (c >>> 1) ^^^ (if c % 2 = 1 then poly else 0)) (crc ^^^ b)

/-- A reflected CRC from a register value, without the final XOR. -/
def crcRef (poly init : Nat) (bs : List Byte) : Nat := bs.foldl (fun c b => crcRefByte poly c b.toNat) init

/-- Eight steps of a most-significant-bit-first CRC register of `w` bits over one byte. -/
def crcMsbByte (w poly crc b : Nat) : Nat :=
  (List.range 8).foldl (fun c _ => if bitOf c (w - 1) then ((c <<< 1) % 2 ^ w) ^^^ poly else (c <<< 1) % 2 ^ w)
    (crc ^^^ (b <<< (w - 8)))

/-- A most-significant-bit-first CRC. -/
def crcMsb (w poly init : Nat) (bs : List Byte) : Nat := bs.foldl (fun c b => crcMsbByte w poly c b.toNat) init

/-- CRC-32C, from a seed in place of its initial value (R69). -/
def crc32cSeed (seed : Nat) (bs : List Byte) : Nat := crcRef 0x82F63B78 seed bs ^^^ 0xFFFFFFFF

/-- CRC-32C (R69). -/
def crc32c (bs : List Byte) : Nat := crc32cSeed 0xFFFFFFFF bs

/-- CRC-16-CCITT-FALSE: polynomial 0x1021, initial value 0xFFFF, most significant bit first. -/
def crc16Ccitt (bs : List Byte) : Nat := crcMsb 16 0x1021 0xFFFF bs

end Sys2Proof.Machine
end

