-- ==== Sys2Proof/Machine/Codec.lean ====
section
/-! DEFINITION. The predictive codec of the page stream: predictors, contexts, adaptive Golomb–Rice codes, run mode,
bit packing, decoding and encoding (R81 to R88, R94). -/

namespace Sys2Proof.Machine

/-- The five contexts as (A, N) (R83). -/
abbrev CodecCtx := List (Nat × Nat)

/-- Contexts at the start of a block (R83). -/
def codecFresh : CodecCtx := List.replicate 5 (4, 1)

/-- MED (Table 3.7). -/
def predMed (a b c : Nat) : Nat :=
  if Nat.max a b ≤ c then Nat.min a b else if c ≤ Nat.min a b then Nat.max a b else a + b - c

/-- The predictor of Table 3.7 by code. -/
def predByCode (p a b c : Nat) : Nat :=
  match p with
  | 0 => a
  | 1 => b
  | 2 => (a + b) / 2
  | _ => predMed a b c

/-- The prediction of pix[r][x] (R81). -/
def codecPredict (p r x a b c : Nat) : Nat :=
  if r = 0 then (if x = 0 then 0 else a) else if x = 0 then b else predByCode p a b c

/-- |a − b|. -/
def absDiff (a b : Nat) : Nat := (a - b) + (b - a)

/-- The context of a regular pixel (R84). -/
def codecContext (r x a b c : Nat) : Nat :=
  if r = 0 ∨ x = 0 then 3
  else
    let d := absDiff a c + absDiff b c
    if d ≤ 2 then 0 else if d ≤ 8 then 1 else if d ≤ 32 then 2 else 3

/-- The mapped residue of value `v` against prediction `p` (R82). -/
def residueMap (v p : Nat) : Nat :=
  let e := (v + 256 - p % 256) % 256
  if e < 128 then 2 * e else 2 * (256 - e) - 1

/-- The pixel that a mapped residue spells (R82). -/
def residueUnmap (m p : Nat) : Nat :=
  if m % 2 = 0 then (p + m / 2) % 256 else (p + 256 - (m + 1) / 2) % 256

/-- KMAX and ESC of a context (R85, R86). -/
def kMaxOf (q : Nat) : Nat := if q = 4 then 13 else 7
def escOf (q : Nat) : Nat := if q = 4 then 14 else 8

/-- The parameter k of a context (R85). -/
def kOf (q a n : Nat) : Nat := ((List.range (kMaxOf q)).find? (fun k => decide (a ≤ n <<< k))).getD (kMaxOf q)

/-- The context after coding `v` (R85). -/
def ctxAfter (c : Nat × Nat) (v : Nat) : Nat × Nat :=
  let a := c.1 + v
  let n := c.2 + 1
  if n = 64 then (a / 2, 32) else (a, n)

/-- Run mode is entered at pix[r][x] (R87), from the left pixel, the one left of it in row 0, and b and c. -/
def runEntry (r x a a2 b c : Nat) : Bool :=
  if r = 0 then decide (2 ≤ x) && a == a2 else decide (1 ≤ x) && a == b && b == c

/-- The bits of `v`, `n` of them, most significant first. -/
def msbBits (n v : Nat) : List Bool := (List.range n).reverse.map (fun i => bitOf v i)

/-- The number that bits spell, most significant first. -/
def ofMsb (l : List Bool) : Nat := l.foldl (fun a b => 2 * a + b2n b) 0

/-- The code of value `v` with parameter `k` (R86). -/
def golombBits (q k v : Nat) : List Bool :=
  let u := v >>> k
  if u < 24 then List.replicate u false ++ [true] ++ msbBits k v
  else List.replicate 24 false ++ [true] ++ msbBits (escOf q) v

/-- What stops a decoder: an illegal code (check 9) or a broken length (check 10). -/
inductive CodecErr where
  | code | length
  deriving DecidableEq, Repr

/-- Counts zero bits before a 1 bit; 25 zeros are illegal (R86). -/
def readUnary : List Bool → Nat → Except CodecErr (Nat × List Bool)
  | [], _ => .error .length
  | true :: t, z => .ok (z, t)
  | false :: t, z => if 24 < z + 1 then .error .code else readUnary t (z + 1)

/-- Takes `n` bits, most significant first. -/
def readBits (n : Nat) (bs : List Bool) : Except CodecErr (Nat × List Bool) :=
  if bs.length < n then .error .length else .ok (ofMsb (bs.take n), bs.drop n)

/-- Reads one value in context `q` (R85, R86). -/
def readCode (ctx : CodecCtx) (q : Nat) (bs : List Bool) : Except CodecErr (Nat × CodecCtx × List Bool) :=
  let c := ctx.getD q (4, 1)
  let k := kOf q c.1 c.2
  match readUnary bs 0 with
  | .error e => .error e
  | .ok (z, bs1) =>
    let body := if z < 24 then readBits k bs1 else readBits (escOf q) bs1
    match body with
    | .error e => .error e
    | .ok (w, bs2) =>
      let v := if z < 24 then (z <<< k) + w else w
      if 24 ≤ z ∧ v >>> k < 24 then .error .code
      else .ok (v, ctx.set q (ctxAfter c v), bs2)

/-- The running state of a row being decoded: pixels of the row so far, newest first, contexts, bits left, the failure that stopped it, and
the decode steps taken (R137). -/
structure RowDec where
  cur : List Nat
  ctx : CodecCtx
  bits : List Bool
  err : Option CodecErr := none
  steps : Nat := 0

/-- Decodes one regular pixel (R82, R84). -/
def decRegular (p r : Nat) (prev : List Nat) (d : RowDec) : RowDec :=
  let x := d.cur.length
  let a := d.cur.headD 0
  let b := prev.getD x 0
  let c := prev.getD (x - 1) 0
  match readCode d.ctx (codecContext r x a b c) d.bits with
  | .error e => { d with err := some e }
  | .ok (m, ctx, bs) =>
    if 255 < m then { d with err := some .code }
    else { d with cur := residueUnmap m (codecPredict p r x a b c) :: d.cur, ctx := ctx, bits := bs, steps := d.steps + 1 }

/-- Decodes the rest of a row of `w` pixels (R87); every turn but a failing one adds a pixel. -/
def decRow (p r w : Nat) (prev : List Nat) : Nat → RowDec → RowDec
  | 0, d => d
  | fuel + 1, d =>
    let x := d.cur.length
    if w ≤ x ∨ d.err.isSome then d
    else
      let a := d.cur.headD 0
      if runEntry r x a (d.cur.getD 1 0) (prev.getD x 0) (prev.getD (x - 1) 0) then
        match readCode d.ctx 4 d.bits with
        | .error e => { d with err := some e }
        | .ok (n, ctx, bs) =>
          if w - x < n then { d with err := some .code }
          else
            let d1 : RowDec := { d with cur := List.replicate n a ++ d.cur, ctx := ctx, bits := bs, steps := d.steps + 1 }
            if x + n = w then d1
            else
              let d2 := decRegular p r prev d1
              if d2.err.isNone ∧ d2.cur.headD 0 = a then { d1 with ctx := d2.ctx, bits := d2.bits, err := some .code }
              else decRow p r w prev fuel d2
      else decRow p r w prev fuel (decRegular p r prev d)

/-- A decoded block: its pixels in raster order up to a failure, and the failure. -/
structure BlockDec where
  pixels : List Nat
  err : Option CodecErr
  /-- Decode steps taken (R90, R137). -/
  steps : Nat

/-- Decodes rows `r` onward; `done` holds the finished rows' pixels, newest row first. -/
def decRows (p w : Nat) : Nat → Nat → List (List Nat) → List Nat → CodecCtx → List Bool → Nat → BlockDec
  | 0, _, done, _, _, bs, k =>
    { pixels := done.reverse.flatten, steps := k,
      err := if bs.length < 8 ∧ bs.all (fun b => !b) then none else some .length }
  | n + 1, r, done, prev, ctx, bs, k =>
    let d := decRow p r w prev (w + 1) { cur := [], ctx := ctx, bits := bs, steps := k }
    match d.err with
    | some e => { pixels := (d.cur.reverse :: done).reverse.flatten, err := some e, steps := d.steps }
    | none => decRows p w n (r + 1) (d.cur.reverse :: done) d.cur.reverse d.ctx d.bits d.steps

/-- The bits of payload bytes, most significant first (R88). -/
def payloadBits (bs : List Byte) : List Bool := (bs.map (fun b => msbBits 8 b.toNat)).flatten

/-- Decodes a block's payload of `rows` rows of `w` pixels with CODING `coding` (R78, R88). -/
def decodeBlock (coding rows w : Nat) (payload : List Byte) : BlockDec :=
  if bitOf coding 2 then
    { pixels := (payload.take (rows * w)).map (·.toNat), steps := rows * w,
      err := if payload.length = rows * w then none else some .length }
  else decRows (bits coding 0 2) w rows 0 [] [] codecFresh (payloadBits payload) 0

/-- Bits coded so far, newest first in chunks, with the contexts. -/
structure RowEnc where
  ctx : CodecCtx
  out : List (List Bool)

/-- Codes one value in context `q`. -/
def encValue (q v : Nat) (e : RowEnc) : RowEnc :=
  let c := e.ctx.getD q (4, 1)
  { ctx := e.ctx.set q (ctxAfter c v), out := golombBits q (kOf q c.1 c.2) v :: e.out }

/-- Codes one regular pixel at column `x`. -/
def encRegular (p r : Nat) (prev row : List Nat) (x : Nat) (e : RowEnc) : RowEnc :=
  let a := if x = 0 then 0 else row.getD (x - 1) 0
  let b := prev.getD x 0
  let c := prev.getD (x - 1) 0
  encValue (codecContext r x a b c) (residueMap (row.getD x 0) (codecPredict p r x a b c)) e

/-- The number of leading elements equal to `a`. -/
def runLength (a : Nat) : List Nat → Nat
  | [] => 0
  | v :: t => if v = a then runLength a t + 1 else 0

/-- Codes a row from column `x` on (R87). -/
def encRow (p r : Nat) (prev row : List Nat) : Nat → Nat → RowEnc → RowEnc
  | 0, _, e => e
  | fuel + 1, x, e =>
    if row.length ≤ x then e
    else
      let a := row.getD (x - 1) 0
      if runEntry r x a (row.getD (x - 2) 0) (prev.getD x 0) (prev.getD (x - 1) 0) then
        let n := runLength a (row.drop x)
        let e1 := encValue 4 n e
        if row.length ≤ x + n then e1
        else encRow p r prev row fuel (x + n + 1) (encRegular p r prev row (x + n) e1)
      else encRow p r prev row fuel (x + 1) (encRegular p r prev row x e)

/-- Packs bits into bytes, most significant first, the last byte filled with zeros (R88). -/
def packBits : Nat → List Bool → List Byte
  | 0, _ => []
  | n + 1, bs =>
    if bs.isEmpty then []
    else BitVec.ofNat 8 (ofMsb ((bs.take 8) ++ List.replicate (8 - (bs.take 8).length) false)) :: packBits n (bs.drop 8)

/-- The coded payload of rows of pixels with predictor `p`. -/
def encodeRows (p : Nat) (rows : List (List Nat)) : List Byte :=
  let e := (rows.foldl (fun (acc : RowEnc × Nat × List Nat) row =>
    (encRow p acc.2.1 acc.2.2 row (row.length + 1) 0 acc.1, acc.2.1 + 1, row))
    (({ ctx := codecFresh, out := [] } : RowEnc), 0, [])).1
  let bs := e.out.reverse.flatten
  packBits (bs.length / 8 + 1) bs

/-- The payload the compressor keeps: predictor parameter 0 is automatic, else code + 1; a stored form is written on
request or where coding does not shrink the block. Answers CODING, payload, and whether coding failed to shrink (R94, R95). -/
def compressRows (pred : Nat) (stored : Bool) (rows : List (List Nat)) : Nat × List Byte × Bool :=
  let raw := rows.flatten.map (fun v => BitVec.ofNat 8 v)
  if stored then (4, raw, false)
  else
    let cands := if pred = 0 then [0, 1, 2, 3] else [pred - 1]
    let best := (cands.map (fun p => (p, encodeRows p rows))).foldl
      (fun (acc : Option (Nat × List Byte)) c => match acc with
        | none => some c
        | some a => if c.2.length < a.2.length then some c else some a) none
    match best with
    | none => (4, raw, false)
    | some (p, pay) => if raw.length ≤ pay.length then (4, raw, true) else (p, pay, false)

end Sys2Proof.Machine
end

