-- ==== Sys2Proof/Machine/State/Spool.lean ====
section
/-! DEFINITION. Mule channels, ingest contexts, the spool and the compressor queue
(chapters "Page stream format and predictive codec" and "Ingest, DMA rings and the spool", R69 to R128). -/

namespace Sys2Proof.Machine

/-- STATE of a Mule channel (Table 4.2). -/
inductive MuleSt where
  | unbound | stopped | run
  deriving DecidableEq, Repr

/-- The descriptor a channel is working on (Table 4.3, R109). -/
structure DescRun where
  addr : Nat
  len : Nat
  fixed : Bool
  irq : Bool
  stop : Bool
  /-- Address and length of each read request outstanding, oldest first. -/
  requests : List (Nat × Nat) := []
  /-- Bytes asked for and bytes read so far. -/
  asked : Nat := 0
  got : Nat := 0
  deriving DecidableEq, Repr

/-- A Mule channel (Table 4.2); reset R128. -/
structure MuleChan where
  ringLo : Word := 0
  ringHi : Word := 0
  en : Bool := false
  log2Size : BitVec 5 := 4
  irqEn : Bool := false
  tail : Word := 0
  head : Word := 0
  st : MuleSt := .unbound
  pio : Bool := false
  cause : Nat := 0
  /-- RESUME_HI as latched (R103). -/
  resumeHi : Word := 0
  /-- The bound page, by its key. -/
  page : Option Nat := none
  /-- INT: bit 0 DESC, 1 STOPPED, 2 REFUSED, 3 FAULT. -/
  int : BitVec 4 := 0
  /-- Bytes appended since the bind in PIO mode (R113). -/
  appended : Nat := 0
  /-- A host stop waits for the descriptor boundary (R105, R110). -/
  stopReq : Bool := false
  desc : Option DescRun := none
  /-- Stream bytes taken and not yet accepted, from offset RESUME (R104). -/
  buf : List Byte := []
  /-- Rooster time in ps until which an injected DELAY holds the stream back (R486). -/
  holdUntil : Nat := 0
  deriving DecidableEq, Repr

/-- Ingest context states (Table 4.1). -/
inductive IngestSt where
  | receiving | verifying | complete | failed
  deriving DecidableEq, Repr

def IngestSt.code : IngestSt → Nat
  | .receiving => 0 | .verifying => 1 | .complete => 2 | .failed => 3

/-- A first failing attempt of a pre-verification decode (R121): the engine that made it, the check and, for 9 or 10, its raster index,
and for 11 the decoded pixels. -/
structure VerifyRetry where
  engine : Nat
  check : Nat
  index : Nat
  pixels : List Byte
  deriving DecidableEq, Repr

/-- The ingest context of a page (R103, R115). -/
structure Ingest where
  page : Nat
  /-- The spool object its blocks lie in; a repeat shares that of the retained page (R122). -/
  sid : Nat
  st : IngestSt := .receiving
  resume : Nat := 0
  /-- Refusals at the present offset; header and computed CRC of the last record that failed check 8 there (Table 4.5). -/
  refusals : Nat := 0
  lastBad : Option (List Byte × Nat) := none
  accepted : Nat := 0
  verified : Nat := 0
  failCheck : Nat := 0
  failPlane : Nat := 0
  failBand : Nat := 0
  failBlock : Nat := 0
  retry : Option VerifyRetry := none
  deriving DecidableEq, Repr

/-- A plane header taken (Table 3.3). -/
structure PlaneHdr where
  plane : Nat
  dose : Bool
  ppiX : Nat
  ppiY : Nat
  width : Nat
  height : Nat
  deriving DecidableEq, Repr

/-- A block record in the spool with its directory entry (R80, R118, R119): header and payload are the bytes stored. -/
structure BlockRec where
  hdr : List Byte := []
  block : Nat
  alive : Nat
  coding : Nat
  rows : Nat
  outSize : Nat
  compLen : Nat
  crcOrig : Nat
  suspect : Bool := false
  /-- Extent number and byte offset in it. -/
  extent : Nat
  offset : Nat
  payload : List Byte
  deriving DecidableEq, Repr

/-- A plane-band stream: its band header and the records accepted, in block order (R72, R118). -/
structure PbStream where
  plane : Nat
  band : Nat
  colFirst : Nat
  colCount : Nat
  blocks : Nat
  recs : List BlockRec := []
  /-- Extents held, newest first, and bytes used of the newest. -/
  extents : List Nat := []
  fill : Nat := 0
  deriving DecidableEq, Repr

/-- What the spool and its directory hold of one stream (R118, R119). -/
structure SpoolObj where
  sid : Nat
  /-- Plane mask of the page it was ingested for. -/
  planes : Nat
  pitch10 : Bool := false
  lines : Nat := 0
  planeHdrs : List PlaneHdr := []
  streams : List PbStream := []
  deriving DecidableEq, Repr

/-- A page's retention (R122): its handle, the page by its key, the spool object it keeps and the page's planes. -/
structure Retention where
  handle : Nat
  page : Nat
  sid : Nat
  planes : Nat
  deriving DecidableEq, Repr

/-- An extent in use: its number and the DDR5 channels its interleave set names (R117, R407). -/
structure Extent where
  no : Nat
  channels : Nat
  deriving DecidableEq, Repr

/-- What a compressor job does (R91, R97). -/
inductive CodecWork where
  /-- CODEC.COMPRESS with its parameter words 2 to 11. -/
  | compress (w : List Word)
  /-- CODEC.VERIFY with its parameter words 2 to 7. -/
  | verify (w : List Word)
  /-- CODEC.FLUSH: jobs it abandoned. -/
  | flush (abandoned : Nat)
  deriving DecidableEq, Repr

/-- A job of the compressor queue, oldest first. -/
structure CodecJob where
  oid : Nat
  work : CodecWork
  running : Bool := false
  abandoned : Bool := false
  /-- A host-interface reset came while it was queued or running (R98). -/
  doomed : Bool := false
  deriving DecidableEq, Repr

structure SpoolState where
  chans : List MuleChan := List.replicate 16 {}
  ingests : List Ingest := []
  objs : List SpoolObj := []
  /-- The retentions, at most 256 (R122, R125). -/
  retains : List Retention := []
  extents : List Extent := []
  /-- EV_SPOOL_LOW has been raised and free extents have not risen above 1/8 since (R120). -/
  low : Bool := false
  jobs : List CodecJob := []
  deriving DecidableEq, Repr

end Sys2Proof.Machine
end

