-- ==== Sys2Proof/Machine/Faund.lean ====
section
/-! DEFINITION. The page stream: band map, record headers and the checks of Table 3.9 (R70 to R80, R89). -/

namespace Sys2Proof.Machine

/-- Ceiling division. -/
def ceilDiv (a b : Nat) : Nat := (a + b - 1) / b

/-- Line pitch in µm: 10 or 20 (Table 3.2). -/
def pitchUm (pitch10 : Bool) : Nat := if pitch10 then 10 else 20

/-- WIDTH and HEIGHT of a plane (R74). -/
def planeDims (dose pitch10 : Bool) (lines ppiX ppiY : Nat) : Nat × Nat :=
  if dose then (65536, lines)
  else (ceilDiv (64576 * ppiX) 1270, ceilDiv (lines * pitchUm pitch10 * ppiY) 25400)

/-- COL_FIRST and COL_COUNT of band `t` (R75, R76). -/
def bandMap (dose : Bool) (ppiX width t : Nat) : Nat × Nat :=
  if dose then (4096 * t, 4096)
  else
    let dL : Int := 4032 * t - 64
    let dH1 : Int := 4032 * t + 4160
    let lo := (floorDiv (dL * ppiX) 1270 - 2).toNat
    let hi := (min ((width : Int) - 1) (floorDiv (dH1 * ppiX) 1270 + 2)).toNat
    (lo, hi - lo + 1)

/-- The header length a receiver takes from TYPE (R70). -/
def recHdrLen (type : Nat) : Nat := if type = 0xFA04 then 40 else 32

/-- Check 1 (R70): CRC_HDR over every byte before it. -/
def hdrCrcOk (h : List Byte) : Bool := leAt h (h.length - 4) 4 == crc32c (h.take (h.length - 4))

/-- Every byte of a field is 0. -/
def zerosAt (h : List Byte) (i n : Nat) : Bool := (slice h i n).all (· == 0)

/-- Check 2 of a plane header against R74, with the page header where it is known. -/
def planeHdrOk (hdr : Option (Bool × Nat)) (h : List Byte) : Bool :=
  let dose := leAt h 5 1 == 1
  let px := leAt h 8 2
  let py := leAt h 10 2
  let w := leAt h 12 4
  let ht := leAt h 16 4
  let ppiOk := if dose then px == 1270 && (py == 1270 || py == 2540)
    else decide (300 ≤ px ∧ px ≤ 2540 ∧ 300 ≤ py ∧ py ≤ 2540)
  ppiOk && w == (planeDims dose false 1 px py).1 &&
    match hdr with
    | none => true
    | some (p10, lines) =>
      ht == (planeDims dose p10 lines px py).2 && (!dose || py == 25400 / pitchUm p10)

/-- Check 2, HDR_FIELD, of a whole header (R70, R73, Table 3.9); `hdr` is the page header's pitch and LINES. -/
def hdrFieldOk (hdr : Option (Bool × Nat)) (h : List Byte) : Bool :=
  let type := leAt h 0 2
  let len := leAt h 2 2
  match type with
  | 0xFA01 => len == 32 && leAt h 5 1 == 2 && decide (leAt h 6 1 < 64) && leAt h 6 1 != 0 && decide (leAt h 7 1 ≤ 1) &&
      decide (1 ≤ leAt h 12 4 ∧ leAt h 12 4 ≤ 1048576) && zerosAt h 16 12
  | 0xFA02 => len == 32 && decide (leAt h 4 1 ≤ 5) && decide (leAt h 5 1 ≤ 1) && zerosAt h 6 2 && zerosAt h 24 4 &&
      planeHdrOk hdr h
  | 0xFA03 => len == 32 && decide (leAt h 4 1 ≤ 5) && decide (leAt h 5 1 ≤ 15) && zerosAt h 6 2 && zerosAt h 24 4
  | 0xFA04 => len == 40 && decide (leAt h 4 1 ≤ 5) && decide (leAt h 5 1 ≤ 15) && decide (leAt h 6 1 < 8) &&
      decide (1 ≤ leAt h 16 2 ∧ leAt h 16 2 ≤ 16) && zerosAt h 18 2
  | _ => false

/-- The page header is in when LINES is known. -/
def SpoolObj.hdr (o : SpoolObj) : Option (Bool × Nat) := if o.lines = 0 then none else some (o.pitch10, o.lines)

def SpoolObj.plane? (o : SpoolObj) (p : Nat) : Option PlaneHdr := o.planeHdrs.find? (fun h => h.plane == p)

def SpoolObj.stream? (o : SpoolObj) (p b : Nat) : Option PbStream :=
  o.streams.find? (fun t => t.plane == p && t.band == b)

/-- The byte offset of PAGE_ID in a header of a type. -/
def pageIdAt (type : Nat) : Nat := if type = 0xFA02 then 20 else 8

/-- Check 3, PAGE_MISMATCH. -/
def pageMatchOk (id : Word) (planes : Nat) (h : List Byte) : Bool :=
  let type := leAt h 0 2
  leAt h (pageIdAt type) 4 == id.toNat &&
    (if type = 0xFA01 then leAt h 6 1 == planes else bitOf planes (leAt h 4 1))

/-- Check 4, ORDER (R72). -/
def orderOk (o : SpoolObj) (h : List Byte) : Bool :=
  let p := leAt h 4 1
  let b := leAt h 5 1
  match leAt h 0 2 with
  | 0xFA01 => o.hdr.isNone
  | 0xFA02 => o.hdr.isSome && (o.plane? p).isNone
  | 0xFA03 => (o.plane? p).isSome && (o.stream? p b).isNone
  | _ => (o.stream? p b).isSome

/-- Check 7 of a block header against R78 for a band of `w` columns; `rows` is ROWS where the band fixes it. -/
def blockSizeOk (w : Nat) (rows : Option Nat) (h : List Byte) : Bool :=
  let r := leAt h 16 2
  let out := leAt h 20 4
  let comp := leAt h 24 4
  let coding := leAt h 6 1
  (match rows with | none => true | some n => r == n) && out == r * w &&
    (if bitOf coding 2 then bits coding 0 2 == 0 && comp == out else decide (1 ≤ comp ∧ comp ≤ out))

/-- ROWS that block `n` of a plane must have (R78). -/
def blockRows (height blocks n : Nat) : Nat := if n + 1 < blocks then 16 else height - 16 * (blocks - 1)

/-- Checks 5, 6 and 7 of a header whose earlier checks passed. -/
def sizeChecks (o : SpoolObj) (h : List Byte) : Nat :=
  let p := leAt h 4 1
  let b := leAt h 5 1
  match leAt h 0 2, o.plane? p, o.stream? p b with
  | 0xFA03, some ph, _ =>
    let bm := bandMap ph.dose ph.ppiX ph.width b
    if leAt h 12 4 = bm.1 ∧ leAt h 16 4 = bm.2 ∧ leAt h 20 4 = ceilDiv ph.height 16 then 0 else 7
  | 0xFA04, some ph, some st =>
    let n := leAt h 12 4
    if n ≠ st.recs.length ∨ st.blocks ≤ n then 5
    else if 1 ≤ n ∧ some (leAt h 7 1) ≠ (st.recs.getLast?.map (fun r => (r.alive + 1) % 256)) then 6
    else if blockSizeOk st.colCount (some (blockRows ph.height st.blocks n)) h then 0 else 7
  | _, _, _ => 0

/-- Checks 1 to 7 of a header, in order: the first failing code, or 0 (R89). -/
def headerCheck (id : Word) (planes : Nat) (o : SpoolObj) (h : List Byte) : Nat :=
  if !hdrCrcOk h then 1
  else if !hdrFieldOk o.hdr h then 2
  else if !pageMatchOk id planes h then 3
  else if !orderOk o h then 4
  else sizeChecks o h

/-- Pad bytes that follow a payload of `n` bytes (R71): headers are multiples of 4 long. -/
def padLen (n : Nat) : Nat := (4 - n % 4) % 4

/-- The plane, band and block a header names. -/
def recPlace (h : List Byte) : Nat × Nat × Nat :=
  match leAt h 0 2 with
  | 0xFA02 => (leAt h 4 1, 0, 0)
  | 0xFA03 => (leAt h 4 1, leAt h 5 1, 0)
  | 0xFA04 => (leAt h 4 1, leAt h 5 1, leAt h 12 4)
  | _ => (0, 0, 0)

/-- The status of a failing check (Table 3.9). -/
def checkStatus (c : Nat) : Nat :=
  if c = 7 then 0x0302 else if c = 1 ∨ c = 8 ∨ c = 11 ∨ c = 12 then 0x0301 else 0x0304

/-- A block header and its payload with pad bytes, as the compressor writes it (Table 3.6, R71, R94). -/
def blockRecord (plane band coding alive : Nat) (id : Word) (block rows out : Nat) (payload raw : List Byte) : List Byte :=
  let h := leBytes 2 0xFA04 ++ leBytes 2 40 ++ leBytes 1 plane ++ leBytes 1 band ++ leBytes 1 coding ++ leBytes 1 alive ++
    leBytes 4 id.toNat ++ leBytes 4 block ++ leBytes 2 rows ++ leBytes 2 0 ++ leBytes 4 out ++ leBytes 4 payload.length ++
    leBytes 4 (crc32c payload) ++ leBytes 4 (crc32c raw)
  h ++ leBytes 4 (crc32c h) ++ payload ++ List.replicate (padLen payload.length) 0

/-- What decoding a block found: pixels, the failing check 9, 10 or 11 (0 for none) and the raster index of 9 or 10. -/
structure BlockCheck where
  pixels : List Byte
  check : Nat
  index : Nat
  deriving DecidableEq, Repr

/-- Checks 9, 10 and 11 of a block (R89, R99). -/
def decodeChecks (coding rows w crcOrig : Nat) (payload : List Byte) : BlockCheck :=
  let d := decodeBlock coding rows w payload
  let px := d.pixels.map (fun v => BitVec.ofNat 8 v)
  match d.err with
  | some .code => { pixels := px, check := 9, index := px.length }
  | some .length => { pixels := px, check := 10, index := px.length }
  | none => { pixels := px, check := if crc32c px = crcOrig then 0 else 11, index := 0 }

end Sys2Proof.Machine
end

