-- ==== Sys2Proof/Config.lean ====
section
/-! DEFINITION. What an implementation fixes and the spec does not state (constants without a body), and the free
values: every constant here is opaque, so no proof can see a value of it. -/

namespace Sys2Proof.Config

/-- Noroskura's PCI-SIG vendor ID (Table 2.1, Table 2.4): the spec names it and gives no number. -/
opaque vendorId : BitVec 16

/-- Noroskura's JEDEC manufacturer identity of IDCODE (R488), 11 bits: the spec gives no number. -/
opaque jedecId : BitVec 11

/-- The version field of IDCODE, the die revision of the engine die or the machine die (R488): the spec gives no code. -/
opaque dieVersion : Bool → BitVec 4

/-- Noroskura's firmware public keys 0 to 3 in the boot ROM, as P-256 points (R454): the spec gives no number. -/
opaque fwKey : Nat → Nat × Nat

/-- The last digit of an entry of the sine table, where the exact sine is no whole Q15 value (R330): the spec states no rounding. -/
opaque sineLsb : Nat → Nat

/-- The space-vector duty of a phase 0 to 2 for vα and vβ (Table 11.4 stage 6), whose formula the spec does not state. -/
opaque svm : Int → Int → Nat → Nat

/-- A fresh value that the spec leaves open, as a natural number; the step supplies a counter of the state. -/
opaque freeNat : Nat → Nat

/-- A fresh integer that the spec leaves open. -/
opaque freeInt : Nat → Int

end Sys2Proof.Config
end

