-- ==== Sys2Proof/Machine/State/Cal.lean ====
section
/-! DEFINITION. Live calibration (chapter "Live calibration", R295 to R323). -/

namespace Sys2Proof.Machine

/-- A view (R296). -/
structure CalView where
  en : Bool := false
  ref : Nat := 0
  chan : List Nat := [0, 0, 0, 0, 0, 0]
  dx0 : Int := 0
  dxp : Nat := 65536
  camLag : Nat := 0
  camLat : Nat := 0
  deriving DecidableEq, Repr

/-- A station's calibration parameters (Table 10.9 CAL.CONFIG); reset R323. -/
structure CalCfg where
  g : Nat := 4
  minSamples : Nat := 64
  tol : Nat := 20
  deadband : Nat := 8
  layerMax : Nat := 640
  regTol : Nat := 64
  stepMax : Nat := 32
  retries : Nat := 3
  timeTol : Nat := 50
  wmax : Nat := 30
  span : Nat := 8
  spacing : Nat := 64
  iso : Nat := 64
  edge : Nat := 1024
  deriving DecidableEq, Repr

/-- Phase of a run (Table 10.9 CAL.RESULT). -/
inductive CalPhase where
  | idle | collecting | applying | waiting
  deriving DecidableEq, Repr

def CalPhase.code : CalPhase → Nat
  | .idle => 0 | .collecting => 1 | .applying => 2 | .waiting => 3

/-- A sample of a window: for kind 0 the cell (physical column of its first column), band, mean tone and measured value;
for kinds 1 to 3 the tile (or station), patch and error in 1/1,024 line; for kind 4 the phase and reading. -/
structure CalSample where
  subject : Nat
  group : Nat
  v : Int
  m : Int
  /-- Line rate at the sample, lines/s (R311). -/
  rate : Nat
  deriving DecidableEq, Repr

/-- A run of one kind on one subject (R314). -/
structure CalRun where
  kind : Nat
  subject : Nat
  phase : CalPhase := .idle
  continuous : Bool := false
  interval : Nat := 0
  /-- Last result: 0 none, 1 PASS, 2 FAIL; attempts; last failure cause; masks and time in ns of the last result. -/
  last : Nat := 0
  attempts : Nat := 0
  cause : Nat := 0
  passed : Nat := 0
  failed : Nat := 0
  resultAt : Nat := 0
  /-- Tiles (or bit 0) still to pass in this run, those in the present attempt, and those passed in this run. -/
  left : Nat := 0
  cur : Nat := 0
  got : Nat := 0
  /-- Samples of the open window; and the first complete one: the earlier plateau of a TIMING measurement, and its samples. -/
  samples : List CalSample := []
  first : Option (List CalSample × List CalSample) := none
  /-- The plateau of the timing window already complete (R311). -/
  plateau : Option (List CalSample) := none
  /-- A window is open since this time in ps; none while the conditions of R315 fail or the next page is awaited. -/
  openedAt : Option Nat := none
  /-- The attempt opens its first window at the first span of the next page (R314). -/
  waits : Bool := false
  /-- The views that served the open window when it opened (R315). -/
  views : List Nat := []
  /-- Geometry and screen banks of the pages the window has sampled (R315). -/
  banks : Option (Nat × Nat) := none
  /-- Next run of a continuous run, ps. -/
  nextAt : Option Nat := none
  /-- An application is under way; tiles changed and updates applied so far. -/
  applying : Bool := false
  tiles : Nat := 0
  updates : Nat := 0
  /-- CAL.STOP was taken: no next run. -/
  stopped : Bool := false
  deriving DecidableEq, Repr

/-- The resampled tone of one band-line of a planned span (R300), with whether a suppress flag went with it (R301). -/
structure SpanRow where
  station : Nat
  page : Nat
  n : Nat
  tile : Nat
  v : List Nat
  deriving DecidableEq, Repr

/-- A calibration camera line kept for its span: page line, position and channel values per observed station. -/
structure CalLine where
  view : Nat
  station : Nat
  page : Nat
  n : Nat
  /-- pos(k) in 1/1,024 page line (R298). -/
  pos : Int
  values : List (Nat × Bool)
  rate : Nat
  deriving DecidableEq, Repr

/-- A planned span (R300): station, page key, first line, and the views whose camera has passed it. -/
structure Span where
  station : Nat
  page : Nat
  first : Nat
  seen : List Nat := []
  deriving DecidableEq, Repr

structure CalState where
  views : List CalView := [{}, {}, {}, {}]
  cfgs : List CalCfg := List.replicate 6 {}
  runs : List CalRun := []
  rows : List SpanRow := []
  /-- Planned spans waiting for their camera lines (R300). -/
  spans : List Span := []
  lines : List CalLine := []
  /-- Band-lines of spans that went to their tile suppressed: page key, tile, line (R301). -/
  supLines : List (Nat × Nat × Nat) := []
  deriving DecidableEq, Repr

end Sys2Proof.Machine
end

