-- ==== Sys2Proof/Machine/State/Cam.lean ====
section
/-! DEFINITION. The inspection camera pipeline (chapter "Inspection camera pipeline", R271 to R294). -/

namespace Sys2Proof.Machine

/-- Port timing and geometry (Table 9.7 CAM.PORT); reset R294. -/
structure CamTiming where
  pipeline : Nat := 0
  prio : Nat := 0
  linescan : Bool := false
  useDe : Bool := false
  falling : Bool := false
  hsLow : Bool := false
  vsLow : Bool := false
  deLow : Bool := false
  dbits : Nat := 16
  hStart : Nat := 0
  vStart : Nat := 0
  hWidth : Nat := 16
  vHeight : Nat := 1
  trig : Nat := 0
  triggered : Bool := false
  deriving DecidableEq, Repr

/-- A mosaic (R279): period 0 for none, 2 or 4, and its 16 site codes. -/
structure Mosaic where
  size : Nat := 0
  ox : Nat := 0
  oy : Nat := 0
  sites : List Nat := List.replicate 16 0
  deriving DecidableEq, Repr

/-- An output stream's configuration (Table 9.7 CAM.STREAM). -/
structure StreamCfg where
  en : Bool := false
  chan : Nat := 0
  wide : Bool := false
  x0 : Nat := 0
  y0 : Nat := 0
  cw : Nat := 1
  ch : Nat := 1
  fx : Nat := 1
  fy : Nat := 1
  base : Nat := 0
  bufSize : Nat := 0
  nbuf : Nat := 2
  consumer : Nat := 0
  evN : Nat := 0
  deriving DecidableEq, Repr

/-- The statistics unit's configuration (Table 9.7 CAM.STATS). -/
structure StatsCfg where
  en : Bool := false
  chan : Nat := 0
  hist : Bool := false
  /-- Windows: X, Y, W, H. -/
  wins : List (Nat × Nat × Nat × Nat) := []
  zw : Nat := 0
  zh : Nat := 0
  base : Nat := 0
  nbuf : Nat := 2
  consumer : Nat := 0
  evN : Nat := 0
  deriving DecidableEq, Repr

/-- A port's configuration set (R287). -/
structure CamCfg where
  timing : CamTiming := {}
  mosaic : Mosaic := {}
  streams : List StreamCfg := [{}, {}, {}, {}]
  stats : StatsCfg := {}
  /-- Shadow generation. -/
  gen : Nat := 0
  deriving DecidableEq, Repr

/-- A frame under way at a port (R273 to R283). -/
structure CamFrame where
  no : Nat
  /-- Rooster time of the frame start at the ball, ns. -/
  time : Nat
  /-- Station line number of the latest trigger pulse. -/
  line : Nat
  cfg : CamCfg
  /-- Production index taken per stream, none where the frame is skipped, and of the statistics. -/
  bufs : List (Option Nat)
  statBuf : Option Nat
  /-- Lines still discarded before the first, lines received, lines the frame will have. -/
  skip : Nat
  received : Nat := 0
  expect : Nat
  nShort : Nat := 0
  nLong : Nat := 0
  pad : Nat := 0
  short : Bool := false
  long : Bool := false
  /-- The throttle has left its statistics incomplete (R286). -/
  statCut : Bool := false
  /-- Lines finished by the pipeline, in order: values and whether each is valid. -/
  rows : List (List (Nat × Bool)) := []
  deriving DecidableEq, Repr

/-- A formed line in a port's FIFO or pipeline: its frame number and pixels. -/
structure CamLineBuf where
  frame : Nat
  pixels : List (Nat × Bool)
  deriving DecidableEq, Repr

/-- Episode counters of an event raised once per episode (R292): raised, and frames since without the condition. -/
structure CamEpisode where
  on : Bool := false
  calm : Nat := 0
  deriving DecidableEq, Repr

/-- Forming a line (R272): 0 no line, 1 its H_START runs, 2 its pixels come, 3 the end of an overlong run of DE is awaited; the clocks of
H_START left, whether a frame takes the line, its samples, newest first, and whether HSYNC and VSYNC were active at the last clock. -/
structure LineRun where
  st : Nat := 0
  wait : Nat := 0
  keep : Bool := false
  px : List Nat := []
  hs : Bool := true
  vs : Bool := true
  deriving DecidableEq, Repr

/-- A camera port; reset R294. -/
structure CamPort where
  en : Bool := false
  shadow : CamCfg := {}
  cfg : CamCfg := {}
  frameNo : Nat := 0
  frames : List CamFrame := []
  /-- A frame is open for lines; else lines are discarded until a frame start. -/
  open_ : Bool := false
  fifo : List CamLineBuf := []
  fifoMax : Nat := 0
  /-- Next production index of each stream and of the statistics; frames since the last EV_CAM_FRAME. -/
  nextBuf : List Nat := [0, 0, 0, 0]
  sinceEv : List Nat := [0, 0, 0, 0]
  statNext : Nat := 0
  statSince : Nat := 0
  drop : CamEpisode := {}
  shape : CamEpisode := {}
  /-- A triggered line-scan frame is armed by a pulse (R275). -/
  armed : Bool := false
  line : LineRun := {}
  /-- The latest frame, without its lines, once it has been written while lines of it may still come (R274). -/
  done : Option CamFrame := none
  /-- Lines of a dropped counted line-scan frame that are still to be discarded (R277). -/
  lost : Nat := 0
  deriving DecidableEq, Repr

/-- A pipeline: the line it works on (port and line) and the ports it has served, newest first (R276). -/
structure CamPipe where
  cur : Option (Nat × CamLineBuf) := none
  served : List Nat := []
  deriving DecidableEq, Repr

/-- A trigger output (R289). -/
structure CamTrig where
  mode : Nat := 0
  high : Bool := false
  station : Nat := 0
  /-- PERIOD in ns or NL. -/
  period : Nat := 0
  /-- K0, and the boundary from which every NL-th one matches, once the first has (R289). -/
  k0 : Nat := 0
  base : Option Int := none
  width : Nat := 0
  /-- End of the last pulse and time of the next mode 2 pulse, ps. -/
  pulseEnd : Nat := 0
  nextAt : Nat := 0
  /-- Station line number of the last pulse. -/
  lastLine : Nat := 0
  deriving DecidableEq, Repr

structure CamState where
  ports : List CamPort := [{}, {}, {}, {}]
  pipes : List CamPipe := [{}, {}]
  trigs : List CamTrig := [{}, {}, {}, {}]
  deriving DecidableEq, Repr

end Sys2Proof.Machine
end

