-- ==== Sys2Proof/Machine/State/Exp.lean ====
section
/-! DEFINITION. The expansion engines, quartets, lanes, replays, geometry, tone curves and screens
(chapter "Expansion engines: from contone to dose", R129 to R171, R512). -/

namespace Sys2Proof.Machine

/-- Engine states (Table 5.1). -/
inductive EngSt where
  | active | spare | test | warming | fenced | off
  deriving DecidableEq, Repr

def EngSt.code : EngSt → Nat
  | .active => 0 | .spare => 1 | .test => 2 | .warming => 3 | .fenced => 4 | .off => 5

/-- A healthy state (Table 5.1). -/
def EngSt.healthy : EngSt → Bool
  | .fenced | .off => false
  | _ => true

/-- A move of a quartet that waits for the next line boundary of its station (R160, R168). -/
structure EngMove where
  /-- Cause from Table 5.7 (10 HOST, 11 KAT); 0 for a host self-test, which counts no fence. -/
  cause : Nat
  /-- The engine enters FENCED; otherwise TEST. -/
  fence : Bool
  station : Nat
  deriving DecidableEq, Repr

/-- An expansion engine (R129, R160 to R165). -/
structure Engine where
  st : EngSt
  /-- The quartet it carries. -/
  quartet : Option Nat := none
  /-- Rooster times in ps of its fences, newest first (R160). -/
  fences : List Nat := []
  /-- Rooster time in ps at which its self-test last passed (R512). -/
  passedAt : Nat := 0
  /-- Rooster time in ps at which it was last on spare duty (R162). -/
  spareAt : Nat := 0
  /-- End of the running self-test, in ps (R163). -/
  testEnd : Option Nat := none
  move : Option EngMove := none
  /-- The running self-test follows its FENCE_LIMIT-th fence within 24 hours: the engine goes OFF at its end (R160). -/
  toOff : Bool := false
  /-- EXP.ENGINE commands outstanding on it, oldest first (R168). -/
  oids : List Nat := []
  /-- The replay it runs, by the replay's name. -/
  replay : Option Nat := none
  /-- Measured pipe rate, M columns/s, over the last 1,024 band-lines, with those band-lines' durations in ps (R165). -/
  rMeas : Nat := 1900
  /-- Measured rate of each of its four decode lanes, M steps/s, over the lane's latest block (R137, R166). -/
  laneRates : List Nat := [1800, 1800, 1800, 1800]
  durations : List Nat := []
  deriving DecidableEq, Repr

/-- One decode lane's work: the blocks and band-lines of one tile of one page on one engine (R137, R157, R160). -/
structure Lane where
  engine : Nat
  page : Nat
  /-- Global tile. -/
  tile : Nat
  /-- The first band-line it produces, the next to compute, and the first it leaves to another engine (R160, R162). -/
  start : Nat
  next : Nat
  upTo : Option Nat := none
  /-- Next block to fetch, and the block in the lane. -/
  fetchNext : Nat
  inLane : Option Nat := none
  /-- Blocks that have failed a decode check here and await a replay. -/
  failed : List Nat := []
  /-- Blocks passed or accepted here. -/
  passed : List Nat := []
  /-- Pixels this lane decoded where they differ from the stored record's own. -/
  odd : List (Nat × List Byte) := []
  /-- Band-lines computed and not yet released, ascending. -/
  waiting : List Nat := []
  deriving DecidableEq, Repr

/-- The band-lines of one tile of one page that are settled: released or suppressed (R134, R136). -/
structure TileRun where
  page : Nat
  tile : Nat
  /-- Every band-line below is settled. -/
  upTo : Nat := 0
  /-- Settled band-lines at or above `upTo`. -/
  settled : List Nat := []
  /-- Band-lines that wait for their guard to be suppressed, with the cause (R158, R159); 0x100 is added where the page
  has been spoiled with CHECK_STRICT instead of GUARD_MISS. -/
  bad : List (Nat × Nat) := []
  /-- EV_EXP_SUPPRESS has been raised (R136). -/
  suppressed : Bool := false
  deriving DecidableEq, Repr

/-- A first failure that a replay compares with (R158). -/
structure FailSeen where
  check : Nat
  index : Nat
  pixels : List Byte
  deriving DecidableEq, Repr

/-- A replay, waiting or running (R157, R158). -/
structure Replay where
  rid : Nat
  cause : Nat
  failing : Option Nat
  page : Nat
  tile : Nat
  /-- Failing block, if one block failed. -/
  block : Option Nat
  lines : List Nat
  attempts : Nat := 0
  engine : Option Nat := none
  /-- Engines that have run it: a further attempt takes another (R158). -/
  tried : List Nat := []
  seen : Option FailSeen := none
  deriving DecidableEq, Repr

/-- Geometry of a tile (Table 5.2). -/
structure TileGeom where
  xoff : Int := 0
  xscale : Int := 0
  skew : Int := 0
  bow : Int := 0
  deriving DecidableEq, Repr

/-- A geometry bank: 96 tiles and one kernel per station (Table 5.2); reset R171. -/
structure GeomBank where
  tiles : List TileGeom := List.replicate 96 {}
  kernel : List Nat := [0, 0, 0, 0, 0, 0]
  deriving DecidableEq, Repr

/-- A screen (R151); reset R171. -/
structure Screen where
  w : Nat := 1
  h : Nat := 1
  shift : Nat := 0
  sx : Nat := 0
  sy : Nat := 0
  k : Nat := 255
  d : List Byte := (List.range 256).map (BitVec.ofNat 8)
  t : List Byte := [127]
  valid : Bool := true
  /-- Correction-store words of its level table and threshold array that are lost until the screen is loaded again (R159). -/
  lost : List Nat := []
  /-- Loads in progress, oldest first: each command's outstanding name and its words 2 to 8 (R168). -/
  loading : List (Nat × List Word) := []
  deriving DecidableEq, Repr

/-- A tone curve of one column in force from firing line `from` (R147, R149). -/
structure ToneVer where
  fromLine : Int
  knots : List Nat
  deriving DecidableEq, Repr

/-- A queued tone update: a column's wanted curve (R149). -/
structure ToneReq where
  station : Nat
  col : Nat
  knots : List Nat
  /-- The calibration run it belongs to: kind and subject. -/
  run : Option (Nat × Nat) := none
  deriving DecidableEq, Repr

/-- EXP.TONE_NEUTRAL under way: its stations still to finish (R168). -/
structure ToneNeutral where
  oid : Nat
  stations : Nat
  deriving DecidableEq, Repr

/-- A rotation under way (R162). -/
structure Rotation where
  out : Nat
  inn : Nat
  quartet : Nat
  /-- The page whose band-line `h` is the incoming engine's first. -/
  page : Nat
  h : Nat
  deriving DecidableEq, Repr

/-- Slack statistics of a station (R165). -/
structure SlackStat where
  least : Option Int := none
  replays : Nat := 0
  latest : Int := 0
  /-- EV_EXP_SLACK_LOW is armed; lines since slack last was at or below threshold + 8. -/
  armed : Bool := true
  calmSince : Int := 0
  deriving DecidableEq, Repr

structure ExpState where
  /-- Every engine runs its self-test after a power-on reset (R171), in state TEST, for 1.5 ms (R163). -/
  engines : List Engine := List.replicate 28 { st := .test, testEnd := some 1500000000 }
  /-- Quartets that want an engine and have none (R161), with the engine that failed. -/
  unserved : List (Nat × Nat) := []
  /-- Quartets assigned while no engine could take them, until one of their band-lines is released or EV_EXP_NO_SPARE has been raised at
  the first that is suppressed (R131). -/
  noSpareOwed : List Nat := []
  lanes : List Lane := []
  runs : List TileRun := []
  replays : List Replay := []
  nextRid : Nat := 0
  banks : List GeomBank := [{}, {}]
  /-- Screens: bank A planes 0 to 5, then bank B (R171). -/
  screens : List Screen := List.replicate 12 {}
  /-- Tone curves other than neutral, keyed station × 65,536 + column, versions newest first. -/
  tone : List (Nat × List ToneVer) := []
  toneReqs : List ToneReq := []
  /-- Columns, keyed as `tone`, whose knots were lost: marked for calibration (R159). -/
  marked : List Nat := []
  neutral : List ToneNeutral := []
  /-- Next column of each station's tone tap unit (R149). -/
  tonePtr : List Nat := [0, 0, 0, 0, 0, 0]
  /-- EXP.POLICY (R171). -/
  stall : Nat := 20
  slackThr : Nat := 24
  margin : Nat := 5
  rotate : Nat := 10
  rotateOff : Bool := false
  fenceLimit : Nat := 3
  rotation : Option Rotation := none
  /-- Rooster time in ps of the next rotation (R162). -/
  nextRotate : Nat := 10000000000000
  slack : List SlackStat := List.replicate 6 {}
  deriving DecidableEq, Repr

end Sys2Proof.Machine
end

