-- ==== Sys2Proof/Machine/State/Fw.lean ====
section
/-! DEFINITION. Firmware, flash banks, OTP and power states
(chapter "Firmware, start-up, sleep and return", R453 to R471), and the facts of the board. -/

namespace Sys2Proof.Machine

/-- FW_STATE (Table 2.4). -/
inductive FwSt where
  | boot | ready | handover | fault
  deriving DecidableEq, Repr

def FwSt.code : FwSt → Nat
  | .boot => 0 | .ready => 1 | .handover => 2 | .fault => 3

/-- The fields of an image header the device uses (Table 15.2). -/
structure ImgHdr where
  patch : Nat
  minor : Nat
  major : Nat
  keyIdx : Nat
  build : Nat
  svn : Nat
  deriving DecidableEq, Repr

/-- A flash bank: the header it holds, and whether the image met the conditions of R454 that never change
(magic, length, hash, signature, revisions); revocation and SVN_MIN are judged when it is used. -/
structure FlashBank where
  hdr : Option ImgHdr := none
  sound : Bool := false
  deriving DecidableEq, Repr

/-- A copy of the boot record (R454). -/
structure BootRec where
  gen : Nat
  committed : Nat
  valid : Bool
  deriving DecidableEq, Repr

/-- Why firmware is starting (Table 15.12 EV_FW_STATE cause). -/
inductive BootWhy where
  | cold | fallback | handover | restart | trialFailed
  deriving DecidableEq, Repr

def BootWhy.code : BootWhy → Nat
  | .cold => 1 | .fallback => 2 | .handover => 3 | .restart => 4 | .trialFailed => 5

/-- FW.LOAD under way: outstanding name, address, bytes and CRC (R460). -/
structure FwLoad where
  oid : Nat
  addr : Nat
  bytes : Nat
  crc : Nat
  deriving DecidableEq, Repr

/-- FW.ACTIVATE outstanding: its name, and whether the preload has finished (R461). -/
structure FwActivate where
  oid : Nat
  preloaded : Bool := false
  deriving DecidableEq, Repr

/-- Power states (Table 15.6). -/
inductive PowerSt where
  | run | idle | standby
  deriving DecidableEq, Repr

def PowerSt.code : PowerSt → Nat
  | .run => 0 | .idle => 1 | .standby => 2

structure FwState where
  st : FwSt := .boot
  /-- FW_BANK: the running bank, none before the boot ROM has selected one. -/
  bank : Option Nat := none
  trial : Bool := false
  why : BootWhy := .cold
  machineOk : Bool := false
  banks : List FlashBank := [{ hdr := some { patch := 0, minor := 0, major := 2, keyIdx := 0, build := 0, svn := 0 }, sound := true }, {}]
  boot : List BootRec := [{ gen := 0, committed := 0, valid := true }, { gen := 0, committed := 0, valid := false }]
  /-- OTP: SVN_MIN and the mask of revoked firmware keys. -/
  svnMin : Nat := 0
  revoked : BitVec 4 := 0
  /-- The preloaded image's header, while a hand-over is pending (R461). -/
  preload : Option ImgHdr := none
  /-- Header of the image that runs. -/
  running : Option ImgHdr := none
  load : Option FwLoad := none
  activate : Option FwActivate := none
  power : PowerSt := .run
  /-- LIFE.STANDBY has been accepted and records are being written (R464). -/
  standbyDue : Bool := false
  /-- Wake timer in s, and the time in ps at which it expires. -/
  wakeTimer : Nat := 0
  wakeAt : Option Nat := none
  /-- Control-core restarts of the last hour, times in ps, newest first; the cores are in reset since a time. -/
  restarts : List Nat := []
  resetSince : Option Nat := none
  /-- Neither bank is valid: the boot ROM waits for ENG_WAKE or SYS_RST_N (R455). -/
  parked : Bool := false
  /-- The restart must be recovered at READY: outstanding commands complete with ST_ABORTED (R459). -/
  recover : Bool := false
  /-- Next HEARTBEAT in ps. -/
  beatAt : Nat := 0
  deriving DecidableEq, Repr

/-- The serial NOR flash and what its SFDP tables advertise (R453); erase sectors are of 4 KiB. -/
structure FlashPart where
  mib : Nat := 16
  /-- 4-byte addressing, and 1-4-4 quad reads. -/
  fourByte : Bool := false
  quad : Bool := false
  deriving DecidableEq, Repr

/-- A DDR5 component: its manufacturer ID, revision IDs and density from MR5 to MR8 (R405). -/
structure DramPart where
  mr5 : Nat
  mr6 : Nat
  mr7 : Nat
  mr8 : Nat
  deriving DecidableEq, Repr

/-- What the board fixes: straps, serial, DDR5 population, flash. -/
structure Board where
  /-- Strap ENG_AUTO (R438) and strap TEST_MODE (R488). -/
  engAuto : Bool := true
  testMode : Bool := false
  serial : Word64 := 0
  /-- Channels populated, and GiB of data per channel (Table 2.4, R404). -/
  ddrMask : BitVec 4 := 0xF
  chanGib : Nat := 32
  /-- VDD_CAM in mV at the release of ENG_RST_OUT (R501). -/
  vddCam : Nat := 1800
  /-- The components of each DDR5 channel in order of sub-channel, rank and position (R405). -/
  dram : List (List DramPart) := [[], [], [], []]
  /-- Boot rate index (R423). -/
  bootRate : Nat := 0
  flash : FlashPart := {}
  /-- The engine-die sensor at each expansion engine (R166). -/
  engineSensor : List Nat := (List.range 28).map (fun e => 2 * e)
  deriving DecidableEq, Repr

end Sys2Proof.Machine
end

