-- ==== Sys2Proof/Machine/State/Host.lean ====
section
/-! DEFINITION. The host interface's state: BAR0 registers, mailbox slots, event ring, backlog, MSI-X and link
(chapter "Host attachment and mailboxes", R38 to R68, R511). -/

namespace Sys2Proof.Machine

/-- The four states of a mailbox slot (Table 2.7, R45). -/
inductive SlotState where
  | idle | posted | active | done
  deriving DecidableEq, Repr

/-- One mailbox slot: 64 little-endian words and its state (R43, R45). -/
structure Slot where
  words : List Word := List.replicate 64 0
  st : SlotState := .idle
  deriving DecidableEq, Repr

/-- The class of a command (R48). -/
inductive CmdClass where
  | immediate | deferred | background
  deriving DecidableEq, Repr

/-- A deferred or background command answered and not yet completed (R51, Table 2.16 SYS.PENDING). -/
structure Outst where
  /-- The model's own name of the entry, never reused. -/
  oid : Nat
  slot : Nat
  word0 : Word
  cls : CmdClass
  /-- PAGE_ID of its EV_CMD_DONE (R67): the parameter of a page command, else 0. -/
  pageId : Nat
  deriving DecidableEq, Repr

/-- An event record (Table 2.12, R60). -/
structure EventRec where
  time : Word64
  code : BitVec 16
  source : BitVec 16
  pageId : Word
  line : Word
  d0 : Word
  d1 : Word
  d2 : Word
  deriving DecidableEq, Repr

/-- The registers and queues of the host interface. -/
structure HostState where
  /-- TIME_HI as latched by the last TIME_LO read (Table 2.4). -/
  timeHi : Word := 0
  /-- SCRATCH (Table 2.4). -/
  scratch : Word := 0
  /-- ACC_ERR, W1C, bits 0 to 5 (Table 2.4). -/
  accErr : BitVec 6 := 0
  /-- ACC_ERR_ADDR (Table 2.4). -/
  accErrAddr : BitVec 26 := 0
  /-- ACC_ERR_BAR: true for BAR2 (Table 2.4). -/
  accErrBar : Bool := false
  /-- DIAG_EN (Table 2.4, R61). -/
  diagEn : Bool := false
  /-- DIAG_REGION (Table 2.4, Table 2.11). -/
  diagRegion : BitVec 2 := 0
  /-- The 16 mailbox slots (R43). -/
  slots : List Slot := List.replicate 16 {}
  /-- SLOT_DONE, W1C (Table 2.8). -/
  slotDone : BitVec 16 := 0
  /-- The POSTED slots in the order their doorbells were rung (R49). -/
  order : List Nat := []
  /-- The OUTSTANDING deferred and background commands, oldest first (R51). -/
  outstanding : List Outst := []
  /-- The name of the next outstanding entry (the model's own). -/
  nextOid : Nat := 0
  /-- EVR_BASE_LO and EVR_BASE_HI (Table 2.10). -/
  evrBaseLo : Word := 0
  evrBaseHi : Word := 0
  /-- EN of the event ring (R54). -/
  evrEn : Bool := false
  /-- LOG2_SIZE as written; values outside 6 to 16 act as 6 (Table 2.10). -/
  log2Size : BitVec 5 := 6
  /-- SHADOW_EN. -/
  shadowEn : Bool := false
  /-- EVR_WRITE, the producer index, class W. -/
  evrWrite : Word := 0
  /-- EVR_READ, the consumer index, class W. -/
  evrRead : Word := 0
  shadowLo : Word := 0
  shadowHi : Word := 0
  /-- MOD_COUNT, 0 taken as 1. -/
  modCount : BitVec 16 := 1
  /-- MOD_TIMER in µs, 0 for off. -/
  modTimer : BitVec 16 := 0
  /-- INT_STATUS: bit 0 MBX, 1 EVENT, 2 URGENT, 3 FULL (W1C). -/
  intStatus : BitVec 4 := 0
  /-- INT_EN. -/
  intEn : BitVec 4 := 0
  /-- The event backlog, oldest first, at most 1,024 records (R57). -/
  backlog : List EventRec := []
  /-- Events lost since the last EV_EVENTS_LOST and the code of the first (Table 2.17). -/
  lostSince : Nat := 0
  lostCode : BitVec 16 := 0
  /-- Records written since vector 1 was last signalled (R59). -/
  unsignalled : Nat := 0
  /-- Rooster time in ps of the first of them (R59). -/
  firstUnsignalled : Option Nat := none
  /-- MSI-X table: 64 entries of 4 words, all masked after reset (Table 2.10, R68). -/
  msix : List Word := (List.replicate 64 [0, 0, 0, 1]).flatten
  /-- MSI-X pending bits (Table 2.10). -/
  pba : BitVec 64 := 0
  /-- PCI Express link up (R511), speed code 1 to 5 and width (Table 2.17). -/
  linkUp : Bool := true
  linkSpeed : Nat := 5
  linkWidth : Nat := 16
  /-- The function is in D3hot (R40, R511). -/
  d3hot : Bool := false
  /-- Configuration space, as the host has set it (Table 2.1). -/
  pci : PciCfg := {}
  /-- TIME in ns of the newest record raised: no later record carries an earlier one (R58). -/
  lastTime : Nat := 0
  deriving DecidableEq, Repr

end Sys2Proof.Machine
end

