-- ==== Sys2Proof/Machine/State/Test.lean ====
section
/-! DEFINITION. Counters with their SAT bits, raw PRBS checkers, fault injections and the test access port
(chapter "Counters, events, test and fault injection", R472 to R493). -/

namespace Sys2Proof.Machine

/-- The counters of Table 16.2 that no other field holds: sparse, keyed counter ID × 65536 + instance, ascending,
no zero value listed; and the keys whose SAT bit is set (R474). -/
structure CtrState where
  vals : List (Nat × Nat) := []
  sat : List Nat := []
  deriving DecidableEq, Repr

/-- A PRBS checker (R482): its register once seeded, bits still wanted before sync, and the 1,024-bit block under way. -/
structure PrbsChecker where
  /-- Received bits gathered so far, newest first, at most the pattern's register length (while seeding). -/
  reg : List Bool := []
  /-- Matching bits seen since the seed (before sync). -/
  matched : Nat := 0
  inSync : Bool := false
  /-- Bits of the current 1,024-bit block and mismatches in it. -/
  blockBits : Nat := 0
  blockErrs : Nat := 0
  deriving DecidableEq, Repr

/-- Raw PRBS of one lane in TEST (R481, Table 16.8). -/
structure RawPrbs where
  pattern : Nat := 6
  half : Bool := false
  nearEnd : Bool := false
  chk : PrbsChecker := {}
  /-- Single bit errors inserted by TEST.PRBS and not yet sent. -/
  insert : Nat := 0
  /-- The generator's register, newest bit first (R480). -/
  gen : List Bool := List.replicate 31 true
  deriving DecidableEq, Repr

/-- The actions of INJ.ARM (R486, Table 16.8). -/
inductive InjAction where
  | drop | corruptPre | corruptPost | reorder | delay
  deriving DecidableEq, Repr

/-- One armed injection (R486), at most one per target. -/
structure Injection where
  kind : Nat
  index : Nat
  action : InjAction
  live : Bool
  ftype : Nat
  line : Nat
  /-- Frames still to act on. -/
  remaining : Nat
  interval : Nat
  offset : Nat
  mask : Word
  delay : Nat
  /-- Matching frames seen since the last one acted on. -/
  seen : Nat := 0
  deriving DecidableEq, Repr

/-- The instructions of the IEEE 1149.1 test access port (R488). -/
inductive JtagInstr where
  | bypass | idcode | samplePreload | extest
  deriving DecidableEq, Repr

structure TestState where
  /-- Raw PRBS per lane, `none` when not in TEST. -/
  raw : List (Option RawPrbs) := List.replicate 96 none
  /-- The spine's PRBS31 checkers: engine to machine, machine to engine (R483). -/
  spine : List PrbsChecker := [{}, {}]
  /-- Armed injections, at most one per target (R486). -/
  injections : List Injection := []
  /-- The instruction in effect on each die, engine die first; IDCODE after reset (R493). -/
  jtag : List JtagInstr := [.idcode, .idcode]
  deriving DecidableEq, Repr

end Sys2Proof.Machine
end

