-- ==== Sys2Proof/Machine/State/Link.lean ====
section
/-! DEFINITION. The 96 head-link ports (chapter "Head links", R204 to R242). -/

namespace Sys2Proof.Machine

/-- Link states (Table 7.11). -/
inductive LinkSt where
  | off | acquire | identify | measure | online | idle | retrain | mgmtOnly | offline | down | test
  deriving DecidableEq, Repr

def LinkSt.code : LinkSt → Nat
  | .off => 0 | .acquire => 1 | .identify => 2 | .measure => 3 | .online => 4 | .idle => 5 | .retrain => 6
  | .mgmtOnly => 7 | .offline => 8 | .down => 9 | .test => 10

/-- Why a management request was sent. -/
inductive MgmtUse where
  /-- Factory layer read in IDENTIFY: the chunk number (R244). -/
  | factory (part : Nat)
  /-- User-layer copy read in IDENTIFY (R250). -/
  | user (copy part : Nat)
  /-- SET_ADDR of a legacy tile (R229). -/
  | setAddr
  /-- Thresholds written to 0x9000 (R250, R267). -/
  | thresholds
  /-- A piece of a kind 1 record (R249). -/
  | record
  /-- TILE.MEM of the host (R267). -/
  | hostMem
  /-- SWEEP and SET_PEAK of a retrain (R233). -/
  | sweep
  | setPeak
  deriving DecidableEq, Repr

/-- A management request outstanding (R223). -/
structure MgmtReq where
  seq : Nat
  op : Nat
  addr : Nat
  count : Nat
  data : List Byte
  use : MgmtUse
  sends : Nat := 1
  /-- Rooster time in ps at which it is sent again or fails. -/
  due : Nat
  deriving DecidableEq, Repr

/-- A line frame (Table 7.4, R213). -/
structure LineFrame where
  tile : Nat
  /-- Extended index of its boundary. -/
  k : Int
  supA : Bool
  supB : Bool
  noStrobe : Bool
  resync : Bool
  alive : Nat
  ta : Nat
  tb : Nat
  period : Nat
  imgA : Int
  imgB : Int
  /-- Dose of emitters 0 to 8,191 (R3). -/
  dose : List Byte
  crc : Nat
  deriving DecidableEq, Repr

/-- A boundary whose row results are awaited (R221, R222). -/
structure Await where
  k : Int
  imgA : Int
  imgB : Int
  /-- Its frame was built with NO_STROBE. -/
  blank : Bool := false
  /-- Its boundary is a position loss (R179): it gets no strobe. -/
  lost : Bool := false
  deriving DecidableEq, Repr

/-- Progress of a retrain (Table 7.12): the tile's setting, once its SWEEP response has given it. -/
structure RetrainRun where
  downChosen : Option Nat := none
  deriving DecidableEq, Repr

/-- A head-link port; reset R242. -/
structure Port where
  st : LinkSt := .off
  half : Bool := false
  legacy : Bool := false
  dnlock : Bool := false
  /-- Uplink frames in a row with DNLOCK 0 (R227). -/
  dnZero : Nat := 0
  /-- Receive peaking of the device and, as last known, of the tile. -/
  devPeak : Nat := 8
  tilePeak : Nat := 8
  /-- Transmit settings in force and as configured, in codes of LINK.CONFIG word 3. -/
  swing : Nat := 9
  pre : Nat := 1
  post : Nat := 8
  swingNext : Nat := 9
  preNext : Nat := 1
  postNext : Nat := 8
  /-- Device eye height, 5 mV steps. -/
  eye : Nat := 0
  blockLock : Bool := false
  cwLock : Bool := false
  frameLock : Bool := false
  /-- Valid headers in a row; headers and invalid ones of the present 64 (R226, R228). -/
  hdrRun : Nat := 0
  hdrSeen : Nat := 0
  hdrBad : Nat := 0
  /-- Codewords in a row that decoded, and that failed (R228). -/
  cwGood : Nat := 0
  cwBad : Nat := 0
  /-- Descrambler register, newest line bit first, 58 bits (R207). -/
  descr : List Bool := List.replicate 58 false
  /-- Payload bits since the last whole byte, then bytes not yet framed; a byte carries whether its codeword decoded (R209, R212). -/
  rxBits : List Bool := []
  rxBytes : List (Byte × Bool) := []
  /-- Whole frames received and not yet acted on, oldest first. -/
  rxQ : List (List (Byte × Bool)) := []
  /-- Injections at the receiver (R486): the frames of `rxQ` are held back until this time in ps, the frame that REORDER holds,
  and payload bits still to flip, counted from the next codeword, after the FEC or before it. -/
  rxHold : Nat := 0
  heldUp : Option (List (Byte × Bool)) := none
  flips : List (Nat × Bool) := []
  /-- The frame that REORDER holds at the transmitter (R486). -/
  heldDn : Option (List Byte) := none
  /-- Frames sent and received under an ALIVE_U (R226). -/
  aliveU : Option Nat := none
  /-- Acquisition: settings tried at this rate, when the next is due, when the rate is given up, both rates tried (R228). -/
  acqTried : Nat := 0
  acqNext : Nat := 0
  acqEnd : Nat := 0
  acqHalfTried : Bool := false
  /-- Rooster time in ps at which the port entered its state, and last entered ONLINE. -/
  since : Nat := 0
  onlineAt : Nat := 0
  /-- LINK.CONFIG: PRBS slots code, thresholds, window (R242). -/
  prbs : Nat := 6
  retrainCorr : Nat := 1000
  uncorrLimit : Nat := 2
  windowMs : Nat := 1000
  /-- The measurement window: start, symbols corrected up and down, codewords failed up and down, PRBS bits and errors. -/
  winStart : Nat := 0
  wUpCorr : Nat := 0
  wDnCorr : Nat := 0
  wUpUnc : Nat := 0
  wDnUnc : Nat := 0
  wBits : Nat := 0
  wErrs : Nat := 0
  /-- Class W counts last reported by the tile: DN_CORR, DN_UNCORR, DN_PRBS_ERR. -/
  dnLast : Option (Nat × Nat × Nat) := none
  retrain : Option RetrainRun := none
  /-- ALIVE of the next line frame, and RESYNC owed (R213). -/
  alive : Nat := 0
  resync : Bool := true
  awaits : List Await := []
  /-- Boundaries in a row treated as missing (R222). -/
  gapRun : Nat := 0
  /-- Pages for which EV_LINK_LINE has been raised, with the further rows counted in each (R221). -/
  lineEv : List (Nat × Nat) := []
  mgmt : List MgmtReq := []
  /-- Requests that wait because four are outstanding (R223). -/
  mgmtWait : List MgmtReq := []
  seq : Nat := 0
  /-- Bytes read so far in IDENTIFY and whether the factory region is being read again (R244). -/
  idBuf : List Byte := []
  idAgain : Bool := false
  /-- User-layer copies read (R250). -/
  userBuf : List (List Byte) := []
  /-- Probes outstanding: ID and send time in ps (R219). -/
  probes : List (Nat × Nat) := []
  probeId : Nat := 0
  measures : List Nat := []
  nextProbe : Nat := 0
  /-- Built line frames not yet started, oldest first (R215). -/
  frames : List LineFrame := []
  /-- The transmitter's frame in progress ends at this time in ps; the frames that wait for it, oldest first (R215). -/
  busyUntil : Nat := 0
  txWait : List (List Byte) := []
  /-- The downlink's payload stream beyond the last whole codeword, its bits marked where an injection flips them on the line, and whether
  they end in an idle frame (R209); data blocks still to send (R208); number of the next block (R207); the scrambler's register, newest
  line bit first; ordered sets that wait: the block each falls due in, whether it is a strobe, its payload (R210). -/
  txBits : List (Bool × Bool) := []
  txIdle : Bool := true
  txData : List (List (Bool × Bool)) := []
  txBlock : Nat := 0
  txScr : List Bool := List.replicate 58 false
  txSets : List (Nat × Bool × List Byte) := []
  /-- Last PRBS slot sent, in ps (R225), and the generator's register. -/
  prbsAt : Nat := 0
  prbsReg : List Bool := List.replicate 31 true
  prbsChk : PrbsChecker := {}
  /-- Bytes of received PRBS slots lost in codewords that could not be corrected (R224). -/
  prbsLost : Nat := 0
  /-- LINK.ENABLE idle: the idle-enter sets have been sent, received (R230). -/
  idleRx : Bool := false
  /-- A fast exit is under way and fails at this time in ps (R231). -/
  exitAt : Option Nat := none
  deriving DecidableEq, Repr

/-- A LINK.TRAIN under way (R239): station, tiles named and not settled, tiles retrained, any abandoned. -/
structure TrainCmd where
  oid : Nat
  station : Nat
  named : Nat
  left : Nat
  done : Nat := 0
  failed : Bool := false
  deriving DecidableEq, Repr

structure LinkState where
  ports : List Port := List.replicate 96 {}
  trains : List TrainCmd := []
  deriving DecidableEq, Repr

end Sys2Proof.Machine
end

