-- ==== Sys2Proof/Machine/State/Loop.lean ====
section
/-! DEFINITION. The loop engine, high voltage, fuser and engine sequencer
(chapter "Loop engine, high voltage, fuser and page programs", R324 to R360). -/

namespace Sys2Proof.Machine

/-- A mode change waiting for the loop's next sample (R333): to automatic, or to manual with a value if one is given. -/
structure ModeReq where
  auto : Bool
  man : Option Int
  /-- Cause of EV_LOOP_MODE (Table 11.14). -/
  cause : Nat
  /-- The setpoint restarts at the feedback value and ramps at this rate (R341). -/
  arcRamp : Option Nat := none
  deriving DecidableEq, Repr

/-- A transfer loop (R324, R331, Table 11.12); the fixed slots 0 to 7 use the coefficients and their queue. Reset R360. -/
structure LoopSlot where
  configured : Bool := false
  fbKind : Nat := 0
  fbIdx : Nat := 0
  spKind : Nat := 0
  spIdx : Nat := 0
  outKind : Nat := 0
  outIdx : Nat := 0
  div : Nat := 5
  phase : Nat := 0
  fs : Nat := 1
  pref : Int := 0
  band : Nat := 1
  /-- KP, KI, KD, KFF, GX, UMIN, UMAX by the indices of Table 11.9. -/
  coef : List Int := [0, 0, 0, 0, 0, 0, 32767]
  queue : List (Nat × Int) := []
  auto : Bool := false
  man : Int := 0
  /-- Integrator, a 40-bit accumulator value. -/
  acc : Int := 0
  fb : Int := 0
  fbPrev : Int := 0
  /-- No sample has been taken since the loop was configured. -/
  fresh : Bool := true
  out : Int := 0
  sp : Int := 0
  spTarget : Int := 0
  rate : Nat := 0
  ramping : Bool := false
  rampDone : Bool := false
  /-- Setpoint writes waiting for the next sample: target and rate (R338). -/
  spReqs : List (Int × Nat) := []
  modeReqs : List ModeReq := []
  frozen : Bool := false
  /-- Arc hold ends at this time in ps; the loop was automatic (R341). -/
  arcUntil : Option Nat := none
  arcAuto : Bool := false
  /-- The manual value that a request during the arc hold gave, 0 for none. -/
  arcMan : Int := 0
  fbInvalid : Bool := false
  /-- Consecutive samples within BAND (Table 11.8). -/
  inBand : Nat := 0
  deriving DecidableEq, Repr

/-- A high-voltage channel (R339 to R342); reset R360. -/
structure HvChan where
  /-- HV.CONFIG has been accepted (R433). -/
  configured : Bool := false
  en : Bool := false
  latched : Bool := false
  arcHigh : Bool := false
  lim : Int := 0
  /-- ARC_HOLD in 0.1 ms. -/
  arcHold : Nat := 100
  arcRamp : Nat := 64
  arcMax : Nat := 8
  /-- Times in ps of the arcs of the last second, newest first. -/
  arcs : List Nat := []
  /-- 12-bit codes of the monitors, newest. -/
  vmon : Nat := 0
  imon : Nat := 0
  /-- HV_REF code, driven 0 by an arc until the next sample. -/
  ref : Nat := 0
  /-- A compliance episode is under way, and since when the monitor has been below LIM, ps (R340). -/
  episode : Bool := false
  belowSince : Option Nat := none
  deriving DecidableEq, Repr

/-- A fuser zone (R343, R346); reset R360. -/
structure FuserZone where
  configured : Bool := false
  zeroCross : Bool := false
  gateHigh : Bool := false
  fper : Nat := 1000
  zcDelay : Nat := 0
  zcWidth : Nat := 10
  /-- 17-bit zero-cross accumulator and duty u. -/
  acc : Nat := 0
  duty : Nat := 0
  /-- Zero-cross firing has stopped (R345). -/
  stopped : Bool := false
  tripThr : Nat := 0
  tripRising : Bool := false
  tripOpen : Bool := false
  tripEn : Bool := false
  deriving DecidableEq, Repr

/-- A thermistor input (R344). -/
structure Thermistor where
  beta : Nat := 1000
  r25 : Nat := 1
  rbias : Nat := 1
  /-- ρ in 1/65,536 of the newest sample, and T in 0.01 °C. -/
  rho : Nat := 0
  value : Int := 0
  valid : Bool := true
  good : Nat := 0
  deriving DecidableEq, Repr

/-- A step of a page program: its four words (Table 11.5). -/
structure ProgStep where
  w0 : Word
  w1 : Word
  w2 : Word
  w3 : Word
  deriving DecidableEq, Repr

/-- A page program (R347). -/
structure Program where
  valid : Bool := false
  need : Nat := 0
  steps : List ProgStep := []
  deriving DecidableEq, Repr

/-- PROG.LOAD under way: the command's outstanding name, program and words 3 to 5. -/
structure ProgLoad where
  oid : Nat
  prog : Nat
  addr : Nat
  crc : Nat
  deriving DecidableEq, Repr

/-- A running instance (R350 to R353). -/
structure Instance where
  page : Nat
  prog : Nat
  steps : List ProgStep
  need : Nat
  /-- Index of the next step. -/
  next : Nat := 0
  /-- Rooster times in ps of the start event and of the previous step's tick. -/
  started : Nat
  prevAt : Nat
  /-- Ends at this time in ps, 10 s after its page became DONE. -/
  expiry : Option Nat := none
  deriving DecidableEq, Repr

/-- A sequencer input (Table 11.12 SEQ.IO, R350). -/
structure SeqIn where
  activeHigh : Bool := false
  debounce : Nat := 1
  level : Bool := false
  /-- Debounced edges since the last loop tick. -/
  rose : Bool := false
  fell : Bool := false
  deriving DecidableEq, Repr

/-- A sequencer output. -/
structure SeqOut where
  driven : Bool := false
  activeHigh : Bool := false
  active : Bool := false
  deriving DecidableEq, Repr

structure LoopState where
  slots : List LoopSlot := List.replicate 64 {}
  hv : List HvChan := List.replicate 24 {}
  zones : List FuserZone := List.replicate 4 {}
  therms : List Thermistor := List.replicate 16 {}
  /-- Rooster time in ps of the last FUS_ZC edge (R345). -/
  zcAt : Nat := 0
  /-- The next loop tick is due at tick × 10 µs (R325). -/
  tick : Nat := 0
  programs : List Program := List.replicate 32 {}
  loads : List ProgLoad := []
  instances : List Instance := []
  seqIn : List SeqIn := List.replicate 8 {}
  seqOut : List SeqOut := List.replicate 8 {}
  deriving DecidableEq, Repr

end Sys2Proof.Machine
end

