-- ==== Sys2Proof/Machine/State/Mem.lean ====
section
/-! DEFINITION. SRAM stores, DDR5 channels, scrubbing, sparing, fills, training and scans
(chapter "Memory, error correction and check values", R394 to R423). -/

namespace Sys2Proof.Machine

/-- A memory row with errors: its number, correctable errors since power-on, and the scrub passes they were found in (R402). -/
structure RowErr where
  row : Nat
  ce : Nat := 0
  passes : Nat := 0
  lastPass : Option Nat := none
  deriving DecidableEq, Repr

/-- Hen's pass over a store or channel (R400). -/
structure Scrub where
  /-- Next word of the pass. -/
  pos : Nat := 0
  /-- Rooster time in ps at which the pass began, and its number. -/
  started : Nat := 0
  pass : Nat := 0
  /-- Rooster time in ps of the latest read. -/
  at_ : Nat := 0
  /-- EV_SCRUB_LATE has been raised for this pass. -/
  late : Bool := false
  deriving DecidableEq, Repr

/-- A word of a test area written by MEM.TEST: its data and the inverted check bits (R419). -/
structure TestWord where
  offset : Nat
  data : Word64
  mask : Nat
  deriving DecidableEq, Repr

/-- An SRAM store (Table 13.3). -/
structure SramStore where
  spares : Nat
  rows : List RowErr := []
  pending : List Nat := []
  /-- Rows switched to a spare, oldest first (R403). -/
  remapped : List Nat := []
  scrub : Scrub := {}
  test : List TestWord := []
  /-- Every error recorded (R396): word address and class, 1 correctable, 2 uncorrectable; newest first. -/
  errs : List (Nat × Nat) := []
  deriving DecidableEq, Repr

/-- Channel status (Table 13.9 MEM.STATUS). -/
inductive ChanSt where
  | absent | inUse | failing | retired
  deriving DecidableEq, Repr

def ChanSt.code : ChanSt → Nat
  | .absent => 0 | .inUse => 1 | .failing => 2 | .retired => 3

/-- A live sweep under way (R409): points done, and the time in ps of its last pause. -/
structure Sweep where
  points : Nat := 0
  lastPause : Option Nat := none
  deriving DecidableEq, Repr

/-- A DDR5 channel (R404 to R416). -/
structure DdrChan where
  st : ChanSt := .inUse
  rate : Nat := 0
  uncal : Bool := false
  /-- Valid training sets, bit = rate index (R412). -/
  sets : Nat := 1
  rows : List RowErr := []
  /-- Times in ps of the correctable errors of the last hour, newest first. -/
  ceTimes : List Nat := []
  /-- Addresses and times in ps of uncorrectable errors of the last 24 hours. -/
  ues : List (Nat × Nat) := []
  failedRun : Nat := 0
  sweep : Option Sweep := none
  /-- Time in ps of the last sweep's start, and the temperatures of the channel (MR4) and of the nearest die sensor then, 1/16 °C; time of
  the last pause. -/
  lastSweep : Nat := 0
  lastTemp : Int := 0
  lastDie : Int := 0
  lastPause : Nat := 0
  /-- The centres applied last, in steps, of each parameter of the set, and as last written to a record (R409, R410). -/
  centre : List Int := []
  written : List Int := []
  scrub : Scrub := {}
  test : List TestWord := []
  errs : List (Nat × Nat) := []
  /-- Cause of its EV_DDR_STATE as it became FAILING (Table 13.11). -/
  cause : Nat := 0
  /-- Retirement: the MEM.RETIRE outstanding on it (R418). -/
  oid : Option Nat := none
  deriving DecidableEq, Repr

/-- Initialised 64 KiB granules of an extent (R399): mask of 4 and the channels that hold them. -/
structure Marks where
  extent : Nat
  mask : Nat
  channels : Nat
  deriving DecidableEq, Repr

/-- A MEM.FILL under way: its pattern and channels, the extent number it has reached, and the extents filled (R399). -/
structure FillJob where
  oid : Nat
  pattern : Word64
  channels : Nat
  next : Nat := 0
  done : Nat := 0
  deriving DecidableEq, Repr

/-- A full training under way (R413): of a MEM.TRAIN, or of a discarded record (R248). -/
structure TrainJob where
  oid : Option Nat
  chan : Nat
  rate : Nat
  deriving DecidableEq, Repr

/-- A CHK.SCAN, waiting or on an engine: its parameter words 2 to 9 and the spool object of a source 2 scan (R417). -/
structure ScanJob where
  oid : Nat
  words : List Word
  sid : Option Nat := none
  engine : Option Nat := none
  deriving DecidableEq, Repr

structure MemState where
  /-- Line store, correction store, source staging, camera frame store, control-core memory (Table 13.3). -/
  stores : List SramStore := [{ spares := 256 }, { spares := 64 }, { spares := 32 }, { spares := 16 }, { spares := 16 }]
  chans : List DdrChan := [{}, {}, {}, {}]
  marks : List Marks := []
  /-- Bytes of the DRAM spool written by MEM.FILL per extent: extent and pattern (R399). -/
  filled : List (Nat × Word64) := []
  fills : List FillJob := []
  train : Option TrainJob := none
  /-- Channels and rates whose discarded set is still to be trained (R248). -/
  trainDue : List (Nat × Nat) := []
  scans : List ScanJob := []
  /-- Scrub periods in s and h, ROW_LIMIT, log2 GRAIN, IDLE_CLOSE in ns, CE_LIMIT (R423). -/
  sramPeriod : Nat := 10
  dramPeriod : Nat := 24
  rowLimit : Nat := 4
  log2Grain : Nat := 12
  idleClose : Nat := 100
  ceLimit : Nat := 10000
  /-- A MEM.RATE has completed whose kind 3 records are still to be written: its rate (R423). -/
  rateDue : Option Nat := none
  deriving DecidableEq, Repr

end Sys2Proof.Machine
end

