-- ==== Sys2Proof/Machine/State/Motion.lean ====
section
/-! DEFINITION. Drive axes, motor buses and stepper axes (chapter "Drive and stepper axes", R361 to R393). -/

namespace Sys2Proof.Machine

/-- Drive axis states (Table 12.1). -/
inductive DrvSt where
  | off | disabled | aligning | run | asc | fault
  deriving DecidableEq, Repr

def DrvSt.code : DrvSt → Nat
  | .off => 0 | .disabled => 1 | .aligning => 2 | .run => 3 | .asc => 4 | .fault => 5

/-- AXIS.CONFIG (Table 12.4). -/
structure DrvCfg where
  input : Nat := 0
  bus : Nat := 0
  absolute : Bool := false
  busComp : Bool := false
  gateHigh : Bool := false
  fltHigh : Bool := false
  pp : Nat := 1
  cpr : Nat := 1
  fpwm : Nat := 8
  dt : Nat := 5
  twin : Nat := 5
  maxPred : Nat := 1
  exp : Int := 0
  oc : Nat := 32767
  idRef : Int := 0
  zeroSpd : Nat := 0
  ascSpd : Nat := 0
  sslot : Nat := 8
  stopTo : Nat := 10
  vnom : Nat := 0
  deriving DecidableEq, Repr

/-- The AXIS.START or AXIS.ALIGN that an alignment serves; an AXIS.START stays here until its ramp has begun. -/
structure AlignRun where
  alignI : Nat
  hold : Nat
  /-- Rooster time in ps at which the alignment began. -/
  began : Nat
  oid : Option Nat
  /-- ANG_OFF has been set (step 4). -/
  angSet : Bool := false
  /-- AXIS.START to go on with: target, ACC, DEC. -/
  start : Option (Int × Nat × Nat) := none
  deriving DecidableEq, Repr

/-- A ramp of an AXIS.START that waits (R375): for RAMP_DONE of the ramp before it, or for the transfer of its slot to automatic. -/
structure RampReq where
  onDone : Bool
  target : Int
  rate : Nat
  deriving DecidableEq, Repr

/-- A drive axis; reset R393. -/
structure Drive where
  st : DrvSt := .off
  cfg : DrvCfg := {}
  angOff : Nat := 0
  aligned : Bool := false
  /-- XM, modulo CPR (R364). -/
  xm : Nat := 0
  /-- Position of the input extended, its last raw count and sample time, when the count last changed, ps. -/
  x : Int := 0
  xTime : Nat := 0
  xChanged : Nat := 0
  /-- (X_j, t_j) of the last 9 PWM periods, newest first (R367). -/
  vel : List (Int × Nat) := []
  omega : Int := 0
  omegaValid : Bool := false
  /-- When ω was last delivered to Goose, ps (R379). -/
  omegaAt : Nat := 0
  /-- Duties in force. -/
  duty : Nat × Nat × Nat := (0, 0, 0)
  /-- Cause that EV_AXIS_STATE gave when the axis entered ASC. -/
  ascCause : Nat := 5
  /-- Sample index n and the last two measured samples: index, id, iq (R370). -/
  n : Nat := 0
  meas : List (Nat × Int × Int) := []
  measured : Nat := 0
  predicted : Nat := 0
  clamped : Bool := false
  trims : Int × Int × Int := (0, 0, 0)
  id : Int := 0
  iq : Int := 0
  /-- Integrators of the d and q laws. -/
  accD : Int := 0
  accQ : Int := 0
  /-- The q-current reference, Q15 (Table 11.6). -/
  iqRef : Int := 0
  align : Option AlignRun := none
  ramps : List RampReq := []
  /-- A samples of the calibration window of kind 4: sums and count (R373). -/
  calSums : Int × Int × Int := (0, 0, 0)
  calCount : Nat := 0
  /-- The first complete window's means. -/
  calFirst : Option (Int × Int × Int) := none
  advSpd : Nat := 65536
  adv : List Int := List.replicate 32 0
  advNext : Option (Nat × List Int) := none
  /-- Start of the present PWM period, ps. -/
  pwmAt : Nat := 0
  deriving DecidableEq, Repr

/-- A motor bus and its chopper (R377 to R380); reset R393. -/
structure MotorBus where
  configured : Bool := false
  gateHigh : Bool := false
  vbus : Nat := 0
  isns : Nat := 0
  vOn : Nat := 0
  vOff : Nat := 0
  vHard : Nat := 4095
  iMin : Nat := 0
  tDet : Nat := 5
  tFault : Nat := 50
  on : Bool := false
  /-- Times in ps since which the chopper is on, the current is below I_MIN, and the bus is above V_ON with its code then. -/
  onSince : Nat := 0
  lowSince : Option Nat := none
  highSince : Option (Nat × Nat) := none
  fault : Bool := false
  /-- Time of the newest sample, ps. -/
  sampledAt : Nat := 0
  deriving DecidableEq, Repr

/-- Stepper states (Table 12.4 STEP.STATUS). -/
inductive StepSt where
  | off | disabled | idle | moving | homing
  deriving DecidableEq, Repr

def StepSt.code : StepSt → Nat
  | .off => 0 | .disabled => 1 | .idle => 2 | .moving => 3 | .homing => 4

/-- STEP.CONFIG (Table 12.4). -/
structure StepCfg where
  bus : Nat := 0
  mres : Nat := 0
  rampP : Bool := false
  rampN : Bool := false
  active : Nat := 0
  spdHi : Nat := 0
  spdLo : Nat := 0
  ampQ : Int := 0
  ampS : Int := 0
  hold : Int := 0
  holdDelay : Nat := 0
  toff : Nat := 1
  spwm : Nat := 20
  deb : Nat := 1
  chatEdges : Nat := 2
  chatWin : Nat := 1
  decLim : Nat := 1
  deriving DecidableEq, Repr

/-- A switch input of a stepper: accepted level, the raw transition that began the present stable period (level, time in ps,
position), raw edges of the window (times in ps, newest first), chatter episode (R385, R386). -/
structure SwitchIn where
  level : Bool := false
  raw : Option (Bool × Nat × Nat) := none
  edges : List Nat := []
  chatter : Bool := false
  deriving DecidableEq, Repr

/-- Homing under way (Table 12.2): `step` is the step in progress, 3 until HOME is released and 7 while it backs off further. -/
structure Homing where
  oid : Nat
  step : Nat := 1
  neg : Bool
  fast : Nat
  creep : Nat
  backoff : Nat
  max : Nat
  homePos : Nat
  dec : Nat
  latched : Nat := 0
  /-- Microsteps travelled in the present step. -/
  travelled : Nat := 0
  deriving DecidableEq, Repr

/-- A stepper axis; reset R393. -/
structure Stepper where
  st : StepSt := .off
  cfg : StepCfg := {}
  /-- Position and target, 32 bits, class W. -/
  pos : Nat := 0
  target : Nat := 0
  /-- v², exact (R383), and the direction. -/
  v2 : Nat := 0
  dir : Int := 1
  mu : Nat := 0
  vmax : Nat := 0
  vstart : Nat := 0
  acc : Nat := 0
  dec : Nat := 0
  /-- TARGET, VMAX, ACC and DEC of a STEP.MOVE taken while moving, until the next microstep (R384). -/
  pend : Option (Nat × Nat × Nat × Nat) := none
  strong : Bool := false
  /-- The amplitude has fallen to HOLD (R382). -/
  held : Bool := false
  /-- The mode the step rate asks for, taken at the next full step (R382). -/
  wantStrong : Bool := false
  /-- Next microstep and the hold timeout, ps. -/
  nextAt : Option Nat := none
  holdAt : Option Nat := none
  switches : List SwitchIn := [{}, {}, {}]
  homing : Option Homing := none
  /-- De-energise after stopping (Table 12.4 STEP.STOP). -/
  deEnergise : Bool := false
  deriving DecidableEq, Repr

structure MotionState where
  drives : List Drive := List.replicate 8 {}
  buses : List MotorBus := [{}, {}]
  steppers : List Stepper := List.replicate 8 {}
  deriving DecidableEq, Repr

end Sys2Proof.Machine
end

