-- ==== Sys2Proof/Machine/State/Page.lean ====
section
/-! DEFINITION. Pages, page configuration, holds, waste gates and gap-only work
(chapter "The page commitment", R10 to R37). -/

namespace Sys2Proof.Machine

/-- Page states (Table 1.1). -/
inductive PageSt where
  | queued | spooled | admitted | active | exposed | done | withdrawn
  deriving DecidableEq, Repr

/-- The state code of Table 1.1. -/
def PageSt.code : PageSt → Nat
  | .queued => 0 | .spooled => 1 | .admitted => 2 | .active => 3 | .exposed => 4 | .done => 5 | .withdrawn => 6

/-- A page (R8, R10, R11, Table 1.7). -/
structure Page where
  /-- The model's own name of the page: the order of its creation, never reused. -/
  key : Nat
  /-- Page identifier chosen by the host (R8). -/
  id : Word
  st : PageSt := .queued
  /-- SPOILED and CHECK_SUSPECT (R11). -/
  spoiled : Bool := false
  suspect : Bool := false
  /-- CHECK_SUSPECT held while ADMITTED (R11). -/
  suspectHeld : Bool := false
  /-- First spoil reason, its station and station line number, and the reason mask (R28). -/
  firstReason : Nat := 0
  firstStation : Nat := 0
  firstLineNo : Nat := 0
  reasonMask : Nat := 0
  /-- Reasons held while ADMITTED, first to arise first (R11, R12). -/
  held : List Nat := []
  /-- Admission counter, 0 if never admitted (R8). -/
  admission : Nat := 0
  /-- Pre-verify before SPOOLED; check policy TRUST_CONSISTENT; plane mask (Table 1.7 PAGE.ANNOUNCE). -/
  preverify : Bool
  trust : Bool
  planes : Nat
  /-- Banks and program chosen in PAGE.ADMIT. -/
  geomBank : Nat := 0
  screenBank : Nat := 0
  program : Nat := 255
  /-- NEED of its program, as admitted (R347). -/
  need : Nat := 0
  /-- A start event has been accepted (R16). -/
  started : Bool := false
  /-- Start position per station: latched position plus offset_s, in counts (R16). -/
  startPos : List Int := []
  /-- Line index of the page's first line per station. -/
  first : List Int := []
  /-- Page phase per station, the fraction latched for the row split and the strobe phase. -/
  phase : List Nat := []
  /-- LINES of the page header, 0 before it is taken. -/
  lines : Nat := 0
  deriving DecidableEq, Repr

/-- PAGE.CONFIG (Table 1.7); reset R36. -/
structure PageConfig where
  web : Bool := false
  ref : Nat := 0
  wgHigh : Bool := true
  stations : Nat := 0
  wgEnable : Nat := 0
  needAuth : Bool := false
  refuseUncal : Bool := false
  offsets : List Nat := [0, 0, 0, 0, 0, 0]
  exits : List Nat := [0, 0, 0, 0, 0, 0]
  pitch : Nat := 0
  sheetLen : Nat := 0
  preMargin : Nat := 0
  postMargin : Nat := 0
  deriving DecidableEq, Repr

/-- The pending PAGE.GAP hold (R27). -/
structure Hold where
  lines : Nat
  common : Bool
  mask : Nat
  deriving DecidableEq, Repr

/-- The work of a gap-only item (Table 1.5). -/
inductive GapWork where
  /-- Head-link retraining of a lane (class 1). -/
  | retrain (lane : Nat)
  /-- Row-split pattern or stitch-mask change of a station (class 2). -/
  | mask (station : Nat)
  /-- SRAM row remap of a row of a store (class 3): store number and row. -/
  | remap (store row : Nat)
  /-- Firmware hand-over (class 4). -/
  | handover
  /-- DDR5 rate change to a rate index (class 5). -/
  | ddrRate (index : Nat)
  /-- DDR5 channel retirement (class 6). -/
  | retire (channel : Nat)
  deriving DecidableEq, Repr

/-- A gap-only item: pending or running (R24, R26). -/
structure GapItem where
  work : GapWork
  /-- Station mask of its scope, none for common scope. -/
  scope : Option Nat
  /-- The deferred command it completes, if one owns it. -/
  oid : Option Nat
  /-- Rooster time in ps at which EV_GAP_WANTED is next raised (R26). -/
  nextWanted : Nat
  deriving DecidableEq, Repr

/-- A running item with what EV_GAP_USED will report. -/
structure GapRun where
  item : GapItem
  /-- Remaining known extent of the gap when its first item started, 0xFFFF_FFFF when it had no known end. -/
  extent : Nat
  /-- Items of its scope that have completed in this gap before it. -/
  count : Nat := 0
  deriving DecidableEq, Repr

/-- A waste-gate output (R30, R31). -/
inductive WgOut where
  | highZ | inactive | active
  deriving DecidableEq, Repr

/-- A deferred PAGE.ADMIT (R25): the command's outstanding name and its words 2 and 3. -/
structure AdmitWait where
  oid : Nat
  id : Word
  word3 : Word
  deriving DecidableEq, Repr

structure PageState where
  /-- All pages, oldest first; of DONE and WITHDRAWN pages the newest 1,024 are kept (R34). -/
  pages : List Page := []
  nextKey : Nat := 0
  /-- The admission counter (R8, R37). -/
  admissions : Nat := 0
  cfg : PageConfig := {}
  /-- Web mode: origin of the pitch points and the index of the next (R19). -/
  webOrigin : Int := 0
  webNext : Nat := 1
  hold : Option Hold := none
  /-- The page that most recently became ACTIVE (R27), by its key. -/
  lastActive : Option Nat := none
  /-- Per station, the extended position at which that page became EXPOSED (R27). -/
  exposedPos : List Int := [0, 0, 0, 0, 0, 0]
  /-- Per station, the last line of the latest started page that uses it (R17, R27). -/
  lastLine : List (Option Int) := List.replicate 6 none
  /-- Per station, the end position in 1/65,536 count of the latest started page, kept through POS.TRACK (R183). -/
  prevEnd : List (Option Int) := List.replicate 6 none
  /-- Waste-gate windows per station, [from, to) in counts of the station's extended position (R30). -/
  wgWindows : List (List (Int × Int)) := List.replicate 6 []
  /-- WG_OUT[5:0] (R31). -/
  wgOut : List WgOut := List.replicate 6 .highZ
  /-- The engine die was lost: enabled waste gates are held active until PAGE.CONFIG (R465). -/
  wgForced : Bool := false
  /-- Pending gap-only items in the order they became pending (R24). -/
  gapPending : List GapItem := []
  gapRunning : List GapRun := []
  admitWaits : List AdmitWait := []
  deriving DecidableEq, Repr

end Sys2Proof.Machine
end

