-- ==== Sys2Proof/Machine/State/Pos.lean ====
section
/-! DEFINITION. Position inputs, line trackers, Rooster's reference, the line store, tile delays, masks and overrides
(chapter "Position tracking, line store and exposure timing", R172 to R203). -/

namespace Sys2Proof.Machine

/-- A position input (R172 to R174, Table 6.6 POS.INPUT); reset R203: off. -/
structure PosInput where
  mode : Nat := 0
  invert : Bool := false
  interp : Nat := 0
  nbits : Nat := 0
  gray : Bool := false
  ssiClk : Nat := 0
  ssiPeriod : Nat := 0
  rate : Nat := 0
  filter : Nat := 0
  /-- The signals at the last sample: levels of A and B, or the angle in 1/65,536 of a period; none taken since POS.INPUT; and the ps of
  Rooster time from which the next sample of modes 2 to 5 can be taken (Table 6.1). -/
  phase : Nat := 0
  fresh : Bool := true
  nextAt : Nat := 0
  /-- Raw count, 32 bits, class W. -/
  raw : Nat := 0
  /-- Raw count of the last sample used (R174). -/
  last : Nat := 0
  fault : Bool := false
  /-- Good samples in a row since the fault. -/
  good : Nat := 0
  /-- Mode 5: the count at a Rooster time in ps from which it runs (R172). -/
  c0 : Nat := 0
  t0 : Nat := 0
  deriving DecidableEq, Repr

/-- A station's line tracker (R175 to R180); reset R203. -/
structure Tracker where
  input : Nat := 0
  en : Bool := false
  jw : Nat := 3
  /-- CPL, 16.16. -/
  cpl : Nat := 0x10000
  stopTo : Nat := 1000
  /-- Extended position and HWM, read modulo 2^48 (class W). -/
  ext : Int := 0
  hwm : Int := 0
  origin : Int := 0
  /-- Index of the last boundary fired, −1 before the first since enabling. -/
  k : Int := -1
  stopped : Bool := false
  inExcursion : Bool := false
  /-- Newest HWM samples (position, ball time in ps), newest first, at most 64, since the estimate was last reset. -/
  samples : List (Int × Nat) := []
  /-- Times in ps of the newest boundaries, newest first, at most 65, and how many have fired since the estimate became valid. -/
  bTimes : List Nat := []
  bCount : Nat := 0
  /-- Time in ps of the newest boundary of all. -/
  lastB : Option Nat := none
  zPos : Int := 0
  deriving DecidableEq, Repr

/-- A slot-tile whose header is not at its default: check word, suppress flag (R188, R189). -/
structure SlotTile where
  tile : Nat
  line : Int
  chk : Nat := 0
  sup : Bool := false
  deriving DecidableEq, Repr

/-- Delay, latency and readout state of a tile (R184 to R189, R195). -/
structure TileDelay where
  rank : Int := 0
  rb : Int := 256
  /-- REG_HOST and REG_CAL (R184), and the live steps of each still to be applied (R185, R313). -/
  regHost : Int := 0
  hostDebt : Int := 0
  regCal : Int := 0
  calDebt : Int := 0
  /-- LAT_TRIM in units of 250 ps (R312). -/
  latTrim : Int := 0
  /-- A layer's remaining change met the tap limit and waits for the next split (R185): POS.DELAY's, calibration's. -/
  hostWait : Bool := false
  calWait : Bool := false
  ia : Int := -2
  ta : Nat := 128
  ib : Int := 2
  tb : Nat := 128
  /-- LAT in ps and the measurement it moves toward (R195). -/
  lat : Nat := 0
  latTarget : Nat := 0
  /-- LAT moves to a new LAT_TRIM (R312, R315). -/
  trimMoving : Bool := false
  /-- Last round trip in ps. -/
  rtt : Nat := 0
  /-- Image lines of the latest row A and row B reads (R189): the slot-tile header of slot n holds the least image line
  congruent to n modulo 256 above `lastB`. -/
  lastA : Int := -1
  lastB : Int := -1
  /-- Index of the next boundary whose strobe is not committed (R194). -/
  nextStrobe : Int := 0
  deriving DecidableEq, Repr

/-- A table in force from an image line on (R192). -/
structure MaskVer where
  fromLine : Int
  bytes : List Byte
  deriving DecidableEq, Repr

/-- An override code in force from an image line on (R193). -/
structure OverVer where
  fromLine : Int
  code : Nat
  deriving DecidableEq, Repr

/-- A mask load that waits for its station's gap (R192, R200). -/
structure MaskWait where
  station : Nat
  stitch : Bool
  bytes : List Byte
  oid : Nat
  deriving DecidableEq, Repr

structure PosState where
  inputs : List PosInput := List.replicate 8 {}
  trackers : List Tracker := List.replicate 6 {}
  /-- TIME.CONFIG reference is the external 10 MHz; Rooster is locked to it (R181). -/
  refExt : Bool := false
  locked : Bool := true
  delays : List TileDelay := List.replicate 96 {}
  /-- Tile, per station, whose POS.DELAY or calibration turn is next, and whether calibration has the next turn (R185, R313). -/
  hostTurn : List Nat := [0, 0, 0, 0, 0, 0]
  calTurn : List Nat := [0, 0, 0, 0, 0, 0]
  calNext : List Bool := List.replicate 6 true
  /-- Line store bytes that are not 0, keyed by the byte address of R62. -/
  store : List (Nat × Byte) := []
  slots : List SlotTile := []
  /-- Pattern tables and stitch masks per station other than the default, newest first (R191, R192, R203). -/
  pattern : List (List MaskVer) := List.replicate 6 []
  stitch : List (List MaskVer) := List.replicate 6 []
  maskWaits : List MaskWait := []
  /-- Override codes other than 0, keyed station × 65,536 + column, newest first (R193). -/
  overrides : List (Nat × List OverVer) := []
  /-- Queued override updates per station: column and code, oldest first (R193). -/
  overQueue : List (List (Nat × Nat)) := List.replicate 6 []
  deriving DecidableEq, Repr

end Sys2Proof.Machine
end

