-- ==== Sys2Proof/Machine/State/Sup.lean ====
section
/-! DEFINITION. Goose, engine die power and temperature
(chapter "Machine die supervisor, power and temperature", R424 to R452). -/

namespace Sys2Proof.Machine

/-- A record of Goose's log (Table 14.11 SUP.LOG). -/
structure LogRec where
  ms : Nat
  code : Nat
  powered : Bool
  detail : Nat
  deriving DecidableEq, Repr

/-- A SAFE_IN channel (R431). -/
structure SafeChan where
  high : Bool := true
  /-- The channel has been low since the trip under way (R431). -/
  wentLow : Bool := false
  deriving DecidableEq, Repr

/-- An HV interlock (R432). -/
structure HvIlk where
  /-- The input's level and its closed level. -/
  level : Bool := true
  closedHigh : Bool := true
  mask : Nat := 0
  deriving DecidableEq, Repr

/-- A fuser comparator's trip condition (R429, R346): beyond its threshold, or safe since a time in ps. -/
structure FuserCmp where
  beyond : Bool := false
  tripped : Bool := false
  safeSince : Nat := 0
  deriving DecidableEq, Repr

/-- A bus comparator's trip condition (R429): tripped, and the time in ps since which the bus has been below V_OFF. -/
structure BusCmp where
  tripped : Bool := false
  lowSince : Option Nat := none
  deriving DecidableEq, Repr

/-- Engine die power (R438 to R441). -/
inductive PwrPhase where
  | off
  /-- Powering up: waiting for PWR_PG of the rail. -/
  | up (rail : Nat)
  | on
  /-- Powering down: the next PWR_EN to release. -/
  | down (rail : Nat)
  deriving DecidableEq, Repr

/-- Why the engine die goes down (R438, R441, R444, R464). -/
inductive PwrDown where
  | loss | shut | standby | sequence
  deriving DecidableEq, Repr

/-- After the power-on reset with ENG_AUTO high the sequence is at its first step (Table 14.7): PWR_EN[0] is active. -/
structure PowerState where
  /-- The machine die is held in its power-on reset (Table 14.5). -/
  por : Bool := false
  /-- VIN_MACH has been below 5.4 V, or above 5.7 V during the reset, since this time in ps. -/
  vinSince : Option Nat := none
  /-- Rooster time in ps at which the power-on reset was last released. -/
  porAt : Nat := 0
  phase : PwrPhase := .up 0
  /-- PWR_EN[6:0], PWR_PG[6:0], and ENG_RST_OUT held active (R434). -/
  en : BitVec 7 := 1
  pg : BitVec 7 := 0
  engRst : Bool := true
  /-- Rooster time in ps at which the present step began (a rail was enabled or released). -/
  stepAt : Nat := 0
  /-- Why the die went down last, and when the power-down ended. -/
  why : PwrDown := .loss
  offAt : Nat := 0
  /-- Automatic restarts of the last hour, times in ps, newest first (R441). -/
  restarts : List Nat := []
  /-- The power cycles reported in SUP.STATUS. -/
  cycles : Nat := 0
  deriving DecidableEq, Repr

/-- A die temperature sensor (R442, R443), 1/16 °C. -/
structure TempSensor where
  value : Int := 0
  excluded : Bool := false
  good : Nat := 0
  deriving DecidableEq, Repr

/-- A die's temperature state (R442 to R444). -/
structure DieTherm where
  sensors : List TempSensor
  /-- Rooster time in ps of the newest samples. -/
  at_ : Nat := 0
  warnC : Nat := 110
  critC : Nat := 125
  /-- WARN has been entered; consecutive samples at or above T_CRIT; TEMP_CRIT persists. -/
  warn : Bool := false
  critRun : Nat := 0
  crit : Bool := false
  /-- Event detail 2 of EV_THERM_SENSOR has been raised (R443). -/
  manyRaised : Bool := false
  deriving DecidableEq, Repr

structure SupState where
  /-- The safe state holds (R428). -/
  safe : Bool := false
  /-- Causes since the last clear, bit n = code n. -/
  latched : BitVec 16 := 0
  firstCause : Nat := 0
  firstDetail : Nat := 0
  /-- Rooster time in ps of the last trip and whether there was one; trips since power-on. -/
  tripAt : Option Nat := none
  trips : Nat := 0
  /-- EV_SUP_TRIP is still to be raised (firmware not READY, or the SAFE_IN detail is not fixed). -/
  tripDue : Bool := false
  /-- Stations whose next line boundary spoils their pages (Table 14.3). -/
  spoilDue : BitVec 6 := 0
  /-- The next loop tick sends every transfer loop to manual (Table 14.3). -/
  loopsDue : Bool := false
  safeIn : List SafeChan := [{}, {}]
  /-- Time in ps at which the first channel went low; the detail is not fixed yet (R431). -/
  safeLowAt : Option Nat := none
  /-- Detail 2 was fixed and both channels have not been low together since (R429). -/
  needBothLow : Bool := false
  /-- Both channels have been healthy together since this time in ps. -/
  bothHigh : Nat := 0
  ilks : List HvIlk := [{}, {}, {}, {}]
  fuser : List FuserCmp := [{}, {}, {}, {}]
  busCmp : List BusCmp := [{}, {}]
  /-- Enables of causes 5, 6, 7, 8 and 10 (R452). -/
  enables : BitVec 16 := 0x100
  /-- Rooster time in ps of the newest VIN_MACH sample. -/
  vinAt : Nat := 0
  /-- VIN_MACH, 20 mV, newest sample; VIN_WARN; below it with hysteresis; above 52 V since a time in ps, and reported. -/
  vin : Nat := 1200
  vinWarn : Nat := 300
  vinLow : Bool := false
  overSince : Option Nat := none
  overReported : Bool := false
  wdPeriod : Nat := 100
  /-- Rooster time in ps of the firmware's last kick of Goose (R425). -/
  kick : Nat := 0
  autoRestart : Bool := false
  /-- Safe actions other than 0, keyed group × 128 + index (R435). -/
  actions : List (Nat × Nat) := []
  power : PowerState := {}
  /-- Goose's log, newest first, at most 64, and the records new since the last READY. -/
  log : List LogRec := []
  logNew : Nat := 0
  /-- Engine die (72) and machine die (8). -/
  engine : DieTherm := { sensors := List.replicate 72 {} }
  machine : DieTherm := { sensors := List.replicate 8 {} }
  thrC : Nat := 100
  /-- Throttle level L, and since when it has been above 0, ps (R445). -/
  level : Nat := 0
  levelSince : Nat := 0
  marginT : Nat := 10
  kth : Nat := 350
  pBase : Nat := 140
  pSt : Nat := 100
  deriving DecidableEq, Repr

end Sys2Proof.Machine
end

