-- ==== Sys2Proof/Machine/State/Tile.lean ====
section
/-! DEFINITION. Tiles, persistent records, tile power and consumables
(chapter "Tiles, consumables and their records", R243 to R270). -/

namespace Sys2Proof.Machine

/-- The factory header fields the device uses (Table 8.2). -/
structure FactoryHdr where
  gen : Nat
  rev : Nat
  serial : Nat
  rank : Int
  rb : Nat
  turnaround : Nat
  fireLat : Nat
  asym : Int
  limit : Int
  xoff : Nat
  xscale : Nat
  skew : Nat
  bow : Nat
  deriving DecidableEq, Repr

/-- Content of a persistent record (Table 8.5, Table 8.6). -/
inductive RecBody where
  | user (regCal : Int) (devPeak tilePeak : Nat) (entries : List Nat)
  /-- Curves of the tile's columns other than neutral. -/
  | tone (curves : List (Nat × List Nat))
  /-- A DDR5 training set: its centres, internal. -/
  | training (centre : List Int)
  | count (confirmed pending : Nat)
  deriving DecidableEq, Repr

/-- One copy of a persistent record (Table 8.4, R247). -/
structure RecCopy where
  kind : Nat
  /-- Where the copy is held: the LOCATION of the object it is held for. -/
  place : Nat
  /-- The LOCATION its header names. -/
  location : Nat
  copy : Nat
  /-- Held in the tile's memory, not in device flash (Table 8.5). -/
  tileMem : Bool := false
  /-- KIND, VER, LENGTH and CRC are right (R246). -/
  sound : Bool := true
  objSerial : Nat
  devSerial : Nat
  objGen : Nat
  recGen : Nat
  body : RecBody
  deriving DecidableEq, Repr

/-- A tile's state on its lane (R244, R248, R250 to R254). -/
structure Tile where
  hdr : Option FactoryHdr := none
  factoryFail : Bool := false
  /-- Factory and user dead and weak entries (R245). -/
  dw : List Nat := []
  uw : List Nat := []
  /-- SERIAL and FACTORY_REV last seen since power-on (R250). -/
  ident : Option (Nat × Nat) := none
  uncal : Bool := true
  /-- Live calibration has passed uniformity, registration (R248). -/
  uniOk : Bool := false
  regOk : Bool := false
  /-- Cut hold: 0 none, 1 from the next boundary, 2 in force, 3 ends at the next boundary (R254). -/
  hold : Nat := 0
  /-- A cut episode is under way (R254). -/
  cutting : Bool := false
  warn : Bool := false
  hot : Bool := false
  limit : Bool := false
  temp : Int := 0
  tempMax : Int := 0
  alarm : Nat := 0
  /-- Boundaries until the last override of a new identity is applied, and the image line from which its codes hold: frames that carry
  an earlier line carry both SUP flags (R251). -/
  owed : Nat := 0
  codesFrom : Option Int := none
  /-- The thresholds are to be written to the tile at its next management opportunity (R267). -/
  thrDue : Bool := false
  deriving DecidableEq, Repr

/-- A record to be written: kind and LOCATION (R249). -/
structure RecDirty where
  kind : Nat
  location : Nat
  deriving DecidableEq, Repr

/-- Slot states (Table 8.10). -/
inductive ConsSt where
  | empty | present | authenticated | exhausted | failed
  deriving DecidableEq, Repr

def ConsSt.code : ConsSt → Nat
  | .empty => 0 | .present => 1 | .authenticated => 2 | .exhausted => 3 | .failed => 4

/-- A request to a chip whose response is awaited (Table 8.9). -/
inductive ConsReq where
  | none
  | cert
  | challenge (nonce : Nat)
  | increment (nonce delta : Nat)
  deriving DecidableEq, Repr

/-- A consumable slot (R258 to R264). -/
structure ConsSlot where
  st : ConsSt := .empty
  stations : Nat := 0
  byLines : Bool := false
  div : Nat := 1
  acc : Nat := 0
  pending : Nat := 0
  /-- The slot's kind 4 record has been read since reset (R264, R270). -/
  recRead : Bool := false
  /-- UID last authenticated in the slot (R264). -/
  authUid : Option Nat := none
  uid : Nat := 0
  kind : Nat := 0
  keyIdx : Nat := 0
  max : Nat := 0
  confirmed : Nat := 0
  pubKey : Nat × Nat := (0, 0)
  req : ConsReq := .none
  /-- Authentication is wanted once the request under way has ended. -/
  authDue : Bool := false
  /-- Busy reads of the present response, bad CRCs of it, bus errors in a row, failed polls in a row. -/
  busy : Nat := 0
  crcBad : Nat := 0
  busErrs : Nat := 0
  misses : Nat := 0
  /-- A busy chip is read again at this time in ps. -/
  retryAt : Option Nat := none
  /-- Authentication runs again at this time in ps. -/
  authAt : Nat := 0
  deriving DecidableEq, Repr

/-- A CONS.AUTH under way: slots not settled, slots that passed, the worst status so far (R266, R267). -/
structure AuthCmd where
  oid : Nat
  left : Nat
  passed : Nat := 0
  status : Nat := 0
  deriving DecidableEq, Repr

/-- A station's tile power sideband (R256, R257). -/
structure TileSideband where
  driven : Bool := false
  on : Bool := false
  activeHigh : Bool := false
  /-- POWER_DELAY ends at this time in ps. -/
  delayEnd : Option Nat := none
  deriving DecidableEq, Repr

structure TileState where
  tiles : List Tile := List.replicate 96 {}
  /-- WARN_MARGIN, HOT_MARGIN, HYST per station (R270). -/
  margins : List (Nat × Nat × Nat) := List.replicate 6 (160, 80, 48)
  tsb : List TileSideband := List.replicate 6 {}
  /-- Record copies held in device flash, and those of tile memory as last read or written. -/
  recs : List RecCopy := []
  dirty : List RecDirty := []
  /-- Records discarded by REC.DISCARD and not written since: a copy read again is not valid (R248, R267). -/
  discarded : List RecDirty := []
  /-- Rooster time in ps of the last write of a record, keyed kind × 65,536 + LOCATION (R249). -/
  lastWrite : List (Nat × Nat) := []
  slots : List ConsSlot := List.replicate 32 {}
  nextPoll : Nat := 250000000000
  auths : List AuthCmd := []
  /-- OTP: ROOT[0..3] as points and MASTER (R260). -/
  roots : List (Option (Nat × Nat)) := [none, none, none, none]
  master : Option (List Byte) := none
  deriving DecidableEq, Repr

end Sys2Proof.Machine
end

