-- ==== Sys2Proof/Machine/State.lean ====
section
/-! DEFINITION. The whole state of the block, the state after a power-on reset, and the reasons a step can stop. -/

namespace Sys2Proof.Machine

/-- What the block has sent or driven that no register of it shows, newest first in `State.out` (the model's own log). -/
inductive Out where
  /-- The value a host read returned. -/
  | read (v : Word)
  /-- An MSI-X message of a vector (Table 2.9). -/
  | msix (vector : Nat)
  /-- A block of a lane's downlink (R207): its number, an ordered set or data, and its 64 payload bits as scrambled. -/
  | block (lane n : Nat) (ordered : Bool) (payload : Nat)
  /-- A line frame, legacy or standard (Table 7.4), and the strobe of a boundary: its block and phase. -/
  | frame (lane : Nat) (bytes : List Byte)
  | strobe (lane : Nat) (k : Int) (block phase : Nat)
  /-- A management frame, a probe by its identifier, and a PRBS slot. -/
  | mgmt (lane : Nat) (bytes : List Byte)
  | probe (lane id : Nat)
  | prbs (lane : Nat) (bytes : List Byte)
  /-- Line bits of a raw pattern of a lane in TEST (R481). -/
  | rawBits (lane : Nat) (bits : List Bool)
  /-- Bytes written to a consumable chip: its bus and 7-bit address (R258); and to a sensor bus. -/
  | cons (bus addr : Nat) (bytes : List Byte)
  | i2c (bus : Nat) (bytes : List Byte)
  /-- A Mule data read request (R109): channel, address, bytes, and the relaxed-ordering attribute (Table 2.1). -/
  | dmaRead (ch addr len : Nat) (relaxed : Bool)
  /-- The clock of an SSI frame of a position input, with its bits, or a resolver's excitation: Hz (Table 6.1). -/
  | posDrive (input hz bits : Nat)
  /-- A camera trigger pulse: time and width in ps. -/
  | camPulse (trig time width : Nat)
  /-- The gate pulse of a fired half-cycle: its start and width in ps (R343); and a microstep: axis, position, and the current
  commands of phases A and B. -/
  | fire (zone time width : Nat)
  | step (axis pos : Nat) (ia ib : Int)
  deriving DecidableEq, Repr

/-- A TILE.MEM that is being executed: its slot stays ACTIVE until the tile answers (R267). -/
structure ActiveCmd where
  slot : Nat
  lane : Nat
  write : Bool
  deriving DecidableEq, Repr

/-- The state of the IG-6400. -/
structure State where
  /-- Rooster time in ps (R181); TIME fields hold it in ns. -/
  now : Nat := 0
  /-- The commands that wait, first in, first out (the model's own). -/
  pending : List Instr := []
  host : HostState := {}
  ctr : CtrState := {}
  test : TestState := {}
  page : PageState := {}
  spool : SpoolState := {}
  exp : ExpState := {}
  pos : PosState := {}
  link : LinkState := {}
  tile : TileState := {}
  cam : CamState := {}
  cal : CalState := {}
  loop : LoopState := {}
  motion : MotionState := {}
  mem : MemState := {}
  sup : SupState := {}
  fw : FwState := {}
  board : Board := {}
  /-- The immediate command that is ACTIVE beyond its step, if one is. -/
  active : Option ActiveCmd := none
  /-- Host memory as the device reads and writes it (the environment's). -/
  hostMem : Bytes := []
  /-- Host address ranges [from, to) whose reads end in an error (the environment's). -/
  hostBad : List (Nat × Nat) := []
  out : List Out := []
  /-- Index of the next free value (the model's own). -/
  free : Nat := 0
  deriving DecidableEq, Repr

/-- The ways a step can stop: none. Every command of the table has an effect on every state, so no step raises a
fault; the type is empty. -/
inductive Fault where
  deriving DecidableEq, Repr

/-- Why a command has no meaning in this model. -/
inductive Refusal where
  /-- Raised by an arm of `exec` whose command the model does not give a meaning to; safe, since nothing is claimed of it. -/
  | notModelled (mnemonic : String)
  deriving DecidableEq, Repr

/-- The machine at the end of its power-on reset, nothing sent to it yet. -/
def State.reset : State := {}

end Sys2Proof.Machine
end

