-- ==== Sys2Proof/Machine/Ops.lean ====
section
/-! DEFINITION. The named operations every command shares: power and bus conditions, time, MSI-X, the event ring and
its backlog (R54 to R60, R511), host memory, free values. -/

namespace Sys2Proof.Machine

/-- The engine die is powered and out of reset (R438). -/
def engOn (s : State) : Bool := s.sup.power.phase == .on && !s.sup.power.engRst

/-- The machine die runs (Table 14.5). -/
def macOn (s : State) : Bool := !s.sup.power.por

/-- BAR accesses are decoded: link up, function in D0, Memory Space Enable set (R40, R511, Table 2.2). -/
def barOn (s : State) : Bool := engOn s && s.host.linkUp && !s.host.d3hot && s.host.pci.memSpace

/-- Firmware is READY on a powered engine die. -/
def fwReady (s : State) : Bool := engOn s && s.fw.st == .ready

/-- The state, if the condition holds; else the state as it was. -/
def when (c : Bool) (f : State → State) (s : State) : State := if c then f s else s

/-- Rooster time never steps back (R181): the clock moves to `t` ps if that lies ahead. -/
def atTime (t : Nat) (s : State) : State := { s with now := Nat.max s.now t }

/-- Rooster time in ns (R181). -/
def nowNs (s : State) : Nat := s.now / 1000

/-- Adds to the output log. -/
def emit (o : Out) (s : State) : State := { s with out := o :: s.out }

/-- Draws a free natural number: the value is `Config.freeNat` of the returned index. -/
def drawNat (s : State) : State × Nat := ({ s with free := s.free + 1 }, Config.freeNat s.free)

/-- Draws a free integer. -/
def drawInt (s : State) : State × Int := ({ s with free := s.free + 1 }, Config.freeInt s.free)

/-- The parts of the state that events, interrupts and responses write. -/
structure Sink where
  host : HostState
  ctr : CtrState
  mem : Bytes
  out : List Out

/-- What they read besides: Rooster time in ps, firmware READY, engine die on. -/
structure SinkEnv where
  now : Nat
  ready : Bool
  eng : Bool

def sinkOf (s : State) : Sink := { host := s.host, ctr := s.ctr, mem := s.hostMem, out := s.out }

def envOf (s : State) : SinkEnv := { now := s.now, ready := fwReady s, eng := engOn s }

/-- Writes the sink back. -/
def withSink (s : State) (k : Sink) : State := { s with host := k.host, ctr := k.ctr, hostMem := k.mem, out := k.out }

/-- The device can send memory writes (R511). -/
def reachable (e : SinkEnv) (h : HostState) : Bool := e.eng && h.linkUp && !h.d3hot && h.pci.busMaster

/-- 4-byte word `i` of the MSI-X table. -/
def msixWord (h : HostState) (i : Nat) : Word := h.msix.getD i 0

/-- Signals MSI-X vector `v` (Table 2.9): the message goes out, or its pending bit is set while the vector is masked
or the message cannot be sent. -/
def sinkMsix (e : SinkEnv) (v : Nat) (k : Sink) : Sink :=
  if !k.host.pci.msixEn then k
  else if msixWord k.host (4 * v + 3) &&& 1 = 0 ∧ reachable e k.host then { k with out := .msix v :: k.out }
  else { k with host := { k.host with pba := k.host.pba ||| (1#64 <<< v) } }

/-- Sets an INT_STATUS bit and signals its vector where INT_EN enables it (R59). -/
def sinkInt (e : SinkEnv) (n : Nat) (k : Sink) : Sink :=
  let k := { k with host := { k.host with intStatus := k.host.intStatus ||| (1#4 <<< n) } }
  if k.host.intEn.getLsbD n then sinkMsix e n k else k

/-- Ring size N (R55); LOG2_SIZE outside 6 to 16 is taken as 6 (Table 2.10). -/
def ringSize (h : HostState) : Nat :=
  let n := h.log2Size.toNat
  if 6 ≤ n ∧ n ≤ 16 then 2 ^ n else 64

/-- Records between the producer and the consumer index (R9, R55). -/
def ringUsed (h : HostState) : Nat := (h.evrWrite - h.evrRead).toNat

/-- A record can be written now: ring enabled and reachable, room left, firmware READY (R55, R57, R456, R511). -/
def ringOpen (e : SinkEnv) (h : HostState) : Bool :=
  h.evrEn && reachable e h && e.ready && decide (ringUsed h < ringSize h)

/-- Whether an event is urgent (Table 16.3), by its code and detail words. -/
def urgent (r : EventRec) : Bool :=
  let c := r.code.toNat
  let d0 := r.d0.toNat
  if c = 0x0102 ∨ c = 0x0202 ∨ c = 0x0406 ∨ c = 0x0501 ∨ c = 0x0703 ∨ c = 0x0A06 ∨ c = 0x0B02 ∨ c = 0x0C02
      ∨ c = 0x0C05 ∨ c = 0x0D01 then true
  else if c = 0x0601 then d0 = 7 ∨ d0 = 8 ∨ d0 = 9
  else if c = 0x0A03 then bitOf r.d2.toNat 0
  else if c = 0x0B01 then d0 = 4 ∨ d0 = 5
  else if c = 0x0D04 then d0 = 0
  else if c = 0x0E01 then r.d1.toNat = 4
  else false

/-- The 32 bytes of an event record (Table 2.12). -/
def eventBytes (r : EventRec) : List Byte :=
  leBytes 8 r.time.toNat ++ leBytes 2 r.code.toNat ++ leBytes 2 r.source.toNat ++ leBytes 4 r.pageId.toNat
    ++ leBytes 4 r.line.toNat ++ leBytes 4 r.d0.toNat ++ leBytes 4 r.d1.toNat ++ leBytes 4 r.d2.toNat

/-- Address of the ring record of the present producer index (R55). -/
def ringAddr (h : HostState) : Nat :=
  h.evrBaseHi.toNat * 2 ^ 32 + h.evrBaseLo.toNat + h.evrWrite.toNat % ringSize h * 32

/-- Moderation of vector 1 (R59) after one more record. -/
def moderate (e : SinkEnv) (k : Sink) : Sink :=
  let h := { k.host with unsignalled := k.host.unsignalled + 1,
                         firstUnsignalled := some (k.host.firstUnsignalled.getD e.now) }
  if Nat.max 1 h.modCount.toNat ≤ h.unsignalled then
    sinkInt e 1 { k with host := { h with unsignalled := 0, firstUnsignalled := none } }
  else { k with host := h }

/-- Writes a record into the ring: bytes, EVR_WRITE, shadow, urgent signal, moderation (R55, R59). -/
def ringWrite (e : SinkEnv) (r : EventRec) (k : Sink) : Sink :=
  let m := memWrite k.mem (ringAddr k.host) (eventBytes r)
  let h := { k.host with evrWrite := k.host.evrWrite + 1 }
  let m := if h.shadowEn then memWrite m (h.shadowHi.toNat * 2 ^ 32 + h.shadowLo.toNat) (leBytes 4 h.evrWrite.toNat) else m
  let k := { k with host := h, mem := m }
  let k := if urgent r then sinkInt e 2 k else k
  moderate e k

/-- The limit of the event backlog (R57). -/
def backlogMax : Nat := 1024

/-- An event enters the backlog, or is lost and counted in EVR_LOST, counter 0x0102 (R57); FULL and vector 3 tell. -/
def backlogPush (e : SinkEnv) (r : EventRec) (k : Sink) : Sink :=
  let h := k.host
  let k :=
    if h.backlog.length < backlogMax then { k with host := { h with backlog := h.backlog ++ [r] } }
    else
      let key := 0x0102 * 65536
      { k with host := { h with lostSince := h.lostSince + 1, lostCode := if h.lostSince = 0 then r.code else h.lostCode },
               ctr := {
                 vals := natSet k.ctr.vals key (satAdd 32 (natGet k.ctr.vals key) 1)
                 sat := if 2 ^ 32 ≤ natGet k.ctr.vals key + 1 ∧ ¬ k.ctr.sat.contains key then key :: k.ctr.sat else k.ctr.sat } }
  sinkInt e 3 k

/-- Raises an event (R57, R58): into the ring, or into the backlog behind those that wait. -/
def sinkRaise (e : SinkEnv) (r : EventRec) (k : Sink) : Sink :=
  if !e.eng then k
  else
    let k := { k with host := { k.host with lastTime := Nat.max k.host.lastTime r.time.toNat } }
    if ringOpen e k.host && k.host.backlog.isEmpty then ringWrite e r k else backlogPush e r k

/-- EV_EVENTS_LOST, owed once events have been lost (Table 2.17). Its TIME is that at which space returned (DESIGN CHOICE, log entry 82). -/
def lostRec (e : SinkEnv) (h : HostState) : EventRec :=
  { time := BitVec.ofNat 64 (e.now / 1000), code := 0x0102, source := 0xFFFF, pageId := 0, line := 0,
    d0 := BitVec.ofNat 32 h.lostSince, d1 := h.lostCode.setWidth 32, d2 := 0 }

/-- One record leaves the backlog for the ring. Space has then returned after a loss, so EV_EVENTS_LOST takes the
place behind the records that were raised before it (R57). -/
def drainOne (e : SinkEnv) (k : Sink) : Option Sink :=
  match k.host.backlog with
  | [] => none
  | r :: t =>
    if ringOpen e k.host then
      let k := ringWrite e r { k with host := { k.host with backlog := t } }
      if k.host.lostSince = 0 then some k
      else some { k with host := { k.host with
        backlog := k.host.backlog ++ [lostRec e k.host], lostSince := 0, lostCode := 0,
        lastTime := Nat.max k.host.lastTime (e.now / 1000) } }
    else none

/-- Drains the backlog into the ring, in order, while there is room (R57). -/
def sinkDrain (e : SinkEnv) (k : Sink) : Sink := iterate (drainOne e) (backlogMax + 1) k

/-- Drains the backlog of a state. -/
def drain (s : State) : State := withSink s (sinkDrain (envOf s) (sinkOf s))

/-- Raises an event with its fields as numbers; TIME is Rooster time in ns (R58, R60). -/
def raiseAt (t code source pageId line d0 d1 d2 : Nat) (s : State) : State :=
  withSink s (sinkRaise (envOf s)
    { time := BitVec.ofNat 64 (t / 1000), code := BitVec.ofNat 16 code, source := BitVec.ofNat 16 source,
      pageId := BitVec.ofNat 32 pageId, line := BitVec.ofNat 32 line,
      d0 := BitVec.ofNat 32 d0, d1 := BitVec.ofNat 32 d1, d2 := BitVec.ofNat 32 d2 } (sinkOf s))

/-- Raises an event for a condition detected at `t` ps, but never with a TIME before that of the newest record (R58; DESIGN CHOICE,
log entry 82). -/
def raiseSince (t code source pageId line d0 d1 d2 : Nat) (s : State) : State :=
  raiseAt (Nat.max t (1000 * s.host.lastTime)) code source pageId line d0 d1 d2 s

/-- Raises an event at the present time. -/
def raise (code source pageId line d0 d1 d2 : Nat) (s : State) : State :=
  raiseAt s.now code source pageId line d0 d1 d2 s

/-- SOURCE of an event of the device as a whole (R60). -/
def dev : Nat := 0xFFFF

/-- The low 32 bits of an integer, two's complement. -/
def w32 (i : Int) : Nat := unsig i 32

/-- Signals an MSI-X vector of a Mule channel. -/
def msix (v : Nat) (s : State) : State := withSink s (sinkMsix (envOf s) v (sinkOf s))

/-- The address range [a, a + n) holds no address whose reads end in an error. -/
def hostOk (s : State) (a n : Nat) : Bool := s.hostBad.all (fun r => decide (a + n ≤ r.1 ∨ r.2 ≤ a))

/-- The device can read and write host memory now (R511). -/
def hostUp (s : State) : Bool := reachable (envOf s) s.host

/-- Reads host memory; `none` on a host memory error. -/
def hostRead (s : State) (a n : Nat) : Option (List Byte) :=
  if hostUp s && hostOk s a n then some (memRead s.hostMem a n) else none

/-- Writes host memory where the device can send it; the flag says whether it could (R511). -/
def hostWrite (a : Nat) (bs : List Byte) (s : State) : State × Bool :=
  if hostUp s then ({ s with hostMem := memWrite s.hostMem a bs }, true) else (s, false)

end Sys2Proof.Machine
end

