-- ==== Sys2Proof/Machine/Counters.lean ====
section
/-! DEFINITION. The counters of the device: identifiers, widths, classes and instances (R472 to R478, Table 16.2). -/

namespace Sys2Proof.Machine

/-- Counter classes (Table 16.1), by their code in CTR.READ. -/
inductive CtrClass where
  | w | s | m | t
  deriving DecidableEq, Repr

def CtrClass.code : CtrClass → Nat
  | .w => 0 | .s => 1 | .m => 2 | .t => 3

/-- What a counter is kept per (R477). -/
inductive CtrPer where
  /-- Instances `lo` to `hi`. -/
  | range (lo hi : Nat)
  /-- X below `n`, Y from `lo` to `hi`. -/
  | both (n lo hi : Nat)
  /-- SRAM stores 0 to 4 and channels 8 to 11, as MEM.STATUS numbers them. -/
  | memory
  /-- Calibration kinds and their subjects: 96 tiles, or 6 stations, or 8 axes. -/
  | calib
  deriving DecidableEq, Repr

structure CtrDesc where
  width : Nat
  cls : CtrClass
  per : CtrPer
  deriving DecidableEq, Repr

/-- Subjects of a calibration kind (R314). -/
def calSubjects (kind : Nat) : Nat := if kind = 4 then 8 else 6

/-- Whether a number is an instance of the counter (R477). -/
def ctrInst (p : CtrPer) (i : Nat) : Bool :=
  match p with
  | .range lo hi => decide (lo ≤ i ∧ i ≤ hi)
  | .both n lo hi => decide (i % 256 < n ∧ lo ≤ i / 256 ∧ i / 256 ≤ hi)
  | .memory => decide (i ≤ 4 ∨ (8 ≤ i ∧ i ≤ 11))
  | .calib => decide (i % 256 ≤ 4 ∧ i / 256 < calSubjects (i % 256))

def ctrS (p : CtrPer) : CtrDesc := { width := 32, cls := .s, per := p }
def ctrW (w : Nat) (p : CtrPer) : CtrDesc := { width := w, cls := .w, per := p }
def ctrDev : CtrPer := .range 0 0
def ctrN (n : Nat) : CtrPer := .range 0 (n - 1)

/-- The counters of each subsystem in the order of their tables (Table 16.2). -/
def ctrTable (sub : Nat) : List CtrDesc :=
  match sub with
  | 0x01 => [ctrW 32 ctrDev, ctrS ctrDev, ctrS ctrDev]
  | 0x02 => [ctrW 64 ctrDev, ctrS ctrDev, ctrS ctrDev, ctrS ctrDev, ctrS ctrDev]
  | 0x03 => [ctrS ctrDev, ctrS ctrDev, ctrS ctrDev, ctrS ctrDev]
  | 0x04 => [ctrW 64 (ctrN 28), ctrS (.range 1 10), ctrS ctrDev, ctrS (ctrN 28), ctrS ctrDev, ctrS ctrDev, ctrS ctrDev,
             ctrS ctrDev, ctrS ctrDev]
  | 0x05 => [ctrW 32 (ctrN 6), ctrW 48 (.both 6 0 1), ctrS (ctrN 6), ctrS (ctrN 6), ctrS (ctrN 6), ctrS (ctrN 8),
             ctrS (ctrN 6), ctrS (ctrN 96), ctrS (ctrN 96), ctrS (ctrN 96)]
  | 0x06 => [ctrW 64 (.both 96 0 1), ctrS (.both 96 0 1), ctrW 64 (ctrN 96), ctrS (ctrN 96), ctrS (.both 96 2 7),
             ctrS (ctrN 96), ctrS (ctrN 96), ctrS (ctrN 96), ctrS (ctrN 96), ctrS (ctrN 96), ctrW 64 (ctrN 96), ctrS (ctrN 96)]
  | 0x07 => [{ width := 32, cls := .m, per := ctrN 32 }, ctrS (ctrN 96), ctrS (ctrN 96), ctrS (.range 1 4), ctrS (ctrN 32),
             ctrS (ctrN 32), ctrS (ctrN 32), ctrS (ctrN 4)]
  | 0x08 => [ctrW 32 (ctrN 4), ctrS (ctrN 4), ctrS (ctrN 4), ctrS (ctrN 4), ctrS (ctrN 4), ctrS (ctrN 4), ctrS (ctrN 4),
             ctrS (ctrN 4), ctrS (ctrN 4)]
  | 0x09 => [ctrS .calib, ctrS .calib, ctrS (.range 1 4), ctrS ctrDev, ctrS (ctrN 6), ctrW 64 (ctrN 6), ctrS (ctrN 6),
             ctrS (ctrN 96)]
  | 0x0A => [ctrW 64 (ctrN 64), ctrS (ctrN 64), ctrS (ctrN 64), ctrS ctrDev, ctrS (ctrN 8), ctrS (ctrN 24), ctrS (ctrN 24),
             ctrS (ctrN 24), ctrS (ctrN 16), ctrW 64 (ctrN 4), ctrS ctrDev, ctrS ctrDev]
  | 0x0B => [ctrW 24 (ctrN 8), ctrW 32 (ctrN 8), ctrS (ctrN 8), ctrS (ctrN 8), ctrS (ctrN 8), ctrS (ctrN 8), ctrW 64 (ctrN 2),
             ctrS (ctrN 2), ctrS (ctrN 8), ctrS (ctrN 24), ctrS (ctrN 8)]
  | 0x0C => [ctrS .memory, ctrS .memory, ctrS (ctrN 5), ctrS (ctrN 5), ctrS .memory, ctrS (.range 8 11), ctrS (.range 8 11),
             ctrS ctrDev, ctrS ctrDev, ctrS (ctrN 2)]
  | 0x0D => [ctrS (.range 1 11), ctrS ctrDev, ctrS (ctrN 7), ctrS (.both 1 0 1), ctrS ctrDev, ctrS (ctrN 4), ctrS (ctrN 80),
             ctrW 64 ctrDev]
  | 0x0E => [ctrS (ctrN 2), ctrS ctrDev, ctrS ctrDev, ctrS ctrDev, ctrS ctrDev, ctrS ctrDev]
  | 0x0F => [ctrS (ctrN 4), ctrW 64 (ctrN 96), ctrS (ctrN 96), ctrS (ctrN 96), ctrS (.both 1 0 1), ctrS (.both 1 0 1),
             ctrS (.both 1 0 1), ctrS ctrDev]
  | _ => []

/-- Numbers 16 to 21 of subsystem 0x03 (Table 4.11). -/
def ctrTable0316 : List CtrDesc := [ctrW 64 (ctrN 16), ctrS (ctrN 16), ctrS ctrDev, ctrS ctrDev, ctrS ctrDev, ctrS ctrDev]

/-- The counter of an ID, none where it does not exist. -/
def ctrDesc (id : Nat) : Option CtrDesc :=
  if id / 256 = 3 ∧ 16 ≤ id % 256 then ctrTable0316[id % 256 - 16]? else (ctrTable (id / 256))[id % 256]?

/-- Key of a counter instance in `CtrState`. -/
def ctrKey (id inst : Nat) : Nat := id * 65536 + inst

/-- Adds to a counter without an event of its own: class S sticks at all ones, class W wraps (R472, R474). The flag
says that its SAT bit became set. -/
def ctrAdd (id inst n : Nat) (c : CtrState) : CtrState × Bool :=
  let key := ctrKey id inst
  let d := (ctrDesc id).getD (ctrS ctrDev)
  let v := natGet c.vals key
  if d.cls = .w then ({ c with vals := natSet c.vals key ((v + n) % 2 ^ d.width) }, false)
  else
    let c' := { c with vals := natSet c.vals key (satAdd d.width v n) }
    if 2 ^ d.width ≤ v + n ∧ ¬ c.sat.contains key then ({ c' with sat := key :: c.sat }, true) else (c', false)

/-- Adds `n` to a counter; EV_CTR_SAT is raised once, as SAT becomes set, and counted in counter 0x0F07 (R474, R491). -/
def bump (id inst n : Nat) (s : State) : State :=
  let r := ctrAdd id inst n s.ctr
  let s := { s with ctr := r.1 }
  if r.2 then
    let q := ctrAdd 0x0F07 0 1 s.ctr
    let s := raise 0x0F01 id 0 0 inst (((ctrDesc id).map CtrDesc.width).getD 0) 0 { s with ctr := q.1 }
    if q.2 then raise 0x0F01 0x0F07 0 0 0 32 0 s else s
  else s

/-- Adds one. -/
def tick (id inst : Nat) (s : State) : State := bump id inst 1 s

/-- The stored value of a counter instance. -/
def ctrVal (s : State) (id inst : Nat) : Nat := natGet s.ctr.vals (ctrKey id inst)

end Sys2Proof.Machine
end

