-- ==== Sys2Proof/Machine/Mailbox.lean ====
section
/-! DEFINITION. Serving a mailbox command: taking the slot, the common checks, the response and the completion of
deferred and background work (R43 to R53, R67). -/

namespace Sys2Proof.Machine

/-! Status codes (Table 2.14 and the chapters' own tables). -/

def stOk : Nat := 0x0000
def stDeferred : Nat := 0x0001
def stPending : Nat := 0x0002
def stBadCmd : Nat := 0x0101
def stBadParam : Nat := 0x0102
def stBusy : Nat := 0x0103
def stState : Nat := 0x0104
def stPageLocked : Nat := 0x0201
def stCheck : Nat := 0x0301
def stLimit : Nat := 0x0302
def stNoShrink : Nat := 0x0303
def stFormat : Nat := 0x0304
def stAbandoned : Nat := 0x0305
def stDmaFault : Nat := 0x0306
def stAuth : Nat := 0x0701
def stFail : Nat := 0x0901

/-- Command codes of the running firmware: the tables of every chapter. -/
def knownCode (c : Nat) : Bool :=
  let n := c % 256
  match c / 256 with
  | 0x01 => decide (1 ≤ n ∧ n ≤ 5)
  | 0x02 => decide (1 ≤ n ∧ n ≤ 7)
  | 0x03 => decide (1 ≤ n ∧ n ≤ 11)
  | 0x04 => decide (1 ≤ n ∧ n ≤ 8)
  | 0x05 => decide (1 ≤ n ∧ n ≤ 8)
  | 0x06 => decide (1 ≤ n ∧ n ≤ 5)
  | 0x07 => decide ((1 ≤ n ∧ n ≤ 5) ∨ (0x10 ≤ n ∧ n ≤ 0x13))
  | 0x08 => decide (1 ≤ n ∧ n ≤ 7)
  | 0x09 => decide (1 ≤ n ∧ n ≤ 5)
  | 0x0A => decide (1 ≤ n ∧ n ≤ 10)
  | 0x0B => decide ((1 ≤ n ∧ n ≤ 7) ∨ (0x10 ≤ n ∧ n ≤ 0x14))
  | 0x0C => decide (1 ≤ n ∧ n ≤ 8)
  | 0x0D => decide (1 ≤ n ∧ n ≤ 8)
  | 0x0E => decide (1 ≤ n ∧ n ≤ 7)
  | 0x0F => decide (1 ≤ n ∧ n ≤ 4)
  | _ => false

/-- What a command's own work answers: the state, the status and the result words. -/
structure Ans where
  st : State
  status : Nat := 0
  results : List Nat := []
  /-- The command stays ACTIVE and answers later (TILE.MEM). -/
  hold : Bool := false

/-- A refusal: a status and no effect. -/
def Ans.refuse (s : State) (status : Nat) : Ans := { st := s, status := status }

/-- Word `n` of a slot's words, as a number. -/
def wordAt (ws : List Word) (n : Nat) : Nat := (ws.getD n 0).toNat

/-- PLEN (Table 2.5). -/
def plen (ws : List Word) : Nat := bits (wordAt ws 1) 0 6

/-- Parameter word `n` (2 to 63); those beyond PLEN are taken as 0 (R44). -/
def par (ws : List Word) (n : Nat) : Nat := if n < 2 + plen ws then wordAt ws n else 0

/-- The 64-bit value of parameter words `n` and `n + 1`. -/
def par64 (ws : List Word) (n : Nat) : Nat := par ws n + 2 ^ 32 * par ws (n + 1)

/-- Whether every bit of `w` outside the mask is 0. -/
def within (mask w : Nat) : Bool := w &&& mask == w % 2 ^ 32

/-- Check 2 of R44 for a command whose table assigns the bits `masks` of words 2 onward. -/
def paramsOk (masks : List Nat) (ws : List Word) : Bool :=
  bits (wordAt ws 0) 18 6 == 0 && bits (wordAt ws 1) 6 26 == 0 && decide (plen ws ≤ 62)
    && (List.range 62).all (fun i => within (masks.getD i 0) (par ws (i + 2)))

/-- The words of a slot with the response written over them (Table 2.6). -/
def responseWords (ws : List Word) (status : Nat) (results : List Nat) : List Word :=
  let n := results.length
  (ws.take 1) ++ [BitVec.ofNat 32 (status + n * 65536)] ++ results.map (BitVec.ofNat 32) ++ ws.drop (2 + n)

/-- Writes the response: result words, word 1, DONE, SLOT_DONE, and MBX with vector 0 if IRQ is 1 (R47). -/
def respond (slot status : Nat) (results : List Nat) (s : State) : State :=
  let ws := ((s.host.slots[slot]?).map Slot.words).getD []
  let h := { s.host with
    slots := updAt s.host.slots slot (fun q => Slot.mk (responseWords q.words status results) .done),
    slotDone := s.host.slotDone ||| (1#16 <<< slot) }
  let s := { s with host := h }
  if bitOf (wordAt ws 0) 16 then withSink s (sinkInt (envOf s) 0 (sinkOf s)) else s

/-- The slot that can be taken now: the oldest rung one, unless firmware is not READY, a command is executing, or the
slot carries FENCE while deferred or background commands are outstanding (R49, R53). -/
def takeable (s : State) : Option (Nat × List Word) :=
  if !fwReady s || s.active.isSome then none
  else match s.host.order with
    | [] => none
    | n :: _ =>
      let ws := ((s.host.slots[n]?).map Slot.words).getD []
      if bitOf (wordAt ws 0) 17 && !s.host.outstanding.isEmpty then none else some (n, ws)

/-- Enters a deferred or background command among those OUTSTANDING (R51). -/
def pushOutst (slot : Nat) (ws : List Word) (status : Nat) (oid : Nat) (s : State) : State :=
  let page := if bits (wordAt ws 0) 8 8 = 2 then par ws 2 else 0
  let o : Outst := { oid := oid, slot := slot, word0 := BitVec.ofNat 32 (wordAt ws 0), pageId := page,
                     cls := if status = stDeferred then .deferred else .background }
  { s with host := { s.host with outstanding := s.host.outstanding ++ [o], nextOid := oid + 1 } }

/-- The limit of outstanding commands (R51). -/
def outstMax : Nat := 60

/-- Answers a taken command with what its work gave. -/
def answer (slot : Nat) (ws : List Word) (oid : Nat) (a : Ans) : State :=
  if a.hold then
    { a.st with host := { a.st.host with slots := updAt a.st.host.slots slot (fun q => { q with st := .active }) },
                active := a.st.active.map (fun c => { c with slot := slot }) }
  else if a.status = stDeferred ∨ a.status = stPending then respond slot a.status [] (pushOutst slot ws a.status oid a.st)
  else respond slot a.status a.results a.st

/-- Takes the next POSTED slot if its command is `code`, makes the checks of R44 in their order and runs the command's own work.
Nothing happens where no slot can be taken or another command of the firmware is next. A code that no
table knows is answered ST_BAD_CMD. -/
def serve (code : Nat) (cls : CmdClass) (masks : List Nat) (body : List Word → State → Ans) (s : State) : State :=
  match takeable s with
  | none => s
  | some (slot, ws) =>
    let c := bits (wordAt ws 0) 0 16
    let taken := { s with host := { s.host with order := s.host.order.tail } }
    if !knownCode c then respond slot stBadCmd [] taken
    else if c ≠ code then s
    else if !paramsOk masks ws then respond slot stBadParam [] taken
    else if cls ≠ .immediate ∧ outstMax ≤ s.host.outstanding.length then respond slot stBusy [] taken
    else
      let a := body ws taken
      if (a.status = stDeferred ∨ a.status = stPending) ∧ outstMax ≤ s.host.outstanding.length then respond slot stBusy [] taken
      else answer slot ws s.host.nextOid a

/-- Completes an outstanding command with EV_CMD_DONE (R67); nothing where it is not outstanding. -/
def complete (oid status : Nat) (results : List Nat) (s : State) : State :=
  match s.host.outstanding.find? (fun o => o.oid == oid) with
  | none => s
  | some o =>
    let s := { s with host := { s.host with outstanding := s.host.outstanding.filter (fun o => o.oid != oid) } }
    raise 0x0101 o.slot o.pageId 0 o.word0.toNat (status + results.length * 65536) (results.headD 0) s

/-- Completes, if there is a command to complete. -/
def completeOpt (oid : Option Nat) (status : Nat) (results : List Nat) (s : State) : State :=
  match oid with
  | none => s
  | some i => complete i status results s

/-- The whole of a command word. -/
def allBits : Nat := 0xFFFFFFFF

/-- Result words of a 64-bit value. -/
def two (v : Nat) : List Nat := [v % 2 ^ 32, v / 2 ^ 32 % 2 ^ 32]

/-- A field of `len` bits at bit `lo` of a result word. -/
def fld (v lo len : Nat) : Nat := (v % 2 ^ len) <<< lo

/-- `new` unless it is 0. -/
def orKeep (new old : Nat) : Nat := if new = 0 then old else new

/-- A field that is 0 or lies in a range. -/
def zeroOrIn (lo hi v : Nat) : Bool := decide (v = 0 ∨ (lo ≤ v ∧ v ≤ hi))

end Sys2Proof.Machine
end

