-- ==== Sys2Proof/Machine/Track.lean ====
section
/-! DEFINITION. Line tracker arithmetic (R175 to R186) and the splitting of tile delays (R184). -/

namespace Sys2Proof.Machine

/-- The tracker of a station. -/
def trk (s : State) (st : Nat) : Tracker := s.pos.trackers.getD st {}

/-- Replaces a station's tracker. -/
def setTrk (st : Nat) (f : Tracker → Tracker) (s : State) : State :=
  { s with pos := { s.pos with trackers := updAt s.pos.trackers st f } }

/-- P_k in 1/65,536 count (R175). -/
def boundaryPos (t : Tracker) (k : Int) : Int := t.origin * 65536 + k * t.cpl

/-- The greatest k with P_k at or below a position in 1/65,536 count (R182). -/
def lineAt (t : Tracker) (p : Int) : Int := floorDiv (p - t.origin * 65536) t.cpl

/-- Station line number of an extended line index: its low 32 bits (R175). -/
def lineNo (k : Int) : Nat := unsig k 32

/-- Station line number now: that of the last boundary fired, 0 before the first. -/
def stationLine (s : State) (st : Nat) : Nat := let k := (trk s st).k; if k < 0 then 0 else lineNo k

/-- The velocity estimate over the newest 8 samples: counts and ps, when valid (R180). -/
def velSpan (t : Tracker) : Option (Int × Nat) :=
  match t.samples[0]?, t.samples[7]? with
  | some a, some b => if b.2 < a.2 then some (a.1 - b.1, a.2 - b.2) else none
  | _, _ => none

/-- The velocity estimate is valid (R180). -/
def velValid (t : Tracker) : Bool := (velSpan t).isSome && !t.stopped

/-- Velocity in counts/s, truncated toward minus infinity. -/
def velCps (t : Tracker) : Int :=
  match velSpan t with
  | none => 0
  | some (dx, dt) => floorDiv (dx * 1000000000000) dt

/-- A quotient of naturals, rounded to nearest, halves upward. -/
def nearestDiv (a b : Nat) : Nat := if b = 0 then 0 else (2 * a + b) / (2 * b)

/-- CPL ÷ v in units of 250 ps. -/
def cplOverV (t : Tracker) : Nat :=
  match velSpan t with
  | some (dx, dt) => if 0 < dx then nearestDiv (t.cpl * dt) (65536 * 250 * dx.toNat) else 0
  | none => 0

/-- PERIOD in units of 250 ps, 0 if not valid (R180): 64 boundaries once they have fired, else CPL ÷ v. -/
def periodOf (t : Tracker) : Nat :=
  if !velValid t then 0
  else match t.bTimes[0]?, t.bTimes[64]? with
    | some a, some b => if 64 ≤ t.bCount then nearestDiv (a - b) (64 * 250) else cplOverV t
    | _, _ => cplOverV t

/-- The line rate in lines/s, if the velocity is valid and forward. -/
def lineRate (t : Tracker) : Option Nat :=
  match velSpan t with
  | some (dx, dt) => if 0 < dx ∧ t.stopped = false ∧ t.en then some (dx.toNat * 65536 * 1000000000000 / (dt * t.cpl)) else none
  | none => none

/-- The present rate of R447: the highest valid line rate of the enabled stations, or 100,000 lines/s. -/
def presentRate (s : State) : Nat :=
  let rs := (bitList 6 s.page.cfg.stations).filterMap (fun st => lineRate (trk s st))
  if rs.isEmpty then 100000 else rs.foldl Nat.max 0

/-- The delay state of a global tile. -/
def dly (s : State) (g : Nat) : TileDelay := s.pos.delays.getD g {}

def setDly (g : Nat) (f : TileDelay → TileDelay) (s : State) : State :=
  { s with pos := { s.pos with delays := updAt s.pos.delays g f } }

/-- DA and DB of a tile (R184). -/
def delayA (d : TileDelay) : Int := d.rank + d.regHost + d.regCal
def delayB (d : TileDelay) : Int := delayA d + d.rb

/-- The split of R184 for given delays: I and T. -/
def splitOne (x : Int) : Int × Nat := let i := floorDiv (x - 96) 64; (i, (x - 64 * i).toNat)

/-- A tile's delays, split (R184); the live steps owed are then part of the split. -/
def splitTile (d : TileDelay) : TileDelay :=
  let a := splitOne (delayA d)
  let b := splitOne (delayB d)
  { d with ia := a.1, ta := a.2, ib := b.1, tb := b.2, hostDebt := 0, calDebt := 0, hostWait := false, calWait := false }

/-- The station of a global tile. -/
def stOf (g : Nat) : Nat := g / 16

/-- The 16 global tiles of a station. -/
def tilesOf (st : Nat) : List Nat := (List.range 16).map (fun t => 16 * st + t)

end Sys2Proof.Machine
end

