-- ==== Sys2Proof/Machine/Pages.lean ====
section
/-! DEFINITION. Operations on pages: finding them, their transitions, spoiling, waste-gate windows and gap-only items
(R10 to R37). -/

namespace Sys2Proof.Machine

/-- A page by its key. -/
def pageOf (s : State) (key : Nat) : Option Page := s.page.pages.find? (fun p => p.key == key)

/-- Changes a page by its key. -/
def setPage (key : Nat) (f : Page → Page) (s : State) : State :=
  { s with page := { s.page with pages := s.page.pages.map (fun p => if p.key = key then f p else p) } }

/-- The page has ended. -/
def Page.ended (p : Page) : Bool := p.st == .done || p.st == .withdrawn

/-- ADMITTED, ACTIVE or EXPOSED. -/
def Page.live (p : Page) : Bool := p.st == .admitted || p.st == .active || p.st == .exposed

/-- ACTIVE or EXPOSED. -/
def Page.running (p : Page) : Bool := p.st == .active || p.st == .exposed

/-- The stations of a page: plane Ps prints at station s. -/
def Page.stations (p : Page) : List Nat := bitList 6 p.planes

/-- The page uses a station. -/
def Page.uses (p : Page) (st : Nat) : Bool := bitOf p.planes st

/-- The oldest page with an identifier that is not DONE or WITHDRAWN (R34). -/
def findPage (s : State) (id : Nat) : Option Page :=
  s.page.pages.find? (fun p => p.id.toNat == id && !p.ended)

/-- Some page is ADMITTED, ACTIVE or EXPOSED. -/
def anyLive (s : State) : Bool := s.page.pages.any Page.live

/-- Some page of a station is ADMITTED, ACTIVE or EXPOSED. -/
def stationLive (s : State) (st : Nat) : Bool := s.page.pages.any (fun p => p.live && p.uses st)

/-- The pages that are ADMITTED, ACTIVE or EXPOSED, first admitted first: the order in which they print (R13). -/
def liveByAdmission (s : State) : List Page :=
  (s.page.pages.filter Page.live).mergeSort (fun a b => decide (a.admission ≤ b.admission))

/-- Mask of the stations of every page that is ADMITTED, ACTIVE or EXPOSED (R130). -/
def liveStations (s : State) : Nat := (s.page.pages.filter Page.live).foldl (fun m p => m ||| p.planes) 0

/-- Index of the least element by a measure, the first on a tie. -/
def argMin (f : Nat → Nat) : List Nat → Option Nat
  | [] => none
  | a :: t => match argMin f t with
    | none => some a
    | some b => if f b < f a then some b else some a

def argMax (f : Nat → Nat) : List Nat → Option Nat
  | [] => none
  | a :: t => match argMax f t with
    | none => some a
    | some b => if f a < f b then some b else some a

/-- offset_s in counts. -/
def offsetOf (s : State) (st : Nat) : Nat := s.page.cfg.offsets.getD st 0

/-- A station's offset in lines, in 1/2^64 line: fine enough to order any two stations exactly. -/
def offsetLines (s : State) (st : Nat) : Nat := offsetOf s st * 65536 * 2 ^ 64 / Nat.max 1 (trk s st).cpl

/-- The first and the last station of a page: smallest and largest start position, in lines. -/
def firstStation (s : State) (p : Page) : Nat := (argMin (offsetLines s) p.stations).getD 0
def lastStation (s : State) (p : Page) : Nat := (argMax (offsetLines s) p.stations).getD 0

/-- The page the next start event concerns: of the ADMITTED pages without one, the first admitted (R13, R17). A start event that finds
only ADMITTED pages whose start is accepted already counts as one with no page ADMITTED (DESIGN CHOICE, log entry 80). -/
def waitingPage (s : State) : Option Page :=
  (s.page.pages.filter (fun p => p.st == .admitted && !p.started)).foldl (fun (a : Option Page) p => match a with
    | none => some p
    | some q => if p.admission < q.admission then some p else some q) none

/-- The lead station: the enabled station with the smallest offset. -/
def leadStation (s : State) : Nat := (argMin (offsetOf s) (bitList 6 s.page.cfg.stations)).getD 0

/-- First line index of a page at a station. -/
def Page.firstLine (p : Page) (st : Nat) : Int := p.first.getD st 0

/-- Last line index of a page at a station (R182). -/
def Page.lastLine (p : Page) (st : Nat) : Int := p.firstLine st + p.lines - 1

/-- The page that owns a line index of a station: a started page with S ≤ k < S + LINES. -/
def ownerOf (s : State) (st : Nat) (k : Int) : Option Page :=
  s.page.pages.find? (fun p => p.live && p.started && p.uses st && decide (p.firstLine st ≤ k ∧ k ≤ p.lastLine st))

/-- The newest 1,024 ended pages are kept (R34), the newest by their creation (DESIGN CHOICE, log entry 80). -/
def trimPages (s : State) : State :=
  let extra := countBy Page.ended s.page.pages - 1024
  if extra = 0 then s
  else
    let oldest := ((s.page.pages.filter Page.ended).take extra).map Page.key
    { s with page := { s.page with pages := s.page.pages.filter (fun p => !oldest.contains p.key) } }

/-- A transition of Table 1.2 with its EV_PAGE_STATE (R12): `source` is the station of the transition, or 0xFFFF. -/
def pageTo (key : Nat) (st : PageSt) (source line : Nat) (s : State) : State :=
  match pageOf s key with
  | none => s
  | some p =>
    let s := setPage key (fun p => { p with st := st }) s
    raise 0x0201 source p.id.toNat line st.code (p.admission % 2 ^ 32) (p.admission / 2 ^ 32) s

/-- E_s in counts. -/
def exitOf (s : State) (st : Nat) : Nat := s.page.cfg.exits.getD st 0

/-- The waste-gate window of lines first to first + lines − 1 at a station, in counts of its extended position (R30): from the first
line + E_s − pre-margin to the last line + E_s + post-margin. -/
def wgWindow (s : State) (st : Nat) (first : Int) (lines : Nat) : Int × Int :=
  let t := trk s st
  let c := s.page.cfg
  let up := fun (p : Int) => floorDiv (p + 65535) 65536 + (exitOf s st : Int)
  (up (boundaryPos t (first - c.preMargin)), up (boundaryPos t (first + lines - 1 + c.postMargin)))

/-- Merges a window into those of a station that it overlaps or touches (R30). -/
def mergeWindow (w : Int × Int) (ws : List (Int × Int)) : List (Int × Int) :=
  let hit := ws.filter (fun v => decide (v.1 ≤ w.2 ∧ w.1 ≤ v.2))
  let rest := ws.filter (fun v => !decide (v.1 ≤ w.2 ∧ w.1 ≤ v.2))
  rest ++ [hit.foldl (fun a v => (min a.1 v.1, max a.2 v.2)) w]

/-- Drives each WG_OUT from its windows and the position the station has reached, its HWM (R30, R31); windows that lie behind are dropped. -/
def wgDrive (st : Nat) (s : State) : State :=
  if s.page.wgForced || !bitOf s.page.cfg.wgEnable st then s
  else
    let x := (trk s st).hwm
    let ws := (s.page.wgWindows.getD st []).filter (fun w => decide (x < w.2))
    let on := ws.any (fun w => decide (w.1 ≤ x))
    { s with page := { s.page with wgWindows := updAt s.page.wgWindows st (fun _ => ws),
                                   wgOut := updAt s.page.wgOut st (fun _ => if on then .active else .inactive) } }

/-- Adds a waste-gate window at a station whose waste gate is enabled. -/
def wgAdd (st : Nat) (w : Int × Int) (s : State) : State :=
  if !bitOf s.page.cfg.wgEnable st then s
  else wgDrive st { s with page := { s.page with wgWindows := updAt s.page.wgWindows st (mergeWindow w) } }

/-- Adds the windows of a spoiled page at all its stations. -/
def wgPage (p : Page) (s : State) : State :=
  forList p.stations s (fun st s => wgAdd st (wgWindow s st (p.firstLine st) p.lines) s)

/-- Sets SPOILED with a first reason, or joins a later reason (R28). -/
def spoilNow (key reason station line : Nat) (s : State) : State :=
  match pageOf s key with
  | none => s
  | some p =>
    let mask := p.reasonMask ||| (1 <<< reason)
    if p.spoiled then setPage key (fun p => { p with reasonMask := mask }) s
    else
      let s := setPage key (fun p => { p with spoiled := true, firstReason := reason, firstStation := station,
                                              firstLineNo := line, reasonMask := mask }) s
      let s := raise 0x0202 station p.id.toNat line reason mask 0 s
      wgPage p (tick 0x0201 0 s)

/-- Spoils a page for a reason of Table 1.4: at once if it is ACTIVE or EXPOSED, held if it is ADMITTED (R11). -/
def spoil (key reason station line : Nat) (s : State) : State :=
  match pageOf s key with
  | none => s
  | some p =>
    if p.running then spoilNow key reason station line s
    else if p.st = .admitted ∧ ¬ p.held.contains reason then setPage key (fun p => { p with held := p.held ++ [reason] }) s
    else s

/-- Spoils every ACTIVE or EXPOSED page that a test picks. -/
def spoilWhere (pick : Page → Bool) (reason station line : Nat) (s : State) : State :=
  forList ((s.page.pages.filter (fun p => p.running && pick p)).map Page.key) s
    (fun k s => spoilNow k reason station line s)

/-! Gap-only items (R23 to R27). -/

/-- Class code of gap-only work (Table 1.5). -/
def GapWork.cls : GapWork → Nat
  | .retrain _ => 1 | .mask _ => 2 | .remap _ _ => 3 | .handover => 4 | .ddrRate _ => 5 | .retire _ => 6

/-- SOURCE of its events: station mask, or 0xFFFF for common scope (Table 1.10). -/
def scopeSource (o : Option Nat) : Nat := o.getD dev

/-- EV_GAP_WANTED of an item (R26). -/
def gapWanted (g : GapItem) (s : State) : State :=
  raise 0x0203 (scopeSource g.scope) 0 0 g.work.cls 32 s.page.gapPending.length s

/-- 60 s in ps. -/
def minute : Nat := 60000000000000

/-- Gap-only work becomes pending (R26). -/
def gapPend (work : GapWork) (scope oid : Option Nat) (s : State) : State :=
  let g : GapItem := { work := work, scope := scope, oid := oid, nextWanted := s.now + minute }
  gapWanted g { s with page := { s.page with gapPending := s.page.gapPending ++ [g] } }

/-- Whether work is pending or running. -/
def gapHas (s : State) (w : GapWork) : Bool :=
  s.page.gapPending.any (fun g => g.work == w) || s.page.gapRunning.any (fun r => r.item.work == w)

/-- Smallest of two extents, none for no known end. -/
def minExtent : Option Nat → Option Nat → Option Nat
  | none, b => b
  | a, none => a
  | some a, some b => some (Nat.min a b)

/-- The gap suffices for an item: at least 32 lines remain (R24). -/
def gapSuffices : Option (Option Nat) → Bool
  | none => false
  | some none => true
  | some (some n) => decide (32 ≤ n)

end Sys2Proof.Machine
end

