-- ==== Sys2Proof/Machine/Spool.lean ====
section
/-! DEFINITION. The spool and its directory, and the Mule channels: extents, ends of pages, descriptors, stops
(R103 to R122). -/

namespace Sys2Proof.Machine

/-- A DDR5 channel. -/
def ddr (s : State) (c : Nat) : DdrChan := s.mem.chans.getD c { st := .absent }

/-- Channels in the interleave: DDR_MASK (Table 2.4). -/
def ddrMask (s : State) : Nat := maskOf ((List.range 4).filter (fun c => (ddr s c).st == .inUse || (ddr s c).st == .failing))

/-- Channels that take new extents (R414). -/
def healthyMask (s : State) : Nat := maskOf ((List.range 4).filter (fun c => (ddr s c).st == .inUse))

/-- SPOOL_GIB: installed capacity less 1 GiB per channel in the interleave (R117). -/
def spoolGib (s : State) : Nat := popCount 4 (ddrMask s) * (s.board.chanGib - 1)

/-- Extents in total (R117). -/
def extentsTotal (s : State) : Nat := spoolGib s * 4096

/-- What a set of extents occupies on some channels, in twelfths of an extent. -/
def shareOn (mask : Nat) (l : List Extent) : Nat :=
  sumBy (fun e => popCount 4 (e.channels &&& mask) * 12 / Nat.max 1 (popCount 4 e.channels)) l

/-- Free extents on the channels that take new ones. -/
def extentsFree (s : State) : Nat :=
  (popCount 4 (healthyMask s) * (s.board.chanGib - 1) * 4096 * 12 - shareOn (healthyMask s) s.spool.extents) / 12

/-- Directory capacity and use (R119): one entry per accepted block. -/
def entriesTotal (s : State) : Nat := popCount 4 (ddrMask s) * 16777216
def entriesUsed (s : State) : Nat := sumBy (fun o => sumBy (fun t => t.recs.length) o.streams) s.spool.objs
def entriesFree (s : State) : Nat := entriesTotal s - entriesUsed s

/-- The least number at or above `i` that names no extent in use and is not `avoid`. -/
def freeExtentNo (used : List Nat) (avoid : List Nat) : Nat → Nat → Nat
  | i, 0 => i
  | i, n + 1 => if used.contains i || avoid.contains i then freeExtentNo used avoid (i + 1) n else i

/-- The extent a fill works on: the first free one from the number it has reached; none at the end of its work. -/
def fillAt (s : State) (f : FillJob) : Option Nat :=
  let used := s.spool.extents.map Extent.no
  let n := freeExtentNo used [] f.next (used.length + 1)
  if f.channels ≠ 0 ∧ n < extentsTotal s then some n else none

/-- The extents MEM.FILL holds: the one each fill is working on (R399). -/
def fillHeld (s : State) : List Nat := s.mem.fills.filterMap (fillAt s)

/-- The number of the next extent ingest takes: one that no fill holds, unless no other is free (R399). -/
def nextExtent (s : State) : Nat :=
  let used := s.spool.extents.map Extent.no
  let total := extentsTotal s
  let n := freeExtentNo used (fillHeld s) 0 (used.length + (fillHeld s).length + 1)
  if n < total then n else freeExtentNo used [] 0 (used.length + 1)

/-- EV_SPOOL_LOW as free extents fall below 1/16 of the total, armed again above 1/8 (R120). -/
def spoolLow (s : State) : State :=
  let free := extentsFree s
  let total := extentsTotal s
  if s.spool.low then
    if total < 8 * free then { s with spool := { s.spool with low := false } } else s
  else if 16 * free < total then raise 0x0304 dev 0 0 free total 0 { s with spool := { s.spool with low := true } }
  else s

def objOf (s : State) (sid : Nat) : Option SpoolObj := s.spool.objs.find? (fun o => o.sid == sid)

def setObj (sid : Nat) (f : SpoolObj → SpoolObj) (s : State) : State :=
  { s with spool := { s.spool with objs := s.spool.objs.map (fun o => if o.sid = sid then f o else o) } }

def ingestOf (s : State) (key : Nat) : Option Ingest := s.spool.ingests.find? (fun i => i.page == key)

def setIngest (key : Nat) (f : Ingest → Ingest) (s : State) : State :=
  { s with spool := { s.spool with ingests := s.spool.ingests.map (fun i => if i.page = key then f i else i) } }

/-- The spool object of a page. -/
def pageObj (s : State) (key : Nat) : Option SpoolObj := (ingestOf s key).bind (fun i => objOf s i.sid)

/-- Extents of an object. -/
def objExtents (o : SpoolObj) : List Nat := (o.streams.map PbStream.extents).flatten

/-- A FAILING channel that no extent uses becomes pending for retirement (R416, Table 1.5 class 6). -/
def retirePend (c : Nat) (s : State) : State :=
  if (ddr s c).st = .failing ∧ s.spool.extents.all (fun e => !bitOf e.channels c) ∧ ¬ gapHas s (.retire c) then
    gapPend (.retire c) none (ddr s c).oid s
  else s

/-- Frees an object whose last user has gone (R120, R122). -/
def freeObj (sid : Nat) (s : State) : State :=
  match objOf s sid with
  | none => s
  | some o =>
    if s.spool.retains.any (fun r => r.sid == sid) || s.spool.ingests.any (fun i => i.sid == sid) then s
    else
      let gone := objExtents o
      let s := { s with spool := { s.spool with
        objs := s.spool.objs.filter (fun q => q.sid != sid),
        extents := s.spool.extents.filter (fun e => !gone.contains e.no) } }
      spoolLow (forRange 4 s retirePend)

/-- The spool's part of a page's end: its ingest context goes, and its extents unless they are kept (R120). -/
def endIngest (key : Nat) (s : State) : State :=
  match ingestOf s key with
  | none => s
  | some i => freeObj i.sid { s with spool := { s.spool with ingests := s.spool.ingests.filter (fun q => q.page != key) } }

/-! Mule channels. -/

def chan (s : State) (ch : Nat) : MuleChan := s.spool.chans.getD ch {}

def setChan (ch : Nat) (f : MuleChan → MuleChan) (s : State) : State :=
  { s with spool := { s.spool with chans := updAt s.spool.chans ch f } }

/-- The channel a page is bound to. -/
def boundTo (s : State) (key : Nat) : Option Nat := findIdx (fun c => c.page == some key) s.spool.chans

/-- Sets INT bits of a channel and signals its vector where IRQ_EN is 1 (R107, Table 2.9). -/
def muleInt (ch : Nat) (mask : BitVec 4) (s : State) : State :=
  let s := setChan ch (fun c => { c with int := c.int ||| mask }) s
  if (chan s ch).irqEn && mask != 0 then msix (4 + ch) s else s

/-- Ring size N of a channel (Table 4.2). -/
def muleN (c : MuleChan) : Nat :=
  let n := c.log2Size.toNat
  if 4 ≤ n ∧ n ≤ 16 then 2 ^ n else 16

/-- Address of the descriptor at HEAD (R106). -/
def descAddr (c : MuleChan) : Nat := c.ringHi.toNat * 2 ^ 32 + c.ringLo.toNat + c.head.toNat % muleN c * 32

/-- Completes a descriptor: DONE_BYTES and RESULT as one write, HEAD, INT, vector (R107). Where the write cannot be sent (R511) its bytes
are lost, and HEAD and the channel go on all the same (DESIGN CHOICE, log entry 83). -/
def descDone (ch done status check cause : Nat) (irq : Bool) (s : State) : State :=
  let c := chan s ch
  let res := status + check * 2 ^ 16 + cause * 2 ^ 24 + 2 ^ 31
  let s := (hostWrite (descAddr c + 16) (leBytes 4 done ++ leBytes 4 res) s).1
  let s := setChan ch (fun c => { c with head := c.head + 1, desc := none }) s
  if irq then muleInt ch 1 s else s

/-- RESUME of a channel's page. -/
def chanResume (s : State) (ch : Nat) : Nat :=
  (((chan s ch).page.bind (ingestOf s)).map Ingest.resume).getD 0

/-- A stop of Table 4.4: EN, CAUSE, INT.STOPPED (and FAULT), EV_MULE_STOP; the partial record is discarded, and causes
4 to 6 unbind (R104, R110). -/
def muleStop (ch cause : Nat) (s : State) : State :=
  let c := chan s ch
  let resume := chanResume s ch
  let id := ((c.page.bind (pageOf s)).map (fun p => p.id.toNat)).getD 0
  let unbind := cause = 4 ∨ cause = 5 ∨ cause = 6
  let s := setChan ch (fun c => { c with
    en := false, st := if unbind then .unbound else .stopped, cause := cause, stopReq := false, desc := none, buf := [],
    holdUntil := 0, page := if unbind then none else c.page, pio := if unbind then false else c.pio }) s
  let s := if cause = 7 then tick 0x0315 0 s else s
  let s := muleInt ch (if 8 ≤ cause then 0b1010 else 0b0010) s
  raise 0x0303 ch id 0 cause (resume % 2 ^ 32) (resume / 2 ^ 32) s

/-- Completes the descriptor in progress, if there is one, and stops the channel. -/
def muleEnd (ch status check cause : Nat) (s : State) : State :=
  match (chan s ch).desc with
  | none => muleStop ch cause s
  | some d =>
    let done := if cause = 4 then d.got - (chan s ch).buf.length else d.got
    muleStop ch cause (descDone ch done status check cause d.irq s)

/-- Read requests a channel may have outstanding (R109). -/
def requestLimit (d : DescRun) : Nat := if d.fixed then 1 else 64

/-- Length of the next read request: at most the max read request size, never across a 4 KiB boundary (R109). -/
def requestLen (mrrs : Nat) (d : DescRun) : Nat :=
  let left := d.len - d.asked
  if d.fixed then Nat.min left (Nat.min mrrs 4096)
  else Nat.min left (Nat.min mrrs (4096 - (d.addr + d.asked) % 4096))

/-- Address of the next read request: from ADDR upward, or ADDR itself with FIXED (R109). -/
def requestAddr (d : DescRun) : Nat := if d.fixed then d.addr else d.addr + d.asked

/-- Read requests up to the limit. -/
def issueReads (mrrs : Nat) (d : DescRun) : DescRun :=
  iterate (fun d =>
    if d.requests.length < requestLimit d ∧ d.asked < d.len then
      let n := Nat.max 1 (requestLen mrrs d)
      some { d with requests := d.requests ++ [(requestAddr d, n)], asked := d.asked + n }
    else none) 64 d

/-- A channel's descriptor goes on as `d`: its further read requests are sent, with the relaxed-ordering attribute where the host enables
it (R109, Table 2.1). -/
def sendReads (ch : Nat) (d : DescRun) (s : State) : State :=
  let d' := issueReads s.host.pci.mrrs d
  forList (d'.requests.drop d.requests.length) (setChan ch (fun c => { c with desc := some d' }) s)
    (fun r s => emit (.dmaRead ch r.1 r.2 s.host.pci.relaxed) s)

/-- The whole length of the record at the head of stream bytes, none while too few bytes tell it (R70, R71). -/
def recLen (b : List Byte) : Option Nat :=
  if b.length < 2 then none
  else
    let type := leAt b 0 2
    let hl := recHdrLen type
    if b.length < hl then none
    else if type = 0xFA04 then some (hl + leAt b 24 4 + padLen (leAt b 24 4)) else some hl

/-- The record at the head of a bound channel's bytes can be judged: its header is whole and fails a check, or the
record is whole (R89). -/
def recReady (s : State) (ch : Nat) : Bool :=
  let c := chan s ch
  match c.page.bind (pageOf s), c.page.bind (pageObj s), recLen c.buf with
  | some p, some o, some n =>
    let h := c.buf.take (recHdrLen (leAt c.buf 0 2))
    headerCheck p.id p.planes o h != 0 || decide (n ≤ c.buf.length)
  | _, _, _ => false

/-- The end of a descriptor whose bytes are all read and hold no record to judge (R110). -/
def descEnd (ch : Nat) (s : State) : State :=
  match (chan s ch).desc with
  | none => s
  | some d =>
    if d.got < d.len || recReady s ch then s
    else
      let cause := if d.stop then 1 else if (chan s ch).stopReq then 2 else 0
      let s := descDone ch d.got stOk 0 cause d.irq s
      if cause = 0 then s else muleStop ch cause s

end Sys2Proof.Machine
end

