-- ==== Sys2Proof/Machine/MemErr.lean ====
section
/-! DEFINITION. Recording memory errors: counts, rows, sparing, failing channels (R394 to R402, R414 to R416, R421). -/

namespace Sys2Proof.Machine

/-- An SRAM store. -/
def sram (s : State) (m : Nat) : SramStore := s.mem.stores.getD m { spares := 0 }

def setSram (m : Nat) (f : SramStore → SramStore) (s : State) : State :=
  { s with mem := { s.mem with stores := updAt s.mem.stores m f } }

def setDdr (c : Nat) (f : DdrChan → DdrChan) (s : State) : State :=
  { s with mem := { s.mem with chans := updAt s.mem.chans c f } }

/-- Number of a store (0 to 4) or of channel `c` (8 + c), as MEM.STATUS numbers them. -/
def memNo (dram : Bool) (i : Nat) : Nat := if dram then 8 + i else i

/-- The row of a word: 128 words in SRAM (R402), 1,024 words of 8 KiB in DRAM (PRESUMED). -/
def rowOfWord (dram : Bool) (w : Nat) : Nat := if dram then w / 1024 else w / 128

/-- Notes a correctable error in a row's list; the flag says that it is the row's first. `pass` is the scrub pass that
found it. -/
def noteRow (rows : List RowErr) (row : Nat) (pass : Option Nat) : List RowErr × Bool × RowErr :=
  let old : RowErr := (rows.find? (fun r => r.row == row)).getD { row := row }
  let fresh := match pass with | none => false | some p => old.lastPass != some p
  let new : RowErr := { row := row, ce := old.ce + 1, passes := old.passes + b2n fresh,
                        lastPass := if fresh then pass else old.lastPass }
  (new :: rows.filter (fun r => r.row != row), old.ce == 0, new)

/-- Scope of a remap: the station that owns a line-store row, else common (R402). -/
def remapScope (store row : Nat) : Option Nat := if store = 0 then some (1 <<< (row / 16384)) else none

/-- A row becomes pending for remap (R402, Table 1.5 class 3). -/
def remapPend (store row : Nat) (s : State) : State :=
  if (sram s store).pending.contains row then s
  else
    let s := setSram store (fun t => { t with pending := t.pending ++ [row] }) s
    gapPend (.remap store row) (remapScope store row) none s

/-- Extents that a channel still holds. -/
def extentsOn (s : State) (c : Nat) : Nat := countBy (fun e => bitOf e.channels c) s.spool.extents

/-- A channel becomes FAILING (R414); it takes its free extents with it (R120). -/
def chanFailing (c cause : Nat) (s : State) : State :=
  let s := setDdr c (fun d => { d with st := .failing, cause := cause }) s
  spoolLow (raise 0x0C05 (8 + c) 0 0 2 cause (extentsOn s c) s)

/-- A channel that meets a condition of R414 becomes FAILING, or as the last of the interleave keeps running. -/
def chanFail (c cause : Nat) (s : State) : State :=
  if (ddr s c).st ≠ .inUse then s
  else if popCount 4 (ddrMask s) ≤ 1 then raise 0x0C05 (8 + c) 0 0 1 5 (extentsOn s c) s
  else retirePend c (chanFailing c cause s)

/-- One hour and one day in ps. -/
def hourPs : Nat := 3600000000000000
def dayPs : Nat := 86400000000000000

/-- Records an error with its word address and class (R396, R397). -/
def noteErr (dram : Bool) (i word cls : Nat) (s : State) : State :=
  if dram then setDdr i (fun d => { d with errs := (word, cls) :: d.errs }) s
  else setSram i (fun t => { t with errs := (word, cls) :: t.errs }) s

/-- A correctable error (R396, R402, R414, R421); `pass` is the scrub pass that found it, if one did. -/
def memCe (dram : Bool) (i word bit : Nat) (pass : Option Nat) (s : State) : State :=
  let m := memNo dram i
  let row := rowOfWord dram word
  let s := noteErr dram i word 1 (tick 0x0C00 m s)
  if dram then
    let r := noteRow (ddr s i).rows row pass
    let s := setDdr i (fun d => { d with rows := r.1, ceTimes := s.now :: d.ceTimes.filter (fun t => decide (s.now < t + hourPs)) }) s
    let s := if r.2.1 then raise 0x0C01 m 0 0 word r.2.2.ce bit s else s
    let d := ddr s i
    if s.mem.ceLimit < d.ceTimes.length ∧ 0 < d.lastSweep ∧ s.now < d.lastSweep + hourPs then chanFail i 1 s else s
  else
    let r := noteRow (sram s i).rows row pass
    let s := setSram i (fun t => { t with rows := r.1 }) s
    let s := if r.2.1 then raise 0x0C01 m 0 0 word r.2.2.ce bit s else s
    if s.mem.rowLimit ≤ r.2.2.passes then remapPend i row s else s

/-- An uncorrectable error and its action of Table 13.1 (R397, R402, R414, R421). -/
def memUe (dram : Bool) (i word action : Nat) (s : State) : State :=
  let m := memNo dram i
  let s := raise 0x0C02 m 0 0 word action 0 (noteErr dram i word 2 (tick 0x0C01 m s))
  if dram then
    let old := (ddr s i).ues.filter (fun u => decide (s.now < u.2 + dayPs))
    let s := setDdr i (fun d => { d with ues := (word, s.now) :: old }) s
    if old.any (fun u => u.1 != word) then chanFail i 2 s else s
  else remapPend i (rowOfWord dram word) s

/-- The next training of a discarded set begins, where none runs and no page is live (R248, R413). -/
def trainNext (s : State) : State :=
  match s.mem.train, s.mem.trainDue with
  | none, (c, r) :: t =>
    if anyLive s then s
    else { s with mem := { s.mem with train := some { oid := none, chan := c, rate := r }, trainDue := t } }
  | _, _ => s

/-- Refreshes per normal interval of a channel: twice the rate above 85 °C of MR4 (Table 13.4). -/
def refreshRate (d : DdrChan) : Nat := if 85 * 16 < d.lastTemp then 2 else 1

/-- When a bank's open row closes, in ps: IDLE_CLOSE after its last request, or at once for a request to another row (R406). -/
def rowCloses (s : State) (lastUse : Nat) (other : Option Nat) : Nat :=
  let idle := lastUse + s.mem.idleClose * 1000
  match other with
  | some t => Nat.min t idle
  | none => idle

/-- The controller turns the bus to writes (R406). -/
def busTurns (writes reads : Nat) : Bool := decide (32 ≤ writes) || (reads == 0 && decide (0 < writes))

/-- Tokens of 64 bytes per µs of a channel at a rate in MT/s, by the classes of Table 13.6 in its order (R408): five eighths for print
reads, the rest by weight, what rounding leaves over to ingest. -/
def classTokens (mts : Nat) : List Nat :=
  let total := mts / 8
  let print := total * 5 / 8
  let rest := total - print
  let w := fun (n : Nat) => rest * n / 17
  [print, rest - (w 4 + w 4 + w 1), w 4, w 4, w 1]

/-- Channel of byte `o` of an extent (R407). -/
def extentChan (s : State) (e : Extent) (o : Nat) : Nat :=
  let cs := bitList 4 e.channels
  cs.getD (o / 2 ^ s.mem.log2Grain % Nat.max 1 cs.length) 0

/-- Word address, in 8-byte words of its channel, of byte `o` of an extent: the extents of a channel set lie one after
another behind the reserved 1 GiB (PRESUMED). -/
def extentWord (s : State) (e : Extent) (o : Nat) : Nat :=
  let n := Nat.max 1 (popCount 4 e.channels)
  let g := 2 ^ s.mem.log2Grain
  (2 ^ 30 + e.no * (262144 / n) + o / (g * n) * g + o % g) / 8

end Sys2Proof.Machine
end

