-- ==== Sys2Proof/Machine/Pipe.lean ====
section
/-! DEFINITION. The expansion pipe on one column: geometry (R140 to R142), source coordinates (R143), kernels and
resampling (R144, R145), tone curves (R147, R148), screening (R151 to R153). -/

namespace Sys2Proof.Machine

/-- u = c − 2,048. -/
def colU (c : Nat) : Int := (c : Int) - 2048

/-- X64(c) of tile `t` (R140). -/
def colX64 (g : TileGeom) (t c : Nat) : Int :=
  64 * (4032 * t + c : Nat) + g.xoff + floorDiv (g.xscale * colU c * 64 + 500000) 1000000

/-- d(c) (R141). -/
def colD (g : TileGeom) (c : Nat) : Int :=
  floorDiv (g.skew * colU c + 1024) 2048 + floorDiv (g.bow * (colU c * colU c) + 2097152) 4194304

/-- D_int(c) and dfrac(c) (R141). -/
def colDInt (g : TileGeom) (c : Nat) : Int := floorDiv (colD g c) 64
def colDFrac (g : TileGeom) (c : Nat) : Nat := (colD g c - 64 * colDInt g c).toNat

/-- A tile's geometry is valid (R142, Table 5.2). -/
def geomValid (g : TileGeom) (t : Nat) : Bool :=
  (List.range 4096).all (fun c =>
    decide ((colX64 g t c - 64 * (4032 * t + c : Nat)).natAbs ≤ 4096 ∧ (colD g c).natAbs ≤ 512))

/-- xs64 (R143). -/
def srcX64 (x64 : Int) (ppiX : Nat) : Int := floorDiv (x64 * ppiX + 635) 1270

/-- ys64, 0 when negative (R143). -/
def srcY64 (n dfrac ppiY pitch : Nat) : Nat :=
  (floorDiv (((64 * n : Nat) - (dfrac : Int)) * (ppiY * pitch : Nat) + 12700) 25400).toNat

/-- `a ÷ 128` rounded to nearest, halves away from zero. -/
def roundDiv128 (a : Int) : Int := if 0 ≤ a then (a + 64) / 128 else -((-a + 64) / 128)

/-- K0 to K3 of a kernel at phase φ (R144): 0 cubic, 1 linear, 2 nearest. -/
def kernelAt (kernel : Nat) (p : Int) : Int × Int × Int × Int :=
  match kernel with
  | 0 =>
    let k0 := roundDiv128 (-p * p * p + 128 * p * p - 4096 * p)
    let k2 := roundDiv128 (-3 * p * p * p + 256 * p * p + 4096 * p)
    let k3 := roundDiv128 (p * p * p - 64 * p * p)
    (k0, 4096 - k0 - k2 - k3, k2, k3)
  | 1 => (0, 64 * (64 - p), 64 * p, 0)
  | _ => if p < 32 then (0, 4096, 0, 0) else (0, 0, 4096, 0)

/-- h of one source line from its four taps (R145). -/
def resampleLine (k : Int × Int × Int × Int) (p0 p1 p2 p3 : Nat) : Int :=
  let acc := k.1 * p0 + k.2.1 * p1 + k.2.2.1 * p2 + k.2.2.2 * p3
  clampInt 0 4095 (floorDiv (acc * 257 + 32768) 65536)

/-- The neutral tone curve (R148). -/
def toneNeutral : List Nat := (List.range 16).map (fun i => 256 * i) ++ [4095]

/-- The tone curve's output (R147). -/
def toneOut (k : List Nat) (v : Nat) : Nat :=
  if v = 4095 then k.getD 16 0
  else
    let i := v / 256
    let f := v % 256
    (k.getD i 0 * (256 - f) + k.getD (i + 1) 0 * f + 128) / 256

/-- The threshold of a column (R152). -/
def screenT (c : Screen) (x64 : Int) (n : Nat) : Nat :=
  let x := floorDiv x64 64
  let y := n + c.sy
  let col := ((x + c.sx + c.shift * (y / Nat.max 1 c.h) : Int) % (Nat.max 1 c.w : Int)).toNat
  (c.t.getD (y % Nat.max 1 c.h * c.w + col) 0).toNat

/-- The dose of a tone output (R153). -/
def screenDose (c : Screen) (v thr : Nat) : Byte :=
  let level := if v = 4095 then c.k
    else
      let p := v * c.k
      let i := p / 4096
      if thr < p / 16 % 256 then i + 1 else i
  c.d.getD level 0

/-- What the pipe needs of one tile of one page: geometry, plane and band, source pixels by line and band column. -/
structure PipeTile where
  tile : Nat
  geom : TileGeom
  kernel : Nat
  plane : PlaneHdr
  pitch : Nat
  colFirst : Nat
  colCount : Nat
  screen : Screen
  pix : Array (Array Nat)

/-- A source pixel; band column and line are clamped (R143). -/
def PipeTile.at (p : PipeTile) (line : Nat) (x : Int) : Nat :=
  let xi := (clampInt 0 ((p.colCount : Int) - 1) x).toNat
  ((p.pix[Nat.min line (p.plane.height - 1)]?).getD #[])[xi]?.getD 0

/-- D_int of a column: 0 on a dose-8 plane (R132). -/
def PipeTile.dInt (p : PipeTile) (c : Nat) : Int := if p.plane.dose then 0 else colDInt p.geom c

/-- The resampled tone v of a column (R143 to R145). -/
def PipeTile.toneIn (p : PipeTile) (n c : Nat) : Nat :=
  let xs := srcX64 (colX64 p.geom p.tile c) p.plane.ppiX
  let xi := floorDiv xs 64 - p.colFirst
  let phx := xs - 64 * floorDiv xs 64
  let ys := srcY64 n (colDFrac p.geom c) p.plane.ppiY p.pitch
  let yi := ys / 64
  let phy : Int := (ys % 64 : Nat)
  let k := kernelAt p.kernel phx
  let h := fun line => resampleLine k (p.at line (xi - 1)) (p.at line xi) (p.at line (xi + 1)) (p.at line (xi + 2))
  (floorDiv (h yi * (64 - phy) + h (yi + 1) * phy + 32) 64).toNat

/-- The dose of a column (R139, R147, R152, R153), given its tone knots. -/
def PipeTile.dose (p : PipeTile) (knots : List Nat) (n c : Nat) : Byte :=
  if p.plane.dose then BitVec.ofNat 8 (p.at n c)
  else screenDose p.screen (toneOut knots (p.toneIn n c)) (screenT p.screen (colX64 p.geom p.tile c) n)

/-- The distinct fractional offsets of a tile's columns. -/
def geomFracs (g : TileGeom) : List Nat := ((List.range 4096).map (colDFrac g)).eraseDups

/-- The source lines a band-line draws on, over all its columns (R134). -/
def bandLines (dose : Bool) (g : TileGeom) (ppiY pitch height n : Nat) : List Nat :=
  if dose then [n]
  else
    let ys := (geomFracs g).map (fun f => srcY64 n f ppiY pitch / 64)
    (ys.map (fun y => Nat.min y (height - 1)) ++ ys.map (fun y => Nat.min (y + 1) (height - 1))).eraseDups

/-- Least and greatest D_int over a tile's columns. -/
def geomMinD (g : TileGeom) : Int := ((List.range 4096).map (colDInt g)).foldl min 512
def geomDs (g : TileGeom) : List Int := ((List.range 4096).map (colDInt g)).eraseDups

end Sys2Proof.Machine
end

