-- ==== Sys2Proof/Machine/Store.lean ====
section
/-! DEFINITION. The line store: slot-tiles, check words, suppress flags, writes and clears (R156, R182, R188, R189), and
who owns a slot column (R146). -/

namespace Sys2Proof.Machine

/-- Byte address of a column of a slot of a station (R62, R182). -/
def storeAddr (st : Nat) (line : Int) (col : Nat) : Nat := (st * 256 + unsig line 8) * 65536 + col

/-- Address of column 0 of global tile `g` in the slot of an image line. -/
def slotAddr (g : Nat) (line : Int) : Nat := storeAddr (stOf g) line (4096 * (g % 16))

/-- The stored bytes of a slot-tile that are not 0: (column, byte), ascending. -/
def slotBytes (s : State) (g : Nat) (line : Int) : List (Nat × Byte) :=
  let a := slotAddr g line
  (s.pos.store.filter (fun p => decide (a ≤ p.1 ∧ p.1 < a + 4096))).map (fun p => (p.1 - a, p.2))

/-- A vector of `n` bytes from column `i` on, of columns in ascending order; every other column holds 0 (R156). -/
def vecFrom : Nat → Nat → List (Nat × Byte) → List Byte
  | _, 0, _ => []
  | i, n + 1, cols =>
    match cols with
    | [] => 0 :: vecFrom (i + 1) n []
    | (c, b) :: t => if c = i then b :: vecFrom (i + 1) n t else 0 :: vecFrom (i + 1) n cols

/-- The contribution of columns of a slot-tile: CRC-32C with initial value 0 and no final XOR over 4,096 bytes (R156). -/
def contribution (cols : List (Nat × Byte)) : Nat :=
  if cols.isEmpty then 0 else crcRef 0x82F63B78 0 (vecFrom 0 4096 cols)

/-- The header of a slot-tile; check word 0 and not suppressed unless listed. -/
def slotHdr (s : State) (g : Nat) (line : Int) : SlotTile :=
  (s.pos.slots.find? (fun t => t.tile == g && t.line == line)).getD { tile := g, line := line }

/-- Replaces a header; one at its default is not listed. -/
def setSlotHdr (h : SlotTile) (s : State) : State :=
  let rest := s.pos.slots.filter (fun t => !(t.tile == h.tile && t.line == h.line))
  { s with pos := { s.pos with slots := if h.chk = 0 ∧ h.sup = false then rest else h :: rest } }

/-- The slot-tile's current image line is `line`, and its row A read is still to come (R188, R189). -/
def slotOpen (s : State) (g : Nat) (line : Int) : Bool :=
  let d := dly s g
  decide (d.lastB < line ∧ line ≤ d.lastB + 256 ∧ d.lastA < line)

/-- The slot-tile has moved past image line `line`, or does not hold it yet. -/
def slotHolds (s : State) (g : Nat) (line : Int) : Bool :=
  let d := dly s g
  decide (d.lastB < line ∧ line ≤ d.lastB + 256)

/-- Sets a slot-tile's suppress flag (R136, R189). -/
def suppressSlot (g : Nat) (line : Int) (s : State) : State :=
  if slotHolds s g line then setSlotHdr { slotHdr s g line with sup := true } s else s

/-- Writes columns of a slot-tile (R188): the contribution of the bytes overwritten goes out of the check word and the
engine's contribution comes in; a write to another image line or after the row A read is dropped and counted.
`cols` gives column, dose computed, byte as it reaches the store. -/
def writeSlot (g : Nat) (line : Int) (cols : List (Nat × Byte × Byte)) (s : State) : State :=
  if cols.isEmpty then s
  else if !slotOpen s g line then tick 0x0506 (stOf g) s
  else
    let a := slotAddr g line
    let old := slotBytes s g line
    let hit := old.filter (fun p => cols.any (fun c => c.1 == p.1))
    let gone := contribution hit
    let come := contribution (cols.map (fun c => (c.1, c.2.1)))
    let h := slotHdr s g line
    let store := cols.foldl (fun m c => memSet m (a + c.1) c.2.2) s.pos.store
    setSlotHdr { h with chk := h.chk ^^^ gone ^^^ come } { s with pos := { s.pos with store := store } }

/-- Clears a slot-tile after its later read (R189). -/
def clearSlot (g : Nat) (line : Int) (s : State) : State :=
  let a := slotAddr g line
  { s with pos := { s.pos with
    store := s.pos.store.filter (fun p => !decide (a ≤ p.1 ∧ p.1 < a + 4096))
    slots := s.pos.slots.filter (fun t => !(t.tile == g && t.line == line)) } }

/-- The check of a slot-tile read: the CRC of its stored bytes (R189). -/
def slotCrc (s : State) (g : Nat) (line : Int) : Nat := contribution (slotBytes s g line)

/-- The geometry of a tile under a page (R146). -/
def geomOf (s : State) (p : Page) (g : Nat) : TileGeom :=
  ((s.exp.banks.getD p.geomBank {}).tiles).getD g {}

/-- The plane of a page at a station, from its spool object. -/
def planeOf (s : State) (p : Page) (st : Nat) : Option PlaneHdr := (pageObj s p.key).bind (fun o => o.plane? st)

/-- D_int of a column of a tile under a page (R132, R141). -/
def dIntOf (s : State) (p : Page) (g c : Nat) : Int :=
  if ((planeOf s p (stOf g)).map PlaneHdr.dose).getD false then 0 else colDInt (geomOf s p g) c

/-- Started pages of a station in the order of their first lines. -/
def startedAt (s : State) (st : Nat) : List Page :=
  let ps := s.page.pages.filter (fun p => p.started && p.uses st && p.st != .withdrawn)
  ps.mergeSort (fun a b => decide (a.firstLine st ≤ b.firstLine st))

/-- Slot line `m` does not lie past a page's last line at a column: m − D(c) ≤ L (R146). -/
def withinLast (s : State) (g c : Nat) (m : Int) (p : Page) : Bool := decide (m - dIntOf s p g c ≤ p.lastLine (stOf g))

/-- The page that owns a column of slot line `m`: of pages in the order of their lines, the first whose last line does not lie before it,
if its first line does not lie behind it (R146). -/
def columnOwner (s : State) (ps : List Page) (g c : Nat) (m : Int) : Option Page :=
  (ps.find? (withinLast s g c m)).filter (fun p => decide (p.firstLine (stOf g) ≤ m - dIntOf s p g c))

/-- Slot line `m` belongs to an earlier page than the one that writes this column: such a write is dropped (R146). -/
def ownedBefore (s : State) (earlier : List Page) (g c : Nat) (m : Int) : Bool := earlier.any (withinLast s g c m)

/-- The knots in force for a physical column at a firing line (R149). -/
def knotsAt (s : State) (st col : Nat) (line : Int) : List Nat :=
  match (mapGet s.exp.tone (st * 65536 + col)).bind (fun vs => vs.find? (fun v => decide (v.fromLine ≤ line))) with
  | some v => v.knots
  | none => toneNeutral

/-- The pixels of a plane-band stream as its blocks decode: an array of source lines; blocks in `odd` hold the pixels a
lane saw instead. -/
def decodedLines (t : PbStream) (odd : List (Nat × List Byte)) (blocks : List Nat) : Array (Array Nat) :=
  let w := Nat.max 1 t.colCount
  let block (r : BlockRec) : List (Array Nat) :=
    if !blocks.contains r.block then List.replicate r.rows #[]
    else
      let px : List Nat := match mapGet odd r.block with
        | some b => b.map (·.toNat)
        | none => (decodeBlock r.coding r.rows t.colCount r.payload).pixels
      let arr := px.toArray
      (List.range r.rows).map (fun i => arr.extract (i * w) ((i + 1) * w))
  ((t.recs.map block).flatten).toArray

/-- The source lines of band-line `n` of a tile of a page (R134, R143). -/
def linesDrawn (s : State) (p : Page) (g n : Nat) : List Nat :=
  match planeOf s p (stOf g) with
  | none => []
  | some h => bandLines h.dose (geomOf s p g) h.ppiY (pitchUm (((pageObj s p.key).map SpoolObj.pitch10).getD false)) h.height n

/-- The blocks that band-line `n` draws on (R134). -/
def blocksDrawn (s : State) (p : Page) (g n : Nat) : List Nat := ((linesDrawn s p g n).map (· / 16)).eraseDups

/-- Least D_int of a tile under a page. -/
def minDInt (s : State) (p : Page) (g : Nat) : Int :=
  if ((planeOf s p (stOf g)).map PlaneHdr.dose).getD false then 0 else geomMinD (geomOf s p g)

/-- The distinct D_int of a tile's columns under a page. -/
def allDInt (s : State) (p : Page) (g : Nat) : List Int :=
  if ((planeOf s p (stOf g)).map PlaneHdr.dose).getD false then [0] else geomDs (geomOf s p g)

/-- F_min(n) of a tile of a started page (R132, R186). -/
def fMin (s : State) (p : Page) (g n : Nat) : Int := p.firstLine (stOf g) + n + minDInt s p g + (dly s g).ia

/-- The guard G(n) (R133). -/
def guardOf (s : State) (p : Page) (g n : Nat) : Int := fMin s p g n - 8

/-- The pipe's view of a tile of a page; `odd` as for `decodedLines`. -/
def pipeTile (s : State) (p : Page) (g : Nat) (odd : List (Nat × List Byte)) (blocks : List Nat) : Option PipeTile :=
  let st := stOf g
  match pageObj s p.key, planeOf s p st with
  | some o, some h =>
    match o.stream? st (g % 16) with
    | none => none
    | some t => some {
        tile := g % 16, geom := geomOf s p g, kernel := ((s.exp.banks.getD p.geomBank {}).kernel).getD st 0,
        plane := h, pitch := pitchUm o.pitch10, colFirst := t.colFirst, colCount := t.colCount,
        screen := s.exp.screens.getD (6 * p.screenBank + st) {}, pix := decodedLines t odd blocks }
  | _, _ => none

/-- The computed columns of a band-line: column, slot line, dose; a column an earlier page owns is left out (R132, R146). -/
def bandLineCols (s : State) (p : Page) (g n : Nat) (pt : PipeTile) : List (Nat × Int × Byte) :=
  let st := stOf g
  let earlier := (startedAt s st).filter (fun q => q.key != p.key && decide (q.firstLine st < p.firstLine st ∧ p.firstLine st ≤ q.lastLine st + 17))
  (List.range 4096).filterMap (fun c =>
    let m := p.firstLine st + n + pt.dInt c
    if !earlier.isEmpty && ownedBefore s earlier g c m then none
    else
      let f := m + (dly s g).ia
      some (c, m, pt.dose (if pt.plane.dose then [] else knotsAt s st (4096 * (g % 16) + c) f) n c))

/-- Writes a band-line into the line store (R132, R188); column `bad` reaches the store inverted, where a write-path fault is named. -/
def writeBandLine (s : State) (p : Page) (g n : Nat) (pt : PipeTile) (bad : Option Nat) : State :=
  let cols := bandLineCols s p g n pt
  forList ((cols.map (fun c => c.2.1)).eraseDups) s (fun m s =>
    writeSlot g m ((cols.filter (fun c => c.2.1 == m)).map (fun c =>
      (c.1, c.2.2, if bad = some c.1 then ~~~c.2.2 else c.2.2))) s)

end Sys2Proof.Machine
end

