-- ==== Sys2Proof/Machine/Engines.lean ====
section
/-! DEFINITION. The band scheduler's operations: choosing engines, fences, self-tests, lanes, settling band-lines, replays
(R129 to R136, R154 to R163, R512). -/

namespace Sys2Proof.Machine

def eng (s : State) (e : Nat) : Engine := s.exp.engines.getD e { st := .off }

def setEng (e : Nat) (f : Engine → Engine) (s : State) : State :=
  { s with exp := { s.exp with engines := updAt s.exp.engines e f } }

/-- The 28 engines. -/
def engineList : List Nat := List.range 28

/-- An engine that can be given work: it runs no replay and no move waits on it. -/
def engFree (s : State) (e : Nat) : Bool := (eng s e).replay.isNone && (eng s e).move.isNone

/-- SPARE engines by R512: longest since the self-test passed, lowest number on a tie. -/
def pickSpare (s : State) (avoid : Nat) : Option Nat :=
  argMin (fun e => (eng s e).passedAt) (engineList.filter (fun e => e != avoid && engFree s e && (eng s e).st == .spare))

/-- The engine that takes work (R512): a SPARE one, else the lowest in TEST. -/
def pickEngine (s : State) (avoid : Nat) : Option Nat :=
  match pickSpare s avoid with
  | some e => some e
  | none => engineList.find? (fun e => e != avoid && engFree s e && (eng s e).st == .test)

/-- Every EXP.ENGINE of an engine completes once it has left FENCED, TEST and WARMING with no move waiting (R168). -/
def engSettle (e : Nat) (s : State) : State :=
  let g := eng s e
  if g.move.isSome || g.st == .fenced || g.st == .test || g.st == .warming then s
  else forList g.oids (setEng e (fun g => { g with oids := [] }) s) (fun o s => complete o stOk [g.st.code] s)

/-- Duration of the self-test in ps at the throttle level in force (R163, R446). -/
def selfTestPs (s : State) : Nat := 1500000000 * 256 / (256 - Nat.min 255 s.sup.level)

/-- Starts an engine's self-test (R163). -/
def startTest (e : Nat) (s : State) : State :=
  let t := s.now + selfTestPs s
  setEng e (fun g => { g with testEnd := some t }) s

/-- Notes a fence of an engine: its number within 24 hours (R160). -/
def noteFence (e : Nat) (s : State) : State :=
  let f := s.now :: (eng s e).fences.filter (fun t => decide (s.now < t + dayPs))
  setEng e (fun g => { g with fences := f }) (tick 0x0403 e s)

/-- An engine enters FENCED for its self-test (R160). -/
def fenceNow (e cause : Nat) (s : State) : State :=
  let s := noteFence e s
  let n := (eng s e).fences.length
  let s := setEng e (fun g => { g with st := .fenced, quartet := none, move := none, replay := none,
                                       toOff := decide (s.exp.fenceLimit ≤ n) }) s
  startTest e (raise 0x0402 e 0 0 cause n 4 s)

/-- An engine enters TEST (R160, R162). -/
def testNow (e : Nat) (s : State) : State :=
  startTest e (setEng e (fun g => { g with st := .test, quartet := none, move := none, replay := none }) s)

/-- The station of a quartet. -/
def quartetStation (q : Nat) : Nat := q / 4

/-- The four tiles of a quartet. -/
def quartetTiles (q : Nat) : List Nat := [4 * q, 4 * q + 1, 4 * q + 2, 4 * q + 3]

/-- The run of a tile of a page. -/
def runOf (s : State) (page tile : Nat) : TileRun :=
  (s.exp.runs.find? (fun r => r.page == page && r.tile == tile)).getD { page := page, tile := tile }

def setRun (page tile : Nat) (f : TileRun → TileRun) (s : State) : State :=
  { s with exp := { s.exp with runs := s.exp.runs.map (fun r => if r.page = page ∧ r.tile = tile then f r else r) } }

/-- A band-line is settled: released or suppressed. -/
def lineSettled (r : TileRun) (n : Nat) : Bool := decide (n < r.upTo) || r.settled.contains n

/-- Settles a band-line. -/
def settleRun (n : Nat) (r : TileRun) : TileRun :=
  if lineSettled r n then r
  else
    let set := n :: r.settled
    let up := iterate (fun u => if set.contains u then some (u + 1) else none) (set.length + 1) r.upTo
    { r with upTo := up, settled := set.filter (fun m => decide (up ≤ m)), bad := r.bad.filter (fun b => b.1 != n) }

def setLane (engine page tile : Nat) (f : Lane → Lane) (s : State) : State :=
  { s with exp := { s.exp with lanes := s.exp.lanes.map (fun l =>
      if l.engine = engine ∧ l.page = page ∧ l.tile = tile then f l else l) } }

/-- A new lane of a tile of a page from band-line `n` on: it starts at the block that holds the first source line
needed (R157, R160). -/
def laneFrom (s : State) (e : Nat) (p : Page) (tile n : Nat) : Lane :=
  let b := ((blocksDrawn s p tile n).foldl (fun a b => match a with | none => some b | some x => some (Nat.min x b)) (none : Option Nat)).getD 0
  { engine := e, page := p.key, tile := tile, start := n, next := n, fetchNext := b }

/-- Pages whose band-lines are expanded at a station, in admission order. -/
def expandPages (s : State) (st : Nat) : List Page := (liveByAdmission s).filter (fun p => p.uses st)

/-- The quartet's first page that has unreleased band-lines, and the first of them (R162). -/
def quartetHead (s : State) (q : Nat) : Option (Page × Nat) :=
  (expandPages s (quartetStation q)).findSome? (fun p =>
    let n := (quartetTiles q).foldl (fun a t => Nat.min a (runOf s p.key t).upTo) p.lines
    if n < p.lines then some (p, n) else none)

/-- Drops every lane of an engine. -/
def dropLanes (e : Nat) (s : State) : State :=
  { s with exp := { s.exp with lanes := s.exp.lanes.filter (fun l => l.engine != e) } }

/-- Gives an engine the lanes of a quartet from each tile's first unsettled band-line on. -/
def takeLanes (q e : Nat) (s : State) : State :=
  let add := ((expandPages s (quartetStation q)).map (fun p => (quartetTiles q).filterMap (fun t =>
    let n := (runOf s p.key t).upTo
    if n < p.lines then some (laneFrom s e p t n) else none))).flatten
  { s with exp := { s.exp with lanes := s.exp.lanes ++ add } }

/-- An engine leaves spare or test duty for work. -/
def engTake (e : Nat) (st : EngSt) (q : Option Nat) (s : State) : State :=
  setEng e (fun g => { g with st := st, quartet := q, testEnd := none, spareAt := s.now }) s

/-- The replays for a fault of an engine that wait for one to produce the quartet go to its new engine (R157, R160). -/
def replaysTo (q e : Nat) (s : State) : State :=
  { s with exp := { s.exp with replays := s.exp.replays.map (fun r =>
      if r.block.isNone ∧ r.engine.isNone ∧ r.tile / 4 = q then { r with engine := some e, attempts := r.attempts + 1 } else r) } }

/-- An engine takes over a quartet: it enters WARMING (R160). -/
def warm (q e : Nat) (s : State) : State := replaysTo q e (takeLanes q e (engTake e .warming (some q) s))

/-- Unserved quartets take engines that have become SPARE or TEST (R161). -/
def giveUnserved (s : State) : State :=
  iterate (fun s => match s.exp.unserved with
    | [] => none
    | (q, _) :: t => match pickEngine s 28 with
      | none => none
      | some e => some (warm q e { s with exp := { s.exp with unserved := t } })) 24 s

/-- An engine returns to spare duty. -/
def toSpare (e : Nat) (s : State) : State :=
  giveUnserved (engSettle e (dropLanes e (setEng e (fun g => { g with st := .spare, quartet := none, move := none, replay := none, testEnd := none }) s)))

/-- The engine that produces a quartet's new work: one that warms up for it, else the one that carries it. -/
def producerOf (s : State) (q : Nat) : Option Nat :=
  match engineList.find? (fun e => (eng s e).quartet == some q && (eng s e).st == .warming && (eng s e).move.isNone) with
  | some e => some e
  | none => engineList.find? (fun e => (eng s e).quartet == some q && (eng s e).st == .active && (eng s e).move.isNone)

/-- The engine that carries a quartet (R129): until a move or a hand-over the outgoing one. -/
def carrierOf (s : State) (q : Nat) : Option Nat :=
  match engineList.find? (fun e => (eng s e).quartet == some q && (eng s e).st == .active) with
  | some e => some e
  | none => engineList.find? (fun e => (eng s e).quartet == some q && (eng s e).st == .warming)

/-- Assigns the quartets of a station for an admitted page (R131), and gives the page its lanes. -/
def assignQuartet (p : Page) (q : Nat) (s : State) : State :=
  let s := { s with exp := { s.exp with runs := s.exp.runs ++ (quartetTiles q).map (fun t => { page := p.key, tile := t }) } }
  let addLanes (e : Nat) (s : State) : State :=
    { s with exp := { s.exp with lanes := s.exp.lanes ++ (quartetTiles q).map (fun t => laneFrom s e p t 0) } }
  match producerOf s q with
  | some e => addLanes e s
  | none =>
    if s.exp.unserved.any (fun u => u.1 == q) then s
    else match pickEngine s 28 with
      | some e => addLanes e (engSettle e (engTake e .active (some q) s))
      | none => { s with exp := { s.exp with unserved := s.exp.unserved ++ [(q, 0xFF)], noSpareOwed := s.exp.noSpareOwed ++ [q] } }

/-- The quartets of a page's stations (R129). -/
def assignPage (p : Page) (s : State) : State :=
  forList p.stations s (fun st s => forRange 4 s (fun k s => assignQuartet p (4 * st + k) s))

/-- Ends a rotation under way without a hand-over: the lanes of both engines are given anew to `keep` (R162). -/
def rotateCancel (keep : Nat) (s : State) : State :=
  match s.exp.rotation with
  | none => s
  | some r =>
    let s := { s with exp := { s.exp with rotation := none } }
    let s := dropLanes r.out (dropLanes r.inn s)
    takeLanes r.quartet keep s

/-- A replay of a station adds to its count since the last EXP.SLACK, saturating (R165, Table 5.12). -/
def countReplay (st cause : Nat) (s : State) : State :=
  let s := tick 0x0401 cause s
  { s with exp := { s.exp with slack := updAt s.exp.slack st (fun k => { k with replays := satAdd 16 k.replays 1 }) } }

/-- Enters a replay (R157). -/
def addReplay (cause : Nat) (failing : Option Nat) (page tile : Nat) (block : Option Nat) (lines : List Nat)
    (engine : Option Nat) (seen : Option FailSeen) (s : State) : State :=
  let r : Replay := { rid := s.exp.nextRid, cause := cause, failing := failing, page := page, tile := tile, block := block,
                      lines := lines, engine := engine, seen := seen }
  countReplay (stOf tile) cause { s with exp := { s.exp with replays := s.exp.replays ++ [r], nextRid := s.exp.nextRid + 1 } }

/-- Band-lines of a tile of a page that are eligible and not settled (R133). -/
def eligibleLines (s : State) (p : Page) (tile : Nat) : List Nat :=
  let st := stOf tile
  let t := trk s st
  if !p.started || !t.en then []
  else
    let r := runOf s p.key tile
    let top := (t.k + 64 - fMin s p tile 0 + 1).toNat
    ((List.range (Nat.min top p.lines - r.upTo)).map (fun i => r.upTo + i)).filter (fun n => !lineSettled r n)

/-- Band-lines of a tile of a page that a fault after cause `cause` replays on the engine's successor: those it had not released, for
the causes 1 to 4 and 10 (R157). -/
def engineReplays (e cause : Nat) (s : State) : State :=
  let ls := if [1, 2, 3, 4, 10].contains cause then s.exp.lanes.filter (fun l => l.engine == e) else []
  forList ls s (fun l s =>
    match pageOf s l.page with
    | none => s
    | some p =>
      let held := ((s.exp.replays.filter (fun r => r.page == l.page && r.tile == l.tile)).map Replay.lines).flatten
      let lines := (eligibleLines s p l.tile).filter (fun n => !held.contains n)
      if lines.isEmpty then s else addReplay cause (some e) l.page l.tile none lines none none s)

/-- Marks band-lines that will be suppressed at their guard. -/
def badLines (page tile cause : Nat) (lines : List Nat) (s : State) : State :=
  setRun page tile (fun r => { r with bad := r.bad ++ (lines.filter (fun n => !lineSettled r n && !r.bad.any (fun b => b.1 == n))).map (fun n => (n, cause)) }) s

/-- The guard of a replay's first band-line. -/
def replayGuard (s : State) (r : Replay) : Int :=
  match pageOf s r.page with
  | none => 0
  | some p => guardOf s p r.tile (r.lines.headD 0)

/-- Time in ps from the station's present line to a replay's guard at its present period, or at 100,000 lines/s where none is known (R158). -/
def timeToGuard (s : State) (r : Replay) : Int :=
  let t := trk s (stOf r.tile)
  let per := if periodOf t = 0 then 10000000 else periodOf t * 250
  (replayGuard s r - t.k) * per

/-- The replay budget of Table 5.10 at 100,000 lines/s, in ps. -/
def replayBudget : Nat := 174000000

/-- A replay has failed and may be tried again: fewer than three attempts, and at least the replay budget to its guard (R158). -/
def mayRetry (s : State) (r : Replay) : Bool := decide (r.attempts < 3 ∧ (replayBudget : Int) ≤ timeToGuard s r)

/-- The replays for engine faults that engine `e` was producing wait for its successor, or for their guards (R158). -/
def replaysFrom (e : Nat) (s : State) : State :=
  let mine := s.exp.replays.filter (fun r => r.block.isNone && r.engine == some e)
  forList mine { s with exp := { s.exp with replays := s.exp.replays.map (fun r =>
      if r.block.isNone ∧ r.engine = some e ∧ mayRetry s r then { r with engine := none } else r) } }
    (fun r s' => if mayRetry s r then s' else badLines r.page r.tile r.cause r.lines s')

/-- The head of a quartet as EV_EXP_NO_SPARE names it: its page, and the station line number of F_min of its first unreleased band-line
(R169); with none started, the station's line. -/
def headLine (s : State) (q : Nat) : Nat × Nat :=
  let st := quartetStation q
  match quartetHead s q with
  | some (p, n) =>
    if p.started then
      let ts := (quartetTiles q).filter (fun t => decide ((runOf s p.key t).upTo ≤ n))
      (p.id.toNat, lineNo (ts.foldl (fun a t => min a (fMin s p t n)) (fMin s p (ts.headD 0) n)))
    else (0, stationLine s st)
  | none => (0, stationLine s st)

/-- The replays that a failed engine ran wait for a further engine while they may be tried again (R158). -/
def dropReplayEngine (e : Nat) (s : State) : State :=
  { s with exp := { s.exp with replays := s.exp.replays.map (fun r =>
      if r.engine = some e ∧ r.block.isSome then { r with engine := none, attempts := if mayRetry s r then r.attempts else 3 } else r) } }

/-- An engine that carries a quartet has to give it up (R157, R160, R161, R512): `fence` into FENCED, else into TEST. -/
def engFail (e cause : Nat) (fence : Bool) (s : State) : State :=
  let g := eng s e
  if g.move.isSome || g.st == .fenced || g.st == .off then s
  else match g.quartet with
    | none => if fence then fenceNow e cause (dropReplayEngine e s) else testNow e (dropReplayEngine e s)
    | some q =>
      let st := quartetStation q
      let rot := s.exp.rotation
      let partner := match rot with
        | some r => if r.out = e then some r.inn else if r.inn = e then some r.out else none
        | none => none
      let mv : EngMove := { cause := cause, fence := fence, station := st }
      let again := fun (s : State) => engineReplays e cause (replaysFrom e s)
      match partner with
      | some o => setEng e (fun g => { g with move := some mv }) (replaysTo q o (rotateCancel o (again s)))
      | none =>
        match pickEngine s e with
        | some n => setEng e (fun g => { g with move := some mv }) (warm q n (dropLanes e (again s)))
        | none =>
          if cause = 4 then s
          else
            let h := headLine s q
            let s := dropLanes e (again s)
            let s := raise 0x0406 st h.1 h.2 q e 0 { s with exp := { s.exp with unserved := s.exp.unserved ++ [(q, e)] } }
            setEng e (fun g => { g with quartet := none, move := some mv }) s

/-- A waiting move takes effect (R160). -/
def moveApply (e : Nat) (s : State) : State :=
  match (eng s e).move with
  | none => s
  | some m => if m.fence then fenceNow e m.cause s else testNow e s

/-- Moves that wait on a station whose tracker is disabled take effect at once (R160). -/
def movesNow (s : State) : State :=
  forList engineList s (fun e s => match (eng s e).move with
    | some m => if (trk s m.station).en then s else giveUnserved (moveApply e s)
    | none => s)

/-- The replay's band-lines are all settled or given up: EV_EXP_REPLAY (R158, Table 5.14), and its engine is free again. -/
def replayEnd (r : Replay) (outcome : Nat) (s : State) : State :=
  let s := { s with exp := { s.exp with replays := s.exp.replays.filter (fun q => q.rid != r.rid) } }
  let id := ((pageOf s r.page).map (fun p => p.id.toNat)).getD 0
  let line := ((pageOf s r.page).map (fun p => lineNo (fMin s p r.tile (r.lines.headD 0)))).getD 0
  let s := raise 0x0401 r.tile id line (r.cause + r.failing.getD 0xFF * 256 + r.engine.getD 0xFF * 65536) outcome (r.block.getD 0) s
  match r.engine with
  | none => s
  | some e =>
    if (eng s e).replay = some r.rid then
      let s := setEng e (fun g => { g with replay := none }) s
      giveUnserved (if (eng s e).st = .test then startTest e s else s)
    else s

/-- Takes a settled band-line out of lanes and replays; a replay whose last band-line it was ends. -/
def lineGone (page tile n outcome : Nat) (s : State) : State :=
  let lanes := s.exp.lanes.map (fun l => if l.page = page ∧ l.tile = tile then { l with waiting := l.waiting.filter (· != n) } else l)
  let touched := s.exp.replays.filter (fun r => r.page == page && r.tile == tile && r.lines.contains n)
  let replays := s.exp.replays.map (fun r =>
    if r.page = page ∧ r.tile = tile ∧ r.lines ≠ [n] then { r with lines := r.lines.filter (· != n) } else r)
  let s := { s with exp := { s.exp with lanes := lanes, replays := replays } }
  forList touched s (fun r s => if r.lines = [n] then replayEnd r outcome s else s)

/-- The station's position in 1/16 line at this moment (R135). -/
def position16 (s : State) (st : Nat) : Int :=
  let t := trk s st
  floorDiv ((t.hwm - t.origin) * 65536 * 16) (Nat.max 1 t.cpl)

/-- The slack monitor at a release (R135, R165). -/
def slackNote (st e : Nat) (slack : Int) (id line : Nat) (s : State) : State :=
  let k := (trk s st).k
  let old := s.exp.slack.getD st {}
  let thr := s.exp.slackThr
  let low := decide (slack < 16 * thr)
  let near := decide (slack ≤ 16 * (thr + 8))
  let new : SlackStat := { old with
    least := some (match old.least with | none => slack | some x => min x slack)
    latest := slack
    armed := if low then false else old.armed || (!near && decide (1024 ≤ k - old.calmSince))
    calmSince := if near then k else old.calmSince }
  let s := { s with exp := { s.exp with slack := updAt s.exp.slack st (fun _ => new) } }
  if low && old.armed then raise 0x0405 st id line (w32 slack) e thr s else s

/-- Releases a band-line (R131, R134, R135, R165, R170). -/
def releaseLine (p : Page) (tile n e : Nat) (s : State) : State :=
  let st := stOf tile
  let f := fMin s p tile n
  let s := { s with exp := { s.exp with noSpareOwed := s.exp.noSpareOwed.filter (· != tile / 4) } }
  let s := setRun p.key tile (settleRun n) (tick 0x0400 e s)
  let s := slackNote st e (16 * (f - 8) - position16 s st) p.id.toNat (lineNo f) s
  lineGone p.key tile n 0 s

/-- Suppresses a band-line (R136): its slot-tiles, the page, the events and the count. -/
def suppressLine (p : Page) (tile n : Nat) (s : State) : State :=
  let st := stOf tile
  let q := tile / 4
  let f := fMin s p tile n
  let r := runOf s p.key tile
  let bad := (r.bad.find? (fun b => b.1 == n)).map (fun b => b.2)
  let inReplay := (s.exp.replays.find? (fun x => x.page == p.key && x.tile == tile && x.lines.contains n)).map Replay.cause
  let cause := (bad.map (fun b => b % 256)).getD (inReplay.getD 0)
  let strict := (bad.map (fun b => decide (256 ≤ b))).getD false
  let s := forList (allDInt s p tile) s (fun d s => suppressSlot tile (p.firstLine st + n + d) s)
  let s := setRun p.key tile (fun r => { settleRun n r with suppressed := true }) (tick 0x0402 0 s)
  let s := if s.exp.noSpareOwed.contains q then
      raise 0x0406 st p.id.toNat (lineNo f) q 0xFF 0 { s with exp := { s.exp with noSpareOwed := s.exp.noSpareOwed.filter (· != q) } }
    else s
  let s := if r.suppressed then s else raise 0x0404 tile p.id.toNat (lineNo f) cause n 0 s
  let s := if strict then s else spoil p.key 1 st (stationLine s st) s
  lineGone p.key tile n 1 s

/-- The band-lines of a tile of a page that draw on a block and are not settled. -/
def linesOnBlock (s : State) (p : Page) (tile block : Nat) : List Nat :=
  match planeOf s p (stOf tile) with
  | none => []
  | some h =>
    let per := Nat.max 1 (h.ppiY * pitchUm (((pageObj s p.key).map SpoolObj.pitch10).getD false))
    let lo := (16 * block - 1) * 25400 / per - 3
    let hi := Nat.min p.lines ((16 * block + 17) * 25400 / per + 4)
    let r := runOf s p.key tile
    ((List.range (hi - lo)).map (fun i => lo + i)).filter (fun n => !lineSettled r n && (blocksDrawn s p tile n).contains block)

/-- A block has failed in a lane: its band-lines await a replay (R154, R157). -/
def blockFail (l : Lane) (p : Page) (block cause : Nat) (seen : Option FailSeen) (s : State) : State :=
  let lines := linesOnBlock s p l.tile block
  let s := setLane l.engine l.page l.tile (fun l => { l with
    inLane := none, failed := l.failed ++ [block], waiting := l.waiting.filter (fun n => !lines.contains n) }) s
  if lines.isEmpty then s else addReplay cause (some l.engine) l.page l.tile (some block) lines none seen s

/-- The expansion work of a boundary of a station: waiting moves, lateness, guards (R136, R155, R160). -/
def expBoundary (st : Nat) (k : Int) (s : State) : State :=
  let s := forList engineList s (fun e s => match (eng s e).move with
    | some m => if m.station = st then moveApply e s else s
    | none => s)
  let s := giveUnserved s
  forList (expandPages s st) s (fun p s =>
    if !p.started then s
    else forList (tilesOf st) s (fun tile s =>
      let f0 := fMin s p tile 0
      let late := k + 8 + s.exp.stall - f0
      let guard := k + 8 - f0
      let s :=
        if 0 ≤ late ∧ late < p.lines then
          let n := late.toNat
          let r := runOf s p.key tile
          let data := s.exp.replays.any (fun x => x.page == p.key && x.tile == tile && x.lines.contains n)
          if lineSettled r n || r.bad.any (fun b => b.1 == n) || data then s
          else match s.exp.lanes.find? (fun l => l.page == p.key && l.tile == tile && decide (n < l.upTo.getD p.lines)) with
            | some l => engFail l.engine 4 false s
            | none => s
        else s
      if 0 ≤ guard ∧ guard < p.lines ∧ !lineSettled (runOf s p.key tile) guard.toNat then
        suppressLine p tile guard.toNat s
      else s))

/-- A quartet is released (R131): its engines return to spare duty. -/
def releaseQuartet (q : Nat) (s : State) : State :=
  let s := { s with exp := { s.exp with
    unserved := s.exp.unserved.filter (fun u => u.1 != q), noSpareOwed := s.exp.noSpareOwed.filter (· != q),
    rotation := s.exp.rotation.bind (fun r => if r.quartet = q then none else some r) } }
  forList (engineList.filter (fun e => (eng s e).quartet == some q)) s (fun e s =>
    if (eng s e).move.isSome then setEng e (fun g => { g with quartet := none }) (dropLanes e s) else toSpare e s)

/-- The station line at which the last value of a page fires on a tile (R132, R186). -/
def lastFiring (s : State) (p : Page) (tile : Nat) : Int :=
  p.lastLine (stOf tile) + max (dly s tile).ia (dly s tile).ib + ((allDInt s p tile).foldl max (minDInt s p tile))

/-- Every band-line of the station's pages has been settled and the last line of each has fired (R131). -/
def stationSpent (s : State) (st : Nat) : Bool :=
  (expandPages s st).all (fun p => p.started && decide (p.lastLine st ≤ (trk s st).k + 32)
    && (tilesOf st).all (fun t => decide (p.lines ≤ (runOf s p.key t).upTo)) && (tilesOf st).all (fun t => decide (lastFiring s p t ≤ (trk s st).k)))

/-- Releases the quartets of a station with nothing left to print (R131). -/
def releaseStation (st : Nat) (s : State) : State :=
  if stationSpent s st then
    forRange 4 s (fun k s =>
      let q := 4 * st + k
      if (engineList.any (fun e => (eng s e).quartet == some q)) || s.exp.unserved.any (fun u => u.1 == q) then releaseQuartet q s else s)
  else s

/-- The hand-over of a rotation once the band-lines below H are released (R162). -/
def rotateHandover (st : Nat) (s : State) : State :=
  match s.exp.rotation with
  | none => s
  | some r =>
    if quartetStation r.quartet ≠ st then s
    else if (quartetTiles r.quartet).all (fun t => decide (r.h ≤ (runOf s r.page t).upTo)) || (pageOf s r.page).all Page.ended then
      let s := { s with exp := { s.exp with rotation := none } }
      giveUnserved (testNow r.out (dropLanes r.out (tick 0x0406 0 s)))
    else s

/-- Forgets the runs and lanes of pages that have ended. -/
def expForget (page : Nat) (s : State) : State :=
  { s with exp := { s.exp with runs := s.exp.runs.filter (fun r => r.page != page), lanes := s.exp.lanes.filter (fun l => l.page != page),
                               replays := s.exp.replays.filter (fun r => r.page != page) } }

end Sys2Proof.Machine
end

