-- ==== Sys2Proof/Machine/CalSpan.lean ====
section
/-! DEFINITION. Sample spans: planning them and recording the resampled tone as band-lines are produced (R300). -/

namespace Sys2Proof.Machine

/-- A run of kind 0 to 3 collects at a station, and waits for no page. -/
def collectingAt (s : State) (st : Nat) : Bool :=
  s.cal.runs.any (fun r => decide (r.kind ≤ 3) && r.subject == st && r.phase == .collecting && !r.waits)

def calCfg (s : State) (st : Nat) : CalCfg := s.cal.cfgs.getD st {}

/-- The first line of the span of a station's settings that holds line `n`, if one does (R300). -/
def spanStart (c : CalCfg) (lines n : Nat) : Option Nat :=
  let a := n - n % Nat.max 1 c.spacing
  if n < a + c.span ∧ a + c.span ≤ lines then some a else none

/-- A page's first span is at hand: the runs of its station that wait for it go on (R314 step 4). -/
def pageArrived (st : Nat) (s : State) : State :=
  { s with cal := { s.cal with runs := s.cal.runs.map (fun r => if r.kind ≤ 3 ∧ r.subject = st then { r with waits := false } else r) } }

/-- Plans a span when its first band-line is produced; one that finds the store full is counted. -/
def spanPlan (st : Nat) (p : Page) (tile n : Nat) (s : State) : State :=
  match spanStart (calCfg s st) p.lines n with
  | none => s
  | some a =>
    if n ≠ a || s.cal.spans.any (fun x => x.station == st && x.page == p.key && x.first == a) then s
    else
      let s := if a = 0 then pageArrived st s else s
      if !collectingAt s st then s
      else if countBy (fun (x : Span) => x.station == st) s.cal.spans < 4096 then
        { s with cal := { s.cal with spans := s.cal.spans ++ [{ station := st, page := p.key, first := a }] } }
      else if tile = 16 * st then tick 0x0904 st s else s

/-- A produced band-line lies in a planned span of some station. -/
def spanWants (s : State) (p : Page) (n : Nat) : Bool :=
  s.cal.spans.any (fun x => x.page == p.key && spanStart (calCfg s x.station) p.lines n == some x.first)

/-- Records the resampled tone of a produced band-line of a contone plane (R300, R301). -/
def spanNote (p : Page) (tile n : Nat) (tones : Unit → List Nat) (s : State) : State :=
  let s := forList p.stations s (fun st s => spanPlan st p tile n s)
  if spanWants s p n then
    let row : SpanRow := { station := stOf tile, page := p.key, n := n, tile := tile, v := tones () }
    { s with cal := { s.cal with rows := s.cal.rows.filter (fun r => !(r.page == p.key && r.tile == tile && r.n == n)) ++ [row] } }
  else s

end Sys2Proof.Machine
end

