-- ==== Sys2Proof/Machine/CalCore.lean ====
section
/-! DEFINITION. Calibration runs: attempts, results and events that end an attempt (R314, R316, Tables 10.3, 10.4). -/

namespace Sys2Proof.Machine

/-- Whether a run is of a kind on a subject. -/
def isRun (kind subj : Nat) (r : CalRun) : Bool := r.kind == kind && r.subject == subj

/-- The run of a kind on a subject; the idle run where none has been started. -/
def calOf (s : State) (kind subj : Nat) : CalRun := (s.cal.runs.find? (isRun kind subj)).getD { kind := kind, subject := subj }

/-- Changes a run, entering it where it is new. -/
def setCal (kind subj : Nat) (f : CalRun → CalRun) (s : State) : State :=
  let rs := if s.cal.runs.any (isRun kind subj) then s.cal.runs else s.cal.runs ++ [{ kind := kind, subject := subj }]
  { s with cal := { s.cal with runs := rs.map (fun r => if isRun kind subj r then f r else r) } }

/-- Instance of a calibration counter (Table 16.2). -/
def calInst (kind subj : Nat) : Nat := kind + 256 * subj

/-- LINE of a calibration event. -/
def calLine (s : State) (kind subj : Nat) : Nat := if kind = 4 then 0 else stationLine s subj

/-- RETRIES of a run (R314, R373). -/
def calRetries (s : State) (kind subj : Nat) : Nat := if kind = 4 then 3 else (calCfg s subj).retries

/-- WMAX of a run in ps (R314, R373). -/
def calWmax (s : State) (kind subj : Nat) : Nat := (if kind = 4 then 10 else (calCfg s subj).wmax) * 1000000000000

/-- The bits of a mask that another lacks. -/
def maskDiff (a b : Nat) : Nat := a &&& (a ^^^ b)

/-- Drops the spans of a station that no collecting run wants any more. -/
def spanDrop (st : Nat) (s : State) : State :=
  if s.cal.runs.any (fun r => decide (r.kind ≤ 3) && r.subject == st && r.phase != .idle) then s
  else { s with cal := { s.cal with spans := s.cal.spans.filter (fun x => x.station != st) } }

/-- The run ends with its result (R314 step 5). -/
def calEnd (kind subj : Nat) (s : State) : State :=
  let r := calOf s kind subj
  let res := if r.left = 0 then 1 else 2
  let again := r.continuous && !r.stopped
  let s := setCal kind subj (fun r => { r with
    phase := if again then .waiting else .idle, last := res, passed := r.got, failed := r.left, resultAt := nowNs s
    samples := [], first := none, plateau := none, openedAt := none, waits := false, banks := none
    nextAt := if again && !r.applying then some (s.now + r.interval * 1000000000000) else none }) s
  let s := if res = 1 then tick 0x0901 (calInst kind subj) s else s
  spanDrop subj (raise 0x0901 subj 0 (calLine s kind subj) (kind + 256 * res + 65536 * r.cause) (r.got + 65536 * r.left) r.attempts s)

/-- A run ends without a result (R316, R459); an application under way completes. -/
def calQuit (kind subj : Nat) (s : State) : State :=
  spanDrop subj (setCal kind subj (fun r => { r with
    phase := .idle, stopped := true, samples := [], first := none, plateau := none, openedAt := none, waits := false, banks := none
    nextAt := none, cur := 0, left := 0 }) s)

/-- A window of kind 4 begins on an axis, the window before it kept for comparison or dropped (R373). -/
def axisWindow (a : Nat) (keepFirst : Bool) (s : State) : State :=
  { s with motion := { s.motion with drives := updAt s.motion.drives a (fun d => { d with
      calSums := (0, 0, 0), calCount := 0, calFirst := if keepFirst then d.calFirst else none }) } }

/-- The attempt is over: the run ends, or its next attempt covers what is still failing (R314 steps 4 and 5). -/
def calNext (kind subj : Nat) (keepFirst : Bool) (s : State) : State :=
  let r := calOf s kind subj
  if r.left = 0 ∨ calRetries s kind subj ≤ r.attempts then calEnd kind subj s
  else
    let s := if kind = 4 then axisWindow subj keepFirst s else s
    setCal kind subj (fun r => { r with
      phase := .collecting, attempts := r.attempts + 1, cur := r.left, samples := [], plateau := none
      openedAt := if kind = 4 then some s.now else none, banks := none
      first := if keepFirst then r.first else none, waits := kind != 4 }) s

/-- Tiles fail the present attempt with a cause of Table 10.4, with EV_CAL_ATTEMPT. -/
def calFail (kind subj mask cause : Nat) (s : State) : State :=
  let r := calOf s kind subj
  let m := mask &&& r.cur
  if m = 0 then s
  else
    let s := setCal kind subj (fun r => { r with cause := cause, cur := maskDiff r.cur m }) s
    raise 0x0902 subj 0 (calLine s kind subj) (kind + 256 * cause) m r.attempts (tick 0x0902 cause s)

/-- An event of Table 10.3: the attempt of some tiles of a station ends with cause RESET in the runs of some kinds. -/
def calReset (st mask : Nat) (kinds : Nat → Bool) (s : State) : State :=
  forRange 4 s (fun kind s =>
    let r := calOf s kind st
    if kinds kind && r.phase == .collecting && r.cur &&& mask != 0 then
      let s := calFail kind st mask 3 s
      if (calOf s kind st).cur = 0 then calNext kind st false s else s
    else s)

/-- The same for one tile and every kind. -/
def calResetTile (g : Nat) (s : State) : State := calReset (stOf g) (1 <<< (g % 16)) (fun _ => true) s

end Sys2Proof.Machine
end

