-- ==== Sys2Proof/Machine/LineCode.lean ====
section
/-! DEFINITION. Line coding of the head links: descrambler (R207), RS(544,514) over GF(2^10) (R208), the PRBS patterns
and their checkers (R224, R480, R482). -/

namespace Sys2Proof.Machine

/-- Descrambles line bits with the 58 bits that came before them, oldest first: x^58 + x^39 + 1 (R207). -/
def descramble (before line : List Bool) : List Bool :=
  let all := before ++ line
  List.zipWith (fun (b : Bool) (p : Bool × Bool) => b ^^ (p.1 ^^ p.2)) line (List.zip (all.drop 19) all)

/-- The last 58 line bits, oldest first. -/
def lastBits (before line : List Bool) : List Bool := let all := before ++ line; all.drop (all.length - 58)

/-- Scrambles payload bits with x^58 + x^39 + 1 (R207); the register holds the last 58 line bits, newest first. -/
def scramble (reg : List Bool) (bs : List Bool) : List Bool × List Bool :=
  let r := bs.foldl (fun (a : List Bool × List Bool) b =>
    let x := b ^^ (a.1.getD 38 false ^^ a.1.getD 57 false)
    ((x :: a.1).take 58, x :: a.2)) (reg, [])
  (r.1, r.2.reverse)

/-- The 66-bit blocks of received bits: sync header and payload. -/
def blocksOf : Nat → List Bool → List (Bool × Bool × List Bool)
  | 0, _ => []
  | n + 1, bs => if bs.length < 66 then [] else (bs.getD 0 false, bs.getD 1 false, slice bs 2 64) :: blocksOf n (bs.drop 66)

/-! GF(2^10) with x^10 + x^3 + 1 (Clause 91: PRESUMED). -/

/-- Product in GF(2^10). -/
def gfMul (a b : Nat) : Nat :=
  ((List.range 10).foldl (fun (acc : Nat × Nat) i =>
    (if bitOf b i then acc.1 ^^^ acc.2 else acc.1, if bitOf acc.2 9 then ((acc.2 <<< 1) ^^^ 0x409) else acc.2 <<< 1)) (0, a)).1

/-- a^n by repeated squaring over the low 10 bits of `n`. -/
def gfPow (a n : Nat) : Nat :=
  ((List.range 10).foldl (fun (acc : Nat × Nat) i => (if bitOf n i then gfMul acc.1 acc.2 else acc.1, gfMul acc.2 acc.2)) (1, a)).1

/-- Inverse of a non-zero element. -/
def gfInv (a : Nat) : Nat := gfPow a 1022

/-- α^n. -/
def gfAlpha (n : Nat) : Nat := gfPow 2 (n % 1023)

/-- Value of a polynomial, coefficients of rising degree, at `x`. -/
def gfEval (p : List Nat) (x : Nat) : Nat := p.foldr (fun c acc => gfMul acc x ^^^ c) 0

/-- Value at `x` of a received word, first symbol of highest degree. -/
def rsHorner (r : List Nat) (x : Nat) : Nat := r.foldl (fun acc c => gfMul acc x ^^^ c) 0

/-- The 30 syndromes of a received word. -/
def rsSyndromes (r : List Nat) : List Nat := (List.range 30).map (fun j => rsHorner r (gfAlpha j))

/-- Registers of the Berlekamp–Massey algorithm. -/
structure BmState where
  c : List Nat := [1]
  b : List Nat := [1]
  len : Nat := 0
  m : Nat := 1
  d : Nat := 1

/-- p + k x^m q. -/
def polyAxpy (p : List Nat) (k m : Nat) (q : List Nat) : List Nat :=
  let t := List.replicate m 0 ++ q.map (gfMul k)
  (List.range (Nat.max p.length t.length)).map (fun i => p.getD i 0 ^^^ t.getD i 0)

/-- One step of the algorithm at syndrome `n`. -/
def bmStep (syn : List Nat) (s : BmState) (n : Nat) : BmState :=
  let d := (List.range (s.len + 1)).foldl (fun a i => a ^^^ gfMul (s.c.getD i 0) (syn.getD (n - i) 0)) 0
  if d = 0 then { s with m := s.m + 1 }
  else
    let c := polyAxpy s.c (gfMul d (gfInv s.d)) s.m s.b
    if 2 * s.len ≤ n then { c := c, b := s.c, len := n + 1 - s.len, m := 1, d := d }
    else { s with c := c, m := s.m + 1 }

/-- Decodes a codeword of 544 symbols in order of transmission: the corrected word and the number of symbols corrected,
none where it cannot be corrected (R208). -/
def rsDecode (r : List Nat) : Option (List Nat × Nat) :=
  let syn := rsSyndromes r
  if syn.all (· == 0) then some (r, 0)
  else
    let bm := (List.range 30).foldl (bmStep syn) {}
    let loc := bm.c
    if 15 < bm.len then none
    else
      let omega := ((List.range 30).map (fun i =>
        (List.range (i + 1)).foldl (fun a j => a ^^^ gfMul (loc.getD j 0) (syn.getD (i - j) 0)) 0))
      let deriv := (List.range (loc.length - 1)).map (fun i => if i % 2 = 0 then loc.getD (i + 1) 0 else 0)
      let fixed := (List.range r.length).map (fun i =>
        let p := 543 - i
        let xInv := gfAlpha (1023 - p)
        if gfEval loc xInv = 0 then
          (r.getD i 0 ^^^ gfMul (gfAlpha p) (gfMul (gfEval omega xInv) (gfInv (gfEval deriv xInv))), true)
        else (r.getD i 0, false))
      let n := countBy (fun (x : Nat × Bool) => x.2) fixed
      let w := fixed.map (fun x => x.1)
      if n = bm.len ∧ (rsSyndromes w).all (· == 0) then some (w, n) else none

/-- The number that bits spell, first bit least significant. -/
def ofLsb (l : List Bool) : Nat := l.foldr (fun b a => 2 * a + b2n b) 0

/-- `n` bits of `v`, least significant first. -/
def lsbBits (n v : Nat) : List Bool := (List.range n).map (bitOf v)

/-- Groups of `w` bits as numbers, first bit least significant. -/
def groupsOf (w : Nat) : Nat → List Bool → List Nat
  | 0, _ => []
  | n + 1, bs => if bs.length < w ∨ w = 0 then [] else ofLsb (bs.take w) :: groupsOf w n (bs.drop w)

/-- The generator polynomial of RS(544,514) below its leading 1: coefficients of falling degree of the product of x − α^j, j from 0 to 29
(R208). -/
def rsGen : List Nat :=
  ((List.range 30).foldl (fun (p : List Nat) j => List.zipWith (fun a b => a ^^^ b) (p ++ [0]) (0 :: p.map (gfMul (gfAlpha j)))) [1]).drop 1

/-- The 30 parity symbols of 514 message symbols: the remainder of the message times x^30 (R208). -/
def rsParity (msg : List Nat) : List Nat :=
  let gen := rsGen
  msg.foldl (fun r m =>
    let f := m ^^^ r.headD 0
    List.zipWith (fun a b => a ^^^ gfMul f b) (r.drop 1 ++ [0]) gen) (List.replicate 30 0)

/-- The 5,440 bits of a codeword from its 5,140 message bits (R208). -/
def encodeWord (msg : List Bool) : List Bool := msg ++ ((rsParity (groupsOf 10 514 msg)).map (lsbBits 10)).flatten

/-- The first `n` pieces of `w` elements. -/
def chunksOf {α : Type} (w : Nat) : Nat → List α → List (List α)
  | 0, _ => []
  | n + 1, l => l.take w :: chunksOf w n (l.drop w)

/-! PRBS (ITU-T O.150: PRESUMED): register length, second tap, inversion, by pattern code 2 to 6. -/

/-- Register length and tap of a pattern, and whether its output is inverted. -/
def prbsPoly (pattern : Nat) : Nat × Nat × Bool :=
  match pattern with
  | 2 => (7, 6, false)
  | 3 => (9, 5, false)
  | 4 => (15, 14, true)
  | 5 => (23, 18, true)
  | _ => (31, 28, true)

/-- The next bit of a pattern from the bits before it, newest first. -/
def prbsNext (pattern : Nat) (reg : List Bool) : Bool :=
  let p := prbsPoly pattern
  (reg.getD (p.1 - 1) false ^^ reg.getD (p.2.1 - 1) false) ^^ p.2.2

/-- `n` bits of a pattern: register after them and the bits, oldest first. -/
def prbsRun (pattern : Nat) : Nat → List Bool → List Bool → List Bool × List Bool
  | 0, reg, out => (reg, out.reverse)
  | n + 1, reg, out =>
    let b := prbsNext pattern reg
    prbsRun pattern n ((b :: reg).take 31) (b :: out)

/-- What a checker counts over received bits (R482): bits checked, errors, resyncs. -/
structure PrbsCount where
  chk : PrbsChecker
  bits : Nat := 0
  errs : Nat := 0
  resyncs : Nat := 0

/-- One received bit at a checker (R482). -/
def prbsCheck (pattern : Nat) (s : PrbsCount) (b : Bool) : PrbsCount :=
  let c := s.chk
  let n := (prbsPoly pattern).1
  if c.reg.length < n then { s with chk := { c with reg := b :: c.reg } }
  else
    let want := prbsNext pattern c.reg
    if !c.inSync then
      if b = want then
        let m := c.matched + 1
        { s with chk := { c with reg := (b :: c.reg).take n, matched := m, inSync := decide (64 ≤ m), blockBits := 0, blockErrs := 0 } }
      else { s with chk := { reg := (b :: c.reg).take n } }
    else
      let e := b2n (b != want)
      let errs := c.blockErrs + e
      let s := { s with bits := s.bits + 1, errs := s.errs + e }
      if 256 < errs then { s with chk := {}, resyncs := s.resyncs + 1 }
      else
        let full := decide (c.blockBits + 1 = 1024)
        { s with chk := { c with reg := (want :: c.reg).take n, blockBits := if full then 0 else c.blockBits + 1,
                                 blockErrs := if full then 0 else errs } }

end Sys2Proof.Machine
end

