-- ==== Sys2Proof/Machine/Frames.lean ====
section
/-! DEFINITION. The frames of the head links: cores, line frames, status and management frames, ordered sets, hunting
(R211 to R214, R218, R221, R223). -/

namespace Sys2Proof.Machine

/-- The 6-byte core of a frame (R211). -/
def frameCore (ftype flags len : Nat) : List Byte :=
  let h := leBytes 1 ftype ++ leBytes 1 flags ++ leBytes 2 len
  h ++ leBytes 2 (crc16Ccitt h)

/-- LEN is allowed for an FTYPE (Table 7.3). -/
def frameLenOk (ftype len : Nat) : Bool :=
  match ftype with
  | 0x01 => len == 8232
  | 0x02 => decide (20 ≤ len ∧ len ≤ 532)
  | 0x03 => decide (6 ≤ len ∧ len ≤ 2048)
  | 0x04 => len == 1030
  | 0x11 => len == 64
  | 0x12 => decide (20 ≤ len ∧ len ≤ 532)
  | _ => false

/-- The LEN of the core at the head of bytes, where it is valid (R212). -/
def coreAt (bs : List Byte) : Option Nat :=
  let len := leAt bs 2 2
  if 6 ≤ bs.length ∧ leAt bs 4 2 = crc16Ccitt (bs.take 4) ∧ frameLenOk (leAt bs 0 1) len then some len else none

/-- FLAGS of a line frame (Table 7.4). -/
def lineFlags (f : LineFrame) : Nat := b2n f.supA + 2 * b2n f.supB + 4 * b2n f.noStrobe + 8 * b2n f.resync

/-- Bytes 0 to 8,223 of a line frame. -/
def lineBody (f : LineFrame) : List Byte :=
  frameCore 0x01 (lineFlags f) 8232 ++ leBytes 1 f.tile ++ leBytes 1 f.alive ++ leBytes 4 (unsig f.k 32) ++ leBytes 1 f.ta
    ++ leBytes 1 f.tb ++ leBytes 2 0 ++ leBytes 4 f.period ++ leBytes 4 (unsig f.imgA 32) ++ leBytes 4 (unsig f.imgB 32)
    ++ leBytes 4 0 ++ f.dose

/-- The frame check (R214): a legacy tile's folds its index and the line number. -/
def lineCheck (legacy : Bool) (f : LineFrame) : Nat :=
  if legacy then crc32cSeed (0xFFFFFFFF ^^^ ((f.tile % 128) * 2 ^ 24 ||| unsig f.k 24)) (lineBody f) else crc32c (lineBody f)

/-- A line frame as sent: its check, or that inverted where the transmit recheck failed (R216). -/
def lineBytes (f : LineFrame) (poison : Bool) : List Byte :=
  lineBody f ++ leBytes 4 (if poison then f.crc ^^^ 0xFFFFFFFF else f.crc) ++ leBytes 4 0

/-- An idle frame (Table 7.3). -/
def idleBytes (len : Nat) : List Byte := frameCore 0x03 0 len ++ List.replicate (len - 6) 0

/-- A management request (Table 7.8). -/
def mgmtBytes (tile : Nat) (r : MgmtReq) : List Byte :=
  let b := frameCore 0x02 0 (20 + r.data.length) ++ leBytes 1 tile ++ leBytes 1 r.seq ++ leBytes 1 r.op ++ leBytes 1 0
    ++ leBytes 2 (if r.data.isEmpty then r.count else r.data.length) ++ leBytes 4 r.addr ++ r.data
  b ++ leBytes 4 (crc32c b)

/-- The payload of an ordered set (Table 7.5): its type, byte 1, and the 16 bits of bytes 2 and 3. -/
def setBytes (type b1 v : Nat) : List Byte :=
  let h := leBytes 1 type ++ leBytes 1 b1 ++ leBytes 2 v
  h ++ leBytes 2 (crc16Ccitt h) ++ leBytes 2 0

/-- A received ordered set is of a type and its CRC-16 holds (R226). -/
def setOk (type : Nat) (bs : List Byte) : Bool :=
  bs.length == 8 && leAt bs 0 1 == type && leAt bs 4 2 == crc16Ccitt (bs.take 4)

/-- A frame that ends in a CRC-32C over the bytes before it is whole (Table 7.6, Table 7.8). -/
def tailCrcOk (bs : List Byte) : Bool := leAt bs (bs.length - 4) 4 == crc32c (bs.take (bs.length - 4))

/-- What hunting over received bytes finds (R212): frame lock, whole frames, bytes left. -/
structure Hunt where
  lock : Bool
  frames : List (List (Byte × Bool)) := []
  rest : List (Byte × Bool)

/-- LEN of the core at the head of received bytes, where every byte's codeword decoded and the core is valid (R212). -/
def coreHere (bs : List (Byte × Bool)) : Option Nat :=
  let head := bs.take 6
  if head.all (fun b => b.2) then coreAt (head.map (fun b => b.1)) else none

/-- One step (R212); none when more bytes are needed. With frame lock a frame is taken at its LEN; without it each byte position is tested,
and lock is gained where a second valid core follows a first at its LEN. -/
def huntStep (h : Hunt) : Option Hunt :=
  if h.rest.length < 6 then none
  else match coreHere h.rest with
    | none => some { h with lock := false, rest := h.rest.drop 1 }
    | some len =>
      if h.lock then
        if h.rest.length < len then none
        else
          let f := h.rest.take len
          let take := f.all (fun b => b.2) || (f.head?.map (fun b => b.1)) == some 4
          some { h with rest := h.rest.drop len, frames := if take then h.frames ++ [f] else h.frames }
      else if h.rest.length < len + 6 then none
      else if (coreHere (h.rest.drop len)).isSome then some { h with lock := true, rest := h.rest.drop len }
      else some { h with rest := h.rest.drop 1 }

/-- Hunts as far as the bytes go. -/
def hunt (h : Hunt) : Hunt := iterate huntStep (2 * h.rest.length + 2) h

/-- A status frame (Table 7.6). -/
structure Status where
  dnlock : Bool
  legacy : Bool
  tile : Nat
  aliveU : Nat
  lineAck : Nat
  res : List Nat
  temp : Int
  tempMax : Int
  alarm : Nat
  cutGroup : Nat
  cutLine : Nat
  corr : Nat
  uncorr : Nat
  prbsErr : Nat
  peak : Nat

def readStatus (b : List Byte) : Status :=
  { dnlock := bitOf (leAt b 1 1) 7, legacy := bitOf (leAt b 1 1) 0, tile := leAt b 6 1, aliveU := leAt b 7 1,
    lineAck := leAt b 8 4, res := (List.range 4).map (fun j => leAt b (12 + j) 1), temp := sint (leAt b 16 2) 16,
    tempMax := sint (leAt b 18 2) 16, alarm := leAt b 20 2, cutGroup := leAt b 22 1, cutLine := leAt b 24 4,
    corr := leAt b 36 4, uncorr := leAt b 40 2, prbsErr := leAt b 42 2, peak := bits (leAt b 44 1) 0 4 }

/-- Row results 8 to 15 are treated as 3 (Table 7.7). -/
def rowResult (r : Nat) : Nat := if 8 ≤ r then 3 else r

end Sys2Proof.Machine
end

