-- ==== Sys2Proof/Machine/Readout.lean ====
section
/-! DEFINITION. The readout: row split, stitch masks, overrides (R190 to R193), slot-tile reads (R189), delay updates (R185),
overrides taking effect, tone updates (R149). -/

namespace Sys2Proof.Machine

/-- The default pattern table: every entry 2 (R203). -/
def patternDefault : List Byte := List.replicate 1024 0xAA

/-- The default stitch masks: bit 1 for j at or above 32 (R203). -/
def stitchDefault : List Byte := (List.replicate 960 [0, 0, 0, 0, 0xFF, 0xFF, 0xFF, 0xFF]).flatten

/-- The table in force for an image line, from versions newest first (R192). -/
def maskFor (vs : List MaskVer) (dflt : List Byte) (q : Int) : List Byte :=
  ((vs.find? (fun v => decide (v.fromLine ≤ q))).map MaskVer.bytes).getD dflt

/-- The pattern entry [u][x] (R191). -/
def patternAt (t : List Byte) (u x : Nat) : Nat := bits ((t.getD (16 * u + x / 4) 0).toNat) (2 * (x % 4)) 2

/-- The stitch bit [u][j] of overlap `o` (R191). -/
def stitchAt (t : List Byte) (o u j : Nat) : Bool := bitOf ((t.getD (512 * o + 8 * u + j / 8) 0).toNat) (j % 8)

/-- The override code of a physical column for an image line (R193). -/
def overrideFor (s : State) (st col : Nat) (q : Int) : Nat :=
  match (mapGet s.pos.overrides (st * 65536 + col)).bind (fun vs => vs.find? (fun v => decide (v.fromLine ≤ q))) with
  | some v => v.code
  | none => 0

/-- Steps 1 to 3 of R190 for one column: doses of row A and row B. -/
def splitDose (pattern stitch : List Byte) (t c u : Nat) (code e : Nat) : Nat × Nat :=
  let e := if 4032 ≤ c ∧ t < 15 then (if stitchAt stitch t u (c - 4032) then 0 else e)
    else if c < 64 ∧ 0 < t then (if stitchAt stitch (t - 1) u c then e else 0)
    else e
  match code with
  | 1 => (e, 0)
  | 2 => (0, e)
  | 3 => (0, 0)
  | _ => match patternAt pattern u ((4032 * t + c) % 64) with
    | 0 => (e, 0)
    | 1 => (0, e)
    | 2 => ((e + 1) / 2, e / 2)
    | _ => (0, 0)

/-- The dose of every emitter of one row of a tile for an image line (R186, R190). -/
def rowDoses (s : State) (g : Nat) (q : Int) (rowB : Bool) : List Byte :=
  let st := stOf g
  let stored := slotBytes s g q
  if stored.isEmpty then List.replicate 4096 0
  else
    let ps := startedAt s st
    let pat := maskFor (s.pos.pattern.getD st []) patternDefault q
    let sti := maskFor (s.pos.stitch.getD st []) stitchDefault q
    (List.range 4096).map (fun c =>
      let e := (memGet stored c).toNat
      if e = 0 then 0
      else
        let d := ((columnOwner s ps g c q).map (fun p => dIntOf s p g c)).getD 0
        let r := splitDose pat sti (g % 16) c (unsig (q - d) 6) (overrideFor s st (4096 * (g % 16) + c) q) e
        BitVec.ofNat 8 (if rowB then r.2 else r.1))

/-- Pages that own a line in a tile's row that carries an image line (R146, R182). -/
def rowPages (s : State) (g : Nat) (q : Int) : List Page :=
  let st := stOf g
  (startedAt s st).filter (fun p => p.live && (allDInt s p g).any (fun d => decide (p.firstLine st ≤ q - d ∧ q - d ≤ p.lastLine st)))

/-- Spoils every page that owns a line in a row. -/
def spoilRow (g : Nat) (q : Int) (reason : Nat) (s : State) : State :=
  forList (rowPages s g q) s (fun p s => spoil p.key reason (stOf g) (stationLine s (stOf g)) s)

/-- Reads a slot-tile for a row (R189): a mismatch of the check word suppresses it. -/
def readSlot (g : Nat) (q : Int) (rowB : Bool) (s : State) : State :=
  if !slotHolds s g q then s
  else
    let h := slotHdr s g q
    let crc := slotCrc s g q
    if crc = h.chk then s
    else
      let id := ((rowPages s g q).head?.map (fun p => p.id.toNat)).getD 0
      let s := raise 0x0505 g id (stationLine s (stOf g)) (unsig q 8 + 256 * b2n rowB) h.chk crc (tick 0x0507 g s)
      spoilRow g q 1 (suppressSlot g q s)

/-! Delay updates. -/

/-- What the next unit update of a tile would be: +1, −1, or 0 for none. -/
def debtStep (d : Int) : Int := if 0 < d then 1 else if d < 0 then -1 else 0

/-- The next tile of a station, from its turn on, that a test picks. -/
def nextTurn (st turn : Nat) (want : Nat → Bool) : Option Nat :=
  (((List.range 16).map (fun i => 16 * st + (turn + i) % 16)).find? want)

/-- One delay update of a station (R185, R313): calibration and POS.DELAY steps alternate where both wait; each takes tiles in
turn. A step that would take a tap out of 0 to 255 is not applied, and what remains of that layer's change to the tile waits for the next
split. -/
def delayUpdate (st : Nat) (s : State) : State :=
  let owes (cal : Bool) (g : Nat) : Bool := let d := dly s g; if cal then !d.calWait && d.calDebt != 0 else !d.hostWait && d.hostDebt != 0
  let c := nextTurn st (s.pos.calTurn.getD st 0) (owes true)
  let h := nextTurn st (s.pos.hostTurn.getD st 0) (owes false)
  let pick : Option (Bool × Nat) := match c, h with
    | none, none => none
    | some g, none => some (true, g)
    | none, some g => some (false, g)
    | some a, some b => if s.pos.calNext.getD st true then some (true, a) else some (false, b)
  match pick with
  | none => s
  | some (cal, g) =>
    let d := dly s g
    let e := debtStep (if cal then d.calDebt else d.hostDebt)
    let turn := (g % 16 + 1) % 16
    let s := { s with pos := { s.pos with
      calTurn := if cal then s.pos.calTurn.set st turn else s.pos.calTurn
      hostTurn := if cal then s.pos.hostTurn else s.pos.hostTurn.set st turn
      calNext := s.pos.calNext.set st (!cal) } }
    let ta : Int := d.ta + e
    let tb : Int := d.tb + e
    if ta < 0 ∨ 255 < ta ∨ tb < 0 ∨ 255 < tb then
      raise 0x0504 g 0 (stationLine s st) d.ta d.tb (if 0 < e then 0 else 1)
        (tick 0x0509 g (setDly g (fun d => if cal then { d with calWait := true } else { d with hostWait := true }) s))
    else
      let s := setDly g (fun d => { d with
        ta := ta.toNat, tb := tb.toNat
        calDebt := if cal then d.calDebt - e else d.calDebt
        hostDebt := if cal then d.hostDebt else d.hostDebt - e }) s
      if cal then tick 0x0906 st s else s

/-- The versions still needed at boundary `k`, newest first: those from line k − 300 on and the one before them. -/
def keepVers {α : Type} (line : α → Int) (k : Int) : List α → List α
  | [] => []
  | v :: t => if k - 300 < line v then v :: keepVers line k t else [v]

/-- One queued override of a station takes effect for image lines from k + 64 on (R193); with the last that a new identity waits for,
its codes are known (R251). -/
def overrideUpdate (st : Nat) (k : Int) (s : State) : State :=
  match s.pos.overQueue.getD st [] with
  | [] => s
  | (col, code) :: t =>
    let key := st * 65536 + col
    let old := (mapGet s.pos.overrides key).getD []
    let vs := ({ fromLine := k + 64, code := code } : OverVer) :: keepVers OverVer.fromLine k old
    let s := { s with pos := { s.pos with
      overQueue := s.pos.overQueue.set st t
      overrides := if code = 0 ∧ old.isEmpty then s.pos.overrides else mapSet s.pos.overrides key vs } }
    let next (i : Nat) (q : Tile) : Tile :=
      if i / 16 = st ∧ 0 < q.owed then { q with owed := q.owed - 1, codesFrom := if q.owed = 1 then some (k + 64) else q.codesFrom } else q
    { s with tile := { s.tile with tiles := s.tile.tiles.mapIdx next } }

/-- Marks a record's content as changed (R249). -/
def recDirty (kind loc : Nat) (s : State) : State :=
  let d : RecDirty := { kind := kind, location := loc }
  if s.tile.dirty.contains d then s else { s with tile := { s.tile with dirty := s.tile.dirty ++ [d] } }

/-! Tone updates (R149, R168). -/

/-- A knot moved toward its wanted value by at most 16. -/
def knotStep (have_ want : Nat) : Nat :=
  if have_ < want then Nat.min want (have_ + 16) else Nat.max want (have_ - 16)

/-- The knots a column has last been given, in force or about to be. -/
def knotsLast (s : State) (st col : Nat) : List Nat :=
  match mapGet s.exp.tone (st * 65536 + col) with
  | some (v :: _) => v.knots
  | _ => toneNeutral

/-- Gives a column at boundary `k` one update toward wanted knots (R149). -/
def toneStep (st col : Nat) (want : List Nat) (k : Int) (s : State) : State :=
  let key := st * 65536 + col
  let new := List.zipWith knotStep (knotsLast s st col) want
  let vs := ({ fromLine := k + 64, knots := new } : ToneVer) :: keepVers ToneVer.fromLine k ((mapGet s.exp.tone key).getD [])
  let s := { s with exp := { s.exp with tone := mapSet s.exp.tone key vs } }
  recDirty 2 (16 * st + col / 4096) (tick 0x0905 st s)

/-- The columns of a station whose curve is not neutral, ascending. -/
def notNeutral (s : State) (st : Nat) : List Nat :=
  ((s.exp.tone.filter (fun v => v.1 / 65536 == st && (match v.2 with | a :: _ => a.knots != toneNeutral | [] => false))).map (fun v => v.1 % 65536))

/-- The next of some columns in a station's pass: the least at or above its turn, else the least of all (R307). -/
def nextCol (cols : List Nat) (turn : Nat) : Option Nat :=
  match argMin id (cols.filter (fun c => decide (turn ≤ c))) with
  | some c => some c
  | none => argMin id cols

/-- Some EXP.TONE_NEUTRAL names a station. -/
def neutralAt (s : State) (st : Nat) : Bool := s.exp.neutral.any (fun n => bitOf n.stations st)

/-- Ends the EXP.TONE_NEUTRAL commands whose stations are all neutral (R168). -/
def neutralEnd (s : State) : State :=
  let clear (n : ToneNeutral) : ToneNeutral := { n with stations := maskOf ((bitList 6 n.stations).filter (fun st => !(notNeutral s st).isEmpty)) }
  let ns := s.exp.neutral.map clear
  let done := ns.filter (fun n => n.stations == 0)
  let s := { s with exp := { s.exp with neutral := ns.filter (fun n => n.stations != 0) } }
  forList done s (fun n s => complete n.oid stOk [] s)

/-- Sets the column at which a station's tone tap unit goes on. -/
def setTonePtr (st c : Nat) (s : State) : State := { s with exp := { s.exp with tonePtr := s.exp.tonePtr.set st c } }

/-- The passes of a station's tone updates begin at its lowest column, where none is under way (R307). -/
def tonePass (st : Nat) (s : State) : State :=
  if neutralAt s st || s.exp.toneReqs.any (fun r => r.station == st) then s else setTonePtr st 0 s

/-- The tone tap unit at a boundary (R149, R307): at most one column's update, from EXP.TONE_NEUTRAL or the queue, in ascending
passes. A request leaves the queue when its column has reached the wanted curve. -/
def toneUpdate (st : Nat) (k : Int) (s : State) : State :=
  let turn := s.exp.tonePtr.getD st 0
  if neutralAt s st then
    match nextCol (notNeutral s st) turn with
    | some c => neutralEnd (setTonePtr st (c + 1) (toneStep st c toneNeutral k s))
    | none => neutralEnd s
  else
    let reqs := s.exp.toneReqs.filter (fun r => r.station != st || knotsLast s st r.col != r.knots)
    let s := { s with exp := { s.exp with toneReqs := reqs } }
    let mine := reqs.filter (fun r => r.station == st)
    match (nextCol (mine.map ToneReq.col) turn).bind (fun c => mine.find? (fun r => r.col == c)) with
    | none => s
    | some r =>
      let s := setTonePtr st (r.col + 1) (toneStep st r.col r.knots k s)
      match r.run with
      | some (kind, subj) => setCal kind subj (fun q => { q with updates := q.updates + 1 }) s
      | none => s

end Sys2Proof.Machine
end

