-- ==== Sys2Proof/Machine/Tiles.lean ====
section
/-! DEFINITION. Tiles and their records: factory header (R244), emitter status and override codes (R245), persistent records
(R246 to R249), identity (R250 to R252), temperature and cuts (R253, R254). -/

namespace Sys2Proof.Machine

def tileOf (s : State) (g : Nat) : Tile := s.tile.tiles.getD g {}

def setTile (g : Nat) (f : Tile → Tile) (s : State) : State :=
  { s with tile := { s.tile with tiles := updAt s.tile.tiles g f } }

/-- The factory header in the first 64 bytes of tile memory (Table 8.2). -/
def factoryOf (b : List Byte) : FactoryHdr :=
  { gen := leAt b 0x04 1, rev := leAt b 0x06 2, serial := leAt b 0x08 8, rank := sint (leAt b 0x10 2) 16, rb := leAt b 0x12 2,
    turnaround := leAt b 0x14 2, fireLat := leAt b 0x16 2, asym := sint (leAt b 0x18 2) 16, limit := sint (leAt b 0x1A 2) 16,
    xoff := leAt b 0x1C 2, xscale := leAt b 0x1E 2, skew := leAt b 0x20 2, bow := leAt b 0x22 2 }

/-- The checks of R244 on bytes 0x0000 to 0x023F. -/
def factoryOk (b : List Byte) : Bool :=
  let n := leAt b 0x24 2
  leAt b 0 4 == 0x4B544D31 && leAt b 0x3C 4 == crc32c (b.take 0x3C) && decide (n ≤ 256) && leAt b 0x26 4 == crc32c (slice b 0x40 (2 * n))
    && (leAt b 4 1 == 1 || leAt b 4 1 == 2)

/-- The entries of a dead and weak list. -/
def entriesOf (b : List Byte) (n : Nat) : List Nat := (List.range n).map (fun i => leAt b (2 * i) 2)

/-- Status of an emitter: 0 good, 1 weak, 2 dead; the worse of its entries (R245). -/
def emitterStatus (entries : List Nat) (i : Nat) : Nat :=
  (entries.filter (fun e => bits e 0 13 == i)).foldl (fun m e => Nat.max m (if bitOf e 13 then 1 else 2)) 0

/-- The override code of a column from the status of its two emitters (Table 8.3). -/
def overrideCode (a b : Nat) : Nat :=
  if a = b then (if a = 2 then 3 else 0) else if b < a then 2 else 1

/-- The columns of a tile whose code is not 0, with their codes. -/
def codesOf (entries : List Nat) : List (Nat × Nat) :=
  let cols := ((entries.map (fun e => bits e 0 13 % 4096)).eraseDups)
  (cols.map (fun c => (c, overrideCode (emitterStatus entries c) (emitterStatus entries (4096 + c))))).filter (fun p => p.2 != 0)

/-- The code a physical column has or will have once the queue has been applied. -/
def codeLast (s : State) (st col : Nat) : Nat :=
  match (s.pos.overQueue.getD st []).reverse.find? (fun p => p.1 == col) with
  | some p => p.2
  | none => match mapGet s.pos.overrides (st * 65536 + col) with
    | some (v :: _) => v.code
    | _ => 0

/-- Queues the codes of a tile's lists for every column whose code changes (R245, R251). For a new identity the tile's frames are
suppressed until the last of these is in force. -/
def queueCodes (g : Nat) (entries : List Nat) (fresh : Bool) (s : State) : State :=
  let st := stOf g
  let base := 4096 * (g % 16)
  let new := codesOf entries
  let known := ((s.pos.overrides.filter (fun p => decide (st * 65536 + base ≤ p.1 ∧ p.1 < st * 65536 + base + 4096))).map (fun p => p.1 - st * 65536 - base)
    ++ ((s.pos.overQueue.getD st []).filter (fun p => decide (base ≤ p.1 ∧ p.1 < base + 4096))).map (fun p => p.1 - base))
  let cols := ((new.map (fun p => p.1)) ++ known).eraseDups.mergeSort (fun a b => decide (a ≤ b))
  let add := (cols.filter (fun c => codeLast s st (base + c) != (mapGet new c).getD 0)).map (fun c => (base + c, (mapGet new c).getD 0))
  let q := s.pos.overQueue.getD st [] ++ add
  let s := { s with pos := { s.pos with overQueue := s.pos.overQueue.set st q } }
  if add.isEmpty || !fresh then s else setTile g (fun t => { t with owed := q.length }) s

/-! Records. -/

/-- The kind 1 record of a lane's tile is held in the tile's memory: the tile is no legacy tile (Table 8.5). -/
def inTile (s : State) (kind loc : Nat) : Bool := kind == 1 && (((tileOf s loc).hdr).map (fun h => h.gen != 1)).getD true

/-- The copies of a record of the object in place. -/
def recCopies (s : State) (kind loc : Nat) : List RecCopy :=
  s.tile.recs.filter (fun r => r.kind == kind && r.place == loc && r.tileMem == inTile s kind loc)

/-- The first condition of R246 that a copy fails, as the cause code of EV_RECORD_STALE; 0 for a valid copy. -/
def copyCause (s : State) (loc serial gen : Nat) (r : RecCopy) : Nat :=
  if !r.sound then 1 else if r.objSerial ≠ serial then 2 else if r.devSerial ≠ s.board.serial.toNat then 3
  else if r.location ≠ loc then 4 else if r.objGen ≠ gen then 5 else 0

/-- REC_GEN a is newer than b (R247). -/
def genNewer (a b : Nat) : Bool := let d := (a + 2 ^ 32 - b % 2 ^ 32) % 2 ^ 32; decide (1 ≤ d ∧ d < 2 ^ 31)

/-- The fingerprint of a DDR5 channel (R405): CRC-64/ECMA-182 of its components' identities. -/
def fingerprint (s : State) (c : Nat) : Nat :=
  crcMsb 64 0x42F0E1EBA9EA3693 0
    ((s.board.dram.getD c []).map (fun p => [p.mr5, p.mr6, p.mr7, p.mr8].map (fun x => BitVec.ofNat 8 x))).flatten

/-- The copy in use (R246, R247). -/
def recInUse (s : State) (kind loc serial gen : Nat) : Option RecCopy :=
  ((recCopies s kind loc).filter (fun r => copyCause s loc serial gen r == 0)).foldl
    (fun a r => match a with | none => some r | some x => if genNewer r.recGen x.recGen then some r else some x) none

/-- The training set of a channel that its valid record for a rate holds, by its centres (R410, R412). -/
def setStored (s : State) (c r : Nat) : List Int :=
  match (recInUse s 3 (16 * c + r) (fingerprint s c) 0).map RecCopy.body with
  | some (.training m) => m
  | _ => []

/-- EV_RECORD_STALE for a discarded record (R248, R268); `host` gives cause HOST. LINE is that of a tile record's station. -/
def recStale (kind loc serial gen : Nat) (host : Bool) (s : State) : State :=
  let c := (recCopies s kind loc).head?
  let cause := if host then 7 else match c with | none => 6 | some r => copyCause s loc serial gen r
  raise 0x0704 loc 0 (if kind ≤ 2 then stationLine s (stOf loc) else 0) (kind + cause * 256) ((c.map (fun r => r.objSerial % 2 ^ 32)).getD 0) ((c.map RecCopy.recGen).getD 0) (tick 0x0703 kind s)

/-- Sets a column's curve at once. -/
def toneAtOnce (st col : Nat) (knots : List Nat) (s : State) : State :=
  let key := st * 65536 + col
  let tone := if knots = toneNeutral then mapErase s.exp.tone key else mapSet s.exp.tone key [{ fromLine := -(2 ^ 62), knots := knots }]
  { s with exp := { s.exp with tone := tone } }

/-- Moves the curves of a tile's columns to given ones, neutral where none is given, by tone updates (R149); for a new tile at once while
the station has no live page (R251). -/
def moveCurves (g : Nat) (curves : List (Nat × List Nat)) (fresh : Bool) (s : State) : State :=
  let st := stOf g
  let base := 4096 * (g % 16)
  let known := (s.exp.tone.filter (fun p => decide (st * 65536 + base ≤ p.1 ∧ p.1 < st * 65536 + base + 4096))).map (fun p => p.1 - st * 65536 - base)
  let cols := (known ++ curves.map (fun p => p.1)).eraseDups.mergeSort (fun a b => decide (a ≤ b))
  let s := { s with exp := { s.exp with toneReqs := s.exp.toneReqs.filter (fun r => !(r.station == st && decide (base ≤ r.col ∧ r.col < base + 4096))) } }
  forList cols s (fun c s =>
    let want := (mapGet curves c).getD toneNeutral
    if knotsLast s st (base + c) = want then s
    else if stationLive s st || !fresh then
      { s with exp := { s.exp with toneReqs := s.exp.toneReqs ++ [{ station := st, col := base + c, knots := want }] } }
    else toneAtOnce st (base + c) want s)

/-- REG_CAL, peaking settings and entries of a kind 1 record. -/
def userOf (r : Option RecCopy) : Int × Nat × Nat × List Nat :=
  match r with
  | some { body := .user c d t e, .. } => (c, d, t, e)
  | _ => (0, 8, 8, [])

/-- The curves of a kind 2 record. -/
def curvesOf (r : Option RecCopy) : List (Nat × List Nat) :=
  match r with
  | some { body := .tone c, .. } => c
  | _ => []

/-- The copy of the user layer that a management address lies in (Table 8.1). -/
def copyAt (addr : Nat) : Nat := if addr < 0x8800 then 0 else 1

/-- A piece of a kind 1 record was not written: its copy never becomes sound, and the record is still to be written (R247, R249). -/
def recordLost (g copy : Nat) (s : State) : State :=
  recDirty 1 g { s with tile := { s.tile with recs := s.tile.recs.filter (fun c => !(c.kind == 1 && c.place == g && c.tileMem && c.copy == copy)) } }

/-- A tile seen for the first time, or changed (R251): records or their fallbacks (R248), overrides, REG_CAL, curves, hold. -/
def newIdentity (g : Nat) (h : FactoryHdr) (dw : List Nat) (s : State) : State :=
  let r1 := recInUse s 1 g h.serial h.rev
  let r2 := recInUse s 2 g h.serial h.rev
  let s := if r1.isNone then recStale 1 g h.serial h.rev false s else s
  let s := if r2.isNone then recStale 2 g h.serial h.rev false s else s
  let u := userOf r1
  let s := setTile g (fun t => { t with
    dw := dw, uw := u.2.2.2, ident := some (h.serial, h.rev), uncal := r1.isNone || r2.isNone, uniOk := false, regOk := false,
    hold := 0, cutting := false, limit := false }) s
  let s := calResetTile g s
  let s := queueCodes g (dw ++ u.2.2.2) true s
  let s := setDly g (fun d => { d with regCal := u.1, calDebt := 0, calWait := false }) s
  moveCurves g (curvesOf r2) true (tick 0x0701 g s)

/-- The end of IDENTIFY's reads (R244, R250 to R252). -/
def identified (g : Nat) (b : List Byte) (ok : Bool) (s : State) : State :=
  let h0 := factoryOf b
  let h := if ok then h0 else { h0 with rb := 0xFFFF }
  let dw := if ok then entriesOf (b.drop 0x40) (leAt b 0x24 2) else []
  let fresh := (tileOf s g).ident != some (h.serial, h.rev)
  let s := setTile g (fun t => { t with hdr := some h, factoryFail := !ok, thrDue := false }) s
  let s := raise 0x0701 g 0 (stationLine s (stOf g)) (b2n fresh + 2 * b2n (h.gen == 1) + 4 * b2n (!ok) + h.rev * 256)
    (h.serial % 2 ^ 32) (h.serial / 2 ^ 32) s
  let s := if fresh then newIdentity g h dw s else s
  setDly g (fun d => { d with rank := h.rank, rb := (h.rb : Int) }) s

/-! Temperature (R253, R254). -/

/-- WARN_MARGIN, HOT_MARGIN and HYST of a station. -/
def marginsOf (s : State) (st : Nat) : Nat × Nat × Nat := s.tile.margins.getD st (160, 80, 48)

/-- The words the device writes at 0x9000 (Table 8.1, Table 8.7). -/
def thresholdBytes (s : State) (g : Nat) : List Byte :=
  let m := marginsOf s (stOf g)
  let lim := (((tileOf s g).hdr).map FactoryHdr.limit).getD 0
  leBytes 2 (unsig (lim - m.1) 16) ++ leBytes 2 (unsig (lim - m.2.1) 16) ++ leBytes 2 (unsig (lim - m.2.2) 16) ++ leBytes 2 0

/-- One level of Table 8.7: its new state and its event. -/
def tempLevel (g : Nat) (in_ out : Nat) (held : Bool) (temp tempMax thr hyst : Int) (s : State) : Bool × State :=
  if !held && decide (thr ≤ tempMax) then (true, raise 0x0702 g 0 (stationLine s (stOf g)) in_ (w32 tempMax) (w32 thr) s)
  else if held && decide (temp < thr - hyst) then (false, raise 0x0702 g 0 (stationLine s (stOf g)) out (w32 temp) (w32 thr) s)
  else (held, s)

/-- WARN and HOT of Table 8.7 applied to a status frame. -/
def tempLevels (g : Nat) (f : Status) (h : FactoryHdr) (s : State) : State :=
  let t := tileOf s g
  let m := marginsOf s (stOf g)
  let w := tempLevel g 1 3 t.warn f.temp f.tempMax (h.limit - m.1) m.2.2 s
  let x := tempLevel g 2 4 t.hot f.temp f.tempMax (h.limit - m.2.1) m.2.2 w.2
  setTile g (fun t => { t with warn := w.1, hot := x.1 }) x.2

/-- The thresholds of Table 8.7 applied to a status frame; `cut` says that a row result 7 came with it. A cut needs no LIMIT (R254); WARN,
HOT and leaving LIMIT do. -/
def tileTemp (g : Nat) (f : Status) (cut : Bool) (s : State) : State :=
  let s := setTile g (fun t => { t with temp := f.temp, tempMax := f.tempMax, alarm := f.alarm }) s
  let hdr := (tileOf s g).hdr
  let s := match hdr with
    | none => s
    | some h => tempLevels g f h s
  let t := tileOf s g
  let m := marginsOf s (stOf g)
  let cool := (hdr.map (fun h => decide (f.temp < h.limit - m.2.1 - m.2.2))).getD false
  if bitOf f.alarm 2 || cut then
    let s := if t.cutting then s
      else raise 0x0703 g 0 (stationLine s (stOf g)) f.cutGroup f.cutLine (w32 f.tempMax) (tick 0x0702 g s)
    setTile g (fun t => { t with limit := true, cutting := true, hold := if t.hold = 2 then 2 else 1 }) s
  else if t.limit && cool then
    setTile g (fun t => { t with limit := false, cutting := false, hold := if t.hold = 0 then 0 else 3 }) s
  else s

/-- The cut hold at a line boundary: it begins, or it ends (R254). -/
def holdBoundary (g : Nat) (s : State) : State :=
  setTile g (fun t => { t with hold := if t.hold = 1 then 2 else if t.hold = 3 then 0 else t.hold }) s

/-- A station is at HOT (R253). -/
def stationHot (s : State) (st : Nat) : Bool := (tilesOf st).any (fun g => (tileOf s g).hot)

end Sys2Proof.Machine
end

