-- ==== Sys2Proof/Machine/CamImage.lean ====
section
/-! DEFINITION. Image arithmetic of the camera pipelines: normalisation, mosaics and reconstruction (R271, R279, R280), stream
images (R281, R282), frame records and statistics (Table 9.3, R285, Table 9.4). -/

namespace Sys2Proof.Machine

/-- A value with whether it is valid (R274). -/
abbrev Pix := Nat × Bool

/-- A frame's pixels by line. -/
abbrev Grid := Array (Array Pix)

/-- A sample normalised to 16 bits (R271). -/
def camNorm (dbits sample : Nat) : Nat := sample % 2 ^ dbits * 2 ^ (16 - dbits)

/-- A line cut or padded to H_WIDTH (Table 9.1). -/
def camFit (width : Nat) (l : List Pix) : List Pix :=
  let cut := l.take width
  cut ++ List.replicate (width - cut.length) ((cut.getLast?.map (fun p => p.1)).getD 0, false)

def gridAt (g : Grid) (x y : Nat) : Pix := (g.getD y #[]).getD x (0, false)

/-- The site of a window pixel (R279); 0 is site M. -/
def siteOf (m : Mosaic) (x y : Nat) : Nat :=
  if m.size = 0 then 0 else m.sites.getD (4 * ((y + m.oy) % m.size) + (x + m.ox) % m.size) 0

/-- The site codes of a pattern. -/
def sitesOf (m : Mosaic) : List Nat :=
  if m.size = 0 then [0]
  else ((List.range m.size).map (fun y => (List.range m.size).map (fun x => m.sites.getD (4 * y + x) 0))).flatten

/-- A mosaic holds the sites a channel needs (R280). -/
def hasChannel (m : Mosaic) (c : Nat) : Bool :=
  if c = 0 then true else if c ≤ 5 then (sitesOf m).contains c else [1, 2, 3].all (sitesOf m).contains

/-- A coordinate `d` off `x`, clamped to 0 … n − 1. -/
def camClamp (n x d r : Nat) : Nat := if x + d < r then 0 else Nat.min (n - 1) (x + d - r)

/-- A site channel 1 to 5 of a pixel (R280). -/
def siteValue (m : Mosaic) (g : Grid) (w h c x y : Nat) : Pix :=
  if siteOf m x y = c then gridAt g x y
  else
    let r := m.size / 2
    let n := 2 * r + 1
    let ps := ((List.range n).map (fun j => (List.range n).filterMap (fun i =>
      let xx := camClamp w x i r
      let yy := camClamp h y j r
      if siteOf m xx yy = c then some (gridAt g xx yy) else none))).flatten
    let k := ps.length
    if k = 0 then (0, false) else ((sumBy (fun (p : Pix) => p.1) ps + k / 2) / k, ps.all (fun p => p.2))

/-- A channel of a pixel: 0 the sample itself, 1 to 5 sites, 6 luma (R280). -/
def chanValue (m : Mosaic) (g : Grid) (w h c x y : Nat) : Pix :=
  if c = 0 then gridAt g x y
  else if c = 6 then
    let r := siteValue m g w h 1 x y
    let gr := siteValue m g w h 2 x y
    let b := siteValue m g w h 3 x y
    ((77 * r.1 + 150 * gr.1 + 29 * b.1 + 128) / 256, r.2 && gr.2 && b.2)
  else siteValue m g w h c x y

/-- The whole of a channel, reconstructed. -/
def chanGrid (m : Mosaic) (g : Grid) (w h c : Nat) : Grid :=
  ((List.range h).map (fun y => ((List.range w).map (fun x => chanValue m g w h c x y)).toArray)).toArray

/-! Streams. -/

/-- Output columns and lines of a stream (R281). -/
def streamCols (c : StreamCfg) : Nat := c.cw / Nat.max 1 c.fx
def streamLines (c : StreamCfg) : Nat := c.ch / Nat.max 1 c.fy

/-- Channels interleaved in an output pixel. -/
def streamChans (c : StreamCfg) : List Nat := if c.chan = 7 then [1, 2, 3] else [c.chan]

/-- Bytes per output line, and the stride (R282). -/
def streamLineBytes (c : StreamCfg) : Nat := streamCols c * (streamChans c).length * (if c.wide then 2 else 1)
def up64 (n : Nat) : Nat := (n + 63) / 64 * 64
def streamStride (c : StreamCfg) : Nat := up64 (streamLineBytes c)

/-- An output pixel of one channel: the rounded mean of its block (R281). -/
def streamPixel (c : StreamCfg) (g : Grid) (x y : Nat) : Nat :=
  let n := c.fx * c.fy
  let s := sumBy (fun j => sumBy (fun i => (gridAt g (c.x0 + c.fx * x + i) (c.y0 + c.fy * y + j)).1) (List.range c.fx)) (List.range c.fy)
  (s + n / 2) / Nat.max 1 n

/-- Conversion of a value to its stored bytes (R281, R282). -/
def streamBytes (wide : Bool) (v : Nat) : List Byte := if wide then leBytes 2 v else leBytes 1 (Nat.min 255 ((v + 128) / 256))

/-- The bytes of an output image, its lines at their stride (R282). -/
def streamImage (m : Mosaic) (c : StreamCfg) (g : Grid) (w h : Nat) : List Byte :=
  let cs := (streamChans c).map (fun k => chanGrid m g w h k)
  let pad := List.replicate (streamStride c - streamLineBytes c) (0 : Byte)
  ((List.range (streamLines c)).map (fun y =>
    ((List.range (streamCols c)).map (fun x => (cs.map (fun k => streamBytes c.wide (streamPixel c k x y))).flatten)).flatten ++ pad)).flatten

/-! Frame records and statistics. -/

/-- FLAGS of a whole frame's record but for VALID and DROPPED (Table 9.3). -/
def shapeFlags (f : CamFrame) : Nat :=
  fld (b2n f.short) 2 1 + fld (b2n f.long) 3 1 + fld (b2n (f.nShort != 0)) 4 1 + fld (b2n (f.nLong != 0)) 5 1

/-- A frame record (Table 9.3). -/
def frameRecord (port unit seq flags : Nat) (f : CamFrame) : List Byte :=
  leBytes 8 f.time ++ leBytes 4 f.no ++ leBytes 4 f.line ++ leBytes 2 flags ++ leBytes 2 f.pad ++ leBytes 2 (Nat.min 65535 f.nShort)
    ++ leBytes 2 (Nat.min 65535 f.nLong) ++ leBytes 2 f.cfg.gen ++ leBytes 1 port ++ leBytes 1 unit ++ leBytes 4 seq

/-- Zones across and down (R285). -/
def zonesX (c : StatsCfg) (w : Nat) : Nat := if c.zw = 0 then 0 else (w + c.zw - 1) / c.zw
def zonesY (c : StatsCfg) (h : Nat) : Nat := if c.zw = 0 ∨ c.zh = 0 then 0 else (h + c.zh - 1) / c.zh
def zonesOf (c : StatsCfg) (w h : Nat) : Nat := zonesX c w * zonesY c h

/-- Size of a statistics block (R286). -/
def statsSize (c : StatsCfg) (w h : Nat) : Nat := up64 (1312 + 8 * zonesOf c w h)

/-- The pixels of a rectangle. -/
def rectPixels (g : Grid) (x y w h : Nat) : List Pix :=
  ((List.range h).map (fun j => (List.range w).map (fun i => gridAt g (x + i) (y + j)))).flatten

/-- The histogram (R285). -/
def histogram (ps : List Pix) : List Nat :=
  (ps.foldl (fun (a : Array Nat) p => if p.2 then a.modify (p.1 / 256) (· + 1) else a) (Array.replicate 256 0)).toList

/-- |a − b| -/
def natDist (a b : Nat) : Nat := if a < b then b - a else a - b

/-- SUM and COUNT of a sharpness window (R285). -/
def sharpness (g : Grid) (w : Nat × Nat × Nat × Nat) : Nat × Nat :=
  let at_ := fun (i j : Nat) => gridAt g (w.1 + i) (w.2.1 + j)
  let pairs := ((List.range w.2.2.2).map (fun j => (List.range w.2.2.1).map (fun i =>
    (if i + 1 < w.2.2.1 then [(at_ i j, at_ (i + 1) j)] else []) ++ (if j + 1 < w.2.2.2 then [(at_ i j, at_ i (j + 1))] else [])))).flatten.flatten
  let good := pairs.filter (fun p => p.1.2 && p.2.2)
  (sumBy (fun (p : Pix × Pix) => natDist p.1.1 p.2.1) good, good.length)

/-- Sum and count of a zone (R285). -/
def zoneStat (c : StatsCfg) (g : Grid) (w h z : Nat) : Nat × Nat :=
  let x := z % zonesX c w * c.zw
  let y := z / zonesX c w * c.zh
  let ps := (rectPixels g x y (Nat.min c.zw (w - x)) (Nat.min c.zh (h - y))).filter (fun p => p.2)
  (sumBy (fun (p : Pix) => p.1) ps, ps.length)

/-- A statistics block (Table 9.4). -/
def statsBlock (c : StatsCfg) (record : List Byte) (g : Grid) (w h : Nat) : List Byte :=
  let hist := if c.hist then histogram (rectPixels g 0 0 w h) else List.replicate 256 0
  let wins := (List.range 16).map (fun i => match c.wins[i]? with
    | some q => let r := sharpness g q; leBytes 8 r.1 ++ leBytes 4 r.2 ++ leBytes 4 0
    | none => List.replicate 16 (0 : Byte))
  let zones := (List.range (zonesOf c w h)).map (fun z => let r := zoneStat c g w h z; leBytes 5 r.1 ++ leBytes 3 r.2)
  let b := record ++ (hist.map (leBytes 4)).flatten ++ wins.flatten ++ zones.flatten
  b ++ List.replicate (statsSize c w h - b.length) 0

end Sys2Proof.Machine
end

