-- ==== Sys2Proof/Machine/Inject.lean ====
section
/-! DEFINITION. Fault injection at its points (R484 to R487, R491). -/

namespace Sys2Proof.Machine

/-- Code of an action in INJ.ARM and EV_INJECT (Table 16.8). -/
def InjAction.code : InjAction → Nat
  | .drop => 1 | .corruptPre => 2 | .corruptPost => 3 | .reorder => 4 | .delay => 5

/-- XORs a 32-bit mask into the four bytes from `off`, little-endian (R486). -/
def xorAt (bs : List Byte) (off : Nat) (mask : Word) : List Byte :=
  bs.take off ++ (List.zipWith (fun a b => a ^^^ b) (slice bs off 4) (leBytes 4 mask.toNat)) ++ bs.drop (off + 4)

/-- The injection armed on a target. -/
def injOf (s : State) (kind index : Nat) : Option Injection :=
  s.test.injections.find? (fun j => j.kind == kind && j.index == index)

/-- Whether a frame matches an armed injection (R486): type, LINE of a line frame, and length for the CORRUPT actions. -/
def injMatches (j : Injection) (ftype : Nat) (line : Option Nat) (len : Nat) : Bool :=
  (j.ftype == 0 || j.ftype == ftype) &&
  (match line with
    | none => true
    | some l => j.line == 0xFFFFFFFF || j.line == l) &&
  (match j.action with
    | .corruptPre | .corruptPost => decide (j.offset + 4 ≤ len)
    | _ => true)

/-- Replaces or removes the injection of a target. -/
def setInj (kind index : Nat) (j : Option Injection) (s : State) : State :=
  let rest := s.test.injections.filter (fun q => !(q.kind == kind && q.index == index))
  { s with test := { s.test with injections := match j with | none => rest | some j => rest ++ [j] } }

/-- Offers a frame to the injection of its target. Every INTERVAL-th match from the first is acted on; each action counts
and raises EV_INJECT, and the last one disarms (R486, R487). Answers the injection where it acts on this frame. -/
def injOffer (kind index ftype : Nat) (line : Option Nat) (len pageId : Nat) (s : State) : State × Option Injection :=
  match injOf s kind index with
  | none => (s, none)
  | some j =>
    if !injMatches j ftype line len || j.remaining = 0 then (s, none)
    else if j.seen % Nat.max 1 j.interval ≠ 0 then (setInj kind index (some { j with seen := j.seen + 1 }) s, none)
    else
      let left := j.remaining - 1
      let s := setInj kind index (if left = 0 then none else some { j with seen := j.seen + 1, remaining := left }) s
      let s := tick 0x0F00 kind s
      (raise 0x0F02 index pageId (line.getD 0) (j.action.code + kind * 256) ftype left s, some j)

end Sys2Proof.Machine
end

