-- ==== Sys2Proof/Machine/Transmit.lean ====
section
/-! DEFINITION. The downlink transmitter of a head-link port (R207 to R210): its payload stream, codewords, blocks, ordered sets, and the
order of its frames (R215). -/

namespace Sys2Proof.Machine

def port (s : State) (g : Nat) : Port := s.link.ports.getD g {}

def setPort (g : Nat) (f : Port → Port) (s : State) : State :=
  { s with link := { s.link with ports := updAt s.link.ports g f } }

/-- 1 µs and 1 ms in ps. -/
def usPs : Nat := 1000000
def msPs : Nat := 1000000000

/-- Time in ps of a 66-bit block (R207), and of a frame of `n` bytes (R208). -/
def blockPs (half : Bool) : Nat := if half then 12800 else 6400
def frameTime (half : Bool) (n : Nat) : Nat := let t := n * 8 * 544000 / 5140; if half then 2 * t else t

/-- The first block that starts at or after a time. -/
def blockFrom (half : Bool) (t : Nat) : Nat := (t + blockPs half - 1) / blockPs half

/-- One block on the line: scrambled, with the line bits flipped that an injection chose (R486). -/
def txPutBlock (g : Nat) (ordered : Bool) (b : List (Bool × Bool)) (s : State) : State :=
  let p := port s g
  let r := scramble p.txScr (b.map (fun x => x.1))
  let line := List.zipWith (fun (x : Bool) (y : Bool × Bool) => x ^^ y.2) r.2 b
  emit (.block g p.txBlock ordered (ofLsb line)) (setPort g (fun p => { p with txScr := r.1, txBlock := p.txBlock + 1 }) s)

/-- Whole codewords of the payload stream become data blocks (R208). -/
def txEncode (p : Port) : Port :=
  iterate (fun p =>
    if p.txBits.length < 5140 then none
    else
      let m := p.txBits.take 5140
      let w := encodeWord (m.map (fun x => x.1))
      let flips := m.map (fun x => x.2) ++ List.replicate 300 false
      some { p with txBits := p.txBits.drop 5140, txData := p.txData ++ chunksOf 64 85 (List.zip w flips) }) (p.txBits.length / 5140) p

/-- Bits of bytes in the payload stream (R209), marked where an injection flips them on the line. -/
def streamBits (bs : List Byte) (flips : List Nat) : List (Bool × Bool) :=
  let l := (bs.map (fun b => lsbBits 8 b.toNat)).flatten
  List.zip l ((List.range l.length).map flips.contains)

/-- An idle frame completes the codeword that is under way (R210, Table 7.3). -/
def txFill (p : Port) : Port :=
  let n := Nat.max 6 ((5140 - p.txBits.length + 7) / 8)
  txEncode { p with txBits := p.txBits ++ streamBits (idleBytes n) [], txIdle := true }

/-- The ordered set that goes in block `n`: a strobe that is due before any other (R210). -/
def setDue (p : Port) (n : Nat) : Option (Nat × Bool × List Byte) :=
  match p.txSets.find? (fun q => decide (q.1 ≤ n) && q.2.1) with
  | some q => some q
  | none => p.txSets.find? (fun q => decide (q.1 ≤ n))

/-- One block of those before block `limit` (R207, R210): an ordered set that is due, else data, else the idle frame that completes a
codeword. Blocks between them that carry only idle frames are passed over (DESIGN CHOICE, log entry 88). -/
def txStep (g limit : Nat) (s : State) : Option State :=
  let p := port s g
  if limit ≤ p.txBlock then none
  else match setDue p p.txBlock with
    | some q =>
      some (txPutBlock g true (streamBits q.2.2 []) (setPort g (fun p => { p with txSets := p.txSets.erase q }) s))
    | none => match p.txData with
      | d :: t => some (txPutBlock g false d (setPort g (fun p => { p with txData := t }) s))
      | [] =>
        if !p.txBits.isEmpty && !p.txIdle then some (setPort g txFill s)
        else some (setPort g (fun p => { p with txBlock := (p.txSets.map (fun q => q.1)).foldl Nat.min limit }) s)

/-- Sends what is due before block `limit`. -/
def txAdvance (g limit : Nat) (s : State) : State :=
  let p := port s g
  iterate (txStep g limit) (2 * (p.txData.length + p.txSets.length) + 200) s

/-- An ordered set falls due in a block (R210); the data behind it goes one block later. -/
def txSet (g block : Nat) (strobe : Bool) (bs : List Byte) (s : State) : State :=
  setPort g (fun p => { p with
    txSets := p.txSets ++ [(block, strobe, bs)]
    busyUntil := if block * blockPs p.half < p.busyUntil then p.busyUntil + blockPs p.half else p.busyUntil }) (txAdvance g block s)

/-- A sent frame in the output log, by its FTYPE. -/
def frameOut (g : Nat) (bs : List Byte) : Out :=
  match leAt bs 0 1 with
  | 0x02 => .mgmt g bs
  | 0x04 => .prbs g bs
  | _ => .frame g bs

/-- A frame joins the payload stream once the frame in progress has ended, but not before `at_`; `extra` ps are idle before it, and the
bits of `flips` are flipped on the line (R209, R215). -/
def txSend (g : Nat) (bs : List Byte) (flips : List Nat) (at_ extra : Nat) (s : State) : State :=
  let p := port s g
  let start := Nat.max at_ p.busyUntil + extra
  let s := txAdvance g (blockFrom p.half start) s
  emit (frameOut g bs) (setPort g (fun p => txEncode { p with
    txBits := p.txBits ++ streamBits bs flips, txIdle := false, busyUntil := start + frameTime p.half bs.length }) s)

/-- Line bits that a mask chooses in the four bytes from an offset (R486). -/
def maskBits (offset : Nat) (mask : Word) : List Nat := (bitList 32 mask.toNat).map (fun b => 8 * offset + b)

/-- Sends a frame, injections first (R484, R486). `line` is the LINE of a line frame. -/
def txFrame (g : Nat) (bs : List Byte) (line : Option Nat) (pageId at_ : Nat) (s : State) : State :=
  let r := injOffer 0 g (leAt bs 0 1) line bs.length pageId s
  let s := r.1
  match r.2 with
  | none =>
    let s := txSend g bs [] at_ 0 s
    match (port s g).heldDn with
    | some h => if leAt h 0 1 = leAt bs 0 1 then txSend g h [] at_ 0 (setPort g (fun p => { p with heldDn := none }) s) else s
    | none => s
  | some j => match j.action with
    | .drop => txSend g (idleBytes bs.length) [] at_ 0 s
    | .corruptPre => txSend g bs (maskBits j.offset j.mask) at_ 0 s
    | .corruptPost => txSend g (xorAt bs j.offset j.mask) [] at_ 0 s
    | .reorder => setPort g (fun p => { p with heldDn := some bs }) s
    | .delay => txSend g bs [] at_ (j.delay * 1000) s

/-- Frames that wait go out while the transmitter is free and no line frame waits (R215). -/
def txDrain (g : Nat) (s : State) : State :=
  iterate (fun s =>
    let p := port s g
    match p.txWait with
    | [] => none
    | b :: t =>
      if p.frames.isEmpty && decide (p.busyUntil ≤ s.now) then some (txFrame g b none 0 0 (setPort g (fun p => { p with txWait := t }) s))
      else none) ((port s g).txWait.length) s

/-- Sends a frame other than a line frame: it waits for the frame in progress, for those that wait already, and for a line frame (R215). -/
def txOther (g : Nat) (bs : List Byte) (s : State) : State :=
  let s := txDrain g s
  let p := port s g
  if p.txWait.isEmpty && p.frames.isEmpty && decide (p.busyUntil ≤ s.now) then txFrame g bs none 0 s.now s
  else setPort g (fun p => { p with txWait := p.txWait ++ [bs] }) s

/-- A probe goes in the block at a time (R219). -/
def probeSend (g at_ : Nat) (s : State) : State :=
  let id := (port s g).probeId
  let s := txSet g (blockFrom (port s g).half at_) false (setBytes 0xB5 0 id) s
  emit (.probe g id) (setPort g (fun p => { p with probes := p.probes ++ [(id, at_)], probeId := (id + 1) % 65536 }) s)

end Sys2Proof.Machine
end

