-- ==== Sys2Proof/Machine/Links.lean ====
section
/-! DEFINITION. The head-link ports: states (R227 to R231), management (R223), retrains and their commands (R232 to R239),
row results (R221, R222), latency (R195), building line frames (R186, R213), strobes (R194, R196). -/

namespace Sys2Proof.Machine

/-! LINK.TRAIN. -/

/-- A lane's retrain has ended or been abandoned: every LINK.TRAIN that names it notes it, and completes with its last lane (R239). -/
def trainSettle (g : Nat) (ok : Bool) (s : State) : State :=
  let st := stOf g
  let b := 1 <<< (g % 16)
  let upd (t : TrainCmd) : TrainCmd :=
    if t.station = st ∧ bitOf t.left (g % 16) then { t with left := t.left - b, done := if ok then t.done ||| b else t.done, failed := t.failed || !ok }
    else t
  let ts := s.link.trains.map upd
  let s := { s with link := { s.link with trains := ts.filter (fun t => t.left != 0) } }
  forList (ts.filter (fun t => t.left == 0)) s (fun t s =>
    let up := maskOf ((bitList 16 t.named).filter (fun j => bitOf t.done j && (port s (16 * st + j)).st == .online))
    complete t.oid (if t.failed || up != t.named then 0x0601 else stOk) [up] s)

/-- A pending retrain of a lane is abandoned (R237). -/
def retrainDrop (g : Nat) (s : State) : State :=
  let has := s.page.gapPending.any (fun i => i.work == .retrain g)
  let s := { s with page := { s.page with gapPending := s.page.gapPending.filter (fun i => i.work != .retrain g) } }
  if has then trainSettle g false s else s

/-! Management. -/

/-- Sends a request, or lets it wait while four are outstanding (R223). -/
def mgmtSend (g op addr count : Nat) (data : List Byte) (use : MgmtUse) (s : State) : State :=
  let p := port s g
  let r : MgmtReq := { seq := p.seq, op := op, addr := addr, count := count, data := data, use := use, due := s.now + 100 * usPs }
  let s := setPort g (fun p => { p with seq := (p.seq + 1) % 256 }) s
  if p.mgmt.length < 4 then
    txOther g (mgmtBytes g r) (setPort g (fun p => { p with mgmt := p.mgmt ++ [r] }) s)
  else setPort g (fun p => { p with mgmtWait := p.mgmtWait ++ [r] }) s

/-- A waiting request goes out when one of the four has ended. -/
def mgmtNext (g : Nat) (s : State) : State :=
  let p := port s g
  match p.mgmtWait with
  | [] => s
  | r :: t =>
    if p.mgmt.length < 4 then
      let r := { r with due := s.now + 100 * usPs }
      txOther g (mgmtBytes g r) (setPort g (fun p => { p with mgmt := p.mgmt ++ [r], mgmtWait := t }) s)
    else s

/-- Answers the TILE.MEM that is ACTIVE (R267). -/
def memAnswer (status : Nat) (results : List Nat) (s : State) : State :=
  match s.active with
  | none => s
  | some a => respond a.slot status results { s with active := none }

/-- A kind 1 record's pieces are on their way to the tile's memory. -/
def recordFlying (s : State) (g : Nat) : Option MgmtReq :=
  ((port s g).mgmt ++ (port s g).mgmtWait).find? (fun r => match r.use with
    | .record => true
    | _ => false)

/-- The management of a lane ends with its link: nothing is outstanding any more, and a record cut short is still to be written (R247). -/
def mgmtDrop (g : Nat) (s : State) : State :=
  let held := (s.active.map (fun a => a.lane == g)).getD false
  let s := match recordFlying s g with
    | some r => recordLost g (copyAt r.addr) s
    | none => s
  let s := setPort g (fun p => { p with mgmt := [], mgmtWait := [], txWait := [], idBuf := [], userBuf := [], idAgain := false }) s
  if held then memAnswer 0x0601 [] s else s

/-! States. -/

/-- The peaking setting acquisition tries first: that of the valid kind 1 record of the lane's tile as last identified, or 8 (R228, R242). -/
def firstPeak (s : State) (g : Nat) : Nat :=
  match (tileOf s g).ident.bind (fun i => recInUse s 1 g i.1 i.2) with
  | none => 8
  | some r => (userOf (some r)).2.1 % 16

/-- The receiver holds no lock and counts from the start (R212, R228). -/
def rxReset (p : Port) : Port :=
  { p with blockLock := false, cwLock := false, frameLock := false, dnlock := false, dnZero := 0, hdrRun := 0, hdrSeen := 0, hdrBad := 0,
           cwGood := 0, cwBad := 0, rxBits := [], rxBytes := [], rxQ := [], heldUp := none, flips := [] }

/-- The transmitter drops what it had still to send. -/
def txReset (p : Port) : Port :=
  { p with frames := [], txWait := [], txBits := [], txIdle := true, txData := [], txSets := [], heldDn := none }

/-- Writes the thresholds to a tile of design generation 2 (R250, R267). -/
def thresholdsOut (g : Nat) (s : State) : State :=
  mgmtSend g 2 0x9000 8 (thresholdBytes s g) .thresholds (setTile g (fun t => { t with thrDue := false }) s)

/-- What a port does on entering a state (Table 7.11). -/
def linkEnter (g : Nat) (new : LinkSt) (s : State) : State :=
  match new with
  | .acquire =>
    let pk := firstPeak s g
    let s := tick 0x0608 g (mgmtDrop g s)
    setPort g (fun p => { txReset (rxReset p) with
      half := false, devPeak := pk, acqTried := 0, acqNext := s.now + 200 * usPs, acqEnd := s.now + 8 * msPs, acqHalfTried := false,
      exitAt := none, dnLast := none, swing := p.swingNext, pre := p.preNext, post := p.postNext, probes := [], measures := [], gapRun := 0 }) s
  | .identify =>
    let s := setPort g (fun p => { p with idBuf := [], idAgain := false, userBuf := [] }) s
    mgmtSend g 1 0x0200 64 [] (.factory 1) (mgmtSend g 1 0 512 [] (.factory 0) s)
  | .measure =>
    forRange 16 (setPort g (fun p => { p with probes := [], measures := [] }) s) (fun i s => probeSend g (s.now + i * blockPs (port s g).half) s)
  | .online =>
    let s := when (tileOf s g).thrDue (thresholdsOut g) s
    setPort g (fun p => { p with
      onlineAt := s.now, resync := true, winStart := s.now, wUpCorr := 0, wDnCorr := 0, wUpUnc := 0, wDnUnc := 0,
      wBits := 0, wErrs := 0, nextProbe := s.now + msPs, gapRun := 0, frames := [], idleRx := false, exitAt := none }) s
  | .idle | .off | .offline | .test =>
    setPort g (fun p => { txReset (rxReset p) with probes := [], exitAt := none }) (mgmtDrop g s)
  | .retrain => setPort g (fun p => { p with frames := [], retrain := some {} }) s
  | .mgmtOnly | .down => s

/-- Moves a port to a state, with EV_LINK_STATE (R227, R237, R240). DOWN goes on to ACQUIRE at once. -/
def linkMove (g : Nat) (new : LinkSt) (cause : Nat) (s : State) : State :=
  let old := (port s g).st
  if old = new then s
  else
    let go (old new : LinkSt) (cause : Nat) (s : State) : State :=
      let s := setPort g (fun p => { p with st := new, since := s.now, retrain := none }) s
      linkEnter g new (raise 0x0601 g 0 (stationLine s (stOf g)) new.code old.code cause s)
    let s := go old new cause s
    let s := if old = .online ∧ new ≠ .retrain then retrainDrop g s else s
    if new = .down then
      let s := if old = .retrain then trainSettle g false s else s
      go .down .acquire 7 s
    else s

/-- The same; a tile that leaves ONLINE ends its attempts of live calibration (R316). -/
def linkTo (g : Nat) (new : LinkSt) (cause : Nat) (s : State) : State :=
  if (port s g).st = .online ∧ new ≠ .online then calResetTile g (linkMove g new cause s) else linkMove g new cause s

/-- The states that a loss of lock takes to DOWN (R227). -/
def linkHeld (l : LinkSt) : Bool := l == .identify || l == .measure || l == .online || l == .mgmtOnly

/-- Loss of lock (R227): cause 1 block lock, 2 codeword lock, 3 DNLOCK. -/
def lockLost (g cause : Nat) (s : State) : State := if linkHeld (port s g).st then linkTo g .down cause s else s

/-- Both directions hold every lock (R228). -/
def locked (p : Port) : Bool := p.blockLock && p.cwLock && p.frameLock && p.dnlock

/-- ACQUIRE ends once both directions are locked (R227, R228); a fast exit goes on to MEASURE (R231). -/
def acquired (g : Nat) (s : State) : State :=
  let p := port s g
  if p.st = .acquire ∧ locked p then linkTo g (if p.half then .mgmtOnly else .identify) 7 s else s

/-! Latency. -/

/-- LAT from a round trip in ps (R195): half of round trip less turnaround, asymmetry and fire latency, LAT_TRIM (R312). -/
def latOf (s : State) (g rtt : Nat) : Nat :=
  match (tileOf s g).hdr with
  | none => 0
  | some h =>
    let raw : Int := ((rtt : Int) - h.turnaround * 250) / 2 + (h.asym + h.fireLat + (dly s g).latTrim) * 250
    ((raw + 125) / 250 * 250).toNat

/-- The tile's split passes R184 and R187, beside the tiles that are ONLINE or will be after their retrain. -/
def splitFits (s : State) (g : Nat) : Bool :=
  let d := splitTile (dly s g)
  let others := (tilesOf (stOf g)).filter (fun h => h != g && ((port s h).st == .online || (port s h).st == .retrain))
  let ias := others.map (fun h => (dly s h).ia)
  let ibs := others.map (fun h => (dly s h).ib)
  decide (0 ≤ d.rb ∧ d.rb ≤ 1024 ∧ ibs.foldl max d.ib - ias.foldl min d.ia ≤ 175)

/-- The tile can be brought online (R184, R187, R195, R250). -/
def bringable (s : State) (g : Nat) : Bool :=
  splitFits s g && decide ((dly s g).lat ≤ 2500000) && !(tileOf s g).factoryFail

/-- A fresh split of a tile: its slots start anew (R184, R189). -/
def resplit (g : Nat) (s : State) : State :=
  let t := trk s (stOf g)
  let old := dly s g
  let new := splitTile old
  if new.ia = old.ia ∧ new.ib = old.ib then setDly g (fun _ => new) s
  else
    let a := (stOf g) * 256 * 65536
    let mine := fun (x : Nat) => decide (a ≤ x ∧ x < a + 256 * 65536) && x / 4096 % 16 == g % 16
    let s := { s with pos := { s.pos with store := s.pos.store.filter (fun p => !mine p.1), slots := s.pos.slots.filter (fun h => h.tile != g) } }
    setDly g (fun _ => { new with lastA := t.k - new.ia, lastB := t.k - new.ib }) s

/-- MEASURE has its 16 results (R195, R227): LAT from the median, the split, ONLINE or OFFLINE. -/
def measured (g : Nat) (s : State) : State :=
  let p := port s g
  if p.st ≠ .measure ∨ !p.probes.isEmpty then s
  else
    let ms := p.measures.mergeSort (fun a b => decide (a ≤ b))
    let n := ms.length
    if n = 0 then linkTo g .offline 6 s
    else
      let med := if n % 2 = 1 then ms.getD (n / 2) 0 else (ms.getD (n / 2 - 1) 0 + ms.getD (n / 2) 0) / 2
      let lat := latOf s g med
      let s := setDly g (fun d => { d with rtt := med, lat := lat, latTarget := lat, trimMoving := false }) s
      if bringable s g then linkTo g .online 7 (resplit g s) else linkTo g .offline 6 s

/-- A new round trip of an ONLINE lane (R195): LAT's new target, EV_LATENCY_STEP when it differs by more than 2 ns. -/
def latencyNew (g rtt : Nat) (s : State) : State :=
  let old := (dly s g).lat
  let new := latOf s g rtt
  let s := setDly g (fun d => { d with rtt := rtt, latTarget := new }) s
  if 2000 < absDiff old new then raise 0x0507 g 0 (stationLine s (stOf g)) (old / 250) (rtt / 250) 0 s else s

/-- LAT moves toward its target by at most 250 ps per line (R195). -/
def latencyLine (g : Nat) (s : State) : State :=
  setDly g (fun d =>
    let lat := if d.lat < d.latTarget then Nat.min d.latTarget (d.lat + 250) else Nat.max d.latTarget (d.lat - 250)
    { d with lat := lat, trimMoving := d.trimMoving && lat != d.latTarget }) s

/-! Row results. -/

/-- One row's result (R221): counts, spoils, and EV_LINK_LINE at the first such row of the tile in a page. -/
def rowFault (g : Nat) (a : Await) (q : Int) (c ra rb : Nat) (s : State) : State :=
  if c < 2 then s
  else
    let st := stOf g
    let s := forList (rowPages s g q) (tick 0x0604 (g + 256 * c) s) (fun p s =>
      if (port s g).lineEv.any (fun e => e.1 == p.key) then
        setPort g (fun x => { x with lineEv := x.lineEv.map (fun e => if e.1 = p.key then (e.1, e.2 + 1) else e) }) s
      else
        raise 0x0602 g p.id.toNat (stationLine s st) (ra + rb * 16) (unsig a.k 32) 0
          (setPort g (fun x => { x with lineEv := ((p.key, 0) :: x.lineEv).take 64 }) s))
    spoilRow g q (if c = 7 then 4 else 6) s

/-- The results of a boundary's rows: the first ones received count (R221). -/
def rowResults (g : Nat) (k : Int) (ra rb : Nat) (s : State) : State :=
  match (port s g).awaits.find? (fun a => a.k == k) with
  | none => s
  | some a =>
    let s := setPort g (fun p => { p with awaits := p.awaits.filter (fun x => x.k != k) }) s
    rowFault g a a.imgB rb ra rb (rowFault g a a.imgA ra ra rb s)

/-- The states in which a tile's row results arrive: ONLINE, and RETRAIN for the frames sent before it (R221). -/
def reports (l : LinkSt) : Bool := l == .online || l == .retrain

/-- Boundaries without a status result by k + 16 (R222); those of a tile that has left ONLINE meanwhile are not reported any more, and
their rows count as result 2 too (DEDUCED, log entry 88). -/
def statusGaps (g : Nat) (k : Int) (s : State) : State :=
  forList ((port s g).awaits.filter (fun a => decide (a.k + 16 ≤ k))) s (fun a s =>
    if !reports (port s g).st then rowResults g a.k 2 2 s else
    let s := rowResults g a.k 2 2 (tick 0x0605 g s)
    let s := setPort g (fun p => { p with gapRun := p.gapRun + 1 }) s
    if 64 ≤ (port s g).gapRun then lockLost g 4 s else s)

/-! Line frames and strobes. -/

/-- Notes the band-lines of planned spans that a suppressed row carries (R301). -/
def supNote (g : Nat) (q : Int) (s : State) : State :=
  forList (rowPages s g q) s (fun p s => forList (allDInt s p g) s (fun d s =>
    let n := q - d - p.firstLine (stOf g)
    if 0 ≤ n ∧ n < p.lines ∧ spanWants s p n.toNat ∧ ¬ s.cal.supLines.contains (p.key, g, n.toNat) then
      { s with cal := { s.cal with supLines := s.cal.supLines ++ [(p.key, g, n.toNat)] } }
    else s))

/-- Builds the frame of boundary `k` for a tile at boundary k − 1 (R186, R189, R213, R251, R254). -/
def buildFrame (g : Nat) (k : Int) (s : State) : State :=
  let s := txDrain g s
  let d := dly s g
  let st := stOf g
  let qa := k - d.ia
  let qb := k - d.ib
  let p := port s g
  let s :=
    if p.st ≠ .online then
      supNote g qb (supNote g qa (spoilRow g qb 5 (spoilRow g qa 5 s)))
    else
      let s := readSlot g qb true (readSlot g qa false s)
      let t := tileOf s g
      let cut := t.hold == 2 || t.hold == 3
      let owed := decide (0 < t.owed) || (t.codesFrom.map (fun m => decide (min qa qb < m))).getD false
      let s := if cut then spoilRow g qb 4 (spoilRow g qa 4 s) else s
      let s := if owed then spoilRow g qb 5 (spoilRow g qa 5 s) else s
      let per := periodOf (trk s st)
      let blank := per == 0
      let supA := (slotHdr s g qa).sup || cut || owed || blank
      let supB := (slotHdr s g qb).sup || cut || owed || blank
      let s := when supB (supNote g qb) (when supA (supNote g qa) s)
      let alive := if p.resync then 0 else (p.alive + 1) % 256
      let f : LineFrame := { tile := g, k := k, supA := supA, supB := supB, noStrobe := blank, resync := p.resync,
                             alive := if p.legacy then 0 else alive, ta := d.ta, tb := d.tb, period := per, imgA := qa, imgB := qb,
                             dose := rowDoses s g qa false ++ rowDoses s g qb true, crc := 0 }
      let f := { f with crc := lineCheck p.legacy f }
      let s := if p.resync then setDly g (fun d => { d with nextStrobe := k }) s else s
      setPort g (fun p => { p with
        frames := p.frames ++ [f], resync := false, alive := alive,
        awaits := p.awaits ++ [{ k := k, imgA := qa, imgB := qb, blank := blank }] }) s
  setDly g (fun d => { d with lastA := max d.lastA qa, lastB := max d.lastB qb }) (clearSlot g qb s)

/-- The strobe of a boundary is lost (R179): no strobe is committed, and a frame not yet sent is suppressed. -/
def strobeLost (g : Nat) (k : Int) (s : State) : State :=
  let blank (legacy : Bool) (f : LineFrame) : LineFrame :=
    let f := { f with supA := true, supB := true, noStrobe := true }
    { f with crc := lineCheck legacy f }
  setPort g (fun p => { p with frames := p.frames.map (fun f => if f.k = k then blank p.legacy f else f)
                               awaits := p.awaits.map (fun a => if a.k = k then { a with lost := true } else a) }) s

/-- Z_k − X in 1/65,536 count, and t_k in ps from a sample, rounded to the 250 ps grid (R194). -/
def strobeTime (z : Int) (span : Int × Nat) (x : Int) (t : Nat) : Int :=
  if span.1 = 0 then t
  else
    let num := (z - x * 65536) * span.2
    let den := 65536 * 250 * span.1
    (t : Int) + Int.fdiv (2 * num + den) (2 * den) * 250

/-- The page phase of a boundary's lines at a station: that of the page that owns the line, else of the last page (R182, R194). -/
def phaseAt (s : State) (st : Nat) (k : Int) : Nat :=
  match ownerOf s st k with
  | some p => p.phase.getD st 0
  | none =>
    match ((startedAt s st).filter (fun p => decide (p.firstLine st ≤ k))).getLast? with
    | some p => p.phase.getD st 0
    | none => 0

/-- The send times of a boundary's strobe as the samples place it, newest sample first, each with the velocity of that sample and the seven
before it, and whether the sample is old enough to be used at it (R194). -/
def strobeAims (s : State) (g : Nat) (k : Int) : List (Int × Bool) :=
  let t := trk s (stOf g)
  let z := boundaryPos t k + phaseAt s (stOf g) k
  let lat : Int := (dly s g).lat
  if !velValid t then []
  else (List.range t.samples.length).filterMap (fun i =>
    match t.samples[i]?, t.samples[i + 7]? with
    | some x, some y =>
      if y.2 < x.2 ∧ y.1 < x.1 then
        let at_ := strobeTime z (x.1 - y.1, x.2 - y.2) x.1 x.2 - lat
        some (at_, decide ((x.2 : Int) + 180000 ≤ at_))
      else none
    | _, _ => none)

/-- The committed strobe of a boundary: its send time in ps from the newest sample usable at it (R194). -/
def strobeSend (s : State) (g : Nat) (k : Int) : Option Int := ((strobeAims s g k).find? (fun a => a.2)).map (fun a => a.1)

/-- The strobe of a boundary fell due before the estimate could place it (R179): every sample with a velocity came too late for it. -/
def strobeMissed (s : State) (g : Nat) (k : Int) : Bool := !(strobeAims s g k).isEmpty && (strobeAims s g k).all (fun a => !a.2)

/-- Block and phase of a strobe (R196). -/
def strobePhase (tSend : Int) : Nat × Nat :=
  let b := (floorDiv tSend 6400).toNat
  let ph := ((tSend - 6400 * b + 50) / 100).toNat
  if 64 ≤ ph then (b + 1, 0) else (b, ph)

end Sys2Proof.Machine
end

