-- ==== Sys2Proof/Machine/CalMath.lean ====
section
/-! DEFINITION. Views, spans and samples of live calibration: positions of camera lines (R296 to R299), what a span gives
(R301, R302, R308), and the arithmetic of errors and corrections (R303 to R306, R309 to R312). -/

namespace Sys2Proof.Machine

/-! Rounding. -/

/-- num ÷ den to the nearest integer, halves away from zero; den is positive. -/
def roundAway (num : Int) (den : Nat) : Int :=
  if 0 ≤ num then (2 * num + den) / (2 * den : Nat) else -((-2 * num + den) / (2 * den : Nat))

/-- The same for a denominator of either sign. -/
def roundDiv (num den : Int) : Int := if den < 0 then roundAway (-num) (-den).toNat else roundAway num den.toNat

def sumInt (l : List Int) : Int := l.foldl (· + ·) 0

/-- Mean to the nearest integer. -/
def meanInt (l : List Int) : Int := roundAway (sumInt l) (Nat.max 1 l.length)

/-- Median; of an even count the mean of the middle two, to the nearest integer. -/
def medianInt (l : List Int) : Int :=
  let m := l.mergeSort (fun a b => decide (a ≤ b))
  let n := m.length
  if n % 2 = 1 then m.getD (n / 2) 0 else roundAway (m.getD (n / 2 - 1) 0 + m.getD (n / 2) 0) 2

/-! Views. -/

def viewOf (s : State) (v : Nat) : CalView := s.cal.views.getD v {}

def camPort (s : State) (p : Nat) : CamPort := s.cam.ports.getD p {}

def camTrig (s : State) (t : Nat) : CamTrig := s.cam.trigs.getD t {}

/-- A view's port meets R297 for a reference station. -/
def viewPortOk (s : State) (v ref : Nat) : Bool :=
  let p := camPort s v
  let t := camTrig s p.cfg.timing.trig
  p.en && p.cfg.timing.linescan && !p.cfg.timing.triggered && t.mode == 3 && t.period == 1 && t.station == ref

/-- A view is enabled and usable (R297). -/
def viewUsable (s : State) (v : Nat) : Bool := (viewOf s v).en && viewPortOk s v (viewOf s v).ref

/-- A view observes a station. -/
def observes (v : CalView) (st : Nat) : Bool := v.chan.getD st 0 != 0

/-- The stations a view observes. -/
def viewStations (v : CalView) : List Nat := (List.range 6).filter (observes v)

/-- A view serves a run of a kind on a station: for kind 1 it observes the station and its reference. -/
def viewServes (v : CalView) (kind st : Nat) : Bool := v.en && observes v st && (kind != 1 || observes v v.ref)

/-- The views that serve a run: usable ones that observe its subject, for kind 1 those of one reference station, the lowest's (DEDUCED,
log entry 91). -/
def runViews (s : State) (kind st : Nat) : List Nat :=
  let vs := (List.range 4).filter (fun v => viewServes (viewOf s v) kind st && viewUsable s v)
  vs.filter (fun v => kind != 1 || (vs.head?.map (fun w => (viewOf s w).ref)) == some (viewOf s v).ref)

/-- The reference station of a run of kind 1. -/
def runRef (s : State) (st : Nat) : Nat := ((runViews s 1 st).head?.map (fun v => (viewOf s v).ref)).getD st

/-- The views whose cameras pass a station's spans. -/
def spanViews (s : State) (st : Nat) : List Nat := (List.range 4).filter (fun v => observes (viewOf s v) st && viewUsable s v)

/-- Some enabled view observes a run's subject. -/
def anyView (s : State) (kind st : Nat) : Bool := (List.range 4).any (fun v => viewServes (viewOf s v) kind st)

/-- The device column that a pixel views (R296). -/
def pixelCol (v : CalView) (x : Nat) : Int := floorDiv (v.dx0 * 256 + x * v.dxp) 65536

/-- pos(k) in 1/1,024 page line (R298); none while PERIOD is not valid. -/
def linePos (s : State) (v : CalView) (first k : Int) : Option Int :=
  let p := periodOf (trk s v.ref)
  if p = 0 then none else some (1024 * (k - first) + ((1024 * v.camLat * 4 / p : Nat) : Int) - 16 * v.camLag)

/-- The extended index of a 32-bit station line number near the last boundary. -/
def extendLine (k : Int) (n : Nat) : Int := k - sint (unsig (k - n) 32) 32

/-! Spans. -/

/-- Rows of a span's tile, by page line; none where one is missing. -/
def spanRows (s : State) (page tile a n : Nat) : Option (List SpanRow) :=
  (List.range n).foldr (fun i acc => match acc, s.cal.rows.find? (fun r => r.page == page && r.tile == tile && r.n == a + i) with
    | some l, some r => some (r :: l)
    | _, _ => none) (some [])

/-- The camera lines of a span for a view, one set of channel values per station, by page line; none where a line is missing. -/
def spanLines (s : State) (view st page a n : Nat) : Option (List CalLine) :=
  (List.range n).foldr (fun i acc => match acc, s.cal.lines.find? (fun l => l.view == view && l.station == st && l.page == page && l.n == a + i) with
    | some l, some r => some (r :: l)
    | _, _ => none) (some [])

/-- A line of the span went to a tile with a suppress flag (R301). -/
def spanSup (s : State) (page tile a n : Nat) : Bool :=
  s.cal.supLines.any (fun q => q.1 == page && q.2.1 == tile && decide (a ≤ q.2.2 ∧ q.2.2 < a + n))

/-- A column belongs to its tile on every line of a span (R301). -/
def colBelongs (s : State) (p : Page) (g c a n : Nat) : Bool :=
  let st := stOf g
  let t := g % 16
  let mask := s.pos.stitch.getD st []
  (List.range n).all (fun i =>
    let q := p.firstLine st + a + i + dIntOf s p g c
    let b := maskFor mask stitchDefault q
    let u := unsig (p.firstLine st + a + i) 6
    overrideFor s st (4096 * t + c) q != 3
      && (if 4032 ≤ c ∧ t < 15 then !stitchAt b t u (c - 4032) else if c < 64 ∧ 0 < t then stitchAt b (t - 1) u c else true))

/-- Mean over columns and lines of the tone of every other observed station is at most ISO (R302, R308). -/
def isolated (s : State) (v : CalView) (p : Page) (st t a n : Nat) (cols : List Nat) (iso : Nat) : Bool :=
  (viewStations v).all (fun o => o == st || !p.uses o || (match spanRows s p.key (16 * o + t) a n with
    | none => false
    | some rs => decide (sumBy (fun (r : SpanRow) => sumBy (fun c => r.v.getD c 0) cols) rs ≤ iso * (n * cols.length))))

/-- The pixels that view some columns of a tile. -/
def tilePixels (v : CalView) (width t : Nat) (cols : List Nat) : List Nat :=
  (List.range width).filter (fun x => let d := pixelCol v x - 4032 * (t : Int); decide (0 ≤ d) && cols.contains d.toNat)

/-- Valid channel values of some pixels of a line. -/
def lineValues (l : CalLine) (xs : List Nat) : List Int :=
  xs.filterMap (fun (x : Nat) => match l.values[x]? with | some (w, true) => some (Int.ofNat w) | _ => none)

/-- A UNIFORMITY sample of a cell for a span (R302). -/
def cellSample (s : State) (c : CalCfg) (v : CalView) (p : Page) (st t a : Nat) (rows : List SpanRow) (lines : List CalLine) (cols : List Nat) :
    Option CalSample :=
  let g := 16 * st + t
  let vs := (rows.map (fun r => cols.map (fun x => r.v.getD x 0))).flatten
  let width := ((lines.head?.map (fun l => l.values.length)).getD 0)
  let xs := tilePixels v width t cols
  let used := (xs.map (fun x => (pixelCol v x - 4032 * (t : Int)).toNat)).eraseDups
  let ms := (lines.map (fun l => lineValues l xs)).flatten
  let lo := vs.foldl Nat.min 4095
  let hi := vs.foldl Nat.max 0
  let mean := meanInt (vs.map (fun (n : Nat) => Int.ofNat n))
  if ms.isEmpty || !(used.all (fun x => colBelongs s p g x a c.span)) || decide (sumBy id vs < 128 * vs.length) || decide (256 < hi - lo)
      || !isolated s v p st t a c.span cols c.iso then none
  else some { subject := 4096 * t + cols.headD 0, group := Nat.min 3 (sumBy id vs / (1024 * Nat.max 1 vs.length)), v := mean, m := meanInt ms,
              rate := (lines.head?.map CalLine.rate).getD 0 }

/-- The tone of a column on a span's line `j`. -/
def spanTone (rows : List SpanRow) (j x : Nat) : Nat := ((rows[j]?).map (fun r => r.v.getD x 0)).getD 0

/-- The edge columns of a patch: an edge between page lines n and n + 1 of a span, of one direction (R308). -/
def edgeCols (rows : List SpanRow) (i : Nat) (rising : Bool) (cols : List Nat) : List Nat :=
  cols.filter (fun x =>
    let u := spanTone rows i x
    let w := spanTone rows (i + 1) x
    if rising then decide (u ≤ 2048 ∧ 2048 < w) else decide (2048 < u ∧ w ≤ 2048))

/-- At least 16 edge columns, all of which differ by EDGE between the span's first and last lines (R308). -/
def edgeOk (rows : List SpanRow) (edge i : Nat) (rising : Bool) (cols : List Nat) : Bool :=
  let es := edgeCols rows i rising cols
  decide (16 ≤ es.length) && es.all (fun x => decide (edge ≤ natDist (spanTone rows 0 x) (spanTone rows (rows.length - 1) x)))

/-- The one crossing of a profile with M, where 4M is given (R308): pos_c. -/
def crossing (lines : List CalLine) (ps : List Int) (m4 : Int) : Option Int :=
  let hits := (List.range (ps.length - 1)).filter (fun k => decide ((4 * ps.getD k 0 < m4) ≠ (4 * ps.getD (k + 1) 0 < m4)))
  match hits with
  | [k] =>
    let p := ps.getD k 0
    let q := ps.getD (k + 1) 0
    some (((lines[k]?).map CalLine.pos).getD 0 + roundDiv (1024 * (m4 - 4 * p)) (4 * (q - p)))
  | _ => none

/-- The edge sample of a patch of a tile for a span (R308). -/
def edgeSample (s : State) (c : CalCfg) (v : CalView) (p : Page) (st t a : Nat) (rows : List SpanRow) (lines : List CalLine) (patch : Nat) :
    Option CalSample :=
  let g := 16 * st + t
  let cols := (List.range 64).map (fun j => 64 * patch + j)
  if !(cols.all (fun x => colBelongs s p g x a c.span)) || !isolated s v p st t a c.span cols c.iso then none
  else
    let cand := ((List.range (c.span - 3)).map (fun i => [(i + 1, true), (i + 1, false)])).flatten
    match cand.find? (fun q => edgeOk rows c.edge q.1 q.2 cols) with
    | none => none
    | some (i, up) =>
      let width := ((lines.head?.map (fun l => l.values.length)).getD 0)
      let xs := tilePixels v width t (edgeCols rows i up cols)
      let vals := lines.map (fun l => lineValues l xs)
      if vals.any List.isEmpty || decide (lines.length < 4) then none
      else
        let ps := vals.map meanInt
        let n := ps.length
        let m4 := ps.getD 0 0 + ps.getD 1 0 + ps.getD (n - 2) 0 + ps.getD (n - 1) 0
        (crossing lines ps m4).map (fun pc =>
          { subject := g, group := patch, v := pc - (1024 * ((a + i : Nat) : Int) + 512), m := 0, rate := (lines.head?.map CalLine.rate).getD 0 })

/-! UNIFORMITY errors (R303 to R306). -/

/-- The station's response: the four points (v̄, m̄), where m̄ is strictly monotone in the band (R303). -/
def response (l : List CalSample) : Option (List (Int × Int)) :=
  let bands := (List.range 4).map (fun b => l.filter (fun x => x.group == b))
  let pts := bands.map (fun b => (meanInt (b.map CalSample.v), meanInt (b.map CalSample.m)))
  let m := fun i => (pts.getD i (0, 0)).2
  if bands.any List.isEmpty then none
  else if (m 0 < m 1 ∧ m 1 < m 2 ∧ m 2 < m 3) ∨ (m 1 < m 0 ∧ m 2 < m 1 ∧ m 3 < m 2) then some pts
  else none

/-- R⁻¹(m), rounded (R304). -/
def responseInv (pts : List (Int × Int)) (m : Int) : Int :=
  let p := fun i => pts.getD i (0, 0)
  let up := decide ((p 0).2 < (p 1).2)
  let past := fun i => if up then decide ((p i).2 ≤ m) else decide (m ≤ (p i).2)
  let i := if past 2 then 2 else if past 1 then 1 else 0
  let dm := (p (i + 1)).2 - (p i).2
  roundDiv ((p i).1 * dm + (m - (p i).2) * ((p (i + 1)).1 - (p i).1)) dm

/-- δ of a cell and band in a window (R304). -/
def cellError (l : List CalSample) (pts : List (Int × Int)) (cell band : Nat) : Int :=
  let xs := l.filter (fun x => x.subject == cell && x.group == band)
  responseInv pts (meanInt (xs.map CalSample.m)) - meanInt (xs.map CalSample.v)

/-- E of a cell and band from its two errors (R305). -/
def acceptError (deadband : Nat) (d1 d2 : Int) : Int :=
  let e := (d1 + d2 + 1) / 2
  if e.natAbs < deadband then 0 else e

/-- The correction C(i) of a knot from C_0 to C_3 (R306). -/
def knotCorr (c : List Int) (i : Nat) : Int :=
  let at_ := fun b => c.getD b 0
  if i = 0 then 0
  else if i ≤ 2 then at_ 0
  else if 14 ≤ i then at_ 3
  else
    let b := (i - 2) / 4
    roundAway (4 * at_ b + (at_ (b + 1) - at_ b) * ((i : Int) - 4 * b - 2)) 4

/-- The neutral value that LAYER_MAX is taken against (R306). -/
def knotBase (i : Nat) : Int := if i = 16 then 4095 else 256 * i

/-- A knot's target and whether the layer limit cut it (R306). -/
def knotTarget (layer : Nat) (i : Nat) (present : Nat) (corr : Int) : Nat × Bool :=
  let t := (present : Int) + corr
  let u := clampInt (knotBase i - layer) (knotBase i + layer) t
  ((clampInt 0 4095 u).toNat, u != t)

/-! REGISTRATION, STITCHING, TIMING. -/

/-- The median error of the samples that a test picks. -/
def medOf (l : List CalSample) (pick : CalSample → Bool) : Int := medianInt ((l.filter pick).map CalSample.v)

/-- E of REGISTRATION (R309). -/
def regError (l : List CalSample) (st ref : Nat) : Int :=
  medOf l (fun x => x.subject / 16 == st) - medOf l (fun x => x.subject / 16 == ref)

/-- The samples on the two sides of a seam (R310). -/
def seamLo (st o : Nat) (x : CalSample) : Bool := x.subject == 16 * st + o && decide (55 ≤ x.group ∧ x.group ≤ 62)
def seamHi (st o : Nat) (x : CalSample) : Bool := x.subject == 16 * st + o + 1 && decide (1 ≤ x.group ∧ x.group ≤ 8)

/-- σ_o of a seam (R310). -/
def seamShift (l : List CalSample) (st o : Nat) : Int := medOf l (seamHi st o) - medOf l (seamLo st o)

/-- The seams between ONLINE tiles of a station. -/
def seamsOf (s : State) (st : Nat) : List Nat :=
  (List.range 15).filter (fun o => (port s (16 * st + o)).st == .online && (port s (16 * st + o + 1)).st == .online)

/-- The connected runs of tiles of a station, as lists, given its seams. -/
def seamRuns (seams : List Nat) : List (List Nat) :=
  (List.range 16).foldl (fun (acc : List (List Nat)) t => match acc.getLast? with
    | some l => if decide (0 < t) && seams.contains (t - 1) then acc.dropLast ++ [l ++ [t]] else acc ++ [[t]]
    | none => [[t]]) []

/-- Twice g_t along a run, from the sums of the σ of two windows (R310). -/
def chainOf (sigma2 : Nat → Int) (tiles : List Nat) : List (Nat × Int) :=
  ((tiles.foldl (fun (a : List (Nat × Int) × Int) t => (a.1 ++ [(t, a.2)], a.2 - sigma2 t)) ([], 0)).1)

/-- Taps of every tile of a connected run (R310). -/
def chainTaps (stepMax : Nat) (run : List (Nat × Int)) : List (Nat × Int) :=
  let n := run.length
  let total := sumInt (run.map (fun p => p.2))
  run.map (fun p => (p.1, clampInt (-(stepMax : Int)) stepMax (roundAway (p.2 * n - total) (32 * Nat.max 1 n))))

/-- The rates of some samples stay within 1 % of their mean (R311). -/
def isPlateau (l : List CalSample) : Bool :=
  let mean := sumBy CalSample.rate l / Nat.max 1 l.length
  l.all (fun x => decide (natDist x.rate mean * 100 ≤ mean))

/-- Mean rate of a plateau. -/
def plateauRate (l : List CalSample) : Nat := sumBy CalSample.rate l / Nat.max 1 l.length

/-- Two plateaus lie far enough apart (R311). -/
def plateausApart (a b : List CalSample) : Bool :=
  decide (25 * Nat.max (plateauRate a) (plateauRate b) ≤ 100 * natDist (plateauRate a) (plateauRate b))

/-- Δ_t in 1/1,024 ns from two plateaus' samples of a tile (R311). -/
def timeError (a b : List CalSample) (g : Nat) : Int :=
  roundDiv ((medOf a (fun x => x.subject == g) - medOf b (fun x => x.subject == g)) * 1000000000)
    ((plateauRate a : Int) - plateauRate b)

end Sys2Proof.Machine
end

