-- ==== Sys2Proof/Machine/Calib.lean ====
section
/-! DEFINITION. Runs of live calibration: camera lines (R299), windows and their close (R314, R315), applications
(R306, R307, R309 to R313, R318), and the calibration commands (R319, R320). -/

namespace Sys2Proof.Machine

/-- Tiles ONLINE of a station, as a mask. -/
def onlineMask (s : State) (st : Nat) : Nat := maskOf ((List.range 16).filter (fun t => (port s (16 * st + t)).st == .online))

/-! Samples. -/

/-- The samples one span gives a run, for the tiles of one station's plane: each cell or patch from the first view that gives it one. Rows
are there for a contone plane only (R300, R301). -/
def spanTile (s : State) (c : CalCfg) (vs : List Nat) (kind : Nat) (p : Page) (st t a : Nat) : List CalSample :=
  let g := 16 * st + t
  if spanSup s p.key g a c.span then []
  else match spanRows s p.key g a c.span with
    | none => []
    | some rows =>
      let seen := vs.filterMap (fun v => (spanLines s v st p.key a c.span).map (fun ls => (v, ls)))
      if kind = 0 then
        (List.range (4096 / c.g)).filterMap (fun i => seen.findSome? (fun q =>
          cellSample s c (viewOf s q.1) p st t a rows q.2 ((List.range c.g).map (fun j => c.g * i + j))))
      else (List.range 64).filterMap (fun i => seen.findSome? (fun q => edgeSample s c (viewOf s q.1) p st t a rows q.2 i))

/-- No tone update can still move the lines of a span (Table 10.2). -/
def spanSettled (s : State) (p : Page) (st a : Nat) : Bool :=
  let last := (s.exp.tone.filter (fun v => v.1 / 65536 == st)).foldl (fun (m : Int) v => match v.2 with | w :: _ => max m w.fromLine | [] => m) (-(2 ^ 62))
  (tilesOf st).all (fun g => decide (last ≤ fMin s p g a))

/-- The samples a span gives a run. -/
def spanSamples (s : State) (r : CalRun) (p : Page) (a : Nat) : List CalSample :=
  if p.spoiled || (r.kind == 0 && !spanSettled s p r.subject a) then []
  else
    let c := calCfg s r.subject
    let of (st : Nat) : List CalSample := ((List.range 16).map (fun t => spanTile s c (runViews s r.kind r.subject) r.kind p st t a)).flatten
    let ref := runRef s r.subject
    if r.kind = 1 ∧ ref ≠ r.subject then of r.subject ++ of ref else of r.subject

/-! Preconditions. -/

/-- Cells of a tile that are not exempt: some column's override code is not 3 (R302). -/
def liveCells (s : State) (st t : Nat) : List Nat :=
  let g := (calCfg s st).g
  ((List.range (4096 / g)).map (fun i => 4096 * t + g * i)).filter (fun c =>
    (List.range g).any (fun j => overrideFor s st (c + j) (trk s st).k != 3))

/-- Edge samples of a tile among some. -/
def edgesOf (l : List CalSample) (g : Nat) : Nat := countBy (fun (x : CalSample) => x.subject == g) l

/-- The tiles of a run's attempt whose precondition a window meets, after the earlier plateau `p` of a TIMING measurement (Table 10.1); kinds 1
and 2 are met for all tiles or none. -/
def metTiles (s : State) (r : CalRun) (p l : List CalSample) : Nat :=
  let st := r.subject
  let c := calCfg s st
  match r.kind with
  | 0 =>
    if (response l).isNone then 0
    else maskOf ((bitList 16 r.cur).filter (fun t => (liveCells s st t).all (fun cell => (List.range 4).all (fun b =>
      decide (c.minSamples ≤ countBy (fun (x : CalSample) => x.subject == cell && x.group == b) l)))))
  | 1 =>
    let n := fun q => countBy (fun (x : CalSample) => x.subject / 16 == q) l
    if 32 ≤ n st ∧ 32 ≤ n (runRef s st) then r.cur else 0
  | 2 => if (seamsOf s st).all (fun o => decide (16 ≤ countBy (seamLo st o) l ∧ 16 ≤ countBy (seamHi st o) l)) then r.cur else 0
  | _ =>
    if !p.isEmpty && plateausApart p l then maskOf ((bitList 16 r.cur).filter (fun t => decide (16 ≤ edgesOf l (16 * st + t) ∧ 16 ≤ edgesOf p (16 * st + t))))
    else 0

/-! Applications. -/

/-- A run's application has begun on some tiles. -/
def applyBegin (kind subj tiles updates : Nat) (s : State) : State :=
  setCal kind subj (fun r => { r with applying := true, tiles := r.tiles + tiles, updates := r.updates + updates }) s

/-- The knot targets of a cell from its accepted errors (R306), and the first knot the layer limit cut. -/
def cellTargets (c : CalCfg) (present : List Nat) (errs : List Int) : List Nat × Option Nat :=
  let corr := errs.map (fun e => -e)
  let ts := (List.range 17).map (fun i => knotTarget c.layerMax i (present.getD i 0) (knotCorr corr i))
  (ts.map (fun p => p.1), findIdx (fun (p : Nat × Bool) => p.2) ts)

/-- UNIFORMITY of a tile is applied (R306, R307, R318): targets of every column of every cell that is not exempt. -/
def applyUniform (st t : Nat) (w1 w2 : List CalSample) (s : State) : State :=
  let c := calCfg s st
  match response w1, response w2 with
  | some p1, some p2 =>
    let live := stationLive s st
    let s := when live (tonePass st) s
    let r := forList (liveCells s st t) (s, 0) (fun cell (acc : State × Nat) =>
      let errs := (List.range 4).map (fun b => acceptError c.deadband (cellError w1 p1 cell b) (cellError w2 p2 cell b))
      let cuts := (List.range c.g).filterMap (fun j => (cellTargets c (knotsLast acc.1 st (cell + j)) errs).2)
      let cut := argMin id cuts
      let s := match cut with
        | some i => raise 0x0904 (16 * st + t) 0 (stationLine acc.1 st) (cell % 4096 / c.g) i 0 (tick 0x0907 (16 * st + t) acc.1)
        | none => acc.1
      forRange c.g (s, acc.2) (fun j (acc : State × Nat) =>
        let col := cell + j
        let have_ := knotsLast acc.1 st col
        let want := (cellTargets c have_ errs).1
        if want = have_ then acc
        else if live then
          ({ acc.1 with exp := { acc.1.exp with toneReqs := acc.1.exp.toneReqs ++ [{ station := st, col := col, knots := want, run := some (0, st) }] } }, acc.2 + 1)
        else (toneAtOnce st col want acc.1, acc.2 + 1)))
    applyBegin 0 st (if r.2 = 0 then 0 else 1) (if live then 0 else r.2) r.1
  | _, _ => s

/-- REG_CAL of a tile changes by some taps (R313, R318). -/
def applyTaps (g : Nat) (taps : Int) (s : State) : State :=
  let s := recDirty 1 g (setDly g (fun d => { d with regCal := d.regCal + taps, calDebt := d.calDebt + taps, calWait := false }) s)
  if !stationLive s (stOf g) && splitFits s g then resplit g s else s

/-- Corrections of several tiles are applied for a run of kind 1, 2 or 3. -/
def applyAll (kind st : Nat) (taps : List (Nat × Int)) (s : State) : State :=
  let moved := taps.filter (fun p => p.2 != 0)
  applyBegin kind st moved.length (sumBy (fun (p : Nat × Int) => p.2.natAbs) moved) (forList moved s (fun p s => applyTaps (16 * st + p.1) p.2 s))

/-- LAT_TRIM of a tile grows by Δ in 1/1,024 ns, limited in total, and REG_CAL with it (R312). -/
def timingTaps (st t : Nat) (delta : Int) (s : State) : State × Int :=
  let g := 16 * st + t
  let units := roundAway delta 256
  let f := (lineRate (trk s st)).getD (presentRate s)
  let s := setDly g (fun d =>
    let new := clampInt (-20000) 20000 (d.latTrim + units)
    let to_ := ((d.latTarget : Int) + (new - d.latTrim) * 250).toNat
    let lat := if stationLive s st then d.lat else to_
    { d with latTarget := to_, latTrim := new, lat := lat, trimMoving := lat != to_ }) s
  (s, roundAway (64 * f * delta) (1024 * 1000000000))

/-! Windows. -/

/-- Two measurements of a run on a tile agree (R305, R309 to R311). -/
def agrees (s : State) (r : CalRun) (w1 w2 : List CalSample) (p1 p2 : List CalSample) (t : Nat) : Bool :=
  let st := r.subject
  let c := calCfg s st
  match r.kind with
  | 0 => match response w1, response w2 with
    | some q1, some q2 => (liveCells s st t).all (fun cell => (List.range 4).all (fun b =>
        decide ((cellError w1 q1 cell b - cellError w2 q2 cell b).natAbs ≤ c.tol)))
    | _, _ => false
  | 1 =>
    let ref := runRef s st
    st == ref || decide ((regError w1 st ref - regError w2 st ref).natAbs ≤ c.regTol)
  | 2 => (seamsOf s st).all (fun o => decide ((seamShift w1 st o - seamShift w2 st o).natAbs ≤ c.regTol))
  | _ => decide ((timeError p1 w1 (16 * st + t) - timeError p2 w2 (16 * st + t)).natAbs ≤ c.timeTol * 1024)

/-- The corrections of the tiles that passed are applied. -/
def calApply (r : CalRun) (w1 w2 p1 p2 : List CalSample) (tiles : List Nat) (s : State) : State :=
  let st := r.subject
  let c := calCfg s st
  match r.kind with
  | 0 => forList tiles s (fun t s => applyUniform st t w1 w2 s)
  | 1 =>
    let ref := runRef s st
    let taps := if ref = st then 0
      else clampInt (-(c.stepMax : Int)) c.stepMax (roundAway (-(regError w1 st ref + regError w2 st ref)) 32)
    applyAll 1 st ((List.range 16).map (fun t => (t, taps))) s
  | 2 =>
    let seams := seamsOf s st
    applyAll 2 st (((seamRuns seams).map (fun l => chainTaps c.stepMax (chainOf (fun o => seamShift w1 st o + seamShift w2 st o) l))).flatten) s
  | _ =>
    let r := forList tiles (s, []) (fun t (a : State × List (Nat × Int)) =>
      let g := 16 * st + t
      let q := timingTaps st t (roundAway (timeError p1 w1 g + timeError p2 w2 g) 2) a.1
      (q.1, a.2 ++ [(t, q.2)]))
    applyAll 3 st r.2 r.1

/-- Tiles that passed leave the run; uniformity and registration are noted for R248, and uniformity unmarks the tile's columns (R159). -/
def calPassed (kind st mask : Nat) (s : State) : State :=
  let s := { s with exp := { s.exp with marked := s.exp.marked.filter (fun c =>
    kind != 0 || c / 65536 != st || !bitOf mask (c % 65536 / 4096)) } }
  let s := setCal kind st (fun r => { r with left := maskDiff r.left (mask &&& r.left), cur := maskDiff r.cur (mask &&& r.cur), got := r.got ||| mask }) s
  forList (bitList 16 mask) s (fun t s => setTile (16 * st + t) (fun q =>
    { q with uniOk := q.uniOk || kind == 0, regOk := q.regOk || kind == 1 }) s)

/-- The steps of a run's application are all applied, or wait for the next split (R313, R317). -/
def applyOver (s : State) (kind st : Nat) : Bool :=
  if kind = 0 then s.exp.toneReqs.all (fun r => r.run != some (0, st))
  else (tilesOf st).all (fun g => let d := dly s g; (d.calDebt == 0 || d.calWait) && (kind != 3 || !d.trimMoving))

/-- The end of an application (R317): EV_CAL_APPLIED, records, the next run of a continuous run. -/
def applyEnd (kind st : Nat) (s : State) : State :=
  let r := calOf s kind st
  let s := setCal kind st (fun r => { r with
    applying := false, tiles := 0, updates := 0
    nextAt := if r.continuous && !r.stopped && r.phase == .waiting then some (s.now + r.interval * 1000000000000) else none }) s
  let s := raise 0x0903 st 0 (calLine s kind st) kind r.tiles r.updates s
  if kind = 4 then s
  else forList (bitList 16 (r.got ||| r.passed)) s (fun t s => recDirty 2 (16 * st + t) (recDirty 1 (16 * st + t) s))

/-- A window `w` of a run is complete, `p` the earlier plateau of a TIMING measurement: the first of an attempt, or the next, which is then
compared with the one before it (R314 step 3) for the tiles for which both are complete. TIMING agrees when every tile does (R311). Where
tiles disagree, the window is the first of the next attempt. -/
def calCompare (r : CalRun) (w p : List CalSample) (s : State) : State :=
  let again (s : State) : State := setCal r.kind r.subject (fun r => { r with first := some (p, w), samples := [], plateau := none, openedAt := none }) s
  match r.first with
  | none => again s
  | some (p1, w1) =>
    let both := metTiles s r p1 w1 &&& metTiles s r p w
    let good := (bitList 16 both).filter (agrees s r w1 w p1 p)
    let good := if r.kind = 3 ∧ maskOf good ≠ both then [] else good
    let bad := maskDiff both (maskOf good)
    let s := calPassed r.kind r.subject (maskOf good) s
    let s := if good.isEmpty then s else calApply r w1 w p1 p good s
    let s := again (calFail r.kind r.subject bad 2 s)
    let s := if (calOf s r.kind r.subject).cur = 0 then calNext r.kind r.subject (bad != 0) s else s
    if (calOf s r.kind r.subject).applying && !stationLive s r.subject && applyOver s r.kind r.subject then applyEnd r.kind r.subject s else s

/-- The samples of a span join a run's window, which closes when they complete its precondition (R314 step 1). -/
def calTake (kind st : Nat) (l : List CalSample) (s : State) : State :=
  let r := calOf s kind st
  let s := setCal kind st (fun r => { r with samples := r.samples ++ l }) s
  let r := { r with samples := r.samples ++ l }
  if kind = 3 ∧ !isPlateau r.samples then setCal 3 st (fun r => { r with samples := l }) s
  else
    let met := metTiles s r (r.plateau.getD []) r.samples
    if r.cur ≠ 0 ∧ met = r.cur then calCompare r r.samples (r.plateau.getD []) s
    else if kind = 3 ∧ r.plateau.isNone ∧ (bitList 16 r.cur).all (fun t => decide (16 ≤ edgesOf r.samples (16 * st + t))) then
      setCal 3 st (fun r => { r with plateau := some r.samples, samples := [] }) s
    else s

/-- A page's banks, which one window may not mix (Table 10.2). -/
def pageBanks (p : Page) : Nat × Nat := (p.geomBank, p.screenBank)

/-- The window of a run is discarded (R315). -/
def calDiscard (kind st : Nat) (s : State) : State :=
  tick 0x0903 0 (setCal kind st (fun r => { r with samples := [], plateau := none, openedAt := none, banks := none }) s)

/-- Every view has passed a span: every run that collects at its station takes its samples, and the span goes. -/
def spanDone (x : Span) (p : Page) (s : State) : State :=
  let st := x.station
  let a := x.first
  let s := forRange 4 s (fun kind s =>
    let r := calOf s kind st
    if r.phase = .collecting ∧ r.openedAt.isSome then
      if r.banks.isSome ∧ r.banks ≠ some (pageBanks p) then calDiscard kind st s
      else calTake kind st (spanSamples s r p a) (setCal kind st (fun r => { r with banks := some (pageBanks p) }) s)
    else s)
  let n := (calCfg s st).span
  let spans := s.cal.spans.filter (fun y => !(y.station == st && y.page == p.key && y.first == a))
  let used := fun (page m : Nat) => spans.any (fun y => y.page == page && decide (y.first ≤ m ∧ m < y.first + (calCfg s y.station).span))
  let mine := fun (page m : Nat) => page == p.key && decide (a ≤ m ∧ m < a + n) && !used page m
  { s with cal := { s.cal with
    spans := spans
    rows := s.cal.rows.filter (fun r => !mine r.page r.n)
    lines := s.cal.lines.filter (fun l => !mine l.page l.n)
    supLines := s.cal.supLines.filter (fun q => !mine q.1 q.2.2) } }

/-- A view's camera has passed a span; with the last of the station's views it is done. -/
def spanPass (v : Nat) (x : Span) (s : State) : State :=
  let x := { x with seen := v :: x.seen }
  let s := { s with cal := { s.cal with
    spans := s.cal.spans.map (fun y => if y.station = x.station ∧ y.page = x.page ∧ y.first = x.first then x else y) } }
  if !(spanViews s x.station).all x.seen.contains then s
  else match pageOf s x.page with
    | some p => spanDone x p s
    | none => { s with cal := { s.cal with spans := s.cal.spans.filter (fun y => y != x) } }

/-- A camera line of page `p`, page line `n`, of a view means that its camera has passed a span. -/
def spanPassed (s : State) (v : Nat) (p : Page) (n : Nat) (x : Span) : Bool :=
  let ref := (viewOf s v).ref
  !x.seen.contains v && observes (viewOf s v) x.station &&
    if x.page = p.key then decide (x.first + (calCfg s x.station).span ≤ n + 1)
    else match pageOf s x.page with
      | none => true
      | some q => !q.uses ref || (q.started && decide (q.firstLine ref < p.firstLine ref))

/-- The page of a camera line: the owner of its boundary at the reference station (R298). -/
def linePage (s : State) (st : Nat) (k : Int) : Option Page :=
  (startedAt s st).find? (fun p => decide (p.firstLine st ≤ k ∧ k ≤ p.lastLine st))

/-- One camera line of a calibration view: kept for the spans of its page line, and the spans it ends are evaluated (R298, R299). -/
def calLineIn (v : Nat) (grids : List (Nat × Grid)) (width : Nat) (y : Nat) (k : Int) (s : State) : State :=
  let view := viewOf s v
  match linePage s view.ref k with
  | none => s
  | some p => match linePos s view (p.firstLine view.ref) k with
    | none => s
    | some pos =>
      let n := floorDiv (pos + 512) 1024
      if n < 0 ∨ (p.lines : Int) ≤ n then s
      else
        let n := n.toNat
        let wanted := s.cal.spans.any (fun x => x.page == p.key && observes view x.station
          && decide (x.first ≤ n ∧ n < x.first + (calCfg s x.station).span))
        let s := if wanted then
            { s with cal := { s.cal with lines := s.cal.lines ++ grids.map (fun q =>
              { view := v, station := q.1, page := p.key, n := n, pos := pos, rate := (lineRate (trk s q.1)).getD 0, values := (List.range width).map (fun x => gridAt q.2 x y) }) } }
          else s
        forList (s.cal.spans.filter (spanPassed s v p n)) s (spanPass v)

/-- A frame of a port that a usable view watches (R297, R299). -/
def calFrame (v : Nat) (f : CamFrame) (grid : Grid) (s : State) : State :=
  let view := viewOf s v
  if !viewUsable s v || f.statCut || f.short || f.long || f.nShort != 0 || f.nLong != 0 || (camPort s v).shadow.gen != f.cfg.gen || s.cal.spans.isEmpty then s
  else
    let w := f.cfg.timing.hWidth
    let grids := (viewStations view).map (fun st => (st, chanGrid f.cfg.mosaic grid w f.expect (view.chan.getD st 0)))
    let k0 := extendLine (trk s view.ref).k f.line
    forRange f.expect s (fun y s => calLineIn v grids w y (k0 + y) s)

/-! Conditions at boundaries. -/

/-- The conditions of Table 10.2 for a run hold; an open window's views have not changed. -/
def calConditions (s : State) (kind st : Nat) : Bool :=
  let r := calOf s kind st
  (if kind = 0 then s.exp.toneReqs.all (fun r => r.station != st) && !neutralAt s st
   else (tilesOf st).all (fun g => let d := dly s g; (d.calDebt == 0 || d.calWait) && (d.hostDebt == 0 || d.hostWait) && !d.trimMoving))
  && !(runViews s kind st).isEmpty && (r.openedAt.isNone || r.views == runViews s kind st)

/-- One run at a boundary of its station, or where its station stands still. -/
def calStep (kind st : Nat) (s : State) : State :=
  let r := calOf s kind st
  let s := if r.applying && applyOver s kind st then applyEnd kind st s else s
  if r.phase ≠ .collecting then s
  else if !anyView s kind st then
    let s := calFail kind st r.cur 4 s
    if (calOf s kind st).cur = 0 then calNext kind st false s else s
  else
    let ok := calConditions s kind st
    if r.openedAt.isSome then (if ok then s else calDiscard kind st s)
    else if ok && !r.waits then setCal kind st (fun r => { r with openedAt := some s.now, views := runViews s kind st }) s
    else s

/-- Calibration at a boundary of a station (R314, R315, R318). -/
def calBoundary (st : Nat) (s : State) : State := forRange 4 s (fun kind s => calStep kind st s)

/-! Commands and timers. -/

/-- A run begins (R314). -/
def calBegin (kind subj : Nat) (s : State) : State :=
  let mask := if kind = 4 then 1 else onlineMask s subj
  let s := tick 0x0900 (calInst kind subj) (setCal kind subj (fun r => { r with
    phase := .collecting, attempts := 1, cause := 0, left := mask, cur := mask, got := 0, samples := [], first := none, plateau := none
    openedAt := if kind = 4 then some s.now else none, waits := false, banks := none, nextAt := none }) s)
  if kind = 4 then axisWindow subj false s
  else if mask = 0 then calEnd kind subj s
  else calStep kind subj s

/-- CAL_VIEW (R296, R320). -/
def execCalView (s : State) : Host.Outcome State Fault Refusal :=
  .next (serve 0x0901 .immediate [0x713, 0x3FFFF, allBits, allBits, allBits, 0xFFFF] (fun ws s =>
    let v := bits (par ws 2) 0 2
    let en := bitOf (par ws 2) 4
    let ref := bits (par ws 2) 8 3
    let ch := (List.range 6).map (fun st => bits (par ws 3) (3 * st) 3)
    let dxp := par ws 5
    let busy := s.cal.runs.any (fun r => decide (r.kind ≤ 3) && r.phase == .collecting
      && (observes (viewOf s v) r.subject && (viewOf s v).en || ch.getD r.subject 0 != 0))
    let put := fun (w : CalView) => { s with cal := { s.cal with views := s.cal.views.set v w } }
    let w : CalView := { en := en, ref := ref, chan := ch, dx0 := sint (par ws 4) 32, dxp := dxp, camLag := par ws 6, camLat := bits (par ws 7) 0 16 }
    if !en then { st := put { (viewOf s v) with en := false } }
    else if 5 < ref ∨ ch.contains 7 ∨ dxp < 16384 ∨ 1048576 < dxp ∨ 2 ^ 31 ≤ par ws 6 then Ans.refuse s stBadParam
    else if !viewPortOk s v ref || busy then Ans.refuse s stState
    else { st := put w }) s)

/-- Values in force of CAL.CONFIG, in the layout of words 3 to 8. -/
def calCfgWords (c : CalCfg) : List Nat :=
  [fld (Nat.log2 c.g + 1) 0 3 + fld c.minSamples 8 8 + fld c.tol 16 16, fld c.deadband 0 8 + fld c.layerMax 16 16,
   fld c.regTol 0 16 + fld c.stepMax 16 8 + fld c.retries 24 4, fld c.timeTol 0 16 + fld c.wmax 16 16,
   fld c.span 0 5 + fld c.spacing 12 16, fld c.iso 0 12 + fld c.edge 16 12]

/-- CAL_CONFIG (R319, R320). -/
def execCalConfig (s : State) : Host.Outcome State Fault Refusal :=
  .next (serve 0x0902 .immediate [0x7, 0xFFFFFF07, 0xFFFF00FF, 0x0FFFFFFF, allBits, 0x0FFFF01F, 0x0FFF0FFF] (fun ws s =>
    let st := bits (par ws 2) 0 3
    let f := fun w lo len => bits (par ws w) lo len
    let ok := decide (st ≤ 5) && decide (f 3 0 3 ≤ 5) && zeroOrIn 64 255 (f 3 8 8) && zeroOrIn 4 255 (f 3 16 16) && zeroOrIn 1 64 (f 4 0 8)
      && zeroOrIn 64 2048 (f 4 16 16) && zeroOrIn 16 1024 (f 5 0 16) && zeroOrIn 1 64 (f 5 16 8) && zeroOrIn 10 1000 (f 6 0 16)
      && zeroOrIn 1 3600 (f 6 16 16) && zeroOrIn 4 16 (f 7 0 5) && zeroOrIn 16 4096 (f 7 12 16) && zeroOrIn 1 1023 (f 8 0 12)
      && zeroOrIn 256 4095 (f 8 16 12)
    if !ok then Ans.refuse s stBadParam
    else if s.cal.runs.any (fun r => decide (r.kind ≤ 3) && r.subject == st && r.phase == .collecting) then Ans.refuse s stBusy
    else
      let c := calCfg s st
      let c : CalCfg := {
        g := if f 3 0 3 = 0 then c.g else 2 ^ (f 3 0 3 - 1)
        minSamples := orKeep (f 3 8 8) c.minSamples
        tol := orKeep (f 3 16 16) c.tol
        deadband := orKeep (f 4 0 8) c.deadband
        layerMax := orKeep (f 4 16 16) c.layerMax
        regTol := orKeep (f 5 0 16) c.regTol
        stepMax := orKeep (f 5 16 8) c.stepMax
        retries := orKeep (f 5 24 4) c.retries
        timeTol := orKeep (f 6 0 16) c.timeTol
        wmax := orKeep (f 6 16 16) c.wmax
        span := orKeep (f 7 0 5) c.span
        spacing := orKeep (f 7 12 16) c.spacing
        iso := orKeep (f 8 0 12) c.iso
        edge := orKeep (f 8 16 12) c.edge }
      { st := { s with cal := { s.cal with cfgs := s.cal.cfgs.set st c } }, results := calCfgWords c }) s)

/-- CAL_START (R314, R320). -/
def execCalStart (s : State) : Host.Outcome State Fault Refusal :=
  .next (serve 0x0903 .immediate [0x10707, 0xFFFF] (fun ws s =>
    let subj := bits (par ws 2) 0 3
    let kind := bits (par ws 2) 8 3
    let cont := bitOf (par ws 2) 16
    let interval := bits (par ws 3) 0 16
    if 4 < kind ∨ (kind ≠ 4 ∧ 5 < subj) ∨ (cont && interval == 0) then Ans.refuse s stBadParam
    else if (calOf s kind subj).phase ≠ .idle ∨ (calOf s kind subj).applying ∨ (kind = 0 ∧ neutralAt s subj) then Ans.refuse s stBusy
    else if kind ≠ 4 ∧ !anyView s kind subj then Ans.refuse s 0x0902
    else { st := calBegin kind subj (setCal kind subj (fun r => { r with continuous := cont, interval := interval, stopped := false }) s) }) s)

/-- CAL_STOP (R316, R320): the collection ends without a result; an application under way completes. -/
def execCalStop (s : State) : Host.Outcome State Fault Refusal :=
  .next (serve 0x0904 .immediate [0x707] (fun ws s =>
    let subj := bits (par ws 2) 0 3
    let kind := bits (par ws 2) 8 3
    if 4 < kind ∨ (kind ≠ 4 ∧ 5 < subj) then Ans.refuse s stBadParam
    else if (calOf s kind subj).phase = .idle ∧ !(calOf s kind subj).applying then Ans.refuse s stState
    else { st := calQuit kind subj s }) s)

/-- CAL_RESULT (Table 10.9). -/
def execCalResult (s : State) : Host.Outcome State Fault Refusal :=
  .next (serve 0x0905 .immediate [0x707] (fun ws s =>
    let subj := bits (par ws 2) 0 3
    let kind := bits (par ws 2) 8 3
    if 4 < kind ∨ (kind ≠ 4 ∧ 5 < subj) then Ans.refuse s stBadParam
    else
      let r := calOf s kind subj
      let phase := if r.applying then CalPhase.applying
        else if r.phase == .collecting && r.waits then CalPhase.waiting else r.phase
      let uncal := if kind = 4 then 0 else maskOf ((List.range 16).filter (fun t => (tileOf s (16 * subj + t)).uncal))
      { st := s, results := [fld phase.code 0 2 + fld r.last 2 2 + fld r.attempts 4 4 + fld r.cause 8 8, r.passed + 65536 * r.failed]
          ++ two r.resultAt ++ [uncal] }) s)

/-- CAL_WINDOW_TIMEOUT (R314): WMAX after a window opened, the tiles whose precondition is not met fail the attempt with cause PRECOND;
the window is complete for the others. -/
def execCalWindowTimeout (kind subject : Nat) (s : State) : Host.Outcome State Fault Refusal :=
  .next (let r := calOf s kind subject
    match r.openedAt with
    | none => s
    | some t =>
      if r.phase ≠ .collecting then s
      else
        let s := atTime (t + calWmax s kind subject) s
        let met := if kind = 4 then 0 else metTiles s r (r.plateau.getD []) r.samples
        let s := calFail kind subject (maskDiff r.cur (met &&& r.cur)) 1 s
        let q := calOf s kind subject
        if q.cur = 0 then calNext kind subject false s else calCompare q r.samples (r.plateau.getD []) s)

/-- CAL_INTERVAL (R314): the next run of a continuous run. -/
def execCalInterval (kind subject : Nat) (s : State) : Host.Outcome State Fault Refusal :=
  .next (let r := calOf s kind subject
    match r.nextAt with
    | none => s
    | some t => if r.continuous && !r.stopped then calBegin kind subject (atTime t s) else s)

end Sys2Proof.Machine
end

