-- ==== Sys2Proof/Machine/Camera.lean ====
section
/-! DEFINITION. Camera ports, pipelines, triggers and commands (R272 to R278, R282 to R292). -/

namespace Sys2Proof.Machine

def setPortCam (p : Nat) (f : CamPort → CamPort) (s : State) : State :=
  { s with cam := { s.cam with ports := updAt s.cam.ports p f } }

def setTrig (t : Nat) (f : CamTrig → CamTrig) (s : State) : State :=
  { s with cam := { s.cam with trigs := updAt s.cam.trigs t f } }

def setPipe (n : Nat) (f : CamPipe → CamPipe) (s : State) : State :=
  { s with cam := { s.cam with pipes := updAt s.cam.pipes n f } }

/-- Changes a frame of a port by its number. -/
def setFrame (p no : Nat) (f : CamFrame → CamFrame) (s : State) : State :=
  setPortCam p (fun q => { q with frames := q.frames.map (fun x => if x.no = no then f x else x) }) s

/-- The frame a port is receiving: the latest, while it is open. -/
def openFrame (p : CamPort) : Option CamFrame := if p.open_ then p.frames.getLast? else none

/-! Writing a frame out. -/

/-- A stream or statistics unit's frame is skipped, and counted (R283, R284). -/
def camSkip (p : Nat) (s : State) : State := tick 0x0806 p s

/-- Writes a buffer: its body first, its record last (R283); a unit whose write cannot be sent skips the frame (R284, R511). -/
def camWrite (p base : Nat) (bodyOff : Nat) (body record : List Byte) (s : State) : State × Bool :=
  let r := hostWrite (base + bodyOff) body s
  if r.2 then ((hostWrite base record r.1).1, true) else (camSkip p r.1, false)

/-- EV_CAM_FRAME for a unit (R292): one frame in N. -/
def camFrameEvent (p unit since evN flags seq : Nat) (f : CamFrame) (s : State) : State × Nat :=
  if evN = 0 then (s, since)
  else if since + 1 < evN then (s, since + 1)
  else (raise 0x0801 (p + 256 * unit) 0 f.line f.no flags seq s, 0)

/-- A stream skips every frame begun, and counts each (R284): their production indices are given out again. -/
def streamSkip (p i : Nat) (s : State) : State :=
  let mine := (camPort s p).frames.filterMap (fun f => f.bufs.getD i none)
  match mine with
  | [] => s
  | seq :: _ =>
    bump 0x0806 p mine.length (setPortCam p (fun q => { q with
      nextBuf := q.nextBuf.set i seq, frames := q.frames.map (fun f => { f with bufs := f.bufs.set i none }) }) s)

/-- A frame's buffers are written: images, statistics, records (R281 to R286). A statistics block that the throttle left incomplete has every
section 0; one that cannot be sent at all is skipped like a stream's frame (DEDUCED, log entry 90). -/
def camOutput (p : Nat) (f : CamFrame) (grid : Grid) (s : State) : State :=
  let w := f.cfg.timing.hWidth
  let flags := 1 + shapeFlags f
  let s := forRange 4 s (fun i s => match f.bufs.getD i none with
    | none => s
    | some seq =>
      let c := f.cfg.streams.getD i {}
      let r := camWrite p (c.base + seq % Nat.max 1 c.nbuf * c.bufSize) 64 (streamImage f.cfg.mosaic c grid w f.expect)
        (frameRecord p i seq flags f) s
      if r.2 then
        let e := camFrameEvent p i ((camPort r.1 p).sinceEv.getD i 0) c.evN flags seq f r.1
        setPortCam p (fun q => { q with sinceEv := q.sinceEv.set i e.2 }) e.1
      else setPortCam p (fun q => { q with nextBuf := q.nextBuf.set i seq }) (streamSkip p i r.1))
  match f.statBuf with
  | none => s
  | some seq =>
    let c := f.cfg.stats
    let size := statsSize c w f.expect
    let flags := if f.statCut then flags + 64 else flags
    let record := frameRecord p 0xFF seq flags f
    let body := if f.statCut then List.replicate (size - 32) 0
      else (statsBlock c record (chanGrid f.cfg.mosaic grid w f.expect c.chan) w f.expect).drop 32
    let r := camWrite p (c.base + seq % Nat.max 1 c.nbuf * size) 32 body record s
    if r.2 then
      let e := camFrameEvent p 0xFF (camPort r.1 p).statSince c.evN flags seq f r.1
      setPortCam p (fun q => { q with statSince := e.2 }) e.1
    else setPortCam p (fun q => if q.statNext = (seq + 1) % 2 ^ 32 then { q with statNext := seq } else q) r.1

/-- An episode with one more frame: a new one begins, one goes on, or 16 frames without the condition end it (R292). -/
def episode (hit : Bool) (e : CamEpisode) : CamEpisode :=
  if hit then { on := true, calm := 0 }
  else if e.on && decide (e.calm + 1 < 16) then { e with calm := e.calm + 1 }
  else { on := false, calm := 0 }

/-- EV_CAM_SHAPE once per episode. -/
def shapeNote (p : Nat) (hit : Bool) (flags nShort nLong pad line : Nat) (s : State) : State :=
  let was := (camPort s p).shape.on
  let s := setPortCam p (fun q => { q with shape := episode hit q.shape }) s
  if hit && !was then raise 0x0803 p 0 line flags (Nat.min 65535 nShort + 65536 * Nat.min 65535 nLong) pad s else s

/-- EV_CAM_DROP once per episode. -/
def dropNote (p : Nat) (cause no lines line : Nat) (s : State) : State :=
  let was := (camPort s p).drop.on
  let s := setPortCam p (fun q => { q with drop := episode true q.drop }) s
  if was then s else raise 0x0802 p 0 line cause no lines s

/-- The pipeline has finished every line of a frame that has ended: the frame is padded, counted and written. -/
def camFinish (p : Nat) (f : CamFrame) (s : State) : State :=
  let s := setPortCam p (fun q => { q with
    frames := q.frames.filter (fun x => x.no != f.no), drop := episode false q.drop
    done := if q.open_ && decide ((q.frames.getLast?).map CamFrame.no = some f.no) then some { f with rows := [] } else q.done }) s
  let blank := List.replicate f.cfg.timing.hWidth ((0, false) : Pix)
  let grid : Grid := ((f.rows ++ List.replicate f.pad blank).map List.toArray).toArray
  let s := if f.short then tick 0x0804 p s else s
  let s := if f.long then tick 0x0805 p s else s
  let s := shapeNote p (shapeFlags f != 0) (1 + shapeFlags f) f.nShort f.nLong f.pad f.line s
  calFrame p f grid (camOutput p f grid s)

/-- Finishes the frames of a port whose lines are all through, oldest first. -/
def camFlush (p : Nat) (s : State) : State :=
  iterate (fun s => match (camPort s p).frames with
    | [] => none
    | f :: _ => if f.received + f.pad = f.expect ∧ f.rows.length = f.received then some (camFinish p f s) else none) 8 s

/-! Frames. -/

/-- The consumer rule of R283: whether production index `i` is free. -/
def bufFree (s : State) (consumer nbuf i : Nat) : Bool :=
  match hostRead s consumer 4 with
  | none => false
  | some b => decide ((i + 2 ^ 32 - leNat b % 2 ^ 32) % 2 ^ 32 < nbuf)

/-- Allots the buffers of a frame (R283): a stream or unit whose next index is not free skips the frame. -/
def camAllot (p : Nat) (c : CamCfg) (s : State) : State × List (Option Nat) × Option Nat :=
  let q := camPort s p
  let r := forRange 4 (s, []) (fun i (a : State × List (Option Nat)) =>
    let st := c.streams.getD i {}
    let n := (camPort a.1 p).nextBuf.getD i 0
    if !st.en then (a.1, a.2 ++ [none])
    else if bufFree a.1 st.consumer st.nbuf n then
      (setPortCam p (fun q => { q with nextBuf := q.nextBuf.set i ((n + 1) % 2 ^ 32) }) a.1, a.2 ++ [some n])
    else (camSkip p a.1, a.2 ++ [none]))
  if !c.stats.en then (r.1, r.2, none)
  else if bufFree r.1 c.stats.consumer c.stats.nbuf q.statNext then
    (setPortCam p (fun q => { q with statNext := (q.statNext + 1) % 2 ^ 32 }) r.1, r.2, some q.statNext)
  else (camSkip p r.1, r.2, none)

/-- The open frame of a port ends short of its lines (Table 9.1). -/
def camShort (p : Nat) (s : State) : State :=
  match openFrame (camPort s p) with
  | none => s
  | some f =>
    let s := setPortCam p (fun q => { q with open_ := false }) s
    if f.received < f.expect then camFlush p (setFrame p f.no (fun f => { f with short := true, pad := f.expect - f.received, skip := 0 }) s) else s

/-- A frame begins at a port (R273, R275): the shadow set takes effect, buffers are allotted. -/
def camStart (p t : Nat) (s : State) : State :=
  let s := camShort p s
  let q := camPort s p
  let c := q.shadow
  let r := camAllot p c s
  let f : CamFrame := {
    no := q.frameNo, time := t / 1000, line := (camTrig s c.timing.trig).lastLine, cfg := c, bufs := r.2.1, statBuf := r.2.2
    skip := if c.timing.linescan then 0 else c.timing.vStart, expect := c.timing.vHeight }
  setPortCam p (fun q => { q with
    cfg := c, frameNo := (q.frameNo + 1) % 2 ^ 32, frames := q.frames ++ [f], open_ := true, armed := false, lost := 0, done := none }) (tick 0x0800 p r.1)

/-- A frame is dropped (R277, R278): its lines leave the FIFO, its buffers are completed with DROPPED, its statistics discarded. The
lines that a counted line-scan frame still had to come are discarded. -/
def camDrop (p : Nat) (f : CamFrame) (cause : Nat) (s : State) : State :=
  let s := setPortCam p (fun q => { q with
    frames := q.frames.filter (fun x => x.no != f.no), fifo := q.fifo.filter (fun l => l.frame != f.no)
    open_ := q.open_ && decide (((q.frames.getLast?).map CamFrame.no) ≠ some f.no)
    statNext := (match f.statBuf with
      | some k => if (q.statNext + 2 ^ 32 - k) % 2 ^ 32 < 2 ^ 31 then k else q.statNext
      | none => q.statNext)
    lost := if f.cfg.timing.linescan && !f.cfg.timing.triggered then f.expect - f.received - 1 else 0 }) s
  let s := forRange 4 s (fun i s => match f.bufs.getD i none with
    | none => s
    | some seq =>
      let c := f.cfg.streams.getD i {}
      let flags := 2 + shapeFlags f
      let r := camWrite p (c.base + seq % Nat.max 1 c.nbuf * c.bufSize) 0 [] (frameRecord p i seq flags f) s
      if r.2 then
        let e := camFrameEvent p i ((camPort r.1 p).sinceEv.getD i 0) c.evN flags seq f r.1
        setPortCam p (fun q => { q with sinceEv := q.sinceEv.set i e.2 }) e.1
      else r.1)
  dropNote p cause f.no f.received f.line (tick 0x0801 p s)

/-! Lines. -/

/-- The timing set of the frame whose line is next in a port's FIFO: its own pipeline and priority (R276, R287). -/
def headTiming (q : CamPort) : Option CamTiming :=
  (q.fifo.head?.bind (fun l => q.frames.find? (fun f => f.no == l.frame))).map (fun f => f.cfg.timing)

/-- The port a free pipeline serves next: the highest priority with a ready line, among equals the least recently served (R276). -/
def pipePick (s : State) (n : Nat) : Option Nat :=
  let ready := (List.range 4).filter (fun p => (headTiming (camPort s p)).any (fun t => t.pipeline == n))
  let served := (s.cam.pipes.getD n {}).served
  let prio := fun p => ((headTiming (camPort s p)).map CamTiming.prio).getD 0
  argMin (fun p => (3 - prio p) * 8 + (4 - (findIdx (· == p) served).getD 4)) ready

/-- A free pipeline takes the next ready line (R276). -/
def pipeTake (n : Nat) (s : State) : State :=
  if (s.cam.pipes.getD n {}).cur.isSome then s
  else match pipePick s n with
    | none => s
    | some p => match (camPort s p).fifo with
      | [] => s
      | l :: t =>
        let s := setPortCam p (fun q => { q with fifo := t }) s
        setPipe n (fun q => { q with cur := some (p, l), served := p :: q.served.filter (· != p) }) s

/-- Each free pipeline takes its next ready line. -/
def pipesTake (s : State) : State := pipeTake 1 (pipeTake 0 s)

/-- A line of an open frame is complete (R273, R274, R276): discarded before V_START, else repaired and ready in the FIFO. -/
def camLineIn (p : Nat) (f : CamFrame) (pixels : List Nat) (s : State) : State :=
  let c := f.cfg.timing
  if 0 < f.skip then setFrame p f.no (fun f => { f with skip := f.skip - 1 }) s
  else
    let w := c.hWidth
    let line := camFit w (pixels.map (fun v => (camNorm c.dbits v, true)))
    let s := if pixels.length < w then tick 0x0802 p s else if w < pixels.length then tick 0x0803 p s else s
    let s := setFrame p f.no (fun f => { f with
      received := f.received + 1, nShort := f.nShort + b2n (decide (pixels.length < w)), nLong := f.nLong + b2n (decide (w < pixels.length)) }) s
    let s := setPortCam p (fun q =>
      let fifo := q.fifo ++ [{ frame := f.no, pixels := line }]
      { q with fifo := fifo, fifoMax := Nat.max q.fifoMax fifo.length }) s
    pipesTake s

/-- A line after a full frame (Table 9.1): discarded; the frame is a long frame. One already written is counted and reported now; its
record cannot say so any more (DEDUCED, log entry 90). -/
def camExcess (p : Nat) (s : State) : State :=
  match openFrame (camPort s p), (camPort s p).done with
  | some f, _ => setFrame p f.no (fun f => { f with long := true }) s
  | none, some f =>
    if f.long then s
    else
      let f := { f with long := true }
      shapeNote p true (1 + shapeFlags f) f.nShort f.nLong f.pad f.line (setPortCam p (fun q => { q with done := some f }) (tick 0x0805 p s))
  | none, none => s

/-! Forming lines (R271, R272). -/

def setCamLine (p : Nat) (f : LineRun → LineRun) (s : State) : State := setPortCam p (fun q => { q with line := f q.line }) s

/-- A line ends: the frame that takes it has it. -/
def camLineEnd (p : Nat) (s : State) : State :=
  let r := (camPort s p).line
  let s := setCamLine p (fun r => { r with st := 0, px := [] }) s
  if r.st ≠ 2 ∨ !r.keep then s
  else match openFrame (camPort s p) with
    | some f => if f.received < f.expect then camLineIn p f r.px.reverse s else camExcess p s
    | none => camExcess p s

/-- A line starts at time `t` (R275 to R277): in line-scan mode it may begin a frame; with 8 lines in the FIFO its frame is dropped; a line
outside every frame is discarded. -/
def camLineStart (p t : Nat) (s : State) : State :=
  let q := camPort s p
  if !q.open_ && 0 < q.lost then setPortCam p (fun q => { q with lost := q.lost - 1, line := { q.line with st := 2, keep := false, px := [] } }) s
  else
    let more := match openFrame q with | some f => decide (f.received < f.expect) | none => false
    let begins := q.cfg.timing.linescan && !more && (!q.cfg.timing.triggered || q.armed)
    let s := if begins then camStart p t s else s
    let s := match openFrame (camPort s p) with
      | some f => if f.skip = 0 ∧ f.received < f.expect ∧ 8 ≤ (camPort s p).fifo.length then camDrop p f 1 s else s
      | none => s
    setPortCam p (fun q => { q with line := { q.line with st := 2, keep := q.open_, px := [] } }) s

/-- A pixel of the line that is forming: it ends at H_WIDTH pixels; with DE one clock later shows that it is too long. -/
def camLinePixel (p v : Nat) (s : State) : State :=
  let q := camPort s p
  if q.line.st ≠ 2 then s
  else
    let s := setCamLine p (fun r => { r with px := v % 65536 :: r.px }) s
    let n := q.line.px.length + 1
    let w := q.cfg.timing.hWidth
    if q.cfg.timing.useDe then (if w < n then setCamLine p (fun r => { r with st := 3 }) (camLineEnd p s) else s)
    else if w ≤ n then camLineEnd p s else s

/-- One clock of a port (R271, R272): `v` holds the data balls in [15:0] and the levels of HSYNC, VSYNC and DE in [16], [17] and [18]. -/
def camClock (p t : Nat) (s : State) (v : Nat) : State :=
  let q := camPort s p
  let c := q.cfg.timing
  let hs := bitOf v 16 != c.hsLow
  let vs := bitOf v 17 != c.vsLow
  let de := bitOf v 18 != c.deLow
  let hsEdge := hs && !q.line.hs
  let vsEdge := vs && !q.line.vs && !c.linescan
  let s := setCamLine p (fun r => { r with hs := hs, vs := vs }) s
  let s := when (hsEdge || vsEdge || (c.useDe && !de)) (camLineEnd p) s
  let s := if c.useDe then when (de && (camPort s p).line.st == 0) (camLineStart p t) s
    else
      let s := when hsEdge (setCamLine p (fun r => { r with st := 1, wait := c.hStart })) s
      let r := (camPort s p).line
      if r.st ≠ 1 then s else if r.wait = 0 then camLineStart p t s else setCamLine p (fun r => { r with wait := r.wait - 1 }) s
  camLinePixel p v s

/-- CAM_FRAME_START (R273): the VSYNC ball of a port changes as `vs` says; its active edge in area mode ends the line under way and
begins a frame. -/
def execCamFrameStart (port : Nat) (vs : VsyncEdge) (s : State) : Host.Outcome State Fault Refusal :=
  .next (if !engOn s || s.fw.power != .run || decide (4 ≤ port) || !(camPort s port).en then s
    else
      let c := (camPort s port).cfg.timing
      let s := setCamLine port (fun r => { r with vs := vs.level != c.vsLow }) (atTime vs.t s)
      if c.linescan || vs.level == c.vsLow then s else camStart port vs.t (camLineEnd port s))

/-- CAM_LINE (R271, R272, R275): clocks of a port up to the end of a line; the port samples at the edge it has selected. -/
def execCamLine (port : Nat) (clocks : CamClocks) (s : State) : Host.Outcome State Fault Refusal :=
  .next (if !engOn s || s.fw.power != .run || decide (4 ≤ port) || !(camPort s port).en then s
    else (if (camPort s port).cfg.timing.falling then clocks.fall else clocks.rise).foldl (camClock port clocks.t) (atTime clocks.t s))

/-- Words of a line of the camera frame store that read as uncorrectable (R397, Table 13.1), at addresses the manual does not lay
out. -/
def camLost (lost : List Nat) (s : State) : State :=
  lost.foldl (fun s _ => memUe false 3 ((drawNat s).2 % 1048576) 4 (drawNat s).1) s

/-- The pixels of the lost words, four to a word, read as 0 and are invalid (Table 13.1). -/
def camLostPixels (lost : List Nat) (px : List (Nat × Bool)) : List (Nat × Bool) :=
  px.mapIdx (fun i v => if lost.contains (i / 4) then (0, false) else v)

/-- CAM_PIPE_LINE_DONE (R276): a pipeline finishes its line and takes the next ready one; `line` says what was
lost of it and what has fallen behind (R284, R286, R397). -/
def execCamPipeLineDone (pipe : Nat) (line : PipeEnd) (s : State) : Host.Outcome State Fault Refusal :=
  .next (match (s.cam.pipes.getD pipe {}).cur with
    | none => s
    | some (p, l) =>
      let s := setPipe pipe (fun q => { q with cur := none }) s
      let s := setFrame p l.frame (fun f => { f with
        rows := f.rows ++ [camLostPixels line.lost l.pixels], statCut := f.statCut || bitOf line.late 4 }) (camLost line.lost s)
      pipesTake (camFlush p (forList (bitList 4 line.late) s (streamSkip p))))

/-! Triggers. -/

/-- A pulse of a trigger output (R289, R275): not while the safe state holds its ball; one that would begin before the last ends is
not generated, and is counted. -/
def camPulse (t line : Nat) (s : State) : State :=
  let g := camTrig s t
  if s.sup.safe then s
  else if s.now < g.pulseEnd then tick 0x0807 t s
  else
    let s := emit (.camPulse t s.now (g.width * 10000)) (setTrig t (fun g => { g with pulseEnd := s.now + g.width * 10000, lastLine := line }) s)
    forRange 4 s (fun p s =>
      let q := camPort s p
      if q.en && q.cfg.timing.linescan && q.cfg.timing.triggered && q.cfg.timing.trig == t then
        setPortCam p (fun q => { q with armed := true }) (camShort p s)
      else s)

/-- The mode 3 triggers of a station at a boundary (R289): the first boundary at K0 + j × NL, and then every NL-th from it. A number less
than 2^31 above K0 counts as after it (DEDUCED, log entry 90). -/
def camBoundary (st : Nat) (k : Int) (s : State) : State :=
  forRange 4 s (fun t s =>
    let g := camTrig s t
    if g.mode ≠ 3 ∨ g.station ≠ st then s
    else
      let d := (lineNo k + 2 ^ 32 - g.k0) % 2 ^ 32
      let hit := match g.base with
        | some b => decide ((k - b) % (Nat.max 1 g.period : Int) = 0)
        | none => decide (d < 2 ^ 31 ∧ d % Nat.max 1 g.period = 0)
      if hit then camPulse t (lineNo k) (setTrig t (fun g => { g with base := some (g.base.getD k) }) s) else s)

/-- CAM_TRIG_PERIOD (R289): a period of a mode 2 trigger ends. -/
def execCamTrigPeriod (trig : Nat) (s : State) : Host.Outcome State Fault Refusal :=
  .next (let g := camTrig s trig
    if !engOn s || g.mode != 2 then s
    else
      let s := atTime g.nextAt s
      camPulse trig 0 (setTrig trig (fun g => { g with nextAt := g.nextAt + g.period * 1000 }) s))

/-! Commands. -/

/-- Writes a shadow set (R287): one generation up; at once while the port is disabled. -/
def camShadow (p : Nat) (f : CamCfg → CamCfg) (s : State) : Ans :=
  let q := camPort s p
  let c := f q.shadow
  let c := { c with gen := (q.shadow.gen + 1) % 65536 }
  { st := setPortCam p (fun q => { q with shadow := c, cfg := if q.en then q.cfg else c }) s, results := [c.gen] }

/-- A stream of a shadow set is in range (R281, R282, R291). -/
def streamOk (t : CamTiming) (m : Mosaic) (c : StreamCfg) : Bool :=
  decide (1 ≤ c.fx ∧ c.fx ≤ 16 ∧ 1 ≤ c.fy ∧ c.fy ≤ 16) && decide (1 ≤ c.cw ∧ 1 ≤ c.ch ∧ c.x0 + c.cw ≤ t.hWidth ∧ c.y0 + c.ch ≤ t.vHeight)
    && decide (1 ≤ streamCols c ∧ streamCols c ≤ 4096 ∧ 1 ≤ streamLines c) && decide (64 + streamStride c * streamLines c ≤ c.bufSize)
    && c.base % 64 == 0 && c.bufSize % 64 == 0 && decide (2 ≤ c.nbuf) && c.consumer % 4 == 0
    && (c.chan != 0 || m.size == 0 || (c.fx == 1 && c.fy == 1))

/-- The mosaic holds a stream's channel (R280, R288). -/
def streamHas (m : Mosaic) (c : StreamCfg) : Bool := if c.chan = 7 then hasChannel m 6 else hasChannel m c.chan

/-- The statistics unit of a shadow set is in range (R285, R291). -/
def statsOk (t : CamTiming) (c : StatsCfg) : Bool :=
  c.wins.all (fun w => decide (1 ≤ w.2.2.1 ∧ w.2.2.1 ≤ 512 ∧ 1 ≤ w.2.2.2 ∧ w.2.2.2 ≤ 512 ∧ w.1 + w.2.2.1 ≤ t.hWidth ∧ w.2.1 + w.2.2.2 ≤ t.vHeight))
    && decide (c.wins.length ≤ 16) && (c.zw == 0 || decide (1 ≤ c.zh ∧ zonesOf c t.hWidth t.vHeight ≤ 65536 ∧ Nat.min c.zw t.hWidth * Nat.min c.zh t.vHeight ≤ 16777215))
    && decide (2 ≤ c.nbuf) && c.consumer % 4 == 0

/-- The mosaic holds the statistics channel: the sample itself only without a mosaic (Table 9.2). -/
def statsHas (m : Mosaic) (c : StatsCfg) : Bool := if c.chan = 0 then m.size == 0 else hasChannel m c.chan

/-- A port stops: its frames are dropped, and the line a pipeline holds of it is void. -/
def camStop (p : Nat) (s : State) : State :=
  let s := forList (camPort s p).frames s (fun f s => camDrop p f 2 s)
  let s := forRange 2 s (fun n s => setPipe n (fun q => { q with cur := q.cur.map (fun c => if c.1 = p then (c.1, { c.2 with frame := 2 ^ 32 }) else c) }) s)
  setPortCam p (fun q => { q with fifo := [], frames := [], open_ := false, armed := false, done := none, line := {} }) s

/-- The I/O level of the camera balls in mV for a VDD_CAM in mV; none where the ports are disabled (R501). -/
def camLevel (mv : Nat) : Option Nat :=
  if 1620 ≤ mv ∧ mv ≤ 1980 then some 1800 else if 2970 ≤ mv ∧ mv ≤ 3630 then some 3300 else none

/-- CAM_PORT (R271, R278, R287, R501). -/
def execCamPort (s : State) : Host.Outcome State Fault Refusal :=
  .next (serve 0x0801 .immediate [0x1F3FF3, allBits, 0xFFFF7FFF, 0x7] (fun ws s =>
    let a := par ws 2
    let p := bits a 0 2
    let en := bitOf a 4
    let t : CamTiming := {
      pipeline := bits a 5 1, prio := bits a 6 2, linescan := bitOf a 8, useDe := bitOf a 9, falling := bitOf a 10, hsLow := bitOf a 11,
      vsLow := bitOf a 12, deLow := bitOf a 13, dbits := bits a 16 5, hStart := bits (par ws 3) 0 16, vStart := bits (par ws 3) 16 16,
      hWidth := bits (par ws 4) 0 15, vHeight := bits (par ws 4) 16 16, trig := bits (par ws 5) 0 2, triggered := bitOf (par ws 5) 2 }
    let c := (camPort s p).shadow
    let ok := decide (8 ≤ t.dbits ∧ t.dbits ≤ 16 ∧ 16 ≤ t.hWidth ∧ t.hWidth ≤ 16384 ∧ 1 ≤ t.vHeight) && (!t.linescan || decide (t.vHeight ≤ 4096))
      && c.streams.all (fun x => !x.en || streamOk t c.mosaic x) && (!c.stats.en || statsOk t c.stats)
    if !ok then Ans.refuse s stBadParam
    else if en && (camLevel s.board.vddCam).isNone then Ans.refuse s stState
    else
      let was := (camPort s p).en
      let r := camShadow p (fun c => { c with timing := t }) s
      if en then
        if was then r
        else { r with st := setPortCam p (fun q => { q with
          en := true, cfg := q.shadow, frameNo := 0, frames := [], open_ := false, fifo := [], armed := false, lost := 0, done := none, line := {} }) r.st }
      else
        { r with st := setPortCam p (fun q => { q with en := false, cfg := q.shadow }) (camStop p r.st) }) s)

/-- CAM_MOSAIC (R279, R288). -/
def execCamMosaic (s : State) : Host.Outcome State Fault Refusal :=
  .next (serve 0x0802 .immediate [0x03030303, 0x3FFFFFFF, 0x3FFFF] (fun ws s =>
    let p := bits (par ws 2) 0 2
    let k := bits (par ws 2) 8 2
    let size := if k = 0 then 0 else 2 * k
    let m : Mosaic := {
      size := size, ox := bits (par ws 2) 16 2, oy := bits (par ws 2) 24 2,
      sites := (List.range 16).map (fun i => if i < 10 then bits (par ws 3) (3 * i) 3 else bits (par ws 4) (3 * (i - 10)) 3) }
    let c := (camPort s p).shadow
    if k = 3 ∨ (k ≠ 0 ∧ (size ≤ m.ox ∨ size ≤ m.oy)) ∨ (k ≠ 0 ∧ !(sitesOf m).all (fun x => decide (1 ≤ x ∧ x ≤ 5))) then Ans.refuse s stBadParam
    else if c.streams.any (fun x => x.en && (!streamHas m x || !streamOk c.timing m x)) || (c.stats.en && !statsHas m c.stats) then Ans.refuse s stState
    else camShadow p (fun c => { c with mosaic := m }) s) s)

/-- CAM_STREAM (R281, R282, R288, R291). -/
def execCamStream (s : State) : Host.Outcome State Fault Refusal :=
  .next (serve 0x0803 .immediate [0x17133, allBits, allBits, 0x1F1F, allBits, allBits, allBits, 0xFF, allBits, allBits, 0xFFFF] (fun ws s =>
    let a := par ws 2
    let p := bits a 0 2
    let c : StreamCfg := {
      en := bitOf a 8, chan := bits a 12 3, wide := bitOf a 16, x0 := bits (par ws 3) 0 16, y0 := bits (par ws 3) 16 16,
      cw := bits (par ws 4) 0 16, ch := bits (par ws 4) 16 16, fx := bits (par ws 5) 0 5, fy := bits (par ws 5) 8 5,
      base := par64 ws 6, bufSize := par ws 8, nbuf := bits (par ws 9) 0 8, consumer := par64 ws 10, evN := bits (par ws 12) 0 16 }
    let q := (camPort s p).shadow
    if !streamOk q.timing q.mosaic c || !streamHas q.mosaic c then Ans.refuse s stBadParam
    else camShadow p (fun q => { q with streams := q.streams.set (bits a 4 2) c }) s) s)

/-- CAM_STATS (R285, R288, R291). -/
def execCamStats (s : State) : Host.Outcome State Fault Refusal :=
  .next (serve 0x0804 .immediate ([0x1F17103, allBits, allBits, allBits, 0xFF, allBits, allBits, 0xFFFF]
      ++ (List.replicate 16 [allBits, 0x03FF03FF]).flatten) (fun ws s =>
    let a := par ws 2
    let p := bits a 0 2
    let n := bits a 20 5
    let c : StatsCfg := {
      en := bitOf a 8, chan := bits a 12 3, hist := bitOf a 16, zw := bits (par ws 3) 0 16, zh := bits (par ws 3) 16 16, base := par64 ws 4,
      nbuf := bits (par ws 6) 0 8, consumer := par64 ws 7, evN := bits (par ws 9) 0 16,
      wins := (List.range n).map (fun w => (bits (par ws (10 + 2 * w)) 0 16, bits (par ws (10 + 2 * w)) 16 16,
        bits (par ws (11 + 2 * w)) 0 10, bits (par ws (11 + 2 * w)) 16 10)) }
    let q := (camPort s p).shadow
    let rest := (List.range 32).any (fun i => decide (2 * n ≤ i) && par ws (10 + i) != 0)
    if rest || decide (6 < c.chan) || !statsOk q.timing c || !statsHas q.mosaic c then Ans.refuse s stBadParam
    else camShadow p (fun q => { q with stats := c }) s) s)

/-- CAM_STATUS (Table 9.7). -/
def execCamStatus (s : State) : Host.Outcome State Fault Refusal :=
  .next (serve 0x0805 .immediate [0x3] (fun ws s =>
    let p := bits (par ws 2) 0 2
    let q := camPort s p
    let more := match openFrame q with | some f => decide (f.received < f.expect) | none => false
    let st := if !q.en then 0 else if more then 2 else 1
    { st := setPortCam p (fun q => { q with fifoMax := q.fifo.length }) s,
      results := [fld st 0 2 + fld q.cfg.gen 16 16, q.shadow.gen] ++ (List.range 7).map (fun i => ctrVal s (0x0800 + i) p)
        ++ [fld q.fifoMax 0 4, ctrVal s 0x0807 q.shadow.timing.trig, ctrVal s 0x0808 p] }) s)

/-- CAM_TRIGGER (R289). -/
def execCamTrigger (s : State) : Host.Outcome State Fault Refusal :=
  .next (serve 0x0806 .immediate [0x7133, allBits, allBits, 0x1FFFF] (fun ws s =>
    let a := par ws 2
    let t := bits a 0 2
    let mode := bits a 4 2
    let st := bits a 12 3
    let per := par ws 3
    let w := bits (par ws 5) 0 17
    if (mode = 2 ∧ per < 1000) ∨ (mode = 3 ∧ (per < 1 ∨ 5 < st)) ∨ w < 1 ∨ 100000 < w then Ans.refuse s stBadParam
    else { st := setTrig t (fun g => { g with
      mode := mode, high := bitOf a 8, station := st, period := per, k0 := par ws 4, width := w, base := none,
      pulseEnd := if mode < 2 then 0 else g.pulseEnd, nextAt := s.now + per * 1000 }) s }) s)

/-- CAM_I2C (R290): `acks` is 256 or more where every byte was acknowledged, else the index of the byte that was not, or 0xFF for a
timeout; `data` is what the sensor sent. -/
def execCamI2c (acks : Nat) (data : List Byte) (s : State) : Host.Outcome State Fault Refusal :=
  .next (serve 0x0807 .immediate ([0x7F0303, 0xFFFF] ++ List.replicate 16 allBits) (fun ws s =>
    let b := bits (par ws 2) 0 2
    let nw := bits (par ws 3) 0 8
    let nr := bits (par ws 3) 8 8
    if bits (par ws 2) 8 2 = 3 ∨ 64 < nw ∨ 64 < nr ∨ (nw = 0 ∧ nr = 0) then Ans.refuse s stBadParam
    else
      let out := ((List.range 16).map (fun i => leBytes 4 (par ws (4 + i)))).flatten.take nw
      let s := emit (.i2c b (BitVec.ofNat 8 (bits (par ws 2) 16 7) :: out)) s
      if acks < 256 then { st := tick 0x0808 b s, status := 0x0801, results := [acks] }
      else
        let d := (data ++ List.replicate nr 0).take nr
        { st := s, results := (List.range ((nr + 3) / 4)).map (fun i => leAt d (4 * i) 4) }) s)

end Sys2Proof.Machine
end

