-- ==== Sys2Proof/Machine/LoopCore.lean ====
section
/-! DEFINITION. The loop law (R327, R328, R331), sources (R326, R332), modes (R333, R334), coefficient and setpoint writes
(R337, R338), and what a page's program needs of its loops (R354, R355). -/

namespace Sys2Proof.Machine

/-- A transfer loop's slot. -/
def loopOf (s : State) (n : Nat) : LoopSlot := s.loop.slots.getD n {}

def setLoop (n : Nat) (f : LoopSlot → LoopSlot) (s : State) : State :=
  { s with loop := { s.loop with slots := updAt s.loop.slots n f } }

def hvOf (s : State) (c : Nat) : HvChan := s.loop.hv.getD c {}

def setHv (c : Nat) (f : HvChan → HvChan) (s : State) : State :=
  { s with loop := { s.loop with hv := updAt s.loop.hv c f } }

def zoneOf (s : State) (z : Nat) : FuserZone := s.loop.zones.getD z {}

def setZone (z : Nat) (f : FuserZone → FuserZone) (s : State) : State :=
  { s with loop := { s.loop with zones := updAt s.loop.zones z f } }

def drv (s : State) (a : Nat) : Drive := s.motion.drives.getD a {}

def setDrv (a : Nat) (f : Drive → Drive) (s : State) : State :=
  { s with motion := { s.motion with drives := updAt s.motion.drives a f } }

/-- The transfer slots. -/
def transferSlots : List Nat := (List.range 56).map (· + 8)

/-! Arithmetic (R327, R328). -/

/-- Saturation to Q15. -/
def sat16 (x : Int) : Int := clampInt (-32768) 32767 x

/-- Saturation to the 40-bit accumulator. -/
def sat40 (x : Int) : Int := clampInt (-(2 ^ 39)) (2 ^ 39 - 1) x

/-- An accumulator value brought to Q15 (R328). -/
def toQ15 (a : Int) : Int := sat16 (floorDiv (a + 16384) 32768)

/-- A quotient rounded toward zero. -/
def truncDiv (a : Int) (b : Nat) : Int := Int.tdiv a (b : Int)

/-- Coefficient by its index in Table 11.9. -/
def coefOf (l : LoopSlot) (i : Nat) : Int := l.coef.getD i 0

/-- The terms P, D and FF of a sample (R331). -/
structure LoopTerms where
  p : Int
  d : Int
  ff : Int
  e : Int

/-- P, D and FF from setpoint, feedback and the feedback before (R331). -/
def loopTerms (l : LoopSlot) (sp fb prev : Int) : LoopTerms :=
  let g := 2 ^ (coefOf l 4).toNat
  let e := sat16 (sp - fb)
  { p := sat40 (coefOf l 0 * e * g), d := sat40 (coefOf l 2 * sat16 (prev - fb) * g), ff := sat40 (coefOf l 3 * sp * g), e := e }

/-- u of R331 for an integrator value. -/
def loopU (l : LoopSlot) (t : LoopTerms) (i : Int) : Int :=
  clampInt (coefOf l 5) (coefOf l 6) (floorDiv (sat40 (sat40 (sat40 (sat40 (t.p + i) + t.d) + t.ff) + 16384)) 32768)

/-- The integrator after one automatic sample (R331). -/
def loopI (l : LoopSlot) (t : LoopTerms) : Int :=
  clampInt (coefOf l 5 * 32768) (coefOf l 6 * 32768) (sat40 (l.acc + sat40 (coefOf l 1 * t.e * 2 ^ (coefOf l 4).toNat)))

/-- The preset of R334 before its clamp. -/
def presetRaw (l : LoopSlot) (t : LoopTerms) : Int := sat40 (sat40 (sat40 (l.man * 32768 - t.p) - t.d) - t.ff)

/-! Sources (Table 11.6). -/

/-- The drive axis whose velocity is that of a position input: the lowest configured one on it (R367). -/
def axisOn (s : State) (input : Nat) : Option Nat :=
  (List.range 8).find? (fun a => (drv s a).st != .off && (drv s a).cfg.input == input)

/-- A value in counts as Q15 of a full scale. -/
def scaleQ15 (v : Int) (fs : Nat) : Int := sat16 (truncDiv (v * 32768) (Nat.max 1 fs))

/-- The feedback source of a loop is valid (R332, R344, R367). -/
def feedbackOk (s : State) (l : LoopSlot) : Bool :=
  let input := s.pos.inputs.getD l.fbIdx {}
  match l.fbKind with
  | 3 => (s.loop.therms.getD l.fbIdx {}).valid
  | 4 => !input.fault && (match axisOn s l.fbIdx with | some a => (drv s a).omegaValid | none => true)
  | 5 => !input.fault
  | _ => true

/-- The feedback of a loop as Q15 (Table 11.6). The velocity of an input that no axis measures is a free value. -/
def feedback (s : State) (l : LoopSlot) : State × Int :=
  let input := s.pos.inputs.getD l.fbIdx {}
  match l.fbKind with
  | 1 => (s, ((hvOf s l.fbIdx).vmon : Int) * 8)
  | 2 => (s, ((hvOf s l.fbIdx).imon : Int) * 8)
  | 3 => (s, sat16 (s.loop.therms.getD l.fbIdx {}).value)
  | 4 => match axisOn s l.fbIdx with
    | some a => (s, scaleQ15 (drv s a).omega l.fs)
    | none => let r := drawInt s; (r.1, scaleQ15 r.2 l.fs)
  | 5 => (s, scaleQ15 (sint (unsig ((input.raw : Int) - l.pref) 32) 32) l.fs)
  | _ => (s, 0)

/-- The source loop of a setpoint of kind 6 is itself invalid (R332). -/
def sourceBad (s : State) (l : LoopSlot) : Bool := l.spKind == 6 && (loopOf s l.spIdx).fbInvalid

/-- The sources of a loop are invalid now (R332). -/
def sourcesBad (s : State) (l : LoopSlot) : Bool := !feedbackOk s l || sourceBad s l

/-- A setpoint write reaches its loop (R338). -/
def spWrite (l : LoopSlot) (w : Int × Nat) : LoopSlot :=
  if w.2 = 0 then { l with sp := w.1, spTarget := w.1, rate := 0, ramping := false, rampDone := false }
  else { l with spTarget := w.1, rate := w.2, ramping := true, rampDone := false }

/-- One ramp step (R338). -/
def rampStep (l : LoopSlot) : LoopSlot :=
  if !l.ramping then l
  else
    let sp := if l.sp < l.spTarget then min l.spTarget (l.sp + l.rate) else max l.spTarget (l.sp - l.rate)
    { l with sp := sp, ramping := sp != l.spTarget, rampDone := sp == l.spTarget }

/-- The trim that the outputs of kind 4 add to a slot's setpoint (Table 11.6). -/
def trimOf (s : State) (n : Nat) : Int :=
  (transferSlots.filter (fun m => (loopOf s m).configured && (loopOf s m).outKind == 4 && (loopOf s m).outIdx == n)).foldl (fun a m => a + (loopOf s m).out) 0

/-- The setpoint of a slot's sample with its trim (Table 11.6). -/
def setpointOf (s : State) (n : Nat) (l : LoopSlot) : Int :=
  sat16 ((if l.spKind = 6 then (loopOf s l.spIdx).out else l.sp) + trimOf s n)

/-! What programs need. -/

/-- The pages whose program needs a loop. -/
def needPages (s : State) (n : Nat) : List Page := s.page.pages.filter (fun p => p.live && bitOf p.need n)

/-- A loop is protected (R355). -/
def loopProtected (s : State) (n : Nat) : Bool := !(needPages s n).isEmpty

/-- Spoils a page with its first station and that station's line number, as R28 gives for a reason without a station. -/
def spoilHere (key reason : Nat) (s : State) : State :=
  match pageOf s key with
  | none => s
  | some p => spoil key reason (firstStation s p) (stationLine s (firstStation s p)) s

/-- A loop left automatic or entered arc hold: pages that need it spoil with reason PROGRAM (R354). -/
def needSpoil (n : Nat) (s : State) : State :=
  forList ((needPages s n).map Page.key) s (fun k s => spoilHere k 9 s)

/-- EV_LOOP_MODE (Table 11.14). -/
def loopModeEvent (n : Nat) (auto : Bool) (cause : Nat) (man : Int) (s : State) : State :=
  raise 0x0A02 n 0 0 (b2n auto) cause (w32 man) s

/-- A loop goes to manual now; EV_LOOP_MODE where it was automatic (R333). -/
def loopManual (n : Nat) (man : Int) (cause : Nat) (clearI : Bool) (s : State) : State :=
  let was := (loopOf s n).auto
  let s := setLoop n (fun l => { l with auto := false, man := man, acc := if clearI then 0 else l.acc }) s
  if was then needSpoil n (loopModeEvent n false cause man s) else s

/-- The channel a loop regulates, and the loop of a channel (R339). -/
def loopOfHv (s : State) (c : Nat) : Option Nat :=
  transferSlots.find? (fun n => (loopOf s n).configured && (loopOf s n).outKind == 1 && (loopOf s n).outIdx == c)

/-- An interlock is open (R432), and some open interlock names a channel. -/
def ilkOpen (i : HvIlk) : Bool := i.level != i.closedHigh
def hvOpen (s : State) (c : Nat) : Bool := s.sup.ilks.any (fun i => ilkOpen i && bitOf i.mask c)

/-- The channel is on: enabled and not latched (R339, R342). -/
def hvOn (h : HvChan) : Bool := h.en && !h.latched

/-- The loop's output is held in manual: its channel is off (R339, R342). -/
def loopHeld (s : State) (l : LoopSlot) : Bool := l.outKind == 1 && (!hvOn (hvOf s l.outIdx) || hvOpen s l.outIdx)

/-- Queues a mode change for a loop's next sample (R333). -/
def askMode (n : Nat) (r : ModeReq) (s : State) : State := setLoop n (fun l => { l with modeReqs := l.modeReqs ++ [r] }) s

/-- Queues a setpoint write for a loop's next sample (R338); a loop whose setpoint another loop or its axis gives ignores it. -/
def askSetpoint (n : Nat) (target : Int) (rate : Nat) (s : State) : State :=
  setLoop n (fun l => if l.spKind = 6 ∨ n < 8 then l else { l with spReqs := l.spReqs ++ [(target, rate)], rampDone := false }) s

/-- Bits 0 and 1 of one mode request applied at a sample: the slot afterwards, and whether it goes to automatic here. -/
def modeStep (s : State) (n : Nat) (fb : Int) (r : ModeReq) (go : Bool) : State × Bool :=
  let l := loopOf s n
  if r.cause = 3 ∧ !r.auto then
    let c := hvOf s l.outIdx
    let s := if l.arcUntil.isNone then
        let s := setLoop n (fun l => { l with arcAuto := l.auto || go, arcMan := 0 }) s
        let s := if go && !l.auto then loopModeEvent n false 3 0 s else s
        needSpoil n (loopManual n 0 3 true s)
      else s
    (setLoop n (fun l => { l with acc := 0, man := 0, auto := false, arcUntil := some (s.now + c.arcHold * 100000000) }) s, false)
  else if l.arcUntil.isSome then
    (setLoop n (fun l => { l with arcAuto := r.auto, arcMan := r.man.getD 0, arcUntil := if r.cause = 4 ∨ r.cause = 5 then none else l.arcUntil }) s, false)
  else if r.auto then
    if l.auto || go || l.fbInvalid || loopHeld s l then (s, go)
    else
      let s := match r.arcRamp with
        | some q => if l.spKind = 6 then s else setLoop n (fun l => { l with sp := fb, rate := q, ramping := true, rampDone := false }) s
        | none => s
      (loopModeEvent n true r.cause l.man s, true)
  else
    let man := if loopHeld s l then 0 else r.man.getD (if l.auto then l.out else l.man)
    let s := if go then setLoop n (fun l => { l with man := man }) (loopModeEvent n false r.cause man s)
      else loopManual n man r.cause false s
    (s, false)

/-- Compliance of a channel at a sample (R340). -/
def complianceStep (n : Nat) (s : State) : State :=
  let l := loopOf s n
  let h := hvOf s l.outIdx
  if l.outKind ≠ 1 ∨ h.lim = 0 ∨ (l.fbKind ≠ 1 ∧ l.fbKind ≠ 2) then setLoop n (fun l => { l with frozen := false }) s
  else
    let m : Int := ((if l.fbKind = 1 then h.imon else h.vmon : Nat) : Int) * 8
    let s := setLoop n (fun l => { l with frozen := decide (h.lim < m) }) s
    if h.lim < m then
      let s := setHv l.outIdx (fun h => { h with episode := true, belowSince := none }) s
      if h.episode then s else raise 0x0A04 l.outIdx 0 0 (w32 m) (w32 h.lim) 0 (tick 0x0A07 l.outIdx s)
    else setHv l.outIdx (fun h => { h with belowSince := if m < h.lim then some (h.belowSince.getD s.now) else none }) s

/-- The output reaches its target (R326, R339, R343, Table 11.6). -/
def loopDrive (n : Nat) (s : State) : State :=
  let l := loopOf s n
  match l.outKind with
  | 1 => setHv l.outIdx (fun h => { h with ref := if hvOn h && !hvOpen s l.outIdx && l.arcUntil.isNone then (max 0 l.out).toNat / 2 else 0 }) s
  | 2 => setZone l.outIdx (fun z => { z with duty := (max 0 l.out).toNat }) s
  | 3 => setDrv l.outIdx (fun d => { d with iqRef := l.out }) s
  | _ => s

/-- The oldest queued coefficient write takes effect at the start of a sample (R337). -/
def loopQueue (n : Nat) (s : State) : State :=
  match (loopOf s n).queue with
  | [] => s
  | (i, v) :: t => tick 0x0A01 n (setLoop n (fun l => { l with queue := t, coef := l.coef.set i v }) s)

/-- Notes the feedback of a sample and whether it is valid. -/
def loopNote (n : Nat) (ok : Bool) (fb : Int) (s : State) : State :=
  setLoop n (fun l => { l with fbInvalid := !ok, fb := fb, fbPrev := if l.fresh then fb else l.fbPrev, fresh := false }) s

/-- A loop in automatic whose feedback is invalid goes to manual (R332). -/
def loopFallback (n : Nat) (ok : Bool) (s : State) : State :=
  if !ok && (loopOf s n).auto then
    loopManual n (if (loopOf s n).outKind = 1 ∨ (loopOf s n).outKind = 2 then 0 else (loopOf s n).out) 2 false s
  else s

/-- A loop whose high-voltage channel is off is held in manual with MAN 0 (R339, R342). -/
def loopArcHold (n : Nat) (s : State) : State :=
  if loopHeld s (loopOf s n) then
    let c := (loopOf s n).outIdx
    setLoop n (fun l => { l with arcUntil := none })
      (loopManual n 0 (if (hvOf s c).latched then 4 else if hvOpen s c then 5 else 0) false s)
  else s

/-- The mode requests of a loop, in order; the flag says that it has gone to automatic with a preset (R333, R334). -/
def loopModes (n : Nat) (fb : Int) (s : State) : State × Bool :=
  forList (loopOf s n).modeReqs (setLoop n (fun l => { l with modeReqs := [] }) s, false)
    (fun q (a : State × Bool) => modeStep a.1 n fb q a.2)

/-- The integrator of a sample: preset, advanced within its limits, or kept (R331, R334). -/
def loopAcc (l : LoopSlot) (t : LoopTerms) (preset : Bool) : Int :=
  if preset then clampInt (coefOf l 5 * 32768) (coefOf l 6 * 32768) (presetRaw l t)
  else if l.auto && !l.frozen then loopI l t else l.acc

/-- The transfer function of a sample and its output (R331); EV_LOOP_BUMP where a preset could not meet MAN (R334). -/
def loopCompute (n : Nat) (fb : Int) (preset : Bool) (s : State) : State :=
  let l := loopOf s n
  let sp := setpointOf s n l
  let t := loopTerms l sp fb l.fbPrev
  let i := loopAcc l t preset
  let u := loopU l t i
  let s := setLoop n (fun l => { l with
    acc := i, auto := l.auto || preset, out := if l.auto || preset then u else l.man, fbPrev := fb, sp := if l.spKind = 6 then sp else l.sp
    inBand := if (sat16 (sp - fb)).natAbs ≤ l.band then Nat.min 16 (l.inBand + 1) else 0 }) s
  if preset && (presetRaw l t != i || decide (l.man < coefOf l 5 ∨ coefOf l 6 < l.man)) then
    raise 0x0A01 n 0 0 (w32 (sat16 (u - l.man))) (w32 l.man) 0 (tick 0x0A02 n s)
  else s

/-- The setpoint writes of a loop take effect and its ramp advances (R338). -/
def loopSetpoints (n : Nat) (s : State) : State :=
  setLoop n (fun l => rampStep { l.spReqs.foldl spWrite l with spReqs := [] }) s

/-- One sample of a transfer loop (R331, R337, R338). -/
def loopSample (n : Nat) (s : State) : State :=
  let f := feedback (loopQueue n s) (loopOf (loopQueue n s) n)
  let ok := !sourcesBad f.1 (loopOf f.1 n)
  let r := loopModes n f.2 (loopArcHold n (loopFallback n ok (loopNote n ok f.2 f.1)))
  tick 0x0A00 n (loopDrive n (loopCompute n f.2 r.2 (loopSetpoints n (complianceStep n r.1))))

/-- The setpoint in force, as reported and compared. -/
def spNow (s : State) (n : Nat) : Int := setpointOf s n (loopOf s n)

/-- A loop goes to manual with MAN 0 at once, ahead of any request still waiting, and its target follows (R336, R432). -/
def loopForce (n : Nat) (clearI : Bool) (s : State) : State :=
  let s := loopManual n 0 5 clearI s
  loopDrive n (setLoop n (fun l => { l with arcUntil := none, modeReqs := [], out := 0 }) s)

/-- Every transfer loop goes to manual with MAN 0 and its integrator at 0 (R336, Table 14.3 step 3). -/
def loopsSafe (s : State) : State :=
  forList transferSlots s (fun n s => loopForce n true s)

end Sys2Proof.Machine
end

