-- ==== Sys2Proof/Machine/MotionCore.lean ====
section
/-! DEFINITION. States of drive and stepper axes, faults, chopper action and stops (R361 to R363, R378, R388, R430). -/

namespace Sys2Proof.Machine

def busOf (s : State) (b : Nat) : MotorBus := s.motion.buses.getD b {}

def setBus (b : Nat) (f : MotorBus → MotorBus) (s : State) : State :=
  { s with motion := { s.motion with buses := updAt s.motion.buses b f } }

def stp (s : State) (a : Nat) : Stepper := s.motion.steppers.getD a {}

def setStp (a : Nat) (f : Stepper → Stepper) (s : State) : State :=
  { s with motion := { s.motion with steppers := updAt s.motion.steppers a f } }

/-- The axis drives its motor: RUN or ALIGNING. -/
def DrvSt.driving (x : DrvSt) : Bool := x == .run || x == .aligning

/-- The completion of the command an alignment serves (R368, R375); only AXIS.START has result words. -/
def alignDone (a status : Nat) (results : List Nat) (s : State) : State :=
  match (drv s a).align with
  | none => s
  | some g => completeOpt g.oid status (if g.start.isSome then results else []) (setDrv a (fun d => { d with align := none }) s)

/-- A drive axis changes state, with EV_AXIS_STATE (R361, R363). Leaving RUN sends its speed slot to manual with MAN 0; leaving
ALIGNING other than by its own end fails the alignment, and leaving RUN ends an AXIS.START whose ramp has not begun. -/
def drvTo (a : Nat) (st : DrvSt) (cause : Nat) (s : State) : State :=
  let old := (drv s a).st
  if old = st then s
  else
    let d := drv s a
    let s := setDrv a (fun d => { d with
      st := st, ramps := [], clamped := false, duty := (0, 0, 0),
      ascCause := if st = .asc then cause else d.ascCause }) s
    let s := raise 0x0B01 a 0 0 st.code old.code cause s
    let s := if st = .fault then tick 0x0B05 a s else s
    let s := if old = .run then
        askMode d.cfg.sslot { auto := false, man := some 0, cause := if cause = 0 then 0 else 5 } s
      else s
    let s := if st.driving then
        setDrv a (fun d => { d with n := 0, meas := [], measured := 0, predicted := 0, accD := 0, accQ := 0, id := 0, iq := 0 }) s
      else s
    if (old = .aligning ∨ old = .run) ∧ d.align.isSome then alignDone a stState [st.code] s else s

/-- The axis enters FAULT (R362): from any state but OFF, ASC and FAULT itself. -/
def drvFault (a cause : Nat) (s : State) : State :=
  let x := (drv s a).st
  if x = .off ∨ x = .asc ∨ x = .fault then s else drvTo a .fault cause s

/-- |ω| -/
def omegaAbs (d : Drive) : Nat := d.omega.natAbs

/-- The rule of R378 on one axis: ASC above ASC_SPD or with ω not valid, else FAULT. -/
def drvProtect (a cause : Nat) (valid : Bool) (s : State) : State :=
  let d := drv s a
  if d.st.driving then drvTo a (if !valid || decide (d.cfg.ascSpd < omegaAbs d) then .asc else .fault) cause s else s

/-- A used sample of a position input, with its signed change, reaches the drives that follow it (R364, R367). -/
def drvSample (input : Nat) (d : Int) (t : Nat) (s : State) : State :=
  { s with motion := { s.motion with drives := s.motion.drives.map (fun v =>
      if v.cfg.input = input ∧ v.st ≠ .off then
        { v with x := v.x + d, xTime := t, xChanged := if d = 0 then v.xChanged else t,
                 xm := ((v.xm + d) % (Nat.max 1 v.cfg.cpr : Nat)).toNat }
      else v) } }

/-- Commutation by alignment and the velocity of the drives on an input are lost (R365, R367). -/
def drvUnalign (input : Nat) (s : State) : State :=
  { s with motion := { s.motion with drives := s.motion.drives.map (fun v =>
      if v.cfg.input = input ∧ v.st ≠ .off then { v with aligned := v.aligned && v.cfg.absolute, vel := [], omegaValid := false } else v) } }

/-- A fault of a position input reaches its drives (R362, R365). -/
def drvInputFault (input : Nat) (s : State) : State :=
  forRange 8 (drvUnalign input s) (fun a s =>
    if (drv s a).cfg.input = input ∧ (drv s a).st.driving then drvFault a 3 s else s)

/-! Steppers. -/

/-- A homing fails (R388): EV_HOME and the command's end. -/
def homeFail (a result : Nat) (s : State) : State :=
  match (stp s a).homing with
  | none => s
  | some h =>
    let s := setStp a (fun x => { x with homing := none }) s
    let s := raise 0x0B05 (8 + a) 0 0 result h.latched 0 (tick 0x0B0A a s)
    complete h.oid 0x0B01 [result] s

/-- The motor stands: v is 0, and the axis is IDLE, or DISABLED where it is to be de-energised. -/
def stepRest (a : Nat) (off : Bool) (s : State) : State :=
  setStp a (fun x =>
    if x.st = .off then x
    else { x with st := if off then .disabled else if x.st = .disabled then .disabled else .idle, v2 := 0, nextAt := none, target := x.pos, pend := none,
                  deEnergise := false, holdAt := if off then none else some (s.now + x.cfg.holdDelay * 1000000000) }) s

/-- STEP.STOP hard, with or without de-energise (R384, R430): a homing fails with result 4. -/
def stepHard (a : Nat) (off : Bool) (s : State) : State := homeFail a 4 (stepRest a off s)

/-! The chopper. -/

/-- The actions of R378 on a bus, for a cause of EV_CHOPPER; `fresh` says whether a drive's ω counts as valid. -/
def chopperAct (b cause : Nat) (fresh : Drive → Bool) (s : State) : State :=
  let code := if cause = 3 then 6 else 5
  let drives := (List.range 8).filter (fun a => (drv s a).cfg.bus == b && (drv s a).st.driving)
  let steps := (List.range 8).filter (fun a => (stp s a).cfg.bus == b && (stp s a).st != .off && (stp s a).st != .disabled)
  let pages := s.page.pages.filter Page.running
  let id := (pages.head?.map (fun p => p.id.toNat)).getD 0
  let vbus := (busOf s b).vbus
  let s := setBus b (fun x => { x with on := false, fault := true, lowSince := none, highSince := none }) s
  let s := forList (pages.map Page.key) s (fun k s => spoilHere k 7 s)
  let s := forList drives s (fun a s => drvProtect a code (fresh (drv s a)) s)
  let s := forList steps s (fun a s => stepHard a true s)
  raise 0x0B02 b id 0 cause vbus (maskOf drives + 256 * maskOf steps) (tick 0x0B07 b s)

end Sys2Proof.Machine
end

