-- ==== Sys2Proof/Machine/SupCore.lean ====
section
/-! DEFINITION. Goose: trip causes, the safe state and the log (R426 to R430). -/

namespace Sys2Proof.Machine

def withSup (f : SupState → SupState) (s : State) : State := { s with sup := f s.sup }

/-- The engine die is powered: all its rails are up. -/
def engPowered (s : State) : Bool := s.sup.power.phase == .on

/-- ms since machine power-on. -/
def msOn (s : State) : Nat := (s.now - s.sup.power.porAt) / 1000000000

/-- Adds a record to Goose's log of 64 (R441). -/
def gooseLog (code detail : Nat) (s : State) : State :=
  withSup (fun u => { u with log := ({ ms := msOn s, code := code, powered := engPowered s, detail := detail } :: u.log).take 64,
                             logNew := u.logNew + 1 }) s

/-- Safe action of an output (R435): key group × 128 + index. -/
def safeAction (s : State) (group index : Nat) : Nat := natGet s.sup.actions (group * 128 + index)

/-- Whether a cause trips (R426): causes 5, 6, 7, 8 and 10 by their enables. -/
def causeEnabled (s : State) (c : Nat) : Bool :=
  if c = 5 ∨ c = 6 ∨ c = 7 ∨ c = 8 ∨ c = 10 then s.sup.enables.getLsbD c else true

/-- EV_SUP_TRIP once firmware is READY, and for SAFE_IN once its detail is fixed (Table 14.3 step 5, R431), with the TIME at which the
trip was detected (R58). -/
def tripEvent (s : State) : State :=
  if s.sup.tripDue && fwReady s && !(s.sup.firstCause == 1 && s.sup.safeLowAt.isSome) then
    raiseSince (s.sup.tripAt.getD s.now) 0x0D01 dev 0 0 s.sup.firstCause s.sup.latched.toNat s.sup.firstDetail (withSup (fun u => { u with tripDue := false }) s)
  else s

/-- The safe action of a drive axis (Table 14.4): 1 to FAULT, 2 the rule of R378. The cause that EV_AXIS_STATE would carry is a
free value: Table 12.5 names none for the safe state. -/
def driveSafe (a : Nat) (s : State) : State :=
  if (drv s a).st = .off then s
  else match safeAction s 0 a with
    | 1 => let r := drawNat s; drvFault a (r.2 + 1) r.1
    | 2 => let r := drawNat s; drvProtect a (r.2 + 1) (drv s a).omegaValid r.1
    | _ => s

/-- Entry into the safe state (Table 14.3): outputs take their safe actions, steppers stop; the loops and the pages follow at
the next loop tick and line boundaries, and pages that are ADMITTED hold the reason (R11, R430). -/
def safeEnter (cause detail : Nat) (s : State) : State :=
  let s := withSup (fun u => { u with safe := true, firstCause := cause, firstDetail := detail, latched := 1 <<< cause, tripAt := some s.now,
                                      trips := u.trips + 1, tripDue := true, spoilDue := 0x3F, loopsDue := true }) s
  let s := forList ((s.page.pages.filter (fun p => p.st == .admitted)).map Page.key) s (fun k s => spoilHere k 8 s)
  let s := forRange 8 s (fun a s => driveSafe a s)
  let s := forRange 8 s (fun a s => stepHard a true s)
  tripEvent s

/-- A cause arises (R426, R428): counted and logged; the safe state is entered, or the cause joins the latched ones. -/
def trip (cause detail : Nat) (s : State) : State :=
  if !causeEnabled s cause then s
  else
    let s := gooseLog cause detail (tick 0x0D00 cause s)
    if s.sup.safe then withSup (fun u => { u with latched := u.latched ||| (1 <<< cause) }) s else safeEnter cause detail s

/-- A cause that Goose logs whether or not it is enabled (R425, R441). -/
def tripLogged (cause detail : Nat) (s : State) : State :=
  if causeEnabled s cause then trip cause detail s else gooseLog cause detail s

/-- Whether a cause is still present (R429). -/
def causePresent (s : State) (c : Nat) : Bool :=
  let u := s.sup
  match c with
  | 1 => u.needBothLow || u.safeLowAt.isSome || !u.safeIn.all SafeChan.high || decide (s.now < u.bothHigh + 100000000000)
  | 3 => (List.range 4).any (fun z =>
      let f := u.fuser.getD z {}
      f.tripped && (zoneOf s z).tripEn && (f.beyond || decide (s.now < f.safeSince + 1000000000000)))
  | 4 => u.engine.crit || u.machine.crit
  | 5 => u.vinLow
  | 6 => (List.range 2).any (fun b =>
      let f := u.busCmp.getD b {}
      f.tripped && (match f.lowSince with | none => true | some t => decide (s.now < t + 10000000000)))
  | 8 => !engPowered s || u.power.pg != 0x7F
  | 10 => u.ilks.any ilkOpen
  | _ => false

/-- Latched causes still present, as a mask. -/
def presentMask (s : State) : Nat :=
  maskOf ((List.range 12).filter (fun c => s.sup.latched.getLsbD c && causePresent s c))

end Sys2Proof.Machine
end

