-- ==== Sys2Proof/Machine/Chopper.lean ====
section
/-! DEFINITION. Meanings of the motor buses: chopper control, its fault judgement, the hard comparator and AXIS.BUS (R377 to R380, R429). -/

namespace Sys2Proof.Machine

/-- The velocity that Goose last got counts as valid for an action at a time: valid, and no older than 100 µs (R379). -/
def freshOmega (now : Nat) (d : Drive) : Bool := d.omegaValid && decide (now ≤ d.omegaAt + 100000000)

/-- The chopper's two fault conditions at the present time (R377): no current for T_DET, or T_FAULT above V_ON with the bus ending
higher than it began; a T_FAULT that ends no higher begins anew. -/
def chopperJudge (b : Nat) (s : State) : State :=
  let x := busOf s b
  if x.fault || !x.on then s
  else match x.lowSince, x.highSince with
    | some t, h =>
      if t + x.tDet * 1000000 ≤ s.now then chopperAct b 1 (fun d => d.omegaValid) s
      else match h with
        | some (u, v) => if u + x.tFault * 1000000 ≤ s.now then
            (if v < x.vbus then chopperAct b 2 (fun d => d.omegaValid) s
             else setBus b (fun x => { x with highSince := some (s.now, x.vbus) }) s) else s
        | none => s
    | none, some (u, v) => if u + x.tFault * 1000000 ≤ s.now then
        (if v < x.vbus then chopperAct b 2 (fun d => d.omegaValid) s
         else setBus b (fun x => { x with highSince := some (s.now, x.vbus) }) s) else s
    | none, none => s

/-- BUS_SAMPLE (R377): the 12-bit codes of the bus voltage and the chopper current, every 1 µs. -/
def execBusSample (bus vbus isns : Nat) (s : State) : Host.Outcome State Fault Refusal :=
  .next (when (macOn s && decide (bus < 2)) (fun s =>
    let x := busOf s bus
    let s := atTime (x.sampledAt + 1000000) s
    let v := vbus % 4096
    let i := isns % 4096
    let on := x.configured && !x.fault && (if x.vOn ≤ v then true else if v ≤ x.vOff then false else x.on)
    let s := setBus bus (fun x => { x with
      sampledAt := s.now, vbus := v, isns := i, on := on, onSince := if on && !x.on then s.now else x.onSince
      lowSince := if on && decide (i < x.iMin) then some (x.lowSince.getD s.now) else none
      highSince := if on && decide (x.vOn < v) then some (x.highSince.getD (s.now, v)) else none }) s
    let s := withSup (fun u => { u with busCmp := updAt u.busCmp bus (fun c => { c with
      lowSince := if v < x.vOff then some (c.lowSince.getD s.now) else none }) }) s
    let s := if on then tick 0x0B06 bus s else s
    chopperJudge bus s) s)

/-- When the chopper's pending judgement falls due. -/
def chopperDue (x : MotorBus) : Option Nat :=
  let a := x.lowSince.map (fun t => t + x.tDet * 1000000)
  let b := x.highSince.map (fun h => h.1 + x.tFault * 1000000)
  match a, b with
  | some t, some u => some (Nat.min t u)
  | some t, none => some t
  | none, u => u

/-- CHOPPER_DETECT_TIMEOUT (R377): T_DET without current, or T_FAULT above V_ON, has passed. -/
def execChopperDetectTimeout (bus : Nat) (s : State) : Host.Outcome State Fault Refusal :=
  .next (when (macOn s && decide (bus < 2)) (fun s =>
    match chopperDue (busOf s bus) with
    | some t => chopperJudge bus (atTime t s)
    | none => s) s)

/-- VBUS_HARD_TRIP (R379): VBUS_SNS of a bus reaches V_HARD. -/
def execVbusHardTrip (bus : Nat) (s : State) : Host.Outcome State Fault Refusal :=
  .next (when (macOn s && decide (bus < 2)) (fun s =>
    let s := withSup (fun u => { u with busCmp := updAt u.busCmp bus (fun _ => { tripped := true, lowSince := none }) }) s
    let s := chopperAct bus 3 (freshOmega s.now) s
    trip 6 bus s) s)

/-- No axis of a bus is in RUN, ALIGNING or ASC (R380). -/
def busQuiet (s : State) (b : Nat) : Bool :=
  (List.range 8).all (fun a => let d := drv s a; d.cfg.bus != b || !(d.st.driving || d.st == .asc))

/-- AXIS_BUS (R377, R380, R390). -/
def execAxisBus (s : State) : Host.Outcome State Fault Refusal :=
  .next (serve 0x0B07 .immediate [0x301, 0x0FFF0FFF, 0x0FFF0FFF, allBits] (fun ws s =>
    let b := bits (par ws 2) 0 1
    let clear := bitOf (par ws 2) 8
    let x := busOf s b
    let tDet := bits (par ws 5) 0 16
    let tFault := bits (par ws 5) 16 16
    let vOn := orKeep (bits (par ws 3) 0 12) x.vOn
    let vOff := orKeep (bits (par ws 3) 16 12) x.vOff
    let vHard := orKeep (bits (par ws 4) 0 12) x.vHard
    if !zeroOrIn 5 1000 tDet ∨ !zeroOrIn 50 10000 tFault ∨ (vOn ≠ 0 ∧ vOn ≤ vOff) ∨ (vOn = 0 ∧ vOff ≠ 0) ∨ vHard ≤ vOn then
      Ans.refuse s stBadParam
    else if clear && x.fault && (decide (vOff ≤ x.vbus) || !busQuiet s b) then Ans.refuse s stState
    else
      let s := setBus b (fun x => { x with
        configured := decide (vOn ≠ 0), gateHigh := bitOf (par ws 2) 9, vOn := vOn, vOff := vOff, vHard := vHard
        iMin := orKeep (bits (par ws 4) 16 12) x.iMin, tDet := orKeep tDet x.tDet, tFault := orKeep tFault x.tFault
        fault := x.fault && !clear }) s
      let x := busOf s b
      { st := s, results := [fld x.vbus 0 12 + 65536 * b2n x.on + 131072 * b2n x.fault] }) s)

end Sys2Proof.Machine
end

