-- ==== Sys2Proof/Machine/CodecCmd.lean ====
section
/-! DEFINITION. Meanings of STREAM.BANDMAP and of the compressor: its queue, its jobs and their commands (R91 to R99). -/

namespace Sys2Proof.Machine

def setJobs (l : List CodecJob) (s : State) : State := { s with spool := { s.spool with jobs := l } }

/-- STREAM_BANDMAP (R92). -/
def execStreamBandmap (s : State) : Host.Outcome State Fault Refusal :=
  .next (serve 0x0301 .immediate [allBits, 3, allBits] (fun ws s =>
    let px := bits (par ws 2) 0 16
    let py := bits (par ws 2) 16 16
    let dose := bitOf (par ws 3) 0
    let lines := par ws 4
    let ppiOk := if dose then px == 0 && py == 0 else decide (300 ≤ px ∧ px ≤ 2540 ∧ 300 ≤ py ∧ py ≤ 2540)
    if !ppiOk ∨ lines < 1 ∨ 1048576 < lines then Ans.refuse s stBadParam
    else
      let d := planeDims dose (bitOf (par ws 3) 1) lines px py
      let bands := (List.range 16).map (fun t => let b := bandMap dose px d.1 t; [b.1, b.2])
      { st := s, results := [d.1, d.2, ceilDiv d.2 16] ++ bands.flatten }) s)

/-! Jobs. -/

/-- What a job ends with: status, result words and the state it leaves. -/
structure JobEnd where
  st : State
  status : Nat
  results : List Nat := []

/-- The rows of pixels a compression reads; none on a host memory error. -/
def readRows (s : State) (src b stride : Nat) : Nat → Nat → Option (List (List Byte))
  | 0, _ => some []
  | n + 1, i => match hostRead s (src + i * stride) b with
    | none => none
    | some r => (readRows s src b stride n (i + 1)).map (fun l => r :: l)

/-- The end of a job by a host memory error (R98). -/
def jobFault (s : State) : JobEnd := { st := s, status := 0x0306 }

/-- CODEC.COMPRESS's work (R93 to R95): `w` are its parameter words from word 2. -/
def compressJob (w : List Word) (s : State) : JobEnd :=
  let p := fun (n : Nat) => wordAt w (n - 2)
  let b := bits (p 4) 0 14
  let rows := bits (p 4) 16 5
  let stride := if bits (p 11) 0 18 = 0 then b else bits (p 11) 0 18
  match readRows s (p 2 + 2 ^ 32 * p 3) b stride rows 0 with
  | none => jobFault s
  | some px =>
    let c := compressRows (bits (p 5) 0 3) (bitOf (p 5) 3) (px.map (fun r => r.map (fun (x : Byte) => x.toNat)))
    let rec_ := blockRecord (bits (p 4) 24 3) (bits (p 4) 28 4) c.1 (bits (p 5) 8 8) (BitVec.ofNat 32 (p 6)) (p 7) rows (rows * b) c.2.1 px.flatten
    let r := hostWrite (p 8 + 2 ^ 32 * p 9) rec_ s
    if !r.2 then jobFault s
    else { st := if c.2.2 then tick 0x0301 0 r.1 else r.1, status := if c.2.2 then 0x0303 else stOk, results := [rec_.length] }

/-- The end of a verification by a check (R99). -/
def checkEnd (s : State) (check index : Nat) : JobEnd :=
  { st := s, status := if check = 0 then stOk else checkStatus check, results := [check + 256 * index] }

/-- The header checks of CODEC.VERIFY (R99 step 1): the first failing one, or 0. -/
def verifyHeader (w : Nat) (h : List Byte) : Nat :=
  if !hdrCrcOk (h.take (recHdrLen (leAt h 0 2))) then 1
  else if leAt h 0 2 ≠ 0xFA04 ∨ !hdrFieldOk none h then 2
  else if !blockSizeOk w none h then 7
  else 0

/-- CODEC.VERIFY's work (R99). -/
def verifyJob (w : List Word) (s : State) : JobEnd :=
  let p := fun (n : Nat) => wordAt w (n - 2)
  let src := p 2 + 2 ^ 32 * p 3
  let b := bits (p 4) 0 14
  let dst := p 5 + 2 ^ 32 * p 6
  match hostRead s src 40 with
  | none => jobFault s
  | some h =>
    let c := verifyHeader b h
    let out := leAt h 20 4
    let comp := leAt h 24 4
    if c ≠ 0 then checkEnd s c 0
    else if dst ≠ 0 ∧ p 7 < out then { st := s, status := stBadParam }
    else match hostRead s (src + 40) (comp + padLen comp) with
      | none => jobFault s
      | some q =>
        let pay := q.take comp
        if !(q.drop comp).all (· == 0) then checkEnd s 2 0
        else if crc32c pay ≠ leAt h 28 4 then checkEnd s 8 0
        else
          let d := decodeChecks (leAt h 6 1) (leAt h 16 2) b (leAt h 32 4) pay
          if dst = 0 then checkEnd s d.check d.index
          else
            let r := hostWrite dst d.pixels s
            if r.2 then checkEnd r.1 d.check d.index else jobFault s

/-- A job ends (R95, R98, R101): counted, then EV_CMD_DONE. -/
def jobFinish (oid : Nat) (e : JobEnd) : State :=
  let s := tick 0x0300 0 e.st
  let s := if e.status = 0x0305 then tick 0x0302 0 s else if e.status = 0x0306 then tick 0x0303 0 s else s
  complete oid e.status e.results s

/-- One command at the head of the queue that needs no run: an abandoned job, or a flush with no job before it (R97). A job that was
abandoned before a host-interface reset came ends with ST_ABANDONED, not as R98 gives (DESIGN CHOICE, log entry 83). -/
def codecSettleOne (s : State) : Option State :=
  match s.spool.jobs with
  | [] => none
  | j :: t => match j.work with
    | .flush n => some (complete j.oid stOk [n] (setJobs t s))
    | _ => if j.abandoned then some (jobFinish j.oid { st := setJobs t s, status := 0x0305 }) else none

/-- The head of the queue is a job that can run, or the queue is empty (R97). -/
def codecSettle (s : State) : State := iterate codecSettleOne (s.spool.jobs.length + 1) s

/-- Jobs queued or running (R96). -/
def jobCount (s : State) : Nat := (s.spool.jobs.filter (fun j => match j.work with | .flush _ => false | _ => true)).length

/-- CODEC_JOB_START (R96): the compressor takes its next job. -/
def execCodecJobStart (s : State) : Host.Outcome State Fault Refusal :=
  .next (when (fwReady s) (fun s => match s.spool.jobs with
    | [] => s
    | j :: t => setJobs ({ j with running := true } :: t) s) s)

/-- CODEC_JOB_DONE (R96, R97, R98): the running job ends. -/
def execCodecJobDone (s : State) : Host.Outcome State Fault Refusal :=
  .next (when (engOn s) (fun s => match s.spool.jobs with
    | [] => s
    | j :: t =>
      if !j.running then s
      else
        let s := setJobs t s
        let e := if j.doomed then jobFault s else match j.work with
          | .compress w => compressJob w s
          | .verify w => verifyJob w s
          | .flush _ => { st := s, status := stOk }
        codecSettle (jobFinish j.oid e)) s)

/-- A job joins the queue. -/
def codecQueue (work : CodecWork) (s : State) : Ans :=
  if 16 ≤ jobCount s then Ans.refuse s stBusy
  else { st := setJobs (s.spool.jobs ++ [{ oid := s.host.nextOid, work := work }]) s, status := stPending }

/-- Parameter words 2 to 1 + n. -/
def parWords (ws : List Word) (n : Nat) : List Word := (List.range n).map (fun i => BitVec.ofNat 32 (par ws (2 + i)))

/-- CODEC_COMPRESS (R93, R96). -/
def execCodecCompress (s : State) : Host.Outcome State Fault Refusal :=
  .next (serve 0x0302 .background [allBits, allBits, 0xF71F3FFF, 0xFF0F, allBits, allBits, allBits, allBits, allBits, 0x3FFFF] (fun ws s =>
    let b := bits (par ws 4) 0 14
    let rows := bits (par ws 4) 16 5
    let stride := bits (par ws 11) 0 18
    let need := 40 + rows * b
    if b < 1 ∨ 8453 < b ∨ rows < 1 ∨ 16 < rows ∨ 5 < bits (par ws 4) 24 3 ∨ 4 < bits (par ws 5) 0 3 ∨ (stride ≠ 0 ∧ stride < b)
        ∨ par ws 8 % 4 ≠ 0 ∨ par ws 10 < need + padLen need then Ans.refuse s stBadParam
    else codecQueue (.compress (parWords ws 10)) s) s)

/-- CODEC_VERIFY (R96, R99). -/
def execCodecVerify (s : State) : Host.Outcome State Fault Refusal :=
  .next (serve 0x0304 .background [allBits, allBits, 0x3FFF, allBits, allBits, allBits] (fun ws s =>
    let b := bits (par ws 4) 0 14
    if b < 1 ∨ 8453 < b then Ans.refuse s stBadParam else codecQueue (.verify (parWords ws 6)) s) s)

/-- CODEC_FLUSH (R97): it takes its place behind the jobs before it, and abandons those still queued where it says so. -/
def execCodecFlush (s : State) : Host.Outcome State Fault Refusal :=
  .next (codecSettle (serve 0x0303 .background [1] (fun ws s =>
    let queued := fun (j : CodecJob) => !j.running && !j.abandoned && (match j.work with | .flush _ => false | _ => true)
    let n := if par ws 2 = 1 then (s.spool.jobs.filter queued).length else 0
    let jobs := if par ws 2 = 1 then s.spool.jobs.map (fun j => if queued j then { j with abandoned := true } else j) else s.spool.jobs
    { st := setJobs (jobs ++ [{ oid := s.host.nextOid, work := .flush n }]) s, status := stPending }) s))

end Sys2Proof.Machine
end

