-- ==== Sys2Proof/Machine/Crypto.lean ====
section
/-! DEFINITION. SHA-256, HMAC-SHA-256 and ECDSA P-256 as the consumables use them (R259, R260). The algorithms are those of
FIPS 180-4, FIPS 198-1 and SEC 1, which the spec names. -/

namespace Sys2Proof.Machine

/-! SHA-256. -/

/-- The primes below 312: the first 64 of them (FIPS 180-4). -/
def shaPrimes : List Nat := (List.range 312).filter (fun p => decide (2 ≤ p) && (List.range 18).all (fun d => decide (d < 2 ∨ p ≤ d) || p % d != 0))

/-- The first 32 bits of the fraction of the `e`-th root of `p`: the greatest 36-bit number whose `e`-th power is at most
p · 2^(32 e), modulo 2^32. -/
def rootFrac (e p : Nat) : Nat :=
  (List.range 36).foldl (fun r i => if (r + 2 ^ (35 - i)) ^ e ≤ p * 2 ^ (32 * e) then r + 2 ^ (35 - i) else r) 0 % 2 ^ 32

/-- The round constants: from the cube roots of the first 64 primes; and the first hash value: from the square roots of the
first eight. -/
def shaK : List Nat := shaPrimes.map (rootFrac 3)
def shaInit : List Nat := (shaPrimes.take 8).map (rootFrac 2)

/-- Rotates a 32-bit number right. -/
def rotr (x n : Nat) : Nat := (x >>> n ||| x <<< (32 - n)) % 2 ^ 32

/-- The number that big-endian bytes spell. -/
def beNat (bs : List Byte) : Nat := bs.foldl (fun a b => a * 256 + b.toNat) 0

/-- The `n` low bytes of `v`, most significant first. -/
def beBytes (n v : Nat) : List Byte := (leBytes n v).reverse

/-- The 64 words of a block's schedule, newest first. -/
def shaSched (block : List Byte) : List Nat :=
  let w0 := ((List.range 16).map (fun i => beNat (slice block (4 * i) 4))).reverse
  (List.range 48).foldl (fun w _ =>
    let a := w.getD 14 0
    let b := w.getD 1 0
    let s0 := rotr a 7 ^^^ rotr a 18 ^^^ (a >>> 3)
    let s1 := rotr b 17 ^^^ rotr b 19 ^^^ (b >>> 10)
    ((w.getD 15 0 + s0 + w.getD 6 0 + s1) % 2 ^ 32) :: w) w0

/-- The compression of one block. -/
def shaBlock (h : List Nat) (block : List Byte) : List Nat :=
  let ws := (shaSched block).reverse
  let r := (List.zip shaK ws).foldl (fun (v : List Nat) (kw : Nat × Nat) =>
    let e := v.getD 4 0
    let a := v.getD 0 0
    let s1 := rotr e 6 ^^^ rotr e 11 ^^^ rotr e 25
    let ch := (e &&& v.getD 5 0) ^^^ ((e ^^^ 0xFFFFFFFF) &&& v.getD 6 0)
    let t1 := v.getD 7 0 + s1 + ch + kw.1 + kw.2
    let s0 := rotr a 2 ^^^ rotr a 13 ^^^ rotr a 22
    let mj := (a &&& v.getD 1 0) ^^^ (a &&& v.getD 2 0) ^^^ (v.getD 1 0 &&& v.getD 2 0)
    [(t1 + s0 + mj) % 2 ^ 32, a, v.getD 1 0, v.getD 2 0, (v.getD 3 0 + t1) % 2 ^ 32, e, v.getD 5 0, v.getD 6 0]) h
  List.zipWith (fun a b => (a + b) % 2 ^ 32) h r

/-- The padded message. -/
def shaPad (bs : List Byte) : List Byte :=
  bs ++ [0x80] ++ List.replicate ((119 - bs.length % 64) % 64) 0 ++ beBytes 8 (8 * bs.length)

/-- SHA-256. -/
def sha256 (bs : List Byte) : List Byte :=
  let p := shaPad bs
  let h := (List.range (p.length / 64)).foldl (fun h i => shaBlock h (slice p (64 * i) 64)) shaInit
  (h.map (beBytes 4)).flatten

/-- HMAC-SHA-256 with a key of at most 64 bytes. -/
def hmac256 (key msg : List Byte) : List Byte :=
  let k := key ++ List.replicate (64 - key.length) 0
  sha256 (k.map (fun b => b ^^^ 0x5C) ++ sha256 (k.map (fun b => b ^^^ 0x36) ++ msg))

/-! P-256. -/

def p256P : Nat := 0xFFFFFFFF00000001000000000000000000000000FFFFFFFFFFFFFFFFFFFFFFFF
def p256N : Nat := 0xFFFFFFFF00000000FFFFFFFFFFFFFFFFBCE6FAADA7179E84F3B9CAC2FC632551
def p256B : Nat := 0x5AC635D8AA3A93E7B3EBBD55769886BC651D06B0CC53B0F63BCE3C3E27D2604B
def p256Gx : Nat := 0x6B17D1F2E12C4247F8BCE6E563A440F277037D812DEB33A0F4A13945D898C296
def p256Gy : Nat := 0x4FE342E2FE1A7F9B8EE7EB4A7C0F9E162BCE33576B315ECECBB6406837BF51F5

/-- a^e modulo m over the low 256 bits of e. -/
def powMod (a e m : Nat) : Nat :=
  ((List.range 256).foldl (fun (acc : Nat × Nat) i => (if bitOf e i then acc.1 * acc.2 % m else acc.1, acc.2 * acc.2 % m)) (1 % m, a % m)).1

/-- Inverse modulo a prime. -/
def invMod (a m : Nat) : Nat := powMod a (m - 2) m

/-- Difference modulo m. -/
def subMod (a b m : Nat) : Nat := (a + m - b % m) % m

/-- The point (x, y) lies on P-256. -/
def onCurve (x y : Nat) : Bool :=
  decide (x < p256P ∧ y < p256P) && (y * y) % p256P == subMod (x * x * x + p256B) (3 * x) p256P

/-- A point in Jacobian coordinates; Z = 0 is the point at infinity. -/
abbrev JPoint := Nat × Nat × Nat

/-- Doubling. -/
def jDouble (p : JPoint) : JPoint :=
  let m := p256P
  let (x, y, z) := p
  if z = 0 ∨ y = 0 then (1, 1, 0)
  else
    let yy := y * y % m
    let s := 4 * x * yy % m
    let zz := z * z % m
    let k := 3 * (subMod x zz m) * ((x + zz) % m) % m
    let x' := subMod (k * k) (2 * s) m
    (x', subMod (k * subMod s x' m) (8 * yy * yy) m, 2 * y * z % m)

/-- Addition. -/
def jAdd (p q : JPoint) : JPoint :=
  let m := p256P
  let (x1, y1, z1) := p
  let (x2, y2, z2) := q
  if z1 = 0 then q else if z2 = 0 then p
  else
    let zz1 := z1 * z1 % m
    let zz2 := z2 * z2 % m
    let u1 := x1 * zz2 % m
    let u2 := x2 * zz1 % m
    let s1 := y1 * zz2 * z2 % m
    let s2 := y2 * zz1 * z1 % m
    if u1 = u2 then (if s1 = s2 then jDouble p else (1, 1, 0))
    else
      let h := subMod u2 u1 m
      let r := subMod s2 s1 m
      let hh := h * h % m
      let hhh := hh * h % m
      let v := u1 * hh % m
      let x3 := subMod (r * r) (hhh + 2 * v) m
      (x3, subMod (r * subMod v x3 m) (s1 * hhh) m, h * z1 * z2 % m)

/-- u1 G + u2 Q, bit by bit from the top. -/
def jCombine (u1 u2 : Nat) (q : Nat × Nat) : JPoint :=
  let g : JPoint := (p256Gx, p256Gy, 1)
  let qp : JPoint := (q.1, q.2, 1)
  let gq := jAdd g qp
  (List.range 256).foldl (fun acc i =>
    let d := jDouble acc
    match bitOf u1 (255 - i), bitOf u2 (255 - i) with
    | true, true => jAdd d gq
    | true, false => jAdd d g
    | false, true => jAdd d qp
    | false, false => d) (1, 1, 0)

/-- ECDSA P-256 verification over the SHA-256 of a message; the signature is r then s, 32 bytes each. -/
def ecdsaOk (q : Nat × Nat) (msg sig : List Byte) : Bool :=
  let r := beNat (sig.take 32)
  let s := beNat (slice sig 32 32)
  if sig.length ≠ 64 ∨ r = 0 ∨ p256N ≤ r ∨ s = 0 ∨ p256N ≤ s ∨ !onCurve q.1 q.2 then false
  else
    let e := beNat (sha256 msg)
    let w := invMod s p256N
    let (x, _, z) := jCombine (e * w % p256N) (r * w % p256N) q
    if z = 0 then false
    else
      let zi := invMod z p256P
      decide (x * (zi * zi % p256P) % p256P % p256N = r)

end Sys2Proof.Machine
end

