-- ==== Sys2Proof/Machine/LinkRows.lean ====
section
/-! DEFINITION. Meanings of the head-link rows: sending (R213 to R216, R225), receiving (R208 to R212, R224), status frames
(R221, R222, R232, R253), management (R223, R244, R250), probes (R195, R219), acquisition and the timers (R227 to R231), the error
window (R232), and retrains (R233 to R235). -/

namespace Sys2Proof.Machine

/-! Sending. -/

/-- LINE_FRAME_START (R215, R216): the oldest built frame goes out once the frame in progress has ended, before every other that waits; `poison` says that the transmit
recheck failed. -/
def execLineFrameStart (lane : Nat) (poison : Bool) (s : State) : Host.Outcome State Fault Refusal :=
  let p := port s lane
  match p.frames with
  | [] => .next s
  | f :: t =>
    let s := atTime p.busyUntil (setPort lane (fun p => { p with frames := t }) s)
    let s := tick 0x0602 lane s
    let s := bump 0x0508 lane (b2n f.supA + b2n f.supB) (when poison (tick 0x0603 lane) s)
    let id := (((rowPages s lane f.imgA ++ rowPages s lane f.imgB).head?).map (fun p => p.id.toNat)).getD 0
    .next (txFrame lane (lineBytes f poison) (some (unsig f.k 32)) id s.now s)

/-- When the next line frame of a lane can start, as PERIOD predicts (R225). -/
def nextLineAt (s : State) (g : Nat) : Option Nat :=
  let t := trk s (stOf g)
  match t.lastB, periodOf t with
  | some b, n + 1 => some (b + (n + 1) * 250)
  | _, _ => none

/-- A PRBS slot may be sent now (R225). -/
def slotAllowed (s : State) (g : Nat) : Bool :=
  let p := port s g
  p.st == .online && p.prbs != 1 && p.frames.isEmpty && p.txWait.isEmpty &&
    (if (trk s (stOf g)).en then
      match nextLineAt s g with
      | some t => decide (Nat.max s.now p.busyUntil + frameTime p.half 1030 + 200000 ≤ t)
      | none => true
    else true)

/-- Sends a PRBS slot, the pattern going on from the last (R224). -/
def prbsSlot (g : Nat) (s : State) : State :=
  let p := port s g
  let r := prbsRun p.prbs 8192 p.prbsReg []
  let bytes := (groupsOf 8 1024 r.2).map (BitVec.ofNat 8)
  let s := setPort g (fun p => { p with prbsReg := r.1, prbsAt := s.now, wBits := satAdd 64 p.wBits 8192 }) s
  txFrame g (frameCore 0x04 0 1030 ++ bytes) none 0 s.now (bump 0x060A g 8192 s)

/-- PRBS_SLOT_SEND (R224, R225): without a tracker, one slot every 10 µs. -/
def execPrbsSlotSend (lane : Nat) (s : State) : Host.Outcome State Fault Refusal :=
  let s := txDrain lane s
  .next (if !slotAllowed s lane then s
  else prbsSlot lane (if (trk s (stOf lane)).en then s else atTime ((port s lane).prbsAt + 10 * usPs) s))

/-! Receiving. -/

/-- The states in which a port listens to its uplink (Table 7.11). -/
def listens (p : Port) : Bool :=
  match p.st with
  | .acquire | .identify | .measure | .online | .retrain | .mgmtOnly => true
  | .idle => p.exitAt.isSome
  | _ => false

/-- The port has lock both ways now (R228, R231). -/
def lockNote (g : Nat) (s : State) : State :=
  let p := port s g
  if p.st = .idle ∧ p.exitAt.isSome ∧ locked p then linkTo g .measure 0 s else acquired g s

/-- Sync headers of blocks (R226, R228): 64 valid in a row give block lock, 16 invalid in 64 lose it. -/
def hdrNote (g : Nat) (ok : Bool) (s : State) : State :=
  let p := port s g
  if !p.blockLock then
    setPort g (fun p => { p with hdrRun := if ok then p.hdrRun + 1 else 0, blockLock := ok && decide (64 ≤ p.hdrRun + 1), hdrSeen := 0, hdrBad := 0 }) s
  else
    let bad := p.hdrBad + b2n (!ok)
    if 16 ≤ bad then
      lockLost g 1 (setPort g rxReset s)
    else setPort g (fun p => { p with hdrSeen := (p.hdrSeen + 1) % 64, hdrBad := if p.hdrSeen + 1 = 64 then 0 else bad }) s

/-- BLOCK_LOCK (R228): sync headers received, valid or not. -/
def execBlockLock (lane : Nat) (headers : List Bool) (s : State) : Host.Outcome State Fault Refusal :=
  .next (lockNote lane (forList headers s (fun h s => if listens (port s lane) then hdrNote lane h s else s)))

/-- A frame taken from the uplink: DNLOCK (R227), and the queue of frames to act on. -/
def takeUp (g : Nat) (f : List (Byte × Bool)) (s : State) : State :=
  let dn := bitOf (((f.getD 1 (0, true)).1).toNat) 7
  let ft := ((f.getD 0 (0, true)).1).toNat
  let s := setPort g (fun p => { p with dnlock := dn, dnZero := if dn then 0 else p.dnZero + 1,
                                        rxQ := if ft = 3 then p.rxQ else p.rxQ ++ [f] }) s
  if 4 ≤ (port s g).dnZero then lockLost g 3 s else s

/-- A frame at the receiver, injections first (R484, R486). -/
def rxFrame (g : Nat) (f : List (Byte × Bool)) (s : State) : State :=
  let ft := ((f.getD 0 (0, true)).1).toNat
  let late : Bool := match injOf s 1 g with
    | some j => j.action != .corruptPre && j.action != .corruptPost
    | none => false
  let r := if late then injOffer 1 g ft none f.length 0 s else (s, none)
  match r.2 with
  | none =>
    let s := takeUp g f r.1
    match (port s g).heldUp with
    | some h => if ((h.getD 0 (0, true)).1).toNat = ft then takeUp g h (setPort g (fun p => { p with heldUp := none }) s) else s
    | none => s
  | some j => match j.action with
    | .drop => r.1
    | .reorder => setPort g (fun p => { p with heldUp := some f }) r.1
    | .delay => takeUp g f (setPort g (fun p => { p with rxHold := Nat.max p.rxHold (s.now + j.delay * 1000) }) r.1)
    | _ => takeUp g f r.1

/-- Frames at the head of bytes, one behind the other: offset, type, length. -/
def walkFrames : Nat → Nat → List Byte → List (Nat × Nat × Nat)
  | 0, _, _ => []
  | n + 1, off, bs => match coreAt bs with
    | some len => (off, leAt bs 0 1, len) :: walkFrames n (off + len) (bs.drop len)
    | none => []

/-- Offers the frames whose core arrives with this codeword to a CORRUPT injection of the uplink; the bits it flips are added to
`flips`, counted from this codeword's first message bit (R484, R486). -/
def upCorrupt (g : Nat) (before : Nat) (lead : Nat) (bytes : List Byte) (s : State) : State :=
  match injOf s 1 g with
  | none => s
  | some j =>
    if j.action != .corruptPre && j.action != .corruptPost then s
    else
      forList ((walkFrames 200 0 bytes).filter (fun f => decide (before < f.1 + 6))) s (fun f s =>
        let r := injOffer 1 g f.2.1 none f.2.2 0 s
        match r.2 with
        | none => r.1
        | some j =>
          let at_ := (f.1 + j.offset - before) * 8 - lead
          let new := (bitList 32 j.mask.toNat).map (fun b => (at_ + b, j.action == .corruptPost))
          setPort g (fun p => { p with flips := p.flips ++ new }) r.1)

/-- Flips bits of a list at indices. -/
def flipBits (bs : List Bool) (at_ : List Nat) : List Bool := at_.foldl (fun l i => l.modify i not) bs

/-- The payloads of blocks, descrambled, with whether each is a data block (R207, R210). Line bits at `flips` of the data blocks are flipped. -/
def payloads (before : List Bool) (blocks : List (Bool × Bool × List Bool)) (flips : List Nat) : List Bool × List (Bool × List Bool) :=
  let step (a : List Bool × List (Bool × List Bool) × Nat) (b : Bool × Bool × List Bool) : List Bool × List (Bool × List Bool) × Nat :=
    let data := !(b.1 && !b.2.1)
    let base := 64 * a.2.2
    let line := if data then flipBits b.2.2 ((flips.filter (fun i => decide (base ≤ i ∧ i < base + 64))).map (fun i => i - base)) else b.2.2
    (lastBits a.1 line, a.2.1 ++ [(data, descramble a.1 line)], if data then a.2.2 + 1 else a.2.2)
  let r := blocks.foldl step (before, [], 0)
  (r.1, r.2.1)

/-- The message bits of a codeword, and the symbols corrected if it could be decoded (R208). -/
def decodeWord (ps : List (Bool × List Bool)) : List Bool × Option Nat :=
  let bits := ((ps.filter (fun p => p.1)).map (fun p => p.2)).flatten
  match rsDecode (groupsOf 10 544 bits) with
  | some (w, n) => (((w.take 514).map (lsbBits 10)).flatten, some n)
  | none => (bits.take 5140, none)

/-- The payload of a codeword that decoded or did not: bytes, hunting, frames (R209, R212). -/
def takePayload (g : Nat) (msg : List Bool) (ok : Bool) (s : State) : State :=
  let p := port s g
  let all := p.rxBits ++ msg
  let n := all.length / 8
  let bytes := (groupsOf 8 n all).map (BitVec.ofNat 8)
  let firstOk := ok && (p.rxBits.isEmpty || p.cwBad == 0)
  let new : List (Byte × Bool) := match bytes with
    | [] => []
    | b :: t => (b, firstOk) :: t.map (fun b => (b, ok))
  let h := hunt { lock := p.frameLock, rest := p.rxBytes ++ new }
  let s := setPort g (fun p => { p with rxBits := all.drop (8 * n), rxBytes := h.rest, frameLock := h.lock }) s
  forList h.frames s (rxFrame g)

/-- CODEWORD_RX (R208): 85 data blocks and the ordered sets among them, each 2 sync bits and 64 payload bits as received. -/
def execCodewordRx (lane : Nat) (ws : List Bool) (s : State) : Host.Outcome State Fault Refusal :=
  let p := port s lane
  let blocks := blocksOf ws.length ws
  if !listens p || !p.blockLock || countBy (fun (b : Bool × Bool × List Bool) => !(b.1 && !b.2.1)) blocks ≠ 85 then .next s
  else
    let s := forList blocks s (fun b s => if listens (port s lane) then hdrNote lane (b.1 != b.2.1) s else s)
    let p := port s lane
    if !listens p || !p.blockLock then .next s
    else
      let dry := decodeWord (payloads p.descr blocks []).2
      let clean := (groupsOf 8 650 (p.rxBits ++ dry.1)).map (BitVec.ofNat 8)
      let s := if p.cwLock && dry.2.isSome then
          upCorrupt lane p.rxBytes.length p.rxBits.length (p.rxBytes.map (fun b => b.1) ++ clean) s
        else s
      let flips := (port s lane).flips
      let mine := flips.filter (fun f => decide (f.1 < 5140))
      let pl := payloads p.descr blocks ((mine.filter (fun f => !f.2)).map (fun f => f.1))
      let cw := decodeWord pl.2
      let msg := flipBits cw.1 ((mine.filter (fun f => f.2)).map (fun f => f.1))
      let s := setPort lane (fun p => { p with descr := pl.1, flips := (flips.filter (fun f => decide (5140 ≤ f.1))).map (fun f => (f.1 - 5140, f.2)) }) s
      match cw.2 with
      | some n =>
        let s := bump 0x0600 lane n s
        let s := setPort lane (fun p => { p with wUpCorr := satAdd 32 p.wUpCorr n }) s
        let s := if p.cwLock then takePayload lane msg true s else s
        .next (lockNote lane (setPort lane (fun p => { p with cwBad := 0, cwGood := p.cwGood + 1, cwLock := p.cwLock || decide (3 ≤ p.cwGood + 1) }) s))
      | none =>
        let s := tick 0x0601 lane s
        let s := setPort lane (fun p => { p with wUpUnc := satAdd 16 p.wUpUnc 1 }) s
        let s := if p.cwLock then takePayload lane msg false s else s
        let s := setPort lane (fun p => { p with cwBad := p.cwBad + 1, cwGood := 0 }) s
        if p.cwLock ∧ 8 ≤ (port s lane).cwBad then
          .next (lockLost lane 2 (setPort lane (fun p => { p with cwLock := false, frameLock := false, rxBits := [], rxBytes := [] }) s))
        else .next s

/-- Takes the oldest received frame if its FTYPE is the one wanted; an injected DELAY holds it back (R486). -/
def popRx (g ft : Nat) (s : State) : Option (List (Byte × Bool) × State) :=
  match (port s g).rxQ with
  | [] => none
  | f :: t =>
    if ((f.getD 0 (0, true)).1).toNat = ft then some (f, atTime (port s g).rxHold (setPort g (fun p => { p with rxQ := t }) s)) else none

/-! Status frames. -/

/-- Class W counts a tile reports (Table 7.6): their growth since its last status frame (R9). -/
def dnCounts (g : Nat) (f : Status) (s : State) : State :=
  let s := match (port s g).dnLast with
    | none => s
    | some (a, b, c) =>
      let da := (f.corr + 2 ^ 32 - a) % 2 ^ 32
      let db := (f.uncorr + 65536 - b) % 65536
      let dc := (f.prbsErr + 65536 - c) % 65536
      let s := bump 0x060B g dc (bump 0x0601 (g + 256) db (bump 0x0600 (g + 256) da s))
      setPort g (fun p => { p with wDnCorr := satAdd 32 p.wDnCorr da, wDnUnc := satAdd 16 p.wDnUnc db, wErrs := satAdd 32 p.wErrs dc }) s
  setPort g (fun p => { p with dnLast := some (f.corr, f.uncorr, f.prbsErr), tilePeak := f.peak, aliveU := some f.aliveU }) s

/-- The results a status frame carries: boundary and the two row results (Table 7.6). -/
def statusRows (g : Nat) (f : Status) (s : State) : List (Int × Nat × Nat) :=
  ((List.range (if f.legacy then 1 else 4)).map (fun (j : Nat) =>
    ((port s g).awaits.find? (fun a => unsig a.k 32 == unsig ((f.lineAck : Int) - (j : Int)) 32)).map (fun a =>
      let r := f.res.getD j 0
      (a.k, rowResult (bits r 0 4), rowResult (bits r 4 4))))).filterMap id

/-- STATUS_FRAME_RX (R221, R222, R253). -/
def execStatusFrameRx (lane : Nat) (s : State) : Host.Outcome State Fault Refusal :=
  match popRx lane 0x11 s with
  | none => .next s
  | some (f, s) =>
    let b := f.map (fun x => x.1)
    if !tailCrcOk b || !(linkHeld (port s lane).st || reports (port s lane).st) then .next s
    else
      let st := readStatus b
      let s := dnCounts lane st s
      let rows := if reports (port s lane).st then statusRows lane st s else []
      let cut := rows.any (fun r => r.2.1 == 7 || r.2.2 == 7)
      let s := tileTemp lane st cut s
      let s := if rows.isEmpty then s else setPort lane (fun p => { p with gapRun := 0 }) s
      .next (forList rows s (fun r s => rowResults lane r.1 r.2.1 r.2.2 s))

/-! PRBS slots. -/

/-- Bits of a slot whose codeword did not decode: a checker in sync goes on, without counting (R224). -/
def prbsSkip (pattern : Nat) (c : PrbsChecker) (n : Nat) : PrbsChecker :=
  if c.inSync then { c with reg := ((prbsRun pattern n c.reg []).1).take (prbsPoly pattern).1 } else {}

/-- PRBS_SLOT_RX (R224): bytes whose codewords did not decode are lost, and checked for nothing. -/
def execPrbsSlotRx (lane : Nat) (s : State) : Host.Outcome State Fault Refusal :=
  match popRx lane 0x04 s with
  | none => .next s
  | some (f, s) =>
    let p := port s lane
    if p.prbs = 1 then .next s
    else
      let step (c : PrbsCount) (b : Byte × Bool) : PrbsCount :=
        if b.2 then (lsbBits 8 b.1.toNat).foldl (prbsCheck p.prbs) c else { c with chk := prbsSkip p.prbs c.chk 8 }
      let c := (f.drop 6).foldl step { chk := p.prbsChk }
      let lost := countBy (fun (b : Byte × Bool) => !b.2) (f.drop 6)
      let s := setPort lane (fun p => { p with prbsLost := p.prbsLost + lost, prbsChk := c.chk, wBits := satAdd 64 p.wBits c.bits, wErrs := satAdd 32 p.wErrs c.errs }) s
      .next (bump 0x060B lane c.errs (bump 0x060A lane c.bits s))

/-! Management. -/

/-- A record copy as read from tile memory (Table 8.4, Table 8.6). -/
def copyOf (g copy : Nat) (b : List Byte) : RecCopy :=
  let len := leAt b 4 4
  let n := leAt b 36 2
  { kind := 1, place := g, location := leAt b 24 2, copy := copy, tileMem := true,
    sound := leAt b 0 2 == 1 && leAt b 2 2 == 1 && len == 8 + 2 * n && decide (n ≤ 512) && leAt b (32 + len) 4 == crc32c (b.take (32 + len)),
    objSerial := leAt b 8 8, devSerial := leAt b 16 8, objGen := leAt b 26 2, recGen := leAt b 28 4,
    body := .user (sint (leAt b 32 2) 16) (bits (leAt b 34 1) 0 4) (bits (leAt b 35 1) 0 4) (if n ≤ 512 then entriesOf (b.drop 40) n else []) }

/-- The factory region read passes the checks of R244. -/
def factoryGood (p : Port) : Bool := p.idBuf.length == 576 && factoryOk p.idBuf

/-- IDENTIFY is complete: identity, thresholds of a tile of design generation 2, MEASURE (R250). -/
def identifyEnd (g : Nat) (s : State) : State :=
  let p := port s g
  let s := identified g p.idBuf (factoryGood p) s
  let s := if leAt p.idBuf 4 1 = 2 then thresholdsOut g s else s
  linkTo g .measure 7 (setPort g (fun p => { p with idBuf := [], userBuf := [] }) s)

/-- The factory region has been read (R229, R244): again after a first failure; a legacy tile is given its index; the user layer
of another tile is read, whether its factory layer passed or not (R250). -/
def factoryRead (g : Nat) (s : State) : State :=
  let p := port s g
  if !factoryGood p && !p.idAgain then
    let s := setPort g (fun p => { p with idBuf := [], idAgain := true }) s
    mgmtSend g 1 0x0200 64 [] (.factory 1) (mgmtSend g 1 0 512 [] (.factory 0) s)
  else
    let legacy := leAt p.idBuf 4 1 == 1
    let s := setPort g (fun p => { p with legacy := legacy, userBuf := List.replicate 8 [] }) s
    if legacy then mgmtSend g 5 g 0 [] .setAddr s
    else forRange 8 s (fun i s => mgmtSend g 1 (0x8000 + 512 * i) 512 [] (.user (i / 4) (i % 4)) s)

/-- Every part of both user-layer copies has been read (R250); a copy whose header is all 0 counts as never written, and one of a record
that REC.DISCARD has discarded since is not valid (R248). -/
def userRead (g : Nat) (s : State) : State :=
  let p := port s g
  let gone := s.tile.discarded.contains { kind := 1, location := g }
  let copy := fun i => let c := copyOf g i ((slice p.userBuf (4 * i) 4).flatten); { c with sound := c.sound && !gone }
  let blank := fun i => ((slice p.userBuf (4 * i) 4).flatten.take 32).all (fun b => b == 0)
  let read := ([0, 1].filter (fun i => !blank i)).map copy
  identifyEnd g { s with tile := { s.tile with recs := s.tile.recs.filter (fun r => !(r.kind == 1 && r.place == g && r.tileMem)) ++ read } }

/-- Some request of IDENTIFY is still outstanding. -/
def identifying (s : State) (g : Nat) : Bool :=
  let f := fun (r : MgmtReq) => match r.use with
    | .factory _ | .user _ _ => true
    | _ => false
  (port s g).mgmt.any f || (port s g).mgmtWait.any f

/-- The choice of R234 among settings 0 to 15: eye height plus 1 of each that works, 0 for one that does not. -/
def peakBest (eyes : List Nat) : Option Nat :=
  (List.range 16).foldl (fun best i => if eyes.getD i 0 = 0 then best
    else match best with
      | none => some i
      | some b => if eyes.getD b 0 < eyes.getD i 0 then some i else some b) none

/-- A SWEEP response (R235): the tile's choice, or its present setting where it could not meet the schedule. -/
def sweepRead (g status : Nat) (data : List Byte) (s : State) : State :=
  let eyes := (List.range 16).map (fun j => if leAt data (4 * j) 2 = 0 then leAt data (4 * j + 2) 1 + 1 else 0)
  let pick := if status = 4 then some (port s g).tilePeak else peakBest eyes
  setPort g (fun p => { p with retrain := p.retrain.map (fun r => { r with downChosen := pick }) }) s

/-- A tile leaves UNCALIBRATED (R248): both calibrations have passed and both records are written. -/
def uncalNote (g : Nat) (s : State) : State :=
  let t := tileOf s g
  let dirty := s.tile.dirty.any (fun d => d.kind ≤ 2 && d.location == g) || (recordFlying s g).isSome
  match t.ident with
  | some (serial, gen) =>
    if t.uniOk && t.regOk && !dirty && (recInUse s 1 g serial gen).isSome && (recInUse s 2 g serial gen).isSome
    then setTile g (fun t => { t with uncal := false }) s else s
  | none => s

/-- A record is written: no discard of it counts any more (R248). -/
def discardOver (kind loc : Nat) (s : State) : State :=
  { s with tile := { s.tile with discarded := s.tile.discarded.filter (fun d => d != { kind := kind, location := loc }) } }

/-- Every piece of a kind 1 record was written: the copy that was being written is sound (R247, R249). -/
def recordDone (g copy : Nat) (s : State) : State :=
  let r := (tileOf s g).ident
  let fix (c : RecCopy) : RecCopy :=
    if c.kind = 1 ∧ c.place = g ∧ c.tileMem ∧ c.copy = copy ∧ c.sound = false ∧ some (c.objSerial, c.objGen) = r then { c with sound := true } else c
  uncalNote g (discardOver 1 g { s with tile := { s.tile with recs := s.tile.recs.map fix } })

/-- What a response does, by what its request was for. -/
def mgmtUse (g : Nat) (r : MgmtReq) (status : Nat) (data : List Byte) (s : State) : State :=
  match r.use with
  | .factory part =>
    let s := setPort g (fun p => { p with idBuf := if part = 0 then data ++ p.idBuf else p.idBuf ++ data }) s
    if identifying s g then s else factoryRead g s
  | .setAddr => identifyEnd g s
  | .user copy part =>
    let s := setPort g (fun p => { p with userBuf := p.userBuf.set (4 * copy + part) data }) s
    if identifying s g then s else userRead g s
  | .thresholds => s
  | .record => if status ≠ 0 then recordLost g (copyAt r.addr) s else if (recordFlying s g).isNone then recordDone g (copyAt r.addr) s else s
  | .hostMem =>
    if status = 0 then memAnswer stOk ((wordsOf (data ++ List.replicate ((4 - data.length % 4) % 4) 0)).map BitVec.toNat) s
    else memAnswer (if status = 4 then stBusy else stFail) [] s
  | .sweep => sweepRead g status data s
  | .setPeak => s

/-- MGMT_RESPONSE_RX (R223). -/
def execMgmtResponseRx (lane : Nat) (s : State) : Host.Outcome State Fault Refusal :=
  match popRx lane 0x12 s with
  | none => .next s
  | some (f, s) =>
    let b := f.map (fun x => x.1)
    if !tailCrcOk b then .next s
    else match (port s lane).mgmt.find? (fun r => r.seq == leAt b 7 1) with
      | none => .next s
      | some r =>
        let s := setPort lane (fun p => { p with mgmt := p.mgmt.filter (fun q => q.seq != r.seq) }) s
        let s := mgmtNext lane s
        .next (mgmtUse lane r (leAt b 9 1) (slice b 16 (leAt b 10 2)) s)

/-- What a request that failed leaves undone (R223, R249). -/
def mgmtFailed (g : Nat) (r : MgmtReq) (s : State) : State :=
  match r.use with
  | .hostMem => memAnswer 0x0602 [] s
  | .record => recordLost g (copyAt r.addr) s
  | _ => s

/-- MGMT_RETRY_TIMEOUT (R223): the oldest request without a response is sent again, or fails after four sendings. -/
def execMgmtRetryTimeout (lane : Nat) (s : State) : Host.Outcome State Fault Refusal :=
  match (port s lane).mgmt with
  | [] => .next s
  | r0 :: t =>
    let r := t.foldl (fun a b => if b.due < a.due then b else a) r0
    let s := atTime r.due s
    if r.sends < 4 then
      let s := setPort lane (fun p => { p with mgmt := p.mgmt.map (fun q => if q.seq = r.seq then { q with sends := q.sends + 1, due := s.now + 100 * usPs } else q) }) s
      .next (txOther lane (mgmtBytes lane r) s)
    else
      let s := setPort lane (fun p => { p with mgmt := p.mgmt.filter (fun q => q.seq != r.seq) }) s
      let s := raise 0x0604 lane 0 (stationLine s (stOf lane)) r.op r.addr r.seq (tick 0x0607 lane s)
      .next (mgmtNext lane (mgmtFailed lane r s))

/-! Probes. -/

/-- PROBE_TIMER (R195): a probe every 1 ms while ONLINE. -/
def execProbeTimer (lane : Nat) (s : State) : Host.Outcome State Fault Refusal :=
  let p := port s lane
  if p.st ≠ .online then .next s
  else
    let s := atTime p.nextProbe s
    .next (probeSend lane s.now (setPort lane (fun p => { p with nextProbe := s.now + msPs }) s))

/-- The wait of an echo for its block boundary, in ps, from the probe's arrival phase: it is no part of the round trip (R219; DEDUCED, log
entry 88). -/
def echoWait (phase : Nat) : Nat := (64 - phase) % 64 * 100

/-- ECHO_RX (R219, R226): an echo block's payload and the time `t` in ps of its arrival. One whose CRC-16 fails, that answers no probe
outstanding, or that comes after 10 µs is ignored. -/
def execEchoRx (lane : Nat) (bytes : List Byte) (t : Nat) (s : State) : Host.Outcome State Fault Refusal :=
  let p := port s lane
  .next (match p.probes.find? (fun q => q.1 == leAt bytes 2 2) with
    | none => s
    | some q =>
      if !setOk 0xB6 bytes || decide (q.2 + 10 * usPs < t) then s
      else
        let s := atTime t s
        let rtt := t - q.2 - echoWait (bits (leAt bytes 1 1) 0 6)
        let s := setPort lane (fun p => { p with probes := p.probes.filter (fun x => x.1 != q.1) }) s
        if p.st = .measure then measured lane (setPort lane (fun p => { p with measures := p.measures ++ [rtt] }) s)
        else if reports p.st then latencyNew lane rtt s
        else s)

/-- PROBE_TIMEOUT (R219): the oldest probe outstanding has had no echo within 10 µs. -/
def execProbeTimeout (lane : Nat) (s : State) : Host.Outcome State Fault Refusal :=
  match (port s lane).probes with
  | [] => .next s
  | q :: t =>
    let s := atTime (q.2 + 10 * usPs) s
    .next (measured lane (tick 0x0606 lane (setPort lane (fun p => { p with probes := t }) s)))

/-! Acquisition and timers. -/

/-- ACQUIRE_PEAK_TIMER (R228): the next peaking setting, every 200 µs; the uplink's eye height is measured. -/
def execAcquirePeakTimer (lane eye : Nat) (s : State) : Host.Outcome State Fault Refusal :=
  let p := port s lane
  if p.st ≠ .acquire then .next s
  else
    let s := atTime p.acqNext s
    let keep := p.blockLock && p.cwLock && p.frameLock
    .next (lockNote lane (setPort lane (fun p => { p with
      eye := eye, acqNext := s.now + 200 * usPs, acqTried := if keep then p.acqTried else p.acqTried + 1,
      devPeak := if keep then p.devPeak else p.acqTried % 16 }) s))

/-- ACQUIRE_RATE_TIMER (R228): half rate after 8 ms, OFFLINE after 8 ms more. -/
def execAcquireRateTimer (lane : Nat) (s : State) : Host.Outcome State Fault Refusal :=
  let p := port s lane
  if p.st ≠ .acquire then .next s
  else
    let s := atTime p.acqEnd s
    if p.acqHalfTried then .next (linkTo lane .offline 7 (setPort lane (fun p => { p with half := false }) s))
    else
      let pk := firstPeak s lane
      .next (setPort lane (fun p => { txReset (rxReset p) with
        half := true, acqHalfTried := true, devPeak := pk, acqTried := 0, acqNext := s.now + 200 * usPs, acqEnd := s.now + 8 * msPs }) s)

/-- OFFLINE_RETRY_TIMER (R227): every 10 s. -/
def execOfflineRetryTimer (lane : Nat) (s : State) : Host.Outcome State Fault Refusal :=
  let p := port s lane
  if p.st ≠ .offline then .next s else .next (linkTo lane .acquire 7 (atTime (p.since + 10000 * msPs) s))

/-- MGMT_ONLY_RETRY_TIMER (R227): every 60 s. -/
def execMgmtOnlyRetryTimer (lane : Nat) (s : State) : Host.Outcome State Fault Refusal :=
  let p := port s lane
  if p.st ≠ .mgmtOnly then .next s else .next (linkTo lane .acquire 7 (atTime (p.since + 60000 * msPs) s))

/-- FAST_EXIT_TIMEOUT (R231): frame lock was not regained both ways within 100 µs. -/
def execFastExitTimeout (lane : Nat) (s : State) : Host.Outcome State Fault Refusal :=
  match (port s lane).st, (port s lane).exitAt with
  | .idle, some t => .next (linkTo lane .acquire 7 (atTime t s))
  | _, _ => .next s

/-- IDLE_ENTER_RX (R226, R230): an idle-enter block's payload: the tile goes silent too; a lane that is not going to idle ignores it. -/
def execIdleEnterRx (rx : SetRx) (s : State) : Host.Outcome State Fault Refusal :=
  .next (if setOk 0xB7 rx.bytes && (port s rx.lane).st == .idle then setPort rx.lane (fun p => { p with idleRx := true }) s else s)

/-! Errors and retrains. -/

/-- The measurement window starts again (R238). -/
def windowRestart (g : Nat) (s : State) : State :=
  setPort g (fun p => { p with winStart := s.now, wUpCorr := 0, wDnCorr := 0, wUpUnc := 0, wDnUnc := 0, wBits := 0, wErrs := 0 }) s

/-- LINK_ERROR_WINDOW (R232): the window ends and its values are held against the thresholds; the eye height is measured. -/
def execLinkErrorWindow (lane eye : Nat) (s : State) : Host.Outcome State Fault Refusal :=
  let p := port s lane
  if p.st ≠ .online then .next s
  else
    let s := setPort lane (fun p => { p with eye := eye }) (atTime (p.winStart + p.windowMs * msPs) s)
    let up := decide (p.retrainCorr < p.wUpCorr ∨ p.uncorrLimit ≤ p.wUpUnc)
    let dn := decide (p.retrainCorr < p.wDnCorr ∨ p.uncorrLimit ≤ p.wDnUnc)
    let s := windowRestart lane s
    if !up && !dn then .next s
    else
      let s := raise 0x0603 lane 0 (stationLine s (stOf lane)) (b2n up + 2 * b2n dn) (p.wUpCorr + p.wDnCorr) (p.wUpUnc + p.wDnUnc) s
      .next (if gapHas s (.retrain lane) then s else gapPend (.retrain lane) (some (1 <<< stOf lane)) none s)

/-- Peaking settings that differ from the tile's kind 1 record are to be written to it (R249). -/
def peakNote (g : Nat) (s : State) : State :=
  match (tileOf s g).ident with
  | none => s
  | some (serial, rev) =>
    let u := userOf (recInUse s 1 g serial rev)
    let p := port s g
    if u.2.1 = p.devPeak ∧ u.2.2.1 = p.tilePeak then s else recDirty 1 g s

/-- A lane's retrain begins in its gap (Table 7.12 steps 1 and 2): SWEEP with the schedule of R235. -/
def retrainStart (g : Nat) (s : State) : State :=
  if (port s g).st ≠ .online then s
  else
    let s := tick 0x0609 g (linkTo g .retrain 7 s)
    mgmtSend g 4 0 8 (leBytes 4 0x68 ++ leBytes 2 6 ++ leBytes 1 0xF0 ++ leBytes 1 0) .sweep s

/-- Eye height plus 1 of a setting that worked over its dwell of 5,000 symbols, else 0 (R234): symbols corrected, codewords failed, PRBS bit
errors, eye height. -/
def settingEye (m : Nat × Nat × Nat × Nat) : Nat := if m.2.1 = 0 ∧ m.1 * 100000 < 5000 ∧ m.2.2.1 = 0 then m.2.2.2 + 1 else 0

/-- Steps 6 to 8 of a retrain (Table 7.12): SET_PEAK with the tile's setting, 4 probes, ONLINE; without lock both ways the lane goes DOWN. -/
def retrainTile (g t0 t : Nat) (s : State) : State :=
  let s := mgmtSend g 3 t 0 [] .setPeak (setPort g (fun p => { p with tilePeak := t }) (atTime (t0 + 218 * usPs) s))
  let s := atTime (t0 + 234 * usPs) s
  if !locked (port s g) then linkTo g .down 2 s
  else
    let s := forRange 4 s (fun i s => probeSend g (s.now + i * blockPs (port s g).half) s)
    trainSettle g true (peakNote g (linkTo g .online 7 (atTime (t0 + 246 * usPs) s)))

/-- Steps 2 to 8 of a retrain (Table 7.12, R234), from the measurements of the device's 16 settings: the device's choice at 100 µs, the
downlink's PRBS slots from 106 to 202 µs, the tile's choice at 218 µs. A direction with no working setting takes the lane DOWN. -/
def retrainEnd (g : Nat) (up : List (Nat × Nat × Nat × Nat)) (s : State) : State :=
  match (port s g).st, (port s g).retrain with
  | .retrain, some r =>
    let t0 := (port s g).since
    let eyes := up.map settingEye
    let s := atTime (t0 + 100 * usPs) s
    match peakBest eyes with
    | none => linkTo g .down 5 s
    | some d =>
      let s := setPort g (fun p => { p with devPeak := d, eye := eyes.getD d 0 - 1, swing := p.swingNext, pre := p.preNext, post := p.postNext }) s
      let s := atTime (t0 + 106 * usPs) s
      let s := if (port s g).prbs = 1 then s else forRange (96 * usPs / frameTime false 1030) s (fun _ s => prbsSlot g s)
      match r.downChosen with
      | none => linkTo g .down 5 (atTime (t0 + 218 * usPs) s)
      | some t => retrainTile g t0 t s
  | _, _ => s

/-! Commands (R238, R239). -/

/-- LINK_STATUS. -/
def execLinkStatus (s : State) : Host.Outcome State Fault Refusal :=
  .next (serve 0x0601 .immediate [0x7F] (fun ws s =>
    let g := par ws 2
    if 96 ≤ g then .refuse s stBadParam
    else
      let p := port s g
      let secs := if p.onlineAt = 0 then 0 else Nat.min (2 ^ 32 - 1) ((s.now - p.onlineAt) / 1000000000000)
      { st := s, results := [fld p.st.code 0 4 + fld (b2n p.half) 4 1 + fld (b2n p.legacy) 5 1 + fld (b2n p.dnlock) 6 1
          + fld p.devPeak 8 4 + fld p.tilePeak 12 4, fld p.swing 0 5 + fld p.pre 8 4 + fld p.post 16 5, fld p.eye 0 16, secs] }) s)

/-- LINK_TRAIN (R237, R239). -/
def execLinkTrain (s : State) : Host.Outcome State Fault Refusal :=
  .next (serve 0x0602 .deferred [0x17F] (fun ws s =>
    let g := bits (par ws 2) 0 7
    let st := stOf g
    let lane := (port s g).st
    if 96 ≤ g then .refuse s stBadParam
    else if lane ≠ .online ∧ lane ≠ .retrain then .refuse s 0x0601
    else
      let tiles := if bitOf (par ws 2) 8 then (tilesOf st).filter (fun h => (port s h).st == .online || h == g) else [g]
      let named := maskOf (tiles.map (fun h => h % 16))
      let s' := forList tiles s (fun h s =>
        if gapHas s (.retrain h) || (port s h).st == .retrain then s else gapPend (.retrain h) (some (1 <<< st)) none s)
      if !stationLive s st then { st := s', results := [named] }
      else
        { st := { s' with link := { s'.link with trains := s'.link.trains ++ [{ oid := s'.host.nextOid, station := st, named := named, left := named }] } },
          status := stDeferred }) s)

/-- The fields of LINK_CONFIG are in range (Table 7.16). -/
def linkConfigOk (ws : List Word) : Bool :=
  let w3 := par ws 3
  let win := bits (par ws 6) 8 16
  decide (bits (par ws 2) 0 7 < 96 ∧ bits w3 0 5 ≤ 14 ∧ bits w3 8 4 ≤ 10 ∧ bits w3 16 5 ≤ 20 ∧ bits (par ws 4) 0 3 ≤ 6 ∧
    (win = 0 ∨ (100 ≤ win ∧ win ≤ 10000)))

/-- LINK_CONFIG (R238): 0 leaves a value as it is. -/
def execLinkConfig (s : State) : Host.Outcome State Fault Refusal :=
  .next (serve 0x0603 .immediate [0x17F, 0x1F0F1F, 7, 0xFFFFFF, 0xFFFFFF] (fun ws s =>
    if !linkConfigOk ws then .refuse s stBadParam
    else
      let keep (new old : Nat) : Nat := if new = 0 then old else new
      let w3 := par ws 3
      let w6 := par ws 6
      let lanes := if bitOf (par ws 2) 8 then List.range 96 else [bits (par ws 2) 0 7]
      { st := forList lanes s (fun g s => setPort g (fun p => { p with
          swingNext := keep (bits w3 0 5) p.swingNext, preNext := keep (bits w3 8 4) p.preNext, postNext := keep (bits w3 16 5) p.postNext,
          prbs := keep (bits (par ws 4) 0 3) p.prbs, retrainCorr := keep (bits (par ws 5) 0 24) p.retrainCorr,
          prbsChk := if bits (par ws 4) 0 3 = 0 then p.prbsChk else {},
          prbsReg := if bits (par ws 4) 0 3 = 0 then p.prbsReg else List.replicate 31 true,
          uncorrLimit := keep (bits w6 0 8) p.uncorrLimit, windowMs := keep (bits w6 8 16) p.windowMs }) s) }) s)

/-- The lanes of a mask in words 3 to 5. -/
def maskLanes (ws : List Word) : List Nat := (List.range 96).filter (fun g => bitOf (par ws (3 + g / 32)) (g % 32))

/-- A set of lanes in the layout of words 3 to 5. -/
def laneWords (ls : List Nat) : List Nat := (List.range 3).map (fun w => maskOf ((ls.filter (fun g => g / 32 == w)).map (fun g => g % 32)))

/-- The states that LINK.ENABLE off leaves (Table 7.11): others stay as they are (R239). -/
def offable (l : LinkSt) : Bool := l == .online || l == .idle || l == .mgmtOnly || l == .offline || l == .test

/-- Turns a lane off (R227, R257). -/
def laneOff (g : Nat) (s : State) : State :=
  let s := if (port s g).st = .retrain then trainSettle g false s else s
  linkMove g .off 0 { s with test := { s.test with raw := s.test.raw.set g none } }

/-- Turns lanes off; the attempts of live calibration of those that leave ONLINE end together (R316). -/
def lanesOff (ls : List Nat) (s : State) : State :=
  let up := ls.filter (fun g => (port s g).st == .online)
  let s := forList ls s laneOff
  forRange 6 s (fun st s => calReset st (maskOf ((up.filter (fun g => stOf g == st)).map (fun g => g % 16))) (fun _ => true) s)

/-- Turns an OFF lane on (R227). -/
def laneOn (g : Nat) (s : State) : State := if (port s g).st = .off then linkTo g .acquire 0 s else s

/-- A lane goes to idle: 8 idle-enter ordered sets, then silence (R230). -/
def laneIdle (g : Nat) (s : State) : State :=
  let b := Nat.max (port s g).txBlock (blockFrom (port s g).half s.now)
  let s := txAdvance g (b + 16) (forRange 8 s (fun _ s => txSet g b false (setBytes 0xB7 0 0) s))
  linkTo g .idle 0 (setPort g (fun p => { p with idleRx := false }) s)

/-- LINK_ENABLE (R230, R231, R239). -/
def execLinkEnable (s : State) : Host.Outcome State Fault Refusal :=
  .next (serve 0x0604 .immediate [3, allBits, allBits, allBits] (fun ws s =>
    let lanes := maskLanes ws
    let sel (want : LinkSt → Bool) := lanes.filter (fun g => want (port s g).st)
    match par ws 2 % 4 with
    | 0 =>
      if lanes.any (fun g => stationLive s (stOf g)) then .refuse s stPageLocked
      else let ls := sel offable; { st := lanesOff ls s, results := laneWords ls }
    | 1 => let ls := sel (fun l => l == .off); { st := forList ls s laneOn, results := laneWords ls }
    | 2 =>
      if lanes.any (fun g => stationLive s (stOf g)) then .refuse s stPageLocked
      else let ls := sel (fun l => l == .online); { st := forList ls s laneIdle, results := laneWords ls }
    | _ =>
      let ls := sel (fun l => l == .idle)
      { st := forList ls s (fun g s => setPort g (fun p => { p with exitAt := some (s.now + 100 * usPs) }) s), results := laneWords ls }) s)

/-- LINK_ERRORS (R238): the window is read and starts again. -/
def execLinkErrors (s : State) : Host.Outcome State Fault Refusal :=
  .next (serve 0x0605 .immediate [0x7F] (fun ws s =>
    let g := par ws 2
    if 96 ≤ g then .refuse s stBadParam
    else
      let p := port s g
      { st := windowRestart g s,
        results := [p.wUpCorr, p.wDnCorr, fld p.wUpUnc 0 16 + fld p.wDnUnc 16 16] ++ two p.wBits ++ [p.wErrs, (s.now - p.winStart) / msPs] }) s)

end Sys2Proof.Machine
end

