-- ==== Sys2Proof/Machine/Records.lean ====
section
/-! DEFINITION. Writing and discarding persistent records (R246 to R249), and the tile commands (R253, R256, R257, R267). -/

namespace Sys2Proof.Machine

/-! Writing. -/

/-- The object a record describes now: its serial and generation (Table 8.5); none where it is not there. -/
def recObject (s : State) (kind loc : Nat) : Option (Nat × Nat) :=
  match kind with
  | 1 | 2 => (tileOf s loc).ident
  | 3 => some (fingerprint s (loc / 16), 0)
  | _ => ((s.tile.slots.getD loc {}).authUid).map (fun u => (u, 0))

/-- The content a record would have if it were written now (Table 8.5, Table 8.6). -/
def recBody (s : State) (kind loc : Nat) : RecBody :=
  match kind with
  | 1 => .user (dly s loc).regCal (port s loc).devPeak (port s loc).tilePeak (tileOf s loc).uw
  | 2 =>
    let lo := stOf loc * 65536 + 4096 * (loc % 16)
    .tone ((s.exp.tone.filter (fun p => decide (lo ≤ p.1 ∧ p.1 < lo + 4096))).filterMap (fun p =>
      match p.2 with
      | v :: _ => if v.knots = toneNeutral then none else some (p.1 - lo, v.knots)
      | [] => none))
  | 3 => .training (s.mem.chans.getD (loc / 16) {}).centre
  | _ => let c := s.tile.slots.getD loc {}; .count c.confirmed c.pending

/-- The copy that a write makes: the one not in use, its REC_GEN one above (R247). -/
def recNext (s : State) (kind loc serial gen : Nat) : RecCopy :=
  let used := recInUse s kind loc serial gen
  let newest := (recCopies s kind loc).foldl (fun a r => match a with
    | none => some r
    | some (x : RecCopy) => if genNewer r.recGen x.recGen then some r else some x) none
  let base := match used with | some r => some r | none => newest
  { kind := kind, place := loc, location := loc, tileMem := inTile s kind loc, copy := (used.map (fun r => 1 - r.copy)).getD 0, objSerial := serial,
    devSerial := s.board.serial.toNat, objGen := gen, recGen := (((base.map RecCopy.recGen).getD 0) + 1) % 2 ^ 32,
    body := recBody s kind loc }

/-- The content bytes of a kind 1 record (Table 8.6). -/
def userBytes (b : RecBody) : List Byte :=
  match b with
  | .user c d t es => leBytes 2 (unsig c 16) ++ leBytes 1 d ++ leBytes 1 t ++ leBytes 2 es.length ++ leBytes 2 0 ++ (es.map (leBytes 2)).flatten
  | _ => []

/-- A kind 1 record as it is written to tile memory (Table 8.4). -/
def copyBytes (r : RecCopy) : List Byte :=
  let c := userBytes r.body
  let b := leBytes 2 r.kind ++ leBytes 2 1 ++ leBytes 4 c.length ++ leBytes 8 r.objSerial ++ leBytes 8 r.devSerial
    ++ leBytes 2 r.location ++ leBytes 2 r.objGen ++ leBytes 4 r.recGen ++ c
  b ++ leBytes 4 (crc32c b)

/-- Replaces a copy of a record. -/
def putCopy (r : RecCopy) (s : State) : State :=
  { s with tile := { s.tile with recs := s.tile.recs.filter (fun q => !(q.kind == r.kind && q.place == r.place && q.tileMem == r.tileMem && q.copy == r.copy)) ++ [r] } }

/-- Writes a record now (R249); a channel with no set left to train leaves UNCALIBRATED as its record is written (DEDUCED, log entry 92):
tile memory by management WRITEs, device flash at once. -/
def recWrite (kind loc serial gen : Nat) (s : State) : State :=
  let r := recNext s kind loc serial gen
  let d : RecDirty := { kind := kind, location := loc }
  let s := { s with tile := { s.tile with
    dirty := s.tile.dirty.filter (fun x => x != d), lastWrite := natSet s.tile.lastWrite (kind * 65536 + loc) s.now } }
  if r.tileMem then
    let bs := copyBytes r
    let n := (bs.length + 511) / 512
    forRange n (putCopy { r with sound := false } s) (fun i s =>
      mgmtSend loc 2 (0x8000 + 0x800 * r.copy + 512 * i) 0 (slice bs (512 * i) 512) .record s)
  else
    let s := discardOver kind loc (putCopy r s)
    let s := if kind = 3 ∧ s.mem.rateDue = some (loc % 16) then
        { s with board := { s.board with bootRate := loc % 16 }, mem := { s.mem with rateDue := none } }
      else s
    let s := if kind = 3 then { s with mem := { s.mem with chans := updAt s.mem.chans (loc / 16) (fun d =>
        { d with uncal := d.uncal && s.mem.trainDue.any (fun p => p.1 == loc / 16) }) } } else s
    if kind ≤ 2 then uncalNote loc s else s

/-- The place of a record may be written now: a tile record only while its tile is ONLINE (R249). -/
def recMayWrite (s : State) (kind loc : Nat) : Bool := decide (2 < kind) || (port s loc).st == .online

/-- RECORD_WRITE (R249): a changed record, at most once per 10 s. -/
def execRecordWrite (kind location : Nat) (s : State) : Host.Outcome State Fault Refusal :=
  let d : RecDirty := { kind := kind, location := location }
  if !s.tile.dirty.contains d || !recMayWrite s kind location then .next s
  else match recObject s kind location with
    | none => .next s
    | some (serial, gen) =>
      let last := mapGet s.tile.lastWrite (kind * 65536 + location)
      .next (recWrite kind location serial gen (match last with | some t => atTime (t + 10000000000000) s | none => s))

/-! Discarding. -/

/-- A tile is marked UNCALIBRATED: its calibrations have to pass again (R248). -/
def tileUncal (g : Nat) (s : State) : State :=
  setTile g (fun t => { t with uncal := true, uniOk := false, regOk := false }) (calResetTile g s)

/-- Notes a record as discarded by the host, its copies as not valid, and that it is to be written anew (`again`) or not (R248, R249). -/
def discardNote (kind loc : Nat) (again : Bool) (s : State) : State :=
  let d : RecDirty := { kind := kind, location := loc }
  let gone (r : RecCopy) : RecCopy := if r.kind = kind ∧ r.place = loc ∧ r.tileMem = inTile s kind loc then { r with sound := false } else r
  { s with tile := { s.tile with
    recs := s.tile.recs.map gone
    discarded := if s.tile.discarded.contains d then s.tile.discarded else s.tile.discarded ++ [d]
    dirty := if !again then s.tile.dirty.filter (fun x => x != d) else if s.tile.dirty.contains d then s.tile.dirty else s.tile.dirty ++ [d] } }

/-- What a discard falls back to (R248, R267), with cause HOST. The fallback of a tile record is new content, so the record is written
(R249); the others wait for their next training or count. -/
def recDiscard (kind loc : Nat) (s : State) : State :=
  let obj := (recObject s kind loc).getD (0, 0)
  let s := discardNote kind loc (decide (kind ≤ 2)) (recStale kind loc obj.1 obj.2 true s)
  match kind with
  | 1 =>
    let s := setDly loc (fun d => { d with regCal := 0, calDebt := d.calDebt - d.regCal, calWait := d.calWait && d.regCal == 0 }) s
    let s := setTile loc (fun t => { t with uw := [] }) (tileUncal loc s)
    queueCodes loc (tileOf s loc).dw false s
  | 2 => moveCurves loc [] false (tileUncal loc s)
  | 3 =>
    let c := loc / 16
    let bit := 1 <<< (loc % 16)
    let st := (s.mem.chans.getD c {}).st
    trainNext { s with mem := { s.mem with
      trainDue := if st = .absent ∨ st = .retired then s.mem.trainDue else s.mem.trainDue ++ [(c, loc % 16)]
      chans := updAt s.mem.chans c (fun x => { x with sets := if bitOf x.sets (loc % 16) then x.sets - bit else x.sets, uncal := true }) } }
  | _ => s

/-- LOCATION is in range for a kind (Table 8.5). -/
def locOk (kind loc : Nat) : Bool :=
  match kind with
  | 1 | 2 => decide (loc < 96)
  | 3 => decide (loc < 64 ∧ loc % 16 < 5)
  | 4 => decide (loc < 32)
  | _ => false

/-- REC_DISCARD. -/
def execRecDiscard (s : State) : Host.Outcome State Fault Refusal :=
  .next (serve 0x0704 .immediate [7, 0xFFFF] (fun ws s =>
    if !locOk (par ws 2) (par ws 3) then .refuse s stBadParam else { st := recDiscard (par ws 2) (par ws 3) s }) s)

/-! Tile commands. -/

/-- TILE_INFO. -/
def execTileInfo (s : State) : Host.Outcome State Fault Refusal :=
  .next (serve 0x0701 .immediate [0x7F] (fun ws s =>
    let g := par ws 2
    if 96 ≤ g then .refuse s stBadParam
    else
      let t := tileOf s g
      match t.hdr with
      | none => .refuse s stState
      | some h =>
        { st := s, results := two h.serial ++ [fld h.gen 0 8 + fld h.rev 8 16, unsig h.rank 16 + fld h.rb 16 16,
            fld h.turnaround 0 16 + fld h.fireLat 16 16, unsig h.asym 16 + fld (unsig h.limit 16) 16 16, fld h.xoff 0 16 + fld h.xscale 16 16,
            fld h.skew 0 16 + fld h.bow 16 16, fld t.dw.length 0 9 + fld t.uw.length 16 10,
            fld (b2n t.uncal) 0 1 + fld (b2n (t.hold != 0)) 1 1 + fld (if t.hot then 2 else b2n t.warn) 2 2 + fld (b2n t.factoryFail) 4 1,
            unsig t.temp 16] }) s)

/-- New margins of a station: 0 leaves a value as it is. -/
def newMargins (s : State) (st w h y : Nat) : Nat × Nat × Nat :=
  let m := marginsOf s st
  (if w = 0 then m.1 else w, if h = 0 then m.2.1 else h, if y = 0 then m.2.2 else y)

/-- The ranges of Table 8.12. -/
def marginsOk (m : Nat × Nat × Nat) : Bool :=
  decide (32 ≤ m.1 ∧ m.1 ≤ 1280 ∧ 16 ≤ m.2.1 ∧ m.2.1 ≤ 640 ∧ m.2.1 < m.1 ∧ 16 ≤ m.2.2 ∧ m.2.2 ≤ 160 ∧ m.2.2 < m.2.1)

/-- TILE_THERMAL: the new thresholds go to the stations' tiles of design generation 2, to those that do not answer now when they are
ONLINE again (IDLE and RETRAIN), or by their IDENTIFY (R250). -/
def execTileThermal (s : State) : Host.Outcome State Fault Refusal :=
  .next (serve 0x0702 .immediate [0x3F, allBits, 0xFFFF] (fun ws s =>
    let sts := bitList 6 (par ws 2)
    let w := bits (par ws 3) 0 16
    let h := bits (par ws 3) 16 16
    let y := par ws 4
    match sts with
    | [] => .refuse s stBadParam
    | s0 :: _ =>
      if !(sts.all (fun st => marginsOk (newMargins s st w h y))) then .refuse s stBadParam
      else
        let s := forList sts s (fun st s => { s with tile := { s.tile with margins := s.tile.margins.set st (newMargins s st w h y) } })
        let tell := ((sts.map tilesOf).flatten).filter (fun g => (((tileOf s g).hdr).map (fun h => h.gen == 2)).getD false)
        let s := forList tell s (fun g s => if linkHeld (port s g).st then thresholdsOut g s else setTile g (fun t => { t with thrDue := true }) s)
        let m := marginsOf s s0
        { st := s, results := [fld m.1 0 16 + fld m.2.1 16 16, m.2.2] }) s)

/-- The bytes that words from 5 on spell. -/
def memData (ws : List Word) (n : Nat) : List Byte := (((List.range 56).map (fun i => leBytes 4 (par ws (5 + i)))).flatten).take n

/-- TILE_MEM: a management READ or WRITE of the host area; the slot stays ACTIVE until the tile has answered. -/
def execTileMem (s : State) : Host.Outcome State Fault Refusal :=
  .next (serve 0x0703 .immediate ([0x17F, 0x1FFF, 0xFF] ++ List.replicate 56 allBits) (fun ws s =>
    let g := bits (par ws 2) 0 7
    let write := bitOf (par ws 2) 8
    let off := par ws 3
    let n := par ws 4
    let st := (port s g).st
    if 96 ≤ g ∨ n = 0 ∨ 224 < n ∨ 8192 < off + n then .refuse s stBadParam
    else if (port s g).legacy then .refuse s stState
    else if !linkHeld st then .refuse s 0x0601
    else
      let s := { s with active := some { slot := 0, lane := g, write := write } }
      { st := mgmtSend g (if write then 2 else 1) (0xA000 + off) n (if write then memData ws n else []) .hostMem s, hold := true }) s)

/-- Changes a station's tile power sideband. -/
def setTsb (st : Nat) (f : TileSideband → TileSideband) (s : State) : State :=
  { s with tile := { s.tile with tsb := updAt s.tile.tsb st f } }

/-- TILE_POWER (R256, R257). -/
def execTilePower (s : State) : Host.Outcome State Fault Refusal :=
  .next (serve 0x0705 .immediate [0x307, 0x3FF] (fun ws s =>
    let st := bits (par ws 2) 0 3
    let on := bitOf (par ws 2) 8
    let high := bitOf (par ws 2) 9
    let ms := if par ws 3 = 0 then 100 else par ws 3
    if 6 ≤ st ∨ 1000 < ms then .refuse s stBadParam
    else if on then
      { st := setTsb st (fun t => { t with driven := true, on := true, activeHigh := high, delayEnd := some (s.now + ms * msPs) }) s }
    else if stationLive s st then .refuse s stPageLocked
    else
      let s := setTsb st (fun t => { t with driven := true, on := false, activeHigh := high, delayEnd := none }) s
      { st := lanesOff ((tilesOf st).filter (fun g => (port s g).st != .off)) s }) s)

/-- TILE_POWER_DELAY_EXPIRY (R257). -/
def execTilePowerDelayExpiry (station : Nat) (s : State) : Host.Outcome State Fault Refusal :=
  match (s.tile.tsb[station]?).bind TileSideband.delayEnd with
  | none => .next s
  | some t => .next (forList (tilesOf station) (setTsb station (fun t => { t with delayEnd := none }) (atTime t s)) laneOn)

end Sys2Proof.Machine
end

