-- ==== Sys2Proof/Machine/Cons.lean ====
section
/-! DEFINITION. Authenticated consumables (R258 to R265) and their commands (R266, R267). -/

namespace Sys2Proof.Machine

def slotOf (s : State) (n : Nat) : ConsSlot := s.tile.slots.getD n {}

def setCons (n : Nat) (f : ConsSlot → ConsSlot) (s : State) : State :=
  { s with tile := { s.tile with slots := updAt s.tile.slots n f } }

/-- Usage: confirmed + PENDING up to MAX (R263). -/
def consUsage (c : ConsSlot) : Nat := Nat.min c.max (c.confirmed + c.pending)

/-- A slot's new state with EV_CONS_STATE (Table 8.14). -/
def consTo (n : Nat) (new : ConsSt) (cause : Nat) (s : State) : State :=
  let c := slotOf s n
  if c.st = new then s
  else
    let s := setCons n (fun c => { c with st := new }) s
    raise 0x0705 n 0 0 (new.code + c.st.code * 256 + cause * 65536) (consUsage c) (c.uid % 2 ^ 32) s

/-- A request as it is written to the chip (R259). -/
def consRequest (cmd : Nat) (payload : List Byte) : List Byte :=
  let b := leBytes 1 cmd ++ leBytes 2 payload.length ++ payload
  b ++ leBytes 2 (crc16Ccitt b)

/-- K of a chip (R259). -/
def consKey (master : List Byte) (uid : Nat) : List Byte := hmac256 master (leBytes 8 uid)

/-- The payload of a request (Table 8.9). -/
def consPayload (s : State) (c : ConsSlot) : Nat × List Byte :=
  match c.req with
  | .challenge nonce => (2, leBytes 16 nonce)
  | .increment nonce delta =>
    let k := consKey (s.tile.master.getD []) c.uid
    (3, leBytes 4 delta ++ leBytes 16 nonce ++ hmac256 k (leBytes 8 c.uid ++ leBytes 4 c.confirmed ++ leBytes 4 delta ++ leBytes 16 nonce))
  | _ => (1, [])

/-- Sends the request that a slot holds. -/
def consSend (n : Nat) (s : State) : State :=
  let q := consPayload s (slotOf s n)
  emit (.cons (n / 8) (0x50 + n % 8) (consRequest q.1 q.2)) (setCons n (fun c => { c with busy := 0, crcBad := 0, retryAt := none }) s)

/-- Authentication begins (R260), or follows the request under way. -/
def authStart (n : Nat) (s : State) : State :=
  let s := setCons n (fun c => { c with authAt := s.now + minute }) s
  match (slotOf s n).req with
  | .none => consSend n (setCons n (fun c => { c with req := .cert, authDue := false }) s)
  | .increment _ _ => setCons n (fun c => { c with authDue := true }) s
  | _ => s

/-- A slot's authentication has ended: every CONS.AUTH that waits for it notes it. -/
def authSettle (n status : Nat) (s : State) : State :=
  let note (a : AuthCmd) : AuthCmd :=
    if bitOf a.left n then
      { a with left := a.left - (1 <<< n), passed := if status = 0 then a.passed ||| (1 <<< n) else a.passed,
               status := if a.status = 0 then status else a.status }
    else a
  { s with tile := { s.tile with auths := s.tile.auths.map note } }

/-- Completes the CONS.AUTH commands whose slots have all ended (R267). -/
def authDone (s : State) : State :=
  let done := s.tile.auths.filter (fun a => a.left == 0)
  forList done { s with tile := { s.tile with auths := s.tile.auths.filter (fun a => a.left != 0) } } (fun a s => complete a.oid a.status [a.passed] s)

/-- The request under way has ended; a wanted authentication follows. -/
def reqEnd (n : Nat) (s : State) : State :=
  let s := setCons n (fun c => { c with req := .none, busy := 0, crcBad := 0, retryAt := none }) s
  if (slotOf s n).authDue then authStart n s else s

/-- An authentication or an INCREMENT check failed: FAILED (R260, R263); only a CONS.AUTH that waits authenticates it again (R261). -/
def consFail (n cause status : Nat) (s : State) : State :=
  let auth := match (slotOf s n).req with | .increment _ _ => false | _ => true
  let s := setCons n (fun c => { c with req := .none, retryAt := none }) s
  let s := if auth then authSettle n status (tick 0x0704 n s) else s
  let s := consTo n .failed cause s
  if (slotOf s n).authDue && s.tile.auths.any (fun a => bitOf a.left n) then authStart n s else setCons n (fun c => { c with authDue := false }) s

/-- A bus error (R259): counted; the third in a row fails the slot, else the request is sent again. -/
def busError (n : Nat) (s : State) : State :=
  let s := tick 0x0707 (n / 8) s
  let s := setCons n (fun c => { c with busErrs := c.busErrs + 1 }) s
  if 3 ≤ (slotOf s n).busErrs then consFail n 6 0x0702 (setCons n (fun c => { c with busErrs := 0 }) s) else consSend n s

/-- The certificate (R260 step 1). -/
def certTake (n : Nat) (p : List Byte) (s : State) : State :=
  let key := leAt p 9 1
  let root := (s.tile.roots.getD key none)
  let good := match root with
    | none => false
    | some q => p.length == 144 && ecdsaOk q (p.take 80) (slice p 80 64)
  if !good then consFail n 1 stAuth s
  else
    let d := drawNat s
    consSend n (setCons n (fun c => { c with
      uid := leAt p 0 8, kind := leAt p 8 1, keyIdx := key, max := leAt p 12 4, pubKey := (beNat (slice p 16 32), beNat (slice p 48 32)),
      req := .challenge (d.2 % 2 ^ 128) }) d.1)

/-- The count last confirmed for a UID, from a valid kind 4 record, with the charges it keeps (R260, R264). -/
def consRecord (s : State) (n uid : Nat) : Option (Nat × Nat) :=
  match (recInUse s 4 n uid 0).map RecCopy.body with
  | some (.count c p) => some (c, p)
  | _ => none

/-- A chip passed (R260, R264): its count, the charges held for its UID, and its state. Charges of another UID, PENDING and ACC, are lost;
those made before any UID was known go to this one (DEDUCED, log entry 89). -/
def consPass (n count : Nat) (s : State) : State :=
  let c := slotOf s n
  let other := c.authUid.isSome && c.authUid != some c.uid
  let s := if c.authUid == some c.uid || (consRecord s n c.uid).isSome then s else recStale 4 n c.uid 0 false s
  let s := bump 0x0706 n (if other then c.pending + c.acc else 0) s
  let s := setCons n (fun c => { c with authUid := some c.uid, confirmed := count, pending := if other then 0 else c.pending,
                                        acc := if other then 0 else c.acc }) s
  let s := recDirty 4 n s
  let s := authSettle n 0 s
  let s := if count = c.max then consTo n .exhausted 5 s else consTo n .authenticated 0 s
  reqEnd n s

/-- The answer to a CHALLENGE (R260 steps 2 and 3). -/
def challengeTake (n nonce : Nat) (p : List Byte) (s : State) : State :=
  let c := slotOf s n
  let count := leAt p 0 4
  if !(p.length == 68 && ecdsaOk c.pubKey (leBytes 16 nonce ++ leBytes 8 c.uid ++ leBytes 4 count) (slice p 4 64)) then consFail n 2 stAuth s
  else
    let floor := ((consRecord s n c.uid).map (fun r => r.1)).getD 0
    if c.max < count ∨ count < floor then consFail n 3 stAuth s else consPass n count s

/-- The answer to an INCREMENT (R263). -/
def incrementTake (n nonce delta : Nat) (p : List Byte) (s : State) : State :=
  let c := slotOf s n
  let new := leAt p 0 4
  let k := consKey (s.tile.master.getD []) c.uid
  let macOk := p.length == 36 && slice p 4 32 == hmac256 k (leBytes 8 c.uid ++ leBytes 4 new ++ leBytes 16 nonce)
  if !macOk then consFail n 4 stAuth s
  else if new ≠ Nat.min (c.confirmed + delta) c.max then consFail n 3 stAuth s
  else
    let s := setCons n (fun c => { c with confirmed := new, pending := c.pending - delta }) s
    let s := recDirty 4 n (tick 0x0705 n s)
    let s := if new = c.max then consTo n .exhausted 5 s else s
    reqEnd n s

/-- A chip's whole response: STATUS and payload (R259). -/
def consAnswer (n status : Nat) (p : List Byte) (s : State) : State :=
  match (slotOf s n).req with
  | .none => s
  | .cert => if status = 0 then certTake n p s else consFail n 1 stAuth s
  | .challenge nonce => if status = 0 then challengeTake n nonce p s else consFail n 2 stAuth s
  | .increment nonce delta =>
    if status = 0 then incrementTake n nonce delta p s else consFail n (if status = 3 then 5 else 4) stAuth s

/-- CONS_CHIP_RESPONSE (R259): the bytes read; `ok` is false for a bus error. A bad CRC is read again twice; a valid response ends a
run of bus errors. -/
def execConsChipResponse (slot : Nat) (data : List Byte) (ok : Bool) (s : State) : Host.Outcome State Fault Refusal :=
  let c := slotOf s slot
  if c.req == .none then .next s
  else if !ok then .next (authDone (busError slot s))
  else if leAt data 0 1 = 0xFF then
    .next (setCons slot (fun c => { c with busy := c.busy + 1, retryAt := some (s.now + msPs) }) s)
  else
    let n := leAt data 1 2
    if leAt data (3 + n) 2 ≠ crc16Ccitt (data.take (3 + n)) ∨ data.length ≠ n + 5 then
      if c.crcBad < 2 then .next (setCons slot (fun c => { c with crcBad := c.crcBad + 1 }) s) else .next (authDone (busError slot s))
    else .next (authDone (consAnswer slot (leAt data 0 1) (slice data 3 n) (setCons slot (fun c => { c with busErrs := 0 }) s)))

/-- CONS_BUSY_RETRY (R259): a busy chip is read again every 1 ms, for up to 50 ms. -/
def execConsBusyRetry (slot : Nat) (s : State) : Host.Outcome State Fault Refusal :=
  match (slotOf s slot).retryAt with
  | none => .next s
  | some t =>
    let s := setCons slot (fun c => { c with retryAt := none }) (atTime t s)
    if 50 ≤ (slotOf s slot).busy then .next (authDone (busError slot s)) else .next s

/-- CONS_BUS_TIMEOUT (R258, R259): clock stretching beyond 10 ms, or no response. -/
def execConsBusTimeout (slot : Nat) (s : State) : Host.Outcome State Fault Refusal :=
  if (slotOf s slot).req == .none then .next s else .next (authDone (busError slot s))

/-- The slot's kind 4 record is read at its first poll since reset (R264, R270): the UID last authenticated, its count and its charges. -/
def recordRead (n : Nat) (s : State) : State :=
  if (slotOf s n).recRead then s
  else
    let s := setCons n (fun c => { c with recRead := true }) s
    match ((recCopies s 4 n).map RecCopy.objSerial).filterMap (fun u => recInUse s 4 n u 0) with
    | [] => s
    | r :: t =>
      let r := t.foldl (fun (a b : RecCopy) => if genNewer b.recGen a.recGen then b else a) r
      match r.body with
      | .count c p => setCons n (fun q => { q with authUid := some r.objSerial, confirmed := c, pending := q.pending + p }) s
      | _ => s

/-- One slot's poll (R261). -/
def pollSlot (n : Nat) (ack : Bool) (s : State) : State :=
  let c := slotOf s n
  if ack then
    let s := setCons n (fun c => { c with misses := 0 }) s
    if c.st = .empty then authStart n (consTo n .present 0 s) else s
  else if c.st = .empty then s
  else if 2 ≤ c.misses then
    let s := authSettle n 0x0702 (setCons n (fun c => { c with req := .none, authDue := false, retryAt := none, misses := 0, busErrs := 0 }) s)
    consTo n .empty 0 s
  else setCons n (fun c => { c with misses := c.misses + 1 }) s

/-- CONS_POLL (R261): every 250 ms; bit n of `acks` is the acknowledge of slot n. -/
def execConsPoll (acks : Nat) (s : State) : Host.Outcome State Fault Refusal :=
  if !fwReady s then .next s
  else
    let s := atTime s.tile.nextPoll s
    let s := { s with tile := { s.tile with nextPoll := s.now + 250 * msPs } }
    .next (authDone (forRange 32 s (fun n s => pollSlot n (bitOf acks n) (recordRead n s))))

/-- CONS_AUTH_TIMER (R260): every 60 s; a FAILED slot stays FAILED (R261). -/
def execConsAuthTimer (slot : Nat) (s : State) : Host.Outcome State Fault Refusal :=
  let c := slotOf s slot
  if c.st == .empty || c.st == .failed || !fwReady s then .next s else .next (authStart slot (atTime c.authAt s))

/-- CONS_INCREMENT (R263): DELTA = PENDING, with a fresh nonce; without MASTER there is no key to send it under. -/
def execConsIncrement (slot : Nat) (s : State) : Host.Outcome State Fault Refusal :=
  let c := slotOf s slot
  if c.st ≠ .authenticated ∨ c.pending = 0 ∨ c.req ≠ .none ∨ s.tile.master.isNone ∨ !fwReady s then .next s
  else
    let d := drawNat s
    .next (consSend slot (setCons slot (fun c => { c with req := .increment (d.2 % 2 ^ 128) c.pending }) d.1))

/-- A page became DONE: every slot bound to one of its stations is charged (R262, R263). -/
def consCharge (p : Page) (s : State) : State :=
  forRange 32 s (fun n s =>
    let c := slotOf s n
    if c.stations &&& p.planes = 0 ∨ c.st = .exhausted then s
    else
      let acc := c.acc + (if c.byLines then p.lines else 1)
      let delta := acc / Nat.max 1 c.div
      let s := setCons n (fun c => { c with acc := acc - delta * Nat.max 1 c.div, pending := c.pending + delta }) s
      if delta = 0 then s else recDirty 4 n s)

/-! Commands. -/

/-- CONS_STATUS. -/
def execConsStatus (s : State) : Host.Outcome State Fault Refusal :=
  .next (serve 0x0710 .immediate [0x1F] (fun ws s =>
    let c := slotOf s (par ws 2)
    { st := s, results := [c.st.code + c.stations * 256] ++ two c.uid ++ [fld c.kind 0 8 + fld c.keyIdx 8 8, c.max, c.confirmed, c.pending] }) s)

/-- CONS_BIND (R262). -/
def execConsBind (s : State) : Host.Outcome State Fault Refusal :=
  .next (serve 0x0711 .immediate [0x3F1F, 1, allBits] (fun ws s =>
    let div := par ws 4
    if div = 0 ∨ 1000000000 < div then .refuse s stBadParam
    else
      let lines := bitOf (par ws 3) 0
      { st := setCons (bits (par ws 2) 0 5) (fun c => { c with
          stations := bits (par ws 2) 8 6, byLines := lines, div := div, acc := if c.byLines = lines ∧ c.div = div then c.acc else 0 }) s }) s)

/-- CONS_AUTH (R260, R267): an EMPTY slot has no chip to answer. -/
def execConsAuth (s : State) : Host.Outcome State Fault Refusal :=
  .next (authDone (serve 0x0712 .background [allBits] (fun ws s =>
    let slots := bitList 32 (par ws 2)
    let s := { s with tile := { s.tile with auths := s.tile.auths ++ [{ oid := s.host.nextOid, left := par ws 2 }] } }
    { st := forList slots s (fun n s => if (slotOf s n).st = .empty then authSettle n 0x0702 s else authStart n s), status := stPending }) s))

/-- The octets of words `n` onward. -/
def octets (ws : List Word) (n count : Nat) : List Byte := ((List.range count).map (fun i => leBytes 4 (par ws (n + i)))).flatten

/-- CONS_OTP_KEY (R260). -/
def execConsOtpKey (s : State) : Host.Outcome State Fault Refusal :=
  .next (serve 0x0713 .immediate (7 :: List.replicate 16 allBits) (fun ws s =>
    let n := par ws 2
    let x := beNat (octets ws 3 8)
    let y := beNat (octets ws 11 8)
    if 4 < n then .refuse s stBadParam
    else if n = 4 then
      if !(octets ws 11 8).all (· == 0) then .refuse s stBadParam
      else if s.tile.master.isSome then .refuse s stState
      else { st := { s with tile := { s.tile with master := some (octets ws 3 8) } } }
    else if !onCurve x y then .refuse s stBadParam
    else if (s.tile.roots.getD n none).isSome then .refuse s stState
    else { st := { s with tile := { s.tile with roots := s.tile.roots.set n (some (x, y)) } } }) s)

end Sys2Proof.Machine
end

