-- ==== Sys2Proof/Machine/Current.lean ====
section
/-! DEFINITION. The current loop of a drive axis: block groups and the stages of Table 11.4, electrical angle and phase advance,
shunt windows, prediction and the duty clamp (R329, R330, R364 to R372). -/

namespace Sys2Proof.Machine

/-! Block groups (R329). -/

/-- Mantissas with a shared exponent. -/
structure Group where
  m : List Int
  e : Int

/-- Every mantissa fits in 16 bits. -/
def fits16 (m : List Int) : Bool := m.all (fun x => decide (-32768 ≤ x ∧ x ≤ 32767))

/-- Shifts right with rounding until every mantissa fits (R329 point 1). -/
def groupDown : Nat → Group → Group
  | 0, g => g
  | n + 1, g => if fits16 g.m then g else groupDown n { m := g.m.map (fun x => floorDiv (x + 1) 2), e := g.e + 1 }

/-- Every mantissa has a leading sign bit to spare, and none has reached a magnitude of 16,384 (R329). -/
def spare16 (m : List Int) : Bool := m.all (fun x => decide (-16384 < x ∧ x < 16384))

/-- Shifts left by the leading sign bits that all mantissas have to spare (R329 point 2). -/
def groupUp : Nat → Group → Group
  | 0, g => g
  | n + 1, g => if spare16 g.m then groupUp n { m := g.m.map (fun x => 2 * x), e := g.e - 1 } else g

/-- A mantissa of exponent `e` above 31 at exponent 31: ±32,767 where it does not fit (R329 point 3). -/
def mantTop (e x : Int) : Int := clampInt (-32767) 32767 (x * 2 ^ (e - 31).toNat)

/-- The normalised group, and whether it saturated (R329). -/
def groupNorm (g : Group) : Group × Bool :=
  if g.m.all (fun x => x == 0) then (g, false)
  else
    let h := if fits16 g.m then groupUp 16 g else groupDown 64 g
    if 31 < h.e then ({ m := h.m.map (mantTop h.e), e := 31 }, true)
    else if h.e < -32 then ({ m := h.m.map (fun _ => 0), e := -32 }, false)
    else (h, false)

/-- A mantissa at exponent 0, with rounding and saturation to Q15 (Table 11.4 stage 4). -/
def mantQ15 (m : Int) (e : Int) : Int :=
  if 0 ≤ e then sat16 (m * 2 ^ e.toNat) else sat16 (floorDiv (m + 2 ^ ((-e).toNat - 1)) (2 ^ (-e).toNat))

/-- The group at exponent 0. -/
def groupQ15 (g : Group) : List Int := g.m.map (fun x => mantQ15 x g.e)

/-- An accumulator value brought to the scale of Q15 with the rounding of R328 and no clamp. -/
def round15 (a : Int) : Int := floorDiv (a + 16384) 32768

/-- Stage 2: Clarke. -/
def clarke (ia ib : Int) : List Int := [ia, floorDiv ((ia + 2 * ib) * 18919) 32768]

/-- Stage 3: Park, for an angle. -/
def park (a b : Int) (θ : Nat) : List Int :=
  [round15 (a * cosQ15 θ + b * sinQ15 θ), round15 (-a * sinQ15 θ + b * cosQ15 θ)]

/-- Stage 5: inverse Park. -/
def invPark (d q : Int) (θ : Nat) : List Int :=
  [round15 (d * cosQ15 θ - q * sinQ15 θ), round15 (d * sinQ15 θ + q * cosQ15 θ)]

/-! Angle and velocity. -/

/-- floor(XM × PP × 65,536 ÷ CPR) (R364). -/
def angleOf (d : Drive) : Nat := d.xm * d.cfg.pp * 65536 / Nat.max 1 d.cfg.cpr

/-- θe (R364). -/
def thetaE (d : Drive) : Nat := (d.angOff + angleOf d) % 65536

/-- ADV(ω) of R366, negated for a negative ω. -/
def advance (d : Drive) : Int :=
  let w := omegaAbs d
  let a := fun (i : Nat) => d.adv.getD i 0
  let v :=
    if d.advSpd ≤ w then a 31
    else
      let n := w * 31 * 65536
      let i := n / (d.advSpd * 65536)
      let f := n % (d.advSpd * 65536)
      a i + floorDiv ((a (i + 1) - a i) * (f : Int)) (d.advSpd * 65536)
  if d.omega < 0 then -v else v

/-- Commutation is aligned (R365). -/
def commAligned (s : State) (d : Drive) : Bool :=
  if d.cfg.absolute then (let m := (s.pos.inputs.getD d.cfg.input {}).mode; m == 3 || m == 4) else d.aligned

/-- A drive stands: its velocity is valid and at most ZERO_SPD (R368, R373). -/
def standing (d : Drive) : Bool := d.omegaValid && decide (omegaAbs d ≤ d.cfg.zeroSpd)

/-- The velocity of R367 from the last 9 pairs; the spec states no rounding, so the last digit is free, and so is the quotient of
two equal time stamps. -/
def velStep (a : Nat) (s : State) : State :=
  let d := drv s a
  if (s.pos.inputs.getD d.cfg.input {}).fault then
    setDrv a (fun d => { d with vel := [], omegaValid := false, omegaAt := s.now }) s
  else
    let vel := ((d.x, d.xTime) :: d.vel).take 9
    let ok := decide (vel.length = 9)
    let old := vel.getD 8 (0, 0)
    let dt := d.xTime - old.2
    let dx := (d.x - old.1) * 1000000000000
    let r :=
      if d.xChanged + d.cfg.stopTo * 1000000 ≤ s.now then (s, 0)
      else if !ok then (s, d.omega)
      else if dt = 0 then drawInt s
      else if dx % (dt : Int) = 0 then (s, floorDiv dx dt)
      else let q := drawNat s; (q.1, floorDiv dx dt + (q.2 % 2 : Nat))
    setDrv a (fun d => { d with vel := vel, omegaValid := ok, omega := r.2, omegaAt := s.now }) r.1

/-! Shunts (R369 to R371). -/

/-- The shunt window of a duty is at least TWIN (R370), in parts of 10⁻⁶ ÷ 32,768 of a millisecond. -/
def usable (c : DrvCfg) (d : Nat) : Bool :=
  decide ((c.dt * 10 + c.twin * 100) * 32768 * c.fpwm ≤ (32768 - d) * 1000000)

/-- D_clamp (R371). -/
def dClamp (c : DrvCfg) : Int := floorDiv (32768 * 1000000 - 32768 * ((c.twin * 100 + c.dt * 10) * c.fpwm : Nat)) 1000000

/-- The clamp of R371 on three duties. -/
def clampDuties (c : DrvCfg) (d : Nat × Nat × Nat) : Nat × Nat × Nat :=
  let m : Int := (Nat.max d.1 (Nat.max d.2.1 d.2.2) : Nat)
  let x := max 0 (m - dClamp c)
  let f := fun (v : Nat) => (max 0 ((v : Int) - x)).toNat
  (f d.1, f d.2.1, f d.2.2)

/-- The currents of a sample: the three phases where it is measured, and whether the third was reconstructed. -/
def phases (u v w : Bool) (i : Int × Int × Int) : Option (Int × Int × Int) × Bool :=
  match u, v, w with
  | true, true, true => (some i, false)
  | true, true, false => (some (i.1, i.2.1, -(i.1 + i.2.1)), true)
  | true, false, true => (some (i.1, -(i.1 + i.2.2), i.2.2), true)
  | false, true, true => (some (-(i.2.1 + i.2.2), i.2.1, i.2.2), true)
  | _, _, _ => (none, false)

/-- A predicted current, rounded toward zero as a whole: i1 + (i1 − i2) × (n − m1) ÷ (m1 − m2) is one quotient (R370). -/
def predict (i1 i2 : Int) (n m1 m2 : Nat) : Int :=
  let k : Int := (m1 : Int) - m2
  sat16 (Int.tdiv (i1 * k + (i1 - i2) * ((n : Int) - m1)) k)

/-- Bus compensation of one voltage (R372). -/
def compOne (c : DrvCfg) (vbus : Nat) (v : Int) : Int :=
  if vbus * 4 < c.vnom then sat16 (v * 4) else sat16 (truncDiv (v * (c.vnom : Int)) vbus)

/-! The loop. -/

/-- A group normalised, its saturation counted against its axis. -/
def stage (a : Nat) (g : Group) (s : State) : State × Group :=
  let r := groupNorm g
  (if r.2 then tick 0x0A04 a s else s, r.1)

/-- id and iq of a measured sample (stages 1 to 4 of Table 11.4). -/
def measuredDq (a : Nat) (i : Int × Int × Int) (θ : Nat) (s : State) : State × Int × Int :=
  let g := stage a { m := [i.1, i.2.1, i.2.2], e := (drv s a).cfg.exp } s
  let c := stage a { m := clarke (g.2.m.getD 0 0) (g.2.m.getD 1 0), e := g.2.e } g.1
  let p := stage a { m := park (c.2.m.getD 0 0) (c.2.m.getD 1 0) θ, e := c.2.e } c.1
  let q := groupQ15 p.2
  (p.1, q.getD 0 0, q.getD 1 0)

/-- The law of R331 of a fixed slot, for d or for q: the new integrator and the output. -/
def fixedLaw (l : LoopSlot) (acc ref fb : Int) : Int × Int :=
  let l := { l with acc := acc, coef := [coefOf l 0, coefOf l 1, 0, 0, coefOf l 4, -32768, 32767] }
  let t := loopTerms l ref fb fb
  let i := loopI l t
  (i, loopU l t i)

/-- The d reference of an alignment, `t` ps after it began (R368). -/
def alignRef (g : AlignRun) (t : Nat) : Int :=
  let up := 50000000000
  let hold := g.hold * 1000000000
  if t < up then (g.alignI * t / up : Nat)
  else if t < up + hold then (g.alignI : Nat)
  else (g.alignI * (2 * up + hold - t) / up : Nat)

/-- Stages 4 to 6 (Table 11.4): the law on id and iq, inverse Park, bus compensation and modulation; the duties of the next period.
The slot's output, which other loops may read (R325), is that of the q law (DEDUCED, log entry 66). -/
def currentLaw (a : Nat) (id iq refD refQ : Int) (θ : Nat) (s : State) : State :=
  let s := match (loopOf s a).queue with
    | [] => s
    | (i, v) :: t => tick 0x0A01 a (setLoop a (fun l => { l with queue := t, coef := l.coef.set i v }) s)
  let d := drv s a
  let ld := fixedLaw (loopOf s a) d.accD refD id
  let lq := fixedLaw (loopOf s a) d.accQ refQ iq
  let p := stage a { m := [ld.2, lq.2], e := 0 } s
  let v := stage a { m := invPark (p.2.m.getD 0 0) (p.2.m.getD 1 0) θ, e := p.2.e } p.1
  let q := groupQ15 v.2
  let vbus := (busOf s d.cfg.bus).vbus
  let r : State × Int × Int :=
    if !d.cfg.busComp then (v.1, q.getD 0 0, q.getD 1 0)
    else if vbus = 0 ∧ d.cfg.vnom = 0 then
      let x := drawInt v.1
      let y := drawInt x.1
      (y.1, sat16 x.2, sat16 y.2)
    else (v.1, compOne d.cfg vbus (q.getD 0 0), compOne d.cfg vbus (q.getD 1 0))
  let f := fun (k : Nat) => Config.svm r.2.1 r.2.2 k % 32768
  let duty := (f 0, f 1, f 2)
  let clamp := decide (d.measured < 4 ∨ d.cfg.maxPred ≤ d.predicted)
  let cut := if clamp then clampDuties d.cfg duty else duty
  let s := setDrv a (fun d => { d with id := id, iq := iq, accD := ld.1, accQ := lq.1, duty := cut, clamped := clamp }) r.1
  let s := setLoop a (fun l => { l with out := lq.2 }) s
  tick 0x0A00 a (if clamp then tick 0x0B04 a s else s)

/-- The currents of the sample: measured, or predicted from the last two measured ones (R370). Where fewer than two exist, which
only a D_clamp below 0 allows, the spec states no value. -/
def sampleDq (a : Nat) (m : Option (Int × Int × Int)) (θ : Nat) (s : State) : State × Int × Int :=
  let d := drv s a
  match m with
  | some i =>
    let r := measuredDq a i θ s
    (setDrv a (fun d => { d with meas := ((d.n, r.2.1, r.2.2) :: d.meas).take 2, measured := d.measured + 1, predicted := 0 }) r.1, r.2.1, r.2.2)
  | none =>
    let s := tick 0x0B02 a (setDrv a (fun d => { d with predicted := d.predicted + 1 }) s)
    match d.meas with
    | [(m1, d1, q1), (m2, d2, q2)] => (s, predict d1 d2 d.n m1 m2, predict q1 q2 d.n m1 m2)
    | _ =>
      let x := drawInt s
      let y := drawInt x.1
      (y.1, sat16 x.2, sat16 y.2)

/-- One sample of a current loop whose axis is in RUN or ALIGNING (R369 to R372). -/
def currentSample (a : Nat) (m : Option (Int × Int × Int) × Bool) (s : State) : State :=
  let d := drv s a
  let θ := if d.st = .aligning then 0 else ((thetaE d : Int) + advance d) % 65536 |>.toNat
  let s := if m.2 then tick 0x0B03 a s else s
  let r := sampleDq a m.1 θ s
  let refs : Int × Int := match d.align with
    | some g => if d.st = .aligning then (alignRef g (s.now - g.began), 0) else (d.cfg.idRef, d.iqRef)
    | none => (d.cfg.idRef, sat16 (d.iqRef + trimOf s a))
  currentLaw a r.2.1 r.2.2 refs.1 refs.2 θ r.1

end Sys2Proof.Machine
end

