-- ==== Sys2Proof/Machine/Drives.lean ====
section
/-! DEFINITION. Meanings of the drive axes: PWM periods, faults, alignment, offset calibration and commands (R361 to R376, R390). -/

namespace Sys2Proof.Machine

/-! Starting (R374, R375). -/

/-- The axis goes to RUN with its speed slot in manual at MAN 0 (R374). -/
def axisEnable (a cause : Nat) (s : State) : State :=
  askMode (drv s a).cfg.sslot { auto := false, man := some 0, cause := 0 } (setDrv a (fun d => { d with iqRef := 0 }) (drvTo a .run cause s))

/-- A slot is automatic once its queued mode changes have acted. -/
def autoSoon (l : LoopSlot) : Bool := ((l.modeReqs.getLast?).map ModeReq.auto).getD l.auto

/-- Steps 3 and 4 of R375 for an axis in RUN: transfer of a manual slot at the measured velocity, and after that sample, or at once for
an automatic slot, the ramps. Where the target's magnitude equals the measured one, the spec does not say which of ACC and DEC is the
rate. -/
def startRamp (a : Nat) (target : Int) (acc dec : Nat) (s : State) : State :=
  let d := drv s a
  let n := d.cfg.sslot
  let l := loopOf s n
  let wm := d.omega
  let now := autoSoon l
  let s := if now then s
    else askMode n { auto := true, man := none, cause := 0 }
      (askMode n { auto := false, man := some 0, cause := 0 } (askSetpoint n (scaleQ15 wm l.fs) 0 s))
  let r := drawNat s
  let same := if wm.natAbs < target.natAbs then acc else if target.natAbs < wm.natAbs then dec else if r.2 % 2 = 0 then acc else dec
  let s := if target.natAbs = wm.natAbs then r.1 else s
  let sp := scaleQ15 target l.fs
  let first : Int × Nat := if target * wm < 0 then (0, dec) else (sp, if wm = 0 then acc else same)
  let turn : List RampReq := if target * wm < 0 then [{ onDone := true, target := sp, rate := acc }] else []
  if now then askSetpoint n first.1 first.2 (setDrv a (fun d => { d with ramps := turn }) s)
  else setDrv a (fun d => { d with ramps := { onDone := false, target := first.1, rate := first.2 } :: turn }) s

/-- An AXIS.START that waits on its axis goes on: it aligns the axis first, or enables it where it is DISABLED, and completes once its
ramp begins (R375). -/
def startGo (a : Nat) (s : State) : State :=
  let d := drv s a
  match d.align with
  | none => s
  | some g => match g.start with
    | none => s
    | some (target, acc, dec) =>
      if d.st = .disabled ∧ commAligned s d = false then
        setDrv a (fun d => { d with align := some { g with began := s.now } }) (drvTo a .aligning 0 s)
      else if d.st = .disabled ∨ d.st = .run then
        let s := if d.st = .disabled then axisEnable a 0 s else s
        let now := autoSoon (loopOf s d.cfg.sslot)
        let s := startRamp a target acc dec s
        if now then alignDone a stOk [(drv s a).st.code] s else s
      else alignDone a stState [d.st.code] s

/-! Alignment (R368). -/

/-- ANG_OFF such that θe is 0 at the present XM. -/
def angZero (d : Drive) : Nat := unsig (-(angleOf d : Int)) 16

/-- The alignment at a PWM period: its steps 3 and 4, and its failure on motion. -/
def alignTick (a : Nat) (s : State) : State :=
  let d := drv s a
  match d.st, d.align with
  | .aligning, some g =>
    let t := s.now - g.began
    if 50000000000 ≤ t ∧ d.cfg.zeroSpd < omegaAbs d then drvTo a .disabled 7 (setDrv a (fun d => { d with aligned := false }) s)
    else if 50000000000 + g.hold * 1000000000 ≤ t ∧ g.angSet = false then
      setDrv a (fun d => { d with angOff := angZero d, align := some { g with angSet := true } }) s
    else s
  | _, _ => s

/-- AXIS_ALIGN_DONE (R368 step 5): the d reference is back at 0; the axis is DISABLED with aligned commutation, and an AXIS.START goes on. -/
def execAxisAlignDone (axis : Nat) (s : State) : Host.Outcome State Fault Refusal :=
  .next (match (drv s axis).st, (drv s axis).align with
    | .aligning, some g =>
      let s := atTime (g.began + 100000000000 + g.hold * 1000000000) s
      let s := setDrv axis (fun d => { d with angOff := if g.angSet then d.angOff else angZero d, aligned := true, align := none }) s
      let s := drvTo axis .disabled 0 s
      match g.start with
      | none => completeOpt g.oid stOk [] s
      | some _ => startGo axis (setDrv axis (fun d => { d with align := some g }) s)
    | _, _ => s)

/-! Offset calibration (R373). -/

/-- A window of kind 4 is complete on an axis: the first is kept; the second agrees within 8 codes, and the trims apply from the next
sample, or it does not, and it becomes the first of the next attempt. -/
def offsetWindow (a : Nat) (w : Int × Int × Int) (s : State) : State :=
  match (drv s a).calFirst with
  | none => setCal 4 a (fun r => { r with openedAt := some s.now })
      (setDrv a (fun d => { d with calFirst := some w, calSums := (0, 0, 0), calCount := 0 }) s)
  | some f =>
    let near := fun (x y : Int) => decide ((x - y).natAbs ≤ 8 * 4096)
    let trim := fun (x y : Int) => floorDiv (x + y + 4096) 8192
    if near f.1 w.1 && near f.2.1 w.2.1 && near f.2.2 w.2.2 then
      let s := setDrv a (fun d => { d with trims := (trim f.1 w.1, trim f.2.1 w.2.1, trim f.2.2 w.2.2) }) s
      let s := calNext 4 a false (setCal 4 a (fun r => { r with left := 0, cur := 0, got := 1 }) s)
      let r := drawNat s
      raise 0x0903 a 0 0 4 0 r.2 r.1
    else
      let s := setDrv a (fun d => { d with calFirst := some w }) s
      calNext 4 a true (calFail 4 a 1 2 s)

/-- One sample of the shunts for a run of kind 4: it joins the open window while the precondition holds, and discards it otherwise. -/
def offsetSample (a : Nat) (i : Int × Int × Int) (s : State) : State :=
  if (calOf s 4 a).phase ≠ .collecting then s
  else
    let d := drv s a
    if d.st = .disabled ∧ standing d then
      let w := (d.calSums.1 + i.1, d.calSums.2.1 + i.2.1, d.calSums.2.2 + i.2.2)
      let s := if d.calCount = 0 then setCal 4 a (fun r => { r with openedAt := some s.now }) s else s
      let s := setDrv a (fun d => { d with calSums := w, calCount := d.calCount + 1 }) s
      if d.calCount + 1 < 4096 then s else offsetWindow a w s
    else if d.calCount = 0 then s
    else
      let s := setDrv a (fun d => { d with calSums := (0, 0, 0), calCount := 0 }) (calDiscard 4 a s)
      setCal 4 a (fun r => { r with openedAt := some s.now }) s

/-! PWM periods. -/

/-- Overcurrent on a measured phase (R362). -/
def overCurrent (d : Drive) (u v w : Bool) (i : Int × Int × Int) : Bool :=
  let hit := fun (b : Bool) (x : Int) => b && decide (d.cfg.oc < x.natAbs)
  hit u i.1 || hit v i.2.1 || hit w i.2.2

/-- An axis in ASC moves to FAULT once |ω| falls below ASC_SPD ÷ 2 (R378). -/
def ascEnd (a : Nat) (s : State) : State :=
  let d := drv s a
  if d.st = .asc ∧ d.omegaValid ∧ 2 * omegaAbs d < d.cfg.ascSpd then drvTo a .fault d.ascCause s else s

/-- PWM_PERIOD (R366, R367, R369): a new carrier period of an axis that is not OFF; `su`, `sv`, `sw` are the shunt codes. -/
def execPwmPeriod (axis : Nat) (su sv sw : Int) (s : State) : Host.Outcome State Fault Refusal :=
  .next (when (macOn s && decide (axis < 8) && (drv s axis).st != .off) (fun s =>
    let d := drv s axis
    let s := atTime (d.pwmAt + 1000000000 / Nat.max 1 d.cfg.fpwm) s
    let s := setDrv axis (fun d => { d with
      pwmAt := s.now, n := d.n + 1
      advSpd := (d.advNext.map Prod.fst).getD d.advSpd, adv := (d.advNext.map Prod.snd).getD d.adv, advNext := none }) s
    let s := alignTick axis (ascEnd axis (velStep axis s))
    let d := drv s axis
    let u := usable d.cfg d.duty.1
    let v := usable d.cfg d.duty.2.1
    let w := usable d.cfg d.duty.2.2
    let i := (su - d.trims.1, sv - d.trims.2.1, sw - d.trims.2.2)
    let s := offsetSample axis (su, sv, sw) s
    if overCurrent d u v w i then drvFault axis 2 s
    else if d.st.driving then currentSample axis (phases u v w i) s
    else s) s)

/-- DRV_FAULT_INPUT (R362): DRVn_FLT has been active for 1 µs. -/
def execDrvFaultInput (axis : Nat) (s : State) : Host.Outcome State Fault Refusal :=
  .next (when (macOn s && decide (axis < 8)) (drvFault axis 1) s)

/-- AXIS_STOP_TIMEOUT (R367): the count has not changed for STOP_TO. -/
def execAxisStopTimeout (axis : Nat) (s : State) : Host.Outcome State Fault Refusal :=
  .next (when (macOn s && decide (axis < 8) && (drv s axis).st != .off) (fun s =>
    let d := drv s axis
    let s := atTime (d.xChanged + d.cfg.stopTo * 1000000) s
    ascEnd axis (setDrv axis (fun d => { d with omega := 0, omegaAt := s.now }) s)) s)

/-! Commands. -/

/-- SSLOT is configured with output kind 3 to the axis and feedback kind 4 on its input (R390). -/
def sslotOk (s : State) (n a input : Nat) : Bool :=
  let l := loopOf s n
  decide (8 ≤ n) && l.configured && l.outKind == 3 && l.outIdx == a && l.fbKind == 4 && l.fbIdx == input

/-- AXIS_CONFIG (R362, R365, R390). -/
def execAxisConfig (s : State) : Host.Outcome State Fault Refusal :=
  .next (serve 0x0B01 .immediate [0x3F1F77, 0xFFFFFF, 0x7FFFFF, 0x3F07FFFF, allBits, allBits, allBits, 0xFFFF003F, 0xFFF] (fun ws s =>
    let a := bits (par ws 2) 0 3
    let c : DrvCfg := {
      input := bits (par ws 2) 4 3, bus := bits (par ws 2) 8 1, absolute := bitOf (par ws 2) 9, busComp := bitOf (par ws 2) 10
      gateHigh := bitOf (par ws 2) 11, fltHigh := bitOf (par ws 2) 12, pp := bits (par ws 2) 16 6, cpr := bits (par ws 3) 0 24
      fpwm := bits (par ws 4) 16 7, dt := bits (par ws 5) 0 8, twin := bits (par ws 5) 8 8, maxPred := bits (par ws 5) 16 3
      exp := sbits (par ws 5) 24 6, oc := bits (par ws 6) 0 16, idRef := sbits (par ws 6) 16 16, zeroSpd := par ws 7, ascSpd := par ws 8
      sslot := bits (par ws 9) 0 6, stopTo := bits (par ws 9) 16 16, vnom := bits (par ws 10) 0 12 }
    let p := s.pos.inputs.getD c.input {}
    let d := drv s a
    if c.pp < 1 ∨ c.cpr < 1 ∨ c.fpwm < 8 ∨ 100 < c.fpwm ∨ c.dt < 5 ∨ c.twin < 5 ∨ 100 < c.twin ∨ c.maxPred < 1 ∨ 4 < c.maxPred
        ∨ c.oc < 1 ∨ 32767 < c.oc ∨ c.stopTo < 10 ∨ !sslotOk s c.sslot a c.input ∨ (c.absolute ∧ p.mode ≠ 3 ∧ p.mode ≠ 4) then
      Ans.refuse s stBadParam
    else if d.st ≠ .off ∧ d.st ≠ .disabled ∧ d.st ≠ .fault then Ans.refuse s stState
    else
      let keep := d.st != .off && d.cfg.input == c.input
      let s := setDrv a (fun d => { d with
        cfg := c, angOff := bits (par ws 4) 0 16, aligned := c.absolute, xm := if c.absolute then p.raw % c.cpr else d.xm % c.cpr
        x := if keep then d.x else 0, xTime := if keep then d.xTime else s.now, xChanged := if keep then d.xChanged else s.now
        vel := if keep then d.vel else [], omegaValid := keep && d.omegaValid, pwmAt := if d.st = .off then s.now else d.pwmAt }) s
      { st := if d.st = .off then drvTo a .disabled 0 s else s }) s)

/-- AXIS_ADVANCE (R366): the table takes effect at the start of a PWM period. -/
def execAxisAdvance (s : State) : Host.Outcome State Fault Refusal :=
  .next (serve 0x0B02 .immediate ([7, allBits] ++ List.replicate 16 allBits) (fun ws s =>
    let t := (List.range 32).map (fun i => sbits (par ws (4 + i / 2)) (16 * (i % 2)) 16)
    if par ws 3 < 31 then Ans.refuse s stBadParam
    else { st := setDrv (bits (par ws 2) 0 3) (fun d => { d with advNext := some (par ws 3, t) }) s }) s)

/-- The parameters of an alignment are in range (Table 12.4). -/
def alignOk (i hold : Nat) : Bool := decide (1 ≤ i ∧ i ≤ 32767 ∧ 10 ≤ hold ∧ hold ≤ 5000)

/-- AXIS_ALIGN (R368, R390). -/
def execAxisAlign (s : State) : Host.Outcome State Fault Refusal :=
  .next (serve 0x0B03 .background [7, allBits] (fun ws s =>
    let a := bits (par ws 2) 0 3
    let i := bits (par ws 3) 0 16
    let hold := bits (par ws 3) 16 16
    let d := drv s a
    if !alignOk i hold then Ans.refuse s stBadParam
    else if d.cfg.absolute ∨ d.st ≠ .disabled ∨ !standing d then Ans.refuse s stState
    else
      { st := setDrv a (fun d => { d with align := some { alignI := i, hold := hold, began := s.now, oid := some s.host.nextOid } })
          (drvTo a .aligning 0 s), status := stPending }) s)

/-- A run of kind 4 is under way on an axis (R373). -/
def offsetRuns (s : State) (a : Nat) : Bool := (calOf s 4 a).phase == .collecting

/-- AXIS_ENABLE (R362, R373, R374, R376, R390). -/
def execAxisEnable (s : State) : Host.Outcome State Fault Refusal :=
  .next (serve 0x0B04 .immediate [0x307] (fun ws s =>
    let a := bits (par ws 2) 0 3
    let d := drv s a
    match bits (par ws 2) 8 2 with
    | 0 =>
      if d.st ≠ .off ∧ loopProtected s d.cfg.sslot then Ans.refuse s stPageLocked
      else if offsetRuns s a then Ans.refuse s stBusy
      else { st := if d.st.driving then drvTo a .disabled 0 s else s }
    | 1 =>
      if offsetRuns s a then Ans.refuse s stBusy
      else if d.st ≠ .disabled ∨ commAligned s d = false then Ans.refuse s stState
      else { st := axisEnable a 0 s }
    | 2 =>
      if offsetRuns s a then Ans.refuse s stBusy
      else if d.st ≠ .fault then Ans.refuse s stState
      else { st := drvTo a .disabled 0 s }
    | _ => Ans.refuse s stBadParam) s)

/-- The AXIS.START taken, if one was, goes on: `oid` is the identifier it would have been given. -/
def startPending (oid : Nat) (s : State) : State :=
  forRange 8 s (fun a s => match (drv s a).align with
    | some g => if g.oid = some oid ∧ (drv s a).st ≠ .aligning then startGo a s else s
    | none => s)

/-- AXIS_START (R373, R375, R390). An axis that is aligning answers ST_BUSY: the spec states nothing of it. An earlier one whose ramp has
not begun is replaced, and completes. -/
def execAxisStart (s : State) : Host.Outcome State Fault Refusal :=
  .next (startPending s.host.nextOid (serve 0x0B05 .background [7, allBits, allBits, allBits] (fun ws s =>
    let a := bits (par ws 2) 0 3
    let acc := bits (par ws 4) 0 16
    let dec := bits (par ws 4) 16 16
    let i := bits (par ws 5) 0 16
    let hold := bits (par ws 5) 16 16
    let d := drv s a
    let aligns := d.st == .disabled && !commAligned s d
    if acc < 1 ∨ 32767 < acc ∨ dec < 1 ∨ 32767 < dec ∨ (aligns && !alignOk i hold) then Ans.refuse s stBadParam
    else if d.st = .off ∨ d.st = .fault ∨ d.st = .asc ∨ (aligns && !standing d) then Ans.refuse s stState
    else if offsetRuns s a ∨ d.st = .aligning then Ans.refuse s stBusy
    else
      let s := alignDone a stOk [d.st.code] s
      { st := setDrv a (fun d => { d with align := some {
          alignI := i, hold := hold, began := s.now, oid := some s.host.nextOid, start := some (sint (par ws 3) 32, acc, dec) } }) s
        status := stPending }) s))

/-- AXIS_STATUS (Table 12.4). -/
def execAxisStatus (s : State) : Host.Outcome State Fault Refusal :=
  .next (serve 0x0B06 .immediate [7] (fun ws s =>
    let d := drv s (bits (par ws 2) 0 3)
    let h := fun (x : Int) => unsig x 16
    { st := s, results := [d.st.code + 256 * b2n (commAligned s d) + 512 * b2n d.omegaValid + 1024 * b2n d.clamped, w32 d.omega, d.xm
        , h d.id + 65536 * h d.iq, thetaE d, h d.trims.1 + 65536 * h d.trims.2.1, h d.trims.2.2] }) s)

end Sys2Proof.Machine
end

