-- ==== Sys2Proof/Machine/Expand.lean ====
section
/-! DEFINITION. Meanings of the rows of the expansion engines: lanes, pipes, releases, replays, self-tests, rotation
(R133 to R138, R154 to R163). -/

namespace Sys2Proof.Machine

/-- The plane-band stream of a global tile of a page. -/
def tileStream (s : State) (page tile : Nat) : Option PbStream :=
  (pageObj s page).bind (fun o => o.stream? (stOf tile) (tile % 16))

/-- The lane of an engine and tile that fetches next: of the page admitted first that has blocks left. -/
def fetchLane (s : State) (e tile : Nat) : Option Lane :=
  (expandPages s (stOf tile)).findSome? (fun p => s.exp.lanes.find? (fun l => l.page == p.key && l.engine == e && l.tile == tile && l.inLane.isNone &&
    decide (l.fetchNext < ((tileStream s l.page tile).map PbStream.blocks).getD 0)))

/-- Source lines the staging ring of a band holds (R138). -/
def ringLines (w : Nat) : Nat := 131072 / Nat.max 1 w

/-- Source lines the stream's block `b` holds. -/
def rowsOf (t : PbStream) (b : Nat) : Nat := ((t.recs.find? (fun r => r.block == b)).map BlockRec.rows).getD 0

/-- The first source line that a band-line of a lane draws on; past the page's last band-line, more than any. -/
def firstDrawn (s : State) (p : Page) (l : Lane) (n : Nat) : Nat :=
  if p.lines ≤ n then 16 * 65536 else (linesDrawn s p l.tile n).foldl Nat.min (16 * 65536)

/-- The first source line of a lane that is not freed (R138): the first that its oldest unreleased band-line draws on. Where the ring
cannot hold every block that this band-line draws on, whose release needs them all decoded (R134), lines already drawn by the pipe count
as freed (DEDUCED, log entry 31). -/
def lowLine (s : State) (p : Page) (t : PbStream) (l : Lane) : Nat :=
  let n := Nat.max l.start (runOf s p.key l.tile).upTo
  let low := firstDrawn s p l n
  let top := ((blocksDrawn s p l.tile n).map (fun b => 16 * b + rowsOf t b)).foldl Nat.max 0
  if p.lines ≤ n ∨ top ≤ low + ringLines t.colCount then low else firstDrawn s p l l.next

/-- BLOCK_FETCH (R137, R138): the lane's next block, once the ring has room for its first line. `err` 1 is a spool read
corrected at bit `bit`, 2 an uncorrectable word, which is a replay with cause ECC (Table 13.1). -/
def execBlockFetch (engine tile err bit : Nat) (s : State) : Host.Outcome State Fault Refusal :=
  .next (when (engOn s) (fun s =>
    match fetchLane s engine tile with
    | none => s
    | some l =>
      match pageOf s l.page, tileStream s l.page tile with
      | some p, some t =>
        if 16 * l.fetchNext < lowLine s p t l + ringLines t.colCount then
          let b := l.fetchNext
          let s := setLane engine l.page tile (fun l => { l with fetchNext := b + 1, inLane := some b }) s
          let place := (t.recs.find? (fun r => r.block == b)).bind (fun r =>
            (s.spool.extents.find? (fun e => e.no == r.extent)).map (fun e => (extentChan s e r.offset, extentWord s e r.offset)))
          match err, place with
          | 0, _ => s
          | 1, some (c, w) => memCe true c w bit none s
          | 1, none => s
          | _, some (c, w) => blockFail l p b 9 none (memUe true c w 3 s)
          | _, none => blockFail l p b 9 none s
        else s
      | _, _ => s) s)

/-- The check a decoded block fails, in the order 12, 9, 10, 11 (R137): `fault` 2 is a directory mismatch. The payload is
`seen` where the lane saw other bytes than those stored, and never more than COMP_LEN bytes of it (R90). -/
def laneChecks (t : PbStream) (r : BlockRec) (seen : List Byte) (fault : Nat) : BlockCheck :=
  if fault = 2 then { pixels := [], check := 12, index := r.block }
  else decodeChecks r.coding r.rows t.colCount r.crcOrig ((if seen.isEmpty then r.payload else seen).take r.compLen)

/-- The replay cause of a failing check (Table 5.7). -/
def checkCause (c : Nat) : Nat := if c = 12 then 5 else if c = 9 then 6 else if c = 10 then 7 else 8

/-- Decode steps of a block's payload (R90, R137). -/
def decodeSteps (t : PbStream) (r : BlockRec) : Nat := (decodeBlock r.coding r.rows t.colCount r.payload).steps

/-- A lane has decoded a block of `steps` decode steps in `dur` ps: its measured rate in M steps/s (R166). -/
def measureLane (j steps dur : Nat) (g : Engine) : Engine :=
  if dur = 0 then g else { g with laneRates := g.laneRates.set j (steps * 1000000 / dur) }

/-- BLOCK_DECODE_DONE (R137, R154): after `run.dur` ps the block passes, or its band-lines await a replay; `run.fault` 2 is check 12, 3 an illegal
dual-rail code in the lane. -/
def execBlockDecodeDone (engine tile : Nat) (seen : List Byte) (run : DecodeEnd) (s : State) : Host.Outcome State Fault Refusal :=
  .next (when (engOn s) (fun s =>
    match s.exp.lanes.find? (fun l => l.engine == engine && l.tile == tile && l.inLane.isSome) with
    | none => s
    | some l =>
      match pageOf s l.page, tileStream s l.page tile, l.inLane with
      | some p, some t, some b =>
        match t.recs.find? (fun r => r.block == b) with
        | none => s
        | some r =>
          if lowLine s p t l + ringLines t.colCount < 16 * b + rowsOf t b then s
          else if run.fault = 3 then movesNow (engFail engine 1 true s)
          else
            let c := laneChecks t r seen run.fault
            if c.check = 0 then
              let low := lowLine s p t l / 16
              let s := setEng engine (measureLane (tile % 4) (decodeSteps t r) run.dur) s
              setLane engine l.page tile (fun l => { l with
                inLane := none, passed := b :: l.passed.filter (fun x => decide (low ≤ x + 12)) }) s
            else blockFail l p b (checkCause c.check) (some { check := c.check, index := c.index, pixels := c.pixels }) s
      | _, _, _ => s) s)

/-- Band-lines of a tile of a page that some replay of a block holds. -/
def inReplays (s : State) (page tile n : Nat) : Bool :=
  s.exp.replays.any (fun r => r.block.isSome && r.page == page && r.tile == tile && r.lines.contains n)

/-- The next band-line a lane computes. -/
def laneNext (s : State) (p : Page) (l : Lane) : Option Nat :=
  let r := runOf s l.page l.tile
  let top := Nat.min p.lines (l.upTo.getD p.lines)
  let first := Nat.max l.next r.upTo
  ((List.range (Nat.min 512 (top - first))).map (fun i => first + i)).find? (fun n =>
    !lineSettled r n && !inReplays s l.page l.tile n && !l.waiting.contains n && !r.bad.any (fun b => b.1 == n))

/-- The lane's next band-line, if it is eligible, with its F_min (R133). -/
def laneEligible (s : State) (l : Lane) : Option (Page × Nat × Int) :=
  match pageOf s l.page with
  | none => none
  | some p =>
    match laneNext s p l with
    | none => none
    | some n =>
      let f := fMin s p l.tile n
      if p.started && (trk s (stOf l.tile)).en && decide (f - 64 ≤ (trk s (stOf l.tile)).k) then some (p, n, f) else none

/-- The band-line an engine's pipe takes next: of the eligible ones the least F_min, then the lower tile (R133). -/
def pipeNext (s : State) (e : Nat) : Option (Lane × Page × Nat × Int) :=
  (s.exp.lanes.filter (fun l => l.engine == e)).foldl (fun (acc : Option (Lane × Page × Nat × Int)) l =>
    match laneEligible s l, acc with
    | none, _ => acc
    | some (p, n, f), none => some (l, p, n, f)
    | some (p, n, f), some (l', _, _, f') => if f < f' ∨ (f = f' ∧ l.tile < l'.tile) then some (l, p, n, f) else acc) none

/-- The band-line an engine's pipe computes: the next, once its blocks are in the lane (R133, R137). -/
def pipeReady (s : State) (e : Nat) : Option (Lane × Page × Nat) :=
  match pipeNext s e with
  | none => none
  | some (l, p, n, _) =>
    if (blocksDrawn s p l.tile n).all (fun b => l.passed.contains b || l.inLane == some b) then some (l, p, n) else none

/-- The measured pipe rate over the last 1,024 band-lines (R165): M columns/s from durations in ps. -/
def measure (dur : Nat) (g : Engine) : Engine :=
  let d := (dur :: g.durations).take 1024
  let sum := sumBy id d
  { g with durations := d, rMeas := if sum = 0 then g.rMeas else 4096 * 1000000 * d.length / sum }

/-- Writes a computed band-line: line store, span record, lane, rate (R132, R165, R188, R300). -/
def produce (e : Nat) (l : Lane) (p : Page) (n dur : Nat) (bad : Option Nat) (s : State) : State :=
  match pipeTile s p l.tile l.odd (blocksDrawn s p l.tile n) with
  | none => s
  | some pt =>
    let s := writeBandLine s p l.tile n pt bad
    let s := if pt.plane.dose then s else spanNote p l.tile n (fun _ => (List.range 4096).map (pt.toneIn n)) s
    let s := setLane e p.key l.tile (fun l => { l with next := n + 1, waiting := l.waiting ++ [n] }) s
    setEng e (measure dur) s

/-- Drops a band-line that reads a lost word: it waits for its guard, and the page is spoiled (R159). -/
def dropLine (p : Page) (tile n : Nat) (s : State) : State :=
  let s := { s with exp := { s.exp with lanes := s.exp.lanes.map (fun l =>
    if l.page = p.key ∧ l.tile = tile ∧ l.next ≤ n then { l with next := n + 1 } else l) } }
  spoil p.key 1 (stOf tile) (stationLine s (stOf tile)) (badLines p.key tile 0 [n] s)

/-- Words of 8 bytes that a screen's level table and threshold array take in the correction store, levels first (PRESUMED, log entry 86). -/
def screenWords (c : Screen) : Nat := 32 + (c.w * c.h + 7) / 8

/-- A band-line reads a word of its screen: the level table, or the row of thresholds of its page line (R152, R153). -/
def readsWord (c : Screen) (n word : Nat) : Bool :=
  let i := word % screenWords c
  let row := (n + c.sy) % Nat.max 1 c.h * c.w
  decide (8 * i ≤ c.k ∧ i < 32) || (decide (32 ≤ i) && decide (row < 8 * (i - 32) + 8 ∧ 8 * (i - 32) < row + c.w))

/-- A band-line of a page reads a lost word of its screen (R159). -/
def screenLost (s : State) (p : Page) (tile n : Nat) : Bool :=
  let c := s.exp.screens.getD (6 * p.screenBank + stOf tile) {}
  !((planeOf s p (stOf tile)).map PlaneHdr.dose).getD false && c.lost.any (readsWord c n)

/-- A word of a screen is lost: the screen is invalid until it is loaded again (R159). -/
def screenWordLost (i word : Nat) (s : State) : State :=
  { s with exp := { s.exp with screens := updAt s.exp.screens i (fun c => { c with valid := false, lost := word :: c.lost }) } }

/-- The block whose staged source line a word of the staging memory holds: of the lines that a band-line draws on, the one in that place of
the band's ring, line y at y mod the ring's lines (R138; PRESUMED, log entry 86). -/
def stagedBlock (s : State) (p : Page) (t : PbStream) (tile n word : Nat) : Nat :=
  let ys := linesDrawn s p tile n
  ((ys.find? (fun y => y % Nat.max 1 (ringLines t.colCount) == word % 16384 * 8 / Nat.max 1 t.colCount)).getD (ys.headD 0)) / 16

/-- A tone knot word is lost: the column's curve becomes neutral at once, and the column is marked for calibration (R159). -/
def knotLost (st col : Nat) (s : State) : State :=
  { s with exp := { s.exp with tone := mapErase s.exp.tone (st * 65536 + col), marked := (st * 65536 + col) :: s.exp.marked }
           tile := { s.tile with tiles := updAt s.tile.tiles (16 * st + col / 4096) (fun t => { t with uniOk := false }) } }

/-- BAND_LINE_DONE (R133, R154, R159): the pipe of an engine finishes its next band-line after `dur` ps. `check` names a
check of Table 5.6 that fired: 1 dual-rail, 2 residue or comparator, 3 staging word corrected, 4 staging word lost,
5 position table, 6 tone knot, 7 threshold or level word, 8 the path to the line store at column `place`, 9 the parity of the kernel ROM;
`place` is the word for 3 to 7. -/
def execBandLineDone (engine dur check place : Nat) (s : State) : Host.Outcome State Fault Refusal :=
  .next (when (engOn s) (fun s =>
    match pipeReady s engine with
    | none => s
    | some (l, p, n) =>
      let st := stOf l.tile
      if check = 1 ∨ check = 2 then engFail engine check true s
      else if check = 4 then
        let b := ((tileStream s p.key l.tile).map (fun t => stagedBlock s p t l.tile n place)).getD 0
        blockFail { l with inLane := none } p b 9 none
          (setLane engine l.page l.tile (fun l => { l with passed := l.passed.filter (· != b) }) (memUe false 2 place 3 s))
      else if check = 5 then dropLine p l.tile n (memUe false 1 place 2 s)
      else if check = 6 then knotLost st (4096 * (l.tile % 16) + place % 4096) (dropLine p l.tile n (memUe false 1 place 2 s))
      else if check = 7 then screenWordLost (6 * p.screenBank + st) place (dropLine p l.tile n (memUe false 1 place 2 s))
      else if check = 9 ∨ screenLost s p l.tile n then dropLine p l.tile n s
      else if check = 3 then produce engine l p n dur none (memCe false 2 place 0 none (tick 0x0407 0 s))
      else produce engine l p n dur (if check = 8 then some (place % 4096) else none) s) s)

/-- BAND_LINE_RELEASE (R134): the oldest waiting band-line of an engine's tile whose blocks have all passed is released. -/
def execBandLineRelease (engine tile : Nat) (s : State) : Host.Outcome State Fault Refusal :=
  .next (when (engOn s) (fun s =>
    match s.exp.lanes.find? (fun l => l.engine == engine && l.tile == tile && !l.waiting.isEmpty) with
    | none => s
    | some l =>
      match pageOf s l.page, l.waiting.head? with
      | some p, some n =>
        if (blocksDrawn s p tile n).all (fun b => l.passed.contains b) then releaseLine p tile n engine s else s
      | _, _ => s) s)

/-- An engine has work: a block in a lane, a band-line it can compute, or a replay (R155). -/
def hasWork (s : State) (e : Nat) : Bool :=
  s.exp.lanes.any (fun l => l.engine == e && l.inLane.isSome) || (pipeReady s e).isSome || (eng s e).replay.isSome

/-- ENGINE_HANG (R155, Table 5.7): an engine with work that completes no handshake for 2 µs. -/
def execEngineHang (engine : Nat) (s : State) : Host.Outcome State Fault Refusal :=
  .next (when (engOn s && hasWork s engine) (fun s => movesNow (engFail engine 3 true s)) s)

/-- Replays of failing blocks that wait for an engine, in the order in which their guards will come (R158). -/
def replayWaiting (s : State) : List Replay :=
  (s.exp.replays.filter (fun r => r.block.isSome && r.engine.isNone && decide (r.attempts < 3))).mergeSort
    (fun a b => decide (timeToGuard s a ≤ timeToGuard s b))

/-- The engine that takes a replay (R512): none of those in `avoid`. -/
def pickOther (s : State) (avoid : List Nat) : Option Nat :=
  let free := fun (st : EngSt) => engineList.filter (fun e => !avoid.contains e && engFree s e && (eng s e).st == st)
  match argMin (fun e => (eng s e).passedAt) (free .spare) with
  | some e => some e
  | none => (free .test).head?

/-- REPLAY_START (R158, R512): the first waiting replay takes a SPARE engine, or one in TEST whose self-test is abandoned,
other than those that have failed it. -/
def execReplayStart (s : State) : Host.Outcome State Fault Refusal :=
  .next (when (engOn s) (fun s =>
    match replayWaiting s with
    | [] => s
    | r :: _ =>
      match pickOther s (r.failing.toList ++ r.tried) with
      | none => s
      | some e =>
        let s := setEng e (fun g => { g with replay := some r.rid, testEnd := none }) s
        { s with exp := { s.exp with replays := s.exp.replays.map (fun q =>
            if q.rid = r.rid then { q with engine := some e, attempts := q.attempts + 1, tried := e :: q.tried } else q) } }) s)

/-- A block of a replay other than the failing one: decoded afresh from the spool it passes, or its tile's lane has accepted it (R157). -/
def freshPass (s : State) (t : PbStream) (r : Replay) (b : Nat) : Bool :=
  s.exp.lanes.any (fun l => l.page == r.page && l.tile == r.tile && l.passed.contains b)
    || ((t.recs.find? (fun q => q.block == b)).map (fun q => (laneChecks t q [] 0).check == 0)).getD false

/-- Computes a replayed band-line afresh and releases it, unless it reads a lost screen word (R157, R159). -/
def replayLine (r : Replay) (p : Page) (odd : List (Nat × List Byte)) (e n : Nat) (s : State) : State :=
  if screenLost s p r.tile n then dropLine p r.tile n s
  else match pipeTile s p r.tile odd (blocksDrawn s p r.tile n) with
    | none => s
    | some pt =>
      let s := writeBandLine s p r.tile n pt none
      let s := if pt.plane.dose then s else spanNote p r.tile n (fun _ => (List.range 4096).map (pt.toneIn n)) s
      releaseLine p r.tile n e s

/-- Notes `n` band-lines that an engine's pipe has computed in `dur` ps together (R165). -/
def measureMany (n dur : Nat) (g : Engine) : Engine := forRange n g (fun _ g => measure (dur / Nat.max 1 n) g)

/-- A replay's result is good after `dur` ps of the pipe: its eligible band-lines all of whose blocks pass are computed afresh and released;
the others return to their lane with the block accepted (R134, R158). `odd` holds pixels that differ from the stored record's. -/
def replayPass (r : Replay) (p : Page) (t : PbStream) (block : Nat) (odd : List (Nat × List Byte)) (outcome e dur : Nat) (s : State) : State :=
  let elig := eligibleLines s p r.tile
  let s := { s with exp := { s.exp with replays := s.exp.replays.map (fun q => if q.rid = r.rid then { q with lines := [] } else q) } }
  let now := r.lines.filter (fun n => elig.contains n && !inReplays s r.page r.tile n
    && (blocksDrawn s p r.tile n).all (fun b => b == block || freshPass s t r b))
  let back := r.lines.filter (fun n => !now.contains n)
  let s := { s with exp := { s.exp with lanes := s.exp.lanes.map (fun l => if l.page = r.page ∧ l.tile = r.tile then
    { l with passed := block :: l.passed, failed := l.failed.filter (· != block), odd := odd ++ l.odd,
             next := back.foldl (fun a n => if l.start ≤ n then Nat.min a n else a) l.next } else l) } }
  let s := forList now (setEng e (measureMany now.length dur) s) (fun n s => replayLine r p odd e n s)
  replayEnd { r with engine := some e } outcome s

/-- A line is printed, or will be, under TRUST_CONSISTENT (R11, R158): CHECK_SUSPECT, held while the page is ADMITTED. -/
def flagSuspect (p : Page) (tile block line lines : Nat) (s : State) : State :=
  let s := setPage p.key (fun p => if p.running then { p with suspect := true } else { p with suspectHeld := true }) s
  raise 0x0407 tile p.id.toNat line (stOf tile + tile % 16 * 256) block 0 (bump 0x0408 0 lines s)

/-- REPLAY_DONE (R158): the result of the replay that an engine runs, whose pipe took `run.dur` ps. `run.fault` 1 is an uncorrectable word,
2 check 12, 3 a dual-rail check of the engine itself, 4 its residue or comparator check; `seen` is the payload as read, where it differs
from the stored one. -/
def execReplayDone (engine : Nat) (seen : List Byte) (run : DecodeEnd) (s : State) : Host.Outcome State Fault Refusal :=
  .next (when (engOn s) (fun s =>
    match s.exp.replays.find? (fun r => r.block.isSome && r.engine == some engine && (eng s engine).replay == some r.rid) with
    | none => s
    | some r =>
      match pageOf s r.page, tileStream s r.page r.tile with
      | some p, some t =>
        let block := r.block.getD 0
        match t.recs.find? (fun q => q.block == block) with
        | none => s
        | some rec =>
          let c := laneChecks t rec seen run.fault
          let line := lineNo (fMin s p r.tile (r.lines.headD 0))
          let sameAs (k : Nat) : Bool := (r.seen.map (fun f => f.check == k && c.check == k && f.index == c.index)).getD false
          let again (s : State) : State :=
            let last := !mayRetry s r
            let seen := if run.fault = 0 ∨ run.fault = 2 then some { check := c.check, index := c.index, pixels := c.pixels } else r.seen
            let s := { s with exp := { s.exp with replays := s.exp.replays.map (fun q =>
              if q.rid = r.rid then { q with engine := none, attempts := if last then 3 else q.attempts, seen := seen } else q) } }
            let s := setEng engine (fun g => { g with replay := none }) s
            if run.fault = 3 ∨ run.fault = 4 then fenceNow engine (run.fault - 2) s
            else giveUnserved (if (eng s engine).st = .test then startTest engine s else s)
          if run.fault = 1 ∨ run.fault = 3 ∨ run.fault = 4 then again s
          else if c.check = 0 then
            let s := replayPass r p t block [] 0 engine run.dur s
            match r.failing with
            | some f => if r.cause = 6 ∨ r.cause = 7 ∨ r.cause = 8 then movesNow (engFail f r.cause true s) else s
            | none => s
          else if sameAs 11 && (r.seen.map (fun f => f.pixels == c.pixels)).getD false then
            if p.trust then
              let s := flagSuspect p r.tile block line r.lines.length s
              replayPass r p t block [(block, c.pixels)] 3 engine run.dur s
            else
              let s := badLines r.page r.tile (8 + 256) r.lines s
              let s := spoil p.key 2 (stOf r.tile) line s
              replayEnd r 2 s
          else if sameAs 9 || sameAs 10 || sameAs 12 then
            let s := badLines r.page r.tile r.cause r.lines s
            let s := spoil p.key 1 (stOf r.tile) line s
            replayEnd r 4 s
          else again s
      | _, _ => s) s)

/-- SELF_TEST_DONE (R160, R163): the known-answer self-test of an engine ends. -/
def execSelfTestDone (engine : Nat) (ok : Bool) (s : State) : Host.Outcome State Fault Refusal :=
  .next (when (engOn s) (fun s =>
    match (eng s engine).testEnd with
    | none => s
    | some t =>
      let s := atTime t s
      let g := eng s engine
      let s := tick 0x0404 0 (setEng engine (fun g => { g with testEnd := none }) s)
      if g.st ≠ .test ∧ g.st ≠ .fenced then s
      else if !ok then
        let s := noteFence engine (tick 0x0405 0 s)
        let s := setEng engine (fun g => { g with st := .off, toOff := false }) s
        giveUnserved (engSettle engine (raise 0x0402 engine 0 0 11 (eng s engine).fences.length 5 s))
      else if g.st = .fenced ∧ g.toOff then
        engSettle engine (setEng engine (fun g => { g with st := .off, toOff := false }) s)
      else
        let s := setEng engine (fun g => { g with st := .spare, passedAt := s.now }) s
        let n := countBy (fun t => decide (s.now < t + dayPs)) g.fences
        let s := if g.st = .fenced then raise 0x0403 engine 0 0 n 0 0 s else s
        giveUnserved (engSettle engine s)) s)

/-- ENGINE_WARMUP_DONE (R160): a warming engine that now carries its quartet alone enters ACTIVE. -/
def execEngineWarmupDone (engine : Nat) (s : State) : Host.Outcome State Fault Refusal :=
  let g := eng s engine
  let alone := engineList.all (fun e => e == engine || (eng s e).quartet != g.quartet)
  .next (when (engOn s && g.st == .warming && g.quartet.isSome && g.move.isNone && alone) (fun s =>
    engSettle engine (setEng engine (fun g => { g with st := .active }) s)) s)

/-- Lanes at the start of a rotation: the outgoing engine keeps the band-lines below H of the head page, the incoming one takes those from H
and every page admitted later. -/
def rotateLanes (out inn q : Nat) (head : Page) (h : Nat) (s : State) : State :=
  let mine := s.exp.lanes.filter (fun l => l.engine == out)
  let keep := (mine.filter (fun l => l.page == head.key)).map (fun l => { l with upTo := some h })
  let add := ((expandPages s (quartetStation q)).map (fun p => (quartetTiles q).filterMap (fun t =>
    if p.key = head.key then (if h < p.lines then some (laneFrom s inn p t h) else none)
    else if head.admission < p.admission then some (laneFrom s inn p t (runOf s p.key t).upTo) else none))).flatten
  { s with exp := { s.exp with lanes := s.exp.lanes.filter (fun l => l.engine != out) ++ keep ++ add } }

/-- The engine that a rotation sends out: of the ACTIVE ones with a quartet and no move waiting, that longest without spare duty (R162). -/
def rotationOut (s : State) : Option Nat :=
  argMin (fun e => (eng s e).spareAt) (engineList.filter (fun e => (eng s e).st == .active && (eng s e).quartet.isSome && (eng s e).move.isNone))

/-- A rotation starts now where none runs and a spare is there: the handover is 16 band-lines ahead of the quartet's next one (R162). -/
def rotationStart (s : State) : State :=
  match s.exp.rotation, pickSpare s 28, rotationOut s with
  | none, some inn, some out =>
    match (eng s out).quartet with
    | none => s
    | some q =>
      match quartetHead s q with
      | none => s
      | some (page, n) =>
        let s := rotateLanes out inn q page (n + 16) (engTake inn .warming (some q) s)
        { s with exp := { s.exp with rotation := some { out := out, inn := inn, quartet := q, page := page.key, h := n + 16 } } }
  | _, _, _ => s

/-- ROTATION_TIMER (R162): every ROTATE seconds the ACTIVE engine longest without spare duty is to be swapped for the spare
whose self-test passed longest ago; without a spare the rotation is postponed. -/
def execRotationTimer (s : State) : Host.Outcome State Fault Refusal :=
  .next (when (engOn s && !s.exp.rotateOff && s.fw.power == .run) (fun s =>
    let s := atTime s.exp.nextRotate s
    rotationStart { s with exp := { s.exp with nextRotate := s.now + s.exp.rotate * 1000000000000 } }) s)

end Sys2Proof.Machine
end

