-- ==== Sys2Proof/Machine/Forecast.lean ====
section
/-! DEFINITION. The thermal and slack forecasts (R123, R130, R165, R166, R447). -/

namespace Sys2Proof.Machine

/-- MT/s of a rate index (Table 13.5). -/
def rateMts (i : Nat) : Nat := [6400, 5600, 4800, 4000, 3200].getD i 6400

/-- The DDR5 rate index in force: every channel of the interleave runs at it (R411). -/
def ddrRate (s : State) : Nat := (((List.range 4).find? (fun c => bitOf (ddrMask s) c)).map (fun c => (ddr s c).rate)).getD 0

/-- Print read budget of a number of channels at a rate index, MB/s (R123). -/
def printBudget (channels rate : Nat) : Nat := channels * rateMts rate * 5

/-- The hottest valid reading of a die, 1/16 °C, none where no sensor is valid (R443). -/
def hottest (d : DieTherm) : Option Int :=
  (d.sensors.filter (fun t => !t.excluded)).foldl (fun a t => match a with | none => some t.value | some x => some (max x t.value)) none

/-- The scale in which the forecasts are exact: temperatures are in 10^−9 of 1/16 °C. -/
def tScale : Int := 1000000000

/-- P(S, f) in W × 10^6 (R447). -/
def forecastPower (s : State) (stations rate : Nat) : Int := ((s.sup.pBase * 100000 + s.sup.pSt * stations * rate : Nat) : Int)

/-- T_fc for a union of stations at a line rate (R447), in the exact scale. -/
def forecastTemp (s : State) (mask rate : Nat) : Option Int :=
  (hottest s.sup.engine).map (fun t =>
    t * tScale + 16 * (s.sup.kth : Int) *
      (forecastPower s (popCount 6 mask) rate - forecastPower s (popCount 6 (liveStations s)) (presentRate s)))

/-- More than 8 sensors of the engine die are excluded (R443). -/
def sensorsLost (s : State) : Bool := decide (8 < countBy (fun (t : TempSensor) => t.excluded) s.sup.engine.sensors)

/-- The thermal forecast passes (R443, R447). -/
def thermalOk (s : State) (mask rate : Nat) : Bool :=
  !sensorsLost s && match forecastTemp s mask rate with
    | none => false
    | some t => decide (t ≤ 16 * ((s.sup.engine.critC : Int) - s.sup.marginT) * tScale)

/-- The healthy engine for which a measure is least, the lowest number on a tie (R166). -/
def slowest (f : Engine → Nat) (s : State) : Option Nat :=
  argMin (fun e => f (eng s e)) ((List.range 28).filter (fun e => (eng s e).st.healthy))

/-- Measured pipe rate, M columns/s, of an engine, 0 without one. -/
def pipeRate (s : State) (e : Option Nat) : Nat := (e.map (fun e => (eng s e).rMeas)).getD 0

/-- The slowest lane's measured rate, M steps/s, of an engine (R137, R166). -/
def laneRate (g : Engine) : Nat := g.laneRates.foldl Nat.min (g.laneRates.headD 0)

/-- An engine's present junction temperature, 1/16 °C: its own sensor's reading, or the die's hottest while that sensor is excluded
(R166; DESIGN CHOICE, log entry 85: the spec does not say which sensors lie at an engine). -/
def engineTemp (s : State) (e : Nat) : Option Int :=
  match s.sup.engine.sensors[s.board.engineSensor.getD e 0]? with
  | some t => if t.excluded then hottest s.sup.engine else some t.value
  | none => hottest s.sup.engine

/-- The forecast factor (1 + 0.0008 (125 − T_fc)) ÷ (1 + 0.0008 (125 − T_now)) of an engine as a fraction (R166). -/
def forecastFactor (s : State) (mask rate : Nat) (e : Option Nat) : Int × Int :=
  match forecastTemp s mask rate, e.bind (engineTemp s) with
  | some f, some n => (1375 * 16 * tScale - f, 1375 * 16 * tScale - n * tScale)
  | _, _ => (0, 1)

/-- A measured rate in M/s covers a demand per second with the margin, after the forecast factor (R166). -/
def rateCovers (s : State) (q : Int × Int) (meas demand : Nat) : Bool :=
  decide ((demand * (100 + s.exp.margin) : Nat) * q.2 ≤ (meas * 100000000 : Nat) * q.1)

/-- Decode steps per pixel that a band can ask: two, or one where every block is STORED (R90, R166). -/
def stepsPerPixel (t : PbStream) : Nat := if t.recs.all (fun r => bitOf r.coding 2) && !t.recs.isEmpty then 1 else 2

/-- Decode demand of a page's largest band per second at a line rate, in 1/25,400 step (R166). -/
def pageDecodeDemand (o : SpoolObj) (planes rate : Nat) : Nat :=
  (o.streams.filter (fun t => bitOf planes t.plane)).foldl (fun a t =>
    match o.plane? t.plane with
    | none => a
    | some h => Nat.max a (stepsPerPixel t * t.colCount * h.ppiY * pitchUm o.pitch10 * rate)) 0

/-- Bytes of a block record in the spool (R71, R118). -/
def recBytes (r : BlockRec) : Nat := 40 + r.compLen + padLen r.compLen

/-- The scale in which bytes of a block per source line are whole numbers: every ROWS from 1 to 16 divides it. -/
def rowScale : Nat := 720720

/-- Bytes of a block record per source line it holds, in 1/720,720 byte. -/
def recPerRow (r : BlockRec) : Nat := recBytes r * rowScale / Nat.max 1 r.rows

/-- Spool read demand of a station's plane at a device line of its page, in 1/(25,400 × 720,720) byte per line: the bytes of the blocks
that the line needs (R123). -/
def planeDemand (o : SpoolObj) (st n : Nat) : Nat :=
  match o.plane? st with
  | none => 0
  | some h =>
    let q := h.ppiY * pitchUm o.pitch10
    let b := n * q / 25400 / 16
    sumBy (fun (t : PbStream) => if t.plane = st then ((t.recs[b]?).map recPerRow).getD 0 else 0) o.streams * q

/-- A page's lines at one station as the forecast places them: its object, and the first of its lines, counted from now. -/
structure Placed where
  page : Nat
  station : Nat
  obj : SpoolObj
  start : Int
  lines : Nat

/-- Lines by which a station's start lies behind that of the first station. -/
def offsetBehind (s : State) (st : Nat) : Int := ((offsetLines s st / 2 ^ 64 : Nat) : Int)

/-- First line from now on at which a station is free of the pages placed so far. -/
def freeFrom (ps : List Placed) (st : Nat) : Int :=
  (ps.filter (fun q => q.station == st)).foldl (fun a q => max a (q.start + q.lines)) 0

/-- Places a page behind those before it: a started page where it lies, another as early as each of its stations is free
(R123; DESIGN CHOICE, log entry 85: the spec does not say when a page without a start event will print). -/
def placePage (s : State) (ps : List Placed) (p : Page) : List Placed :=
  let base := p.stations.foldl (fun a st => max a (freeFrom ps st - offsetBehind s st)) 0
  match pageObj s p.key with
  | none => ps
  | some o => ps ++ p.stations.map (fun st =>
      { page := p.key, station := st, obj := o, lines := p.lines,
        start := if p.started then p.firstLine st - (trk s st).k else base + offsetBehind s st })

def placePages (s : State) (ps : List Page) : List Placed := ps.foldl (placePage s) []

/-- Spool read demand of every placed page at a line from now: the pages that overlap add up (R123). -/
def demandAt (ps : List Placed) (x : Int) : Nat :=
  sumBy (fun q => if q.start ≤ x ∧ x < q.start + q.lines then planeDemand q.obj q.station (x - q.start).toNat else 0) ps

/-- The lines at which the demand of a placed page changes: the first line that each block serves. -/
def demandPoints (q : Placed) : List Int :=
  match q.obj.plane? q.station with
  | none => []
  | some h =>
    let m := Nat.max 1 (h.ppiY * pitchUm q.obj.pitch10)
    let blocks := ((q.obj.streams.filter (fun t => t.plane == q.station)).map (fun t => t.recs.length)).foldl Nat.max 0
    (List.range blocks).map (fun b => q.start + ((16 * b * 25400 + m - 1) / m : Nat))

/-- Largest demand of the placed pages at any point that still lies ahead, within a page's own lines where one is named (R123). -/
def peakDemand (ps : List Placed) (page : Option Nat) : Nat :=
  let inside := fun (x : Int) => match page with
    | none => true
    | some k => ps.any (fun q => q.page == k && decide (q.start ≤ x ∧ x < q.start + q.lines))
  (((0 : Int) :: (ps.map demandPoints).flatten).filter (fun x => decide (0 ≤ x) && inside x)).foldl (fun a x => Nat.max a (demandAt ps x)) 0

/-- Largest spool demand of the live pages (R123). -/
def liveSpoolDemand (s : State) : Nat := peakDemand (placePages s (liveByAdmission s)) none

/-- A spool demand fits the print read budget of some channels at a rate index and line rate (R123, R411). -/
def spoolFits (demand lineRate channels rate : Nat) : Bool :=
  decide (demand * lineRate ≤ printBudget channels rate * 1000000 * 25400 * rowScale)

/-- The three terms of the slack forecast (R166): engine, decode, spool. `decode` is in 1/25,400 step per second. -/
def slackTerms (s : State) (mask rate decode spool : Nat) : Bool × Bool × Bool :=
  let e := slowest Engine.rMeas s
  let l := slowest laneRate s
  (rateCovers s (forecastFactor s mask rate e) (pipeRate s e) (16384 * rate),
   rateCovers s (forecastFactor s mask rate l) ((l.map (fun e => laneRate (eng s e))).getD 0 * 25400) decode,
   spoolFits spool rate (popCount 4 (ddrMask s)) (ddrRate s))

end Sys2Proof.Machine
end

