-- ==== Sys2Proof/Machine/ExpCmd.lean ====
section
/-! DEFINITION. Meanings of the expansion commands (R167, R168, Table 5.12). -/

namespace Sys2Proof.Machine

/-- Engines in a state. -/
def engCount (s : State) (f : EngSt → Bool) : Nat := countBy (fun (g : Engine) => f g.st) s.exp.engines

/-- EXP_STATUS (R167, Table 5.12). -/
def execExpStatus (s : State) : Host.Outcome State Fault Refusal :=
  .next (serve 0x0401 .immediate [] (fun _ s =>
    { st := s, results :=
      ((List.range 4).map (fun w => sumBy (fun j => if 8 * w + j < 28 then fld (eng s (8 * w + j)).st.code (4 * j) 4 else 0) (List.range 8)))
      ++ ((List.range 6).map (fun w => sumBy (fun j => fld ((carrierOf s (4 * w + j)).getD 0xFF) (8 * j) 8) (List.range 4)))
      ++ [fld (engCount s EngSt.healthy) 0 5 + fld (engCount s (· == .spare)) 8 5 + fld (engCount s (fun x => !x.healthy)) 16 5,
          fld (Nat.min 31 s.exp.replays.length) 0 5] }) s)

/-- A station's geometry in a bank is in use (R168). -/
def geomInUse (s : State) (bank st : Nat) : Bool :=
  s.page.pages.any (fun p => (p.st == .admitted || p.st == .active) && p.geomBank == bank && p.uses st)

/-- A plane's screen in a bank is in use (R168). -/
def screenInUse (s : State) (bank plane : Nat) : Bool :=
  s.page.pages.any (fun p => (p.st == .admitted || p.st == .active) && p.screenBank == bank && p.uses plane)

/-- Tile `t` of EXP.GEOM_LOAD. -/
def geomParam (ws : List Word) (t : Nat) : TileGeom :=
  { xoff := sbits (par ws (3 + 2 * t)) 0 16, xscale := sbits (par ws (3 + 2 * t)) 16 16,
    skew := sbits (par ws (4 + 2 * t)) 0 16, bow := sbits (par ws (4 + 2 * t)) 16 16 }

/-- The field ranges of Table 5.2. -/
def geomInRange (g : TileGeom) : Bool :=
  decide (-4096 ≤ g.xoff ∧ g.xoff ≤ 4095 ∧ -5000 ≤ g.xscale ∧ g.xscale ≤ 5000 ∧ -512 ≤ g.skew ∧ g.skew ≤ 512 ∧ -512 ≤ g.bow ∧ g.bow ≤ 512)

/-- EXP_GEOM_LOAD (R142, R168). -/
def execExpGeomLoad (s : State) : Host.Outcome State Fault Refusal :=
  .next (serve 0x0402 .immediate (0x00030701 :: List.replicate 32 allBits) (fun ws s =>
    let bank := bits (par ws 2) 0 1
    let st := bits (par ws 2) 8 3
    let k := bits (par ws 2) 16 2
    let gs := (List.range 16).map (geomParam ws)
    if 5 < st ∨ k = 3 ∨ !gs.all geomInRange then Ans.refuse s stBadParam
    else if geomInUse s bank st then Ans.refuse s stPageLocked
    else match (List.range 16).find? (fun t => !geomValid (gs.getD t {}) t) with
      | some t => { st := s, status := stBadParam, results := [t] }
      | none =>
        let bk := s.exp.banks.getD bank {}
        let tiles := (List.range 96).map (fun g => if g / 16 = st then gs.getD (g % 16) {} else bk.tiles.getD g {})
        { st := { s with exp := { s.exp with banks := s.exp.banks.set bank { tiles := tiles, kernel := bk.kernel.set st k } } }, results := [0xFF] }) s)

/-- EXP_SCREEN_LOAD (R168): the load becomes a background job; it ends at an idle step. -/
def execExpScreenLoad (s : State) : Host.Outcome State Fault Refusal :=
  .next (serve 0x0403 .background [0x701, 0x03FF03FF, 0x00FF01FF, 0x01FF01FF, allBits, allBits, allBits] (fun ws s =>
    let bank := bits (par ws 2) 0 1
    let plane := bits (par ws 2) 8 3
    let w := bits (par ws 3) 0 10
    let h := bits (par ws 3) 16 10
    let i := 6 * bank + plane
    if 5 < plane ∨ w < 1 ∨ 512 < w ∨ h < 1 ∨ 512 < h ∨ w ≤ bits (par ws 4) 0 9 ∨ bits (par ws 4) 16 8 = 0
        ∨ w ≤ bits (par ws 5) 0 9 ∨ h ≤ bits (par ws 5) 16 9 then Ans.refuse s stBadParam
    else if screenInUse s bank plane then Ans.refuse s stPageLocked
    else
      let ps := (List.range 7).map (fun n => BitVec.ofNat 32 (par ws (n + 2)))
      { st := { s with exp := { s.exp with screens := updAt s.exp.screens i (fun c => { c with loading := c.loading ++ [(s.host.nextOid, ps)] }) } },
        status := stPending }) s)

/-- Finishes a screen load (R168): fetch, CRC, a level table that never decreases. -/
def screenLoaded (i : Nat) (s : State) : State :=
  match (s.exp.screens.getD i {}).loading with
  | [] => s
  | (oid, ps) :: rest =>
    let w := fun n => wordAt ps (n - 2)
    let k := bits (w 4) 16 8
    let cols := bits (w 3) 0 10
    let rows := bits (w 3) 16 10
    let n := k + 1 + cols * rows
    let bad := fun (s : State) => { s with exp := { s.exp with screens := updAt s.exp.screens i (fun c => { c with loading := rest, valid := false }) } }
    match hostRead s (w 6 + 2 ^ 32 * w 7) n with
    | none => complete oid stDmaFault [] (bad s)
    | some b =>
      let d := b.take (k + 1)
      if crc32c b ≠ w 8 then complete oid stCheck [] (bad s)
      else if (List.range k).any (fun j => decide ((d.getD (j + 1) 0).toNat < (d.getD j 0).toNat)) then complete oid stBadParam [] (bad s)
      else
        let c : Screen := { w := cols, h := rows, shift := bits (w 4) 0 9, sx := bits (w 5) 0 9, sy := bits (w 5) 16 9, k := k,
                            d := d, t := b.drop (k + 1), valid := true, loading := rest }
        complete oid stOk [] { s with exp := { s.exp with screens := s.exp.screens.set i c } }

/-- EXP_TONE_NEUTRAL (R168): pending updates of the stations are discarded and their curves go back by tone updates. -/
def execExpToneNeutral (s : State) : Host.Outcome State Fault Refusal :=
  .next (serve 0x0404 .background [0x3F] (fun ws s =>
    let mask := bits (par ws 2) 0 6
    if s.exp.neutral.any (fun n => n.stations &&& mask != 0) then Ans.refuse s stBusy else
    let s := forList (bitList 6 mask) s (fun st s => calReset st 0xFFFF (· == 0) s)
    { st := { s with exp := { s.exp with
        toneReqs := s.exp.toneReqs.filter (fun r => !bitOf mask r.station)
        neutral := s.exp.neutral ++ [{ oid := s.host.nextOid, stations := mask }] } }, status := stPending }) s)

/-- EXP_POLICY (R168). -/
def execExpPolicy (s : State) : Host.Outcome State Fault Refusal :=
  .next (serve 0x0405 .immediate [0x00FFFFFF, 0x0F03FFFF] (fun ws s =>
    let a := par ws 2
    let b := par ws 3
    let ok := zeroOrIn 18 63 (bits a 0 8) && zeroOrIn 1 63 (bits a 8 8) && zeroOrIn 2 20 (bits a 16 8) && zeroOrIn 1 3600 (bits b 0 16)
      && !(bitOf b 16 && bitOf b 17)
    if !ok then Ans.refuse s stBadParam
    else
      let x := s.exp
      let off := if bitOf b 16 then true else if bitOf b 17 then false else x.rotateOff
      let rot := orKeep (bits b 0 16) x.rotate
      let fresh := (x.rotateOff && !off) || rot != x.rotate
      let x := { x with
        stall := orKeep (bits a 0 8) x.stall, slackThr := orKeep (bits a 8 8) x.slackThr, margin := orKeep (bits a 16 8) x.margin
        rotate := rot, rotateOff := off, fenceLimit := orKeep (bits b 24 4) x.fenceLimit
        nextRotate := if fresh then s.now + rot * 1000000000000 else x.nextRotate }
      { st := { s with exp := x }, results :=
        [fld x.stall 0 8 + fld x.slackThr 8 8 + fld x.margin 16 8, fld x.rotate 0 16 + fld (b2n x.rotateOff) 16 1 + fld x.fenceLimit 24 4] }) s)

/-- Measured headroom of a station's slowest engine in permille of full load at its line rate; 0 where neither is known (R165, R166). -/
def headroom (s : State) (st : Nat) : Nat :=
  let rs := (List.range 4).filterMap (fun k => (carrierOf s (4 * st + k)).map (fun e => (eng s e).rMeas))
  match rs, lineRate (trk s st) with
  | a :: t, some r => if r = 0 then 0 else t.foldl Nat.min a * 1000000000 / (16384 * r)
  | _, _ => 0

/-- EXP_SLACK (R165): reports the slack statistics and starts them again. -/
def execExpSlack (s : State) : Host.Outcome State Fault Refusal :=
  .next (serve 0x0406 .immediate [] (fun _ s =>
    let one := fun st =>
      let k := s.exp.slack.getD st {}
      fld (match k.least with | none => 0x7FFF | some x => unsig x 16) 0 16 + fld k.replays 16 16
    let two' := fun st =>
      let k := s.exp.slack.getD st {}
      fld (unsig k.latest 16) 0 16 + fld (Nat.min 65535 (headroom s st)) 16 16
    { st := { s with exp := { s.exp with slack := s.exp.slack.map (fun k => { k with least := none, replays := 0 }) } },
      results := (List.range 6).map one ++ (List.range 6).map two' }) s)

/-- EXP_FORECAST (R166). -/
def execExpForecast (s : State) : Host.Outcome State Fault Refusal :=
  .next (serve 0x0407 .immediate [0x3F01FFFF, 0x00033FFF] (fun ws s =>
    let rate := bits (par ws 2) 0 17
    let mask := bits (par ws 2) 24 6
    let b := bits (par ws 3) 0 14
    let per := bits (par ws 3) 16 2
    if rate < 1 ∨ 100000 < rate ∨ per < 1 ∨ 2 < per then Ans.refuse s stBadParam
    else
      let union := mask ||| liveStations s
      let steps := if b = 0 then 2 * 4096 else 2 * b * per
      let t := slackTerms s union rate (steps * rate * 25400) (liveSpoolDemand s)
      let e := slowest Engine.rMeas s
      let q := forecastFactor s union rate e
      let rfc := if q.2 ≤ 0 then 0 else (pipeRate s e * q.1 / q.2).toNat
      { st := s, results := [b2n t.1 + 2 * b2n t.2.1 + 4 * b2n t.2.2, rfc, 16384 * rate * (100 + s.exp.margin) / 100000000] }) s)

/-- EXP_ENGINE (R160, R168). -/
def execExpEngine (s : State) : Host.Outcome State Fault Refusal :=
  .next (serve 0x0408 .background [0x31F] (fun ws s =>
    let e := bits (par ws 2) 0 5
    let act := bits (par ws 2) 8 2
    let g := eng s e
    let own := fun (s : State) => setEng e (fun g => { g with oids := g.oids ++ [s.host.nextOid] }) s
    if 27 < e ∨ act = 3 then Ans.refuse s stBadParam
    else if g.move.isSome then Ans.refuse s stState
    else if act = 0 then
      if g.st ≠ .active ∧ g.st ≠ .spare ∧ g.st ≠ .test ∧ g.st ≠ .warming then Ans.refuse s stState
      else if g.st = .active ∧ (pickEngine s e).isNone then Ans.refuse s 0x0401
      else { st := movesNow (engFail e 10 true (own s)), status := stPending }
    else if act = 1 then
      if g.st ≠ .active ∧ g.st ≠ .spare then Ans.refuse s stState
      else if g.st = .active ∧ (pickEngine s e).isNone then Ans.refuse s 0x0401
      else { st := movesNow (engFail e 0 false (own s)), status := stPending }
    else
      if g.st ≠ .off then Ans.refuse s stState
      else { st := startTest e (setEng e (fun g => { g with st := .fenced, toOff := false }) (own s)), status := stPending }) s)

end Sys2Proof.Machine
end

