-- ==== Sys2Proof/Machine/FwCore.lean ====
section
/-! DEFINITION. Images, bank selection and transitions of FW_STATE (R453 to R459). -/

namespace Sys2Proof.Machine

/-- The lines of command, address and data and the clock in MHz at which the SPI master reads a flash part (R453). -/
def flashRead (f : FlashPart) : (Nat × Nat × Nat) × Nat := if f.quad then ((1, 4, 4), 100) else ((1, 1, 1), 25)

/-- The SPI master supports a flash part (R453). -/
def flashOk (f : FlashPart) : Bool := decide (16 ≤ f.mib)

/-- Where the flash holds a bank, a copy of the boot record, and the first persistent record (Table 15.1). -/
def bankAt (n : Nat) : Nat := n * 0x400000
def bootAt (n : Nat) : Nat := 0x800000 + n * 0x1000
def recordsAt : Nat := 0x802000

/-- Changes the firmware state. -/
def withFw (f : FwState → FwState) (s : State) : State := { s with fw := f s.fw }

/-- A bank's image is valid (R454): what never changes of it, and its key and security version today. -/
def imageOk (s : State) (b : FlashBank) : Bool :=
  match b.hdr with
  | none => false
  | some h => b.sound && !s.fw.revoked.getLsbD h.keyIdx && decide (s.fw.svnMin ≤ h.svn)

def bankOk (s : State) (n : Nat) : Bool := flashOk s.board.flash && ((s.fw.banks[n]?).map (imageOk s)).getD false

/-- The copy of the boot record in use: the valid one with the newer GEN (R247, R454). -/
def bootCopy (s : State) : Option (Nat × BootRec) :=
  (List.range s.fw.boot.length).foldl (fun (a : Option (Nat × BootRec)) i =>
    match s.fw.boot[i]?, a with
    | some r, none => if r.valid then some (i, r) else none
    | some r, some x => if r.valid && genNewer r.gen x.2.gen then some (i, r) else a
    | none, _ => a) none

/-- The COMMITTED bank: bank 0 where no copy of the boot record is valid (R455). -/
def committed (s : State) : Nat := ((bootCopy s).map (fun r => r.2.committed)).getD 0

/-- Writes the boot record's other copy (R454). -/
def bootWrite (bank : Nat) (s : State) : State :=
  let r := bootCopy s
  let new : BootRec := { gen := (((r.map (fun x => x.2.gen)).getD 0) + 1) % 2 ^ 32, committed := bank, valid := true }
  withFw (fun f => { f with boot := f.boot.set ((r.map (fun x => 1 - x.1)).getD 0) new }) s

/-- The boot ROM's selection (R455): bank, and whether it falls back to a trial; a bank found not valid is counted. -/
def bootSelect (why : BootWhy) (s : State) : State :=
  let s := if (bootCopy s).isSome then s
    else withFw (fun f => { f with boot := [{ gen := 0, committed := 0, valid := true }, { gen := 0, committed := 0, valid := false }] }) s
  let c := committed s
  if bankOk s c then withFw (fun f => { f with st := .boot, bank := some c, trial := false, why := why }) s
  else
    let s := tick 0x0E04 0 s
    if bankOk s (1 - c) then withFw (fun f => { f with st := .boot, bank := some (1 - c), trial := true, why := .fallback }) (tick 0x0E01 0 s)
    else withFw (fun f => { f with st := .boot, bank := none, trial := false, why := why, parked := true }) (tick 0x0E04 0 s)

/-- FW_STATE becomes FAULT (R397, R425, R458): the cores are held in reset, unless they were restarted three times within
the last hour. A start that had not reached READY before is a start still. -/
def fwFault (why : BootWhy) (s : State) : State :=
  if s.fw.st = .fault then s
  else withFw (fun f =>
    let recent := f.restarts.filter (fun t => decide (s.now < t + 3600000000000000))
    { f with st := .fault, why := why, restarts := recent, resetSince := if recent.length < 3 then some s.now else none,
             recover := f.recover || f.st != .boot,
             preload := none, activate := none, load := none }) s

/-- The release of a header as identity offset 0x008 holds it (Table 2.4). -/
def release (h : Option ImgHdr) : Nat :=
  match h with
  | none => 0
  | some h => fld h.patch 0 8 + fld h.minor 8 8 + fld h.major 16 8

/-- EV_FW_STATE (Table 15.12). -/
def fwEvent (cause : Nat) (s : State) : State :=
  raise 0x0E01 dev 0 0 s.fw.st.code cause (((s.fw.bank).getD 0) + release s.fw.running * 256) s

end Sys2Proof.Machine
end

