-- ==== Sys2Proof/Machine/Mule.lean ====
section
/-! DEFINITION. Meanings of the Mule and ingest rows: registers of a channel, descriptors, read data, stream records
(R103 to R116). -/

namespace Sys2Proof.Machine

/-- A write of a channel's control word (Table 4.2, R105, R110). One that sets EN from 0 to 1 with STOP also 1 starts the channel, and
STOP has no effect (DESIGN CHOICE, log entry 83). -/
def muleCtrl (ch : Nat) (v : Word) (s : State) : State :=
  let c := chan s ch
  let en := v.getLsbD 0
  let s := setChan ch (fun c => { c with
    irqEn := v.getLsbD 17
    log2Size := if c.en then c.log2Size else (v >>> 8).setWidth 5 }) s
  if en ∧ ¬ c.en then
    if c.st = .unbound then s
    else setChan ch (fun c => { c with en := true, st := .run, head := 0, tail := 0, desc := none, buf := [], stopReq := false }) s
  else if c.st = .run ∧ (¬ en ∨ v.getLsbD 16) then
    if c.desc.isNone || c.pio then muleEnd ch stOk 0 2 s else setChan ch (fun c => { c with stopReq := true }) s
  else s

/-- MULE_EN_WRITE (R105). -/
def execMuleEnWrite (ch : Nat) (v : Word) (s : State) : Host.Outcome State Fault Refusal :=
  .next (when (barOn s && decide (ch < 16)) (muleCtrl ch v) s)

/-- MULE_STOP_WRITE (R110): a control word with STOP set. -/
def execMuleStopWrite (ch : Nat) (v : Word) (s : State) : Host.Outcome State Fault Refusal :=
  .next (when (barOn s && decide (ch < 16)) (muleCtrl ch (v ||| 0x10000)) s)

/-- A write of TAIL (R105). -/
def muleTail (ch : Nat) (v : Word) (s : State) : State :=
  let c := chan s ch
  if !c.en || decide (muleN c < (v - c.head).toNat) then s else setChan ch (fun c => { c with tail := v }) s

/-- MULE_TAIL_WRITE (R105). -/
def execMuleTailWrite (ch : Nat) (v : Word) (s : State) : Host.Outcome State Fault Refusal :=
  .next (when (barOn s && decide (ch < 16)) (muleTail ch v) s)

/-- MULE_RESUME_LO_READ (R103, Table 4.2): the low half, RESUME_HI latched. -/
def execMuleResumeLoRead (ch : Nat) (s : State) : Host.Outcome State Fault Refusal :=
  .next (when (barOn s && decide (ch < 16)) (fun s =>
    let r := chanResume s ch
    emit (.read (BitVec.ofNat 32 r)) (setChan ch (fun c => { c with resumeHi := BitVec.ofNat 32 (r / 2 ^ 32) }) s)) s)

/-- FREE of a PIO window (Table 4.2): what it accepts now, nothing while the channel is not in RUN (R113). -/
def pioFree (c : MuleChan) : Nat := if c.pio ∧ c.st = .run then 65536 - c.buf.length else 0

/-- A write to a PIO window (R113). -/
def pioWrite (ch : Nat) (bs : List Byte) (s : State) : State :=
  let c := chan s ch
  if c.st ≠ .run ∨ !c.pio then s
  else if pioFree c < bs.length then muleEnd ch stOk 0 10 s
  else setChan ch (fun c => { c with buf := c.buf ++ bs, appended := (c.appended + bs.length) % 2 ^ 32 }) s

/-- PIO_WINDOW_WRITE (R113): a 32-bit or 64-bit write; any other is a bad access (R41). -/
def execPioWindowWrite (ch : Nat) (bs : List Byte) (s : State) : Host.Outcome State Fault Refusal :=
  .next (when (barOn s && decide (ch < 16) && (bs.length == 4 || bs.length == 8)) (pioWrite ch bs) s)

/-- A channel that can fetch its next descriptor: in RUN from a ring, with one to fetch, none in progress. -/
def canFetch (s : State) (ch : Nat) : Bool :=
  let c := chan s ch
  decide (ch < 16) && c.st == .run && !c.pio && c.desc.isNone && c.head != c.tail && hostUp s

/-- Whether a descriptor is well formed (R108). -/
def descOk (d : List Byte) : Bool :=
  leAt d 0 8 % 4 == 0 && leAt d 8 4 != 0 && decide (leAt d 8 4 ≤ 16777216) && leAt d 8 4 % 4 == 0 && decide (leAt d 12 4 < 8)

/-- The descriptor that fetched bytes spell, before its reads (Table 4.3). -/
def descRun (d : List Byte) : DescRun :=
  let f := leAt d 12 4
  { addr := leAt d 0 8, len := leAt d 8 4, fixed := bitOf f 0, irq := bitOf f 1, stop := bitOf f 2 }

/-- MULE_DESCRIPTOR_FETCH (R106, R108, R109): all but USER is read. A fetch that ends in an error stops the channel with DMA_FAULT, and
no descriptor is completed (DESIGN CHOICE, log entry 83). -/
def execMuleDescriptorFetch (ch : Nat) (s : State) : Host.Outcome State Fault Refusal :=
  .next (when (canFetch s ch) (fun s =>
    let c := chan s ch
    match hostRead s (descAddr c) 24 with
    | none => muleStop ch 8 s
    | some d =>
      if descOk d then sendReads ch (descRun d) s
      else muleStop ch 9 (descDone ch 0 stBadParam 0 9 (bitOf (leAt d 12 4) 1) s)) s)

/-- A completion answers the oldest read request at `a` of `n` bytes with `m` of them; the rest of it stays outstanding (R109). -/
def takeRead (a n m : Nat) (t : List (Nat × Nat)) (d : DescRun) : DescRun :=
  { d with requests := if m < n then ((if d.fixed then a else a + m), n - m) :: t else t, got := d.got + m }

/-- MULE_READ_COMPLETION (R109, R110): `len` bytes answer the oldest read request, or all it still wants. They are host memory's bytes from
its address on; with FIXED they are those of `reply`, what the aperture at ADDR returned. -/
def execMuleReadCompletion (ch len : Nat) (reply : ReadReply) (s : State) : Host.Outcome State Fault Refusal :=
  .next (when (engOn s && decide (ch < 16)) (fun s =>
    match (chan s ch).desc with
    | none => s
    | some d =>
      match d.requests with
      | [] => s
      | (a, n) :: t =>
        let m := Nat.min n (if d.fixed then reply.fifo.length else len)
        if reply.err || !(d.fixed || hostOk s a m) then muleEnd ch stDmaFault 0 8 s
        else
          let bs := if d.fixed then reply.fifo.take m else memRead s.hostMem a m
          descEnd ch (sendReads ch (takeRead a n m t d) (setChan ch (fun c => { c with buf := c.buf ++ bs }) s))) s)

/-- MULE_READ_TIMEOUT (R110): the reads outstanding never complete. -/
def execMuleReadTimeout (ch : Nat) (s : State) : Host.Outcome State Fault Refusal :=
  .next (when (engOn s && decide (ch < 16)) (fun s =>
    match (chan s ch).desc with
    | none => s
    | some d => if d.requests.isEmpty then s else muleEnd ch stDmaFault 0 8 s) s)

/-! Ingest of a record. -/

/-- The largest number of 64 KiB granules an extent's first `fill` bytes fill whole, as a mask (R399). -/
def granuleMask (fill : Nat) : Nat := 2 ^ (fill / 65536) - 1

/-- Marks the granules of an extent that are filled (R399). -/
def markExtent (no channels mask : Nat) (s : State) : State :=
  let old := (s.mem.marks.find? (fun m => m.extent == no)).map Marks.mask |>.getD 0
  let new := old ||| mask
  if new = 0 then s
  else
    let m : Marks := { extent := no, mask := new, channels := channels }
    { s with mem := { s.mem with marks := s.mem.marks.filter (fun m => m.extent != no) ++ [m] } }

/-- Takes a new extent for a record (R117, R118). -/
def placeNew (size : Nat) (st : PbStream) (s : State) : Option (PbStream × State) :=
  if extentsFree s = 0 then none
  else
    let no := nextExtent s
    let cs := healthyMask s
    let s := { s with spool := { s.spool with extents := s.spool.extents ++ [Extent.mk no cs] } }
    some ({ st with extents := no :: st.extents, fill := size }, spoolLow (markExtent no cs (granuleMask size) s))

/-- Puts a block record into a stream's extents (R118): in the newest extent if it fits, else in a new one. None where
no extent is free (R119). -/
def placeRecord (size : Nat) (st : PbStream) (s : State) : Option (PbStream × State) :=
  match st.extents with
  | e :: _ =>
    if st.fill + size ≤ 262144 then
      let fill := st.fill + size
      let cs := ((s.spool.extents.find? (fun x => x.no == e)).map Extent.channels).getD 0
      some ({ st with fill := fill }, markExtent e cs (granuleMask fill) s)
    else placeNew size st s
  | [] => placeNew size st s

/-- The directory's record of an accepted block (R80, R119). -/
def blockOf (h payload : List Byte) (extent offset : Nat) : BlockRec :=
  { hdr := h, block := leAt h 12 4, alive := leAt h 7 1, coding := leAt h 6 1, rows := leAt h 16 2, outSize := leAt h 20 4,
    compLen := leAt h 24 4, crcOrig := leAt h 32 4, extent := extent, offset := offset, payload := payload }

/-- Takes an accepted record into the page's spool object; none where the spool is full (R119). -/
def takeRecord (sid : Nat) (h payload : List Byte) (s : State) : Option State :=
  match leAt h 0 2 with
  | 0xFA01 => some (setObj sid (fun o => { o with pitch10 := leAt h 7 1 == 1, lines := leAt h 12 4 }) s)
  | 0xFA02 =>
    let ph : PlaneHdr := PlaneHdr.mk (leAt h 4 1) (leAt h 5 1 == 1) (leAt h 8 2) (leAt h 10 2) (leAt h 12 4) (leAt h 16 4)
    some (setObj sid (fun o => { o with planeHdrs := o.planeHdrs ++ [ph] }) s)
  | 0xFA03 =>
    let st : PbStream :=
      { plane := leAt h 4 1, band := leAt h 5 1, colFirst := leAt h 12 4, colCount := leAt h 16 4, blocks := leAt h 20 4 }
    some (setObj sid (fun o => { o with streams := o.streams ++ [st] }) s)
  | _ =>
    let p := leAt h 4 1
    let b := leAt h 5 1
    match (objOf s sid).bind (fun o => o.stream? p b) with
    | none => none
    | some st =>
      if entriesFree s = 0 then none
      else
        let size := 40 + payload.length + padLen payload.length
        match placeRecord size st s with
        | none => none
        | some (st', s) =>
          let st' := { st' with recs := st'.recs ++ [blockOf h payload (st'.extents.headD 0) (st'.fill - size)] }
          some (setObj sid (fun o => { o with streams := o.streams.map (fun q => if q.plane = p ∧ q.band = b then st' else q) }) s)

/-- Every plane-band stream has delivered its blocks (R72). -/
def objComplete (o : SpoolObj) : Bool :=
  o.lines != 0 && (bitList 6 o.planes).all (fun p => (List.range 16).all (fun b =>
    match o.stream? p b with
    | none => false
    | some st => st.recs.length == st.blocks))

/-- The page of a finished ingest becomes SPOOLED (R116, R121); its length comes from the page header. -/
def pageSpooled (key : Nat) (s : State) : State :=
  let lines := ((pageObj s key).map SpoolObj.lines).getD 0
  let s := setPage key (fun p => { p with lines := lines }) (setIngest key (fun i => { i with st := .complete }) s)
  pageTo key .spooled dev 0 s

/-- The context fails (R115): `source` is the channel, or 0xFFFF in pre-verification. -/
def ingestFail (key check plane band block source : Nat) (preverify : Bool) (s : State) : State :=
  let id := ((pageOf s key).map (fun p => p.id.toNat)).getD 0
  let s := setIngest key (fun i => { i with st := .failed, failCheck := check, failPlane := plane, failBand := band, failBlock := block }) s
  raise 0x0302 source id 0 (check + plane * 256 + band * 65536) block (b2n preverify) (tick 0x0312 0 s)

/-- A record is refused (Table 4.5): EV_INGEST_REFUSED and INT.REFUSED; the ingest fails at the fourth refusal at one
offset, or at a second identical mismatch of check 8. -/
def ingestRefuse (ch : Nat) (p : Page) (i : Ingest) (check : Nat) (h : List Byte) (crc : Nat) (s : State) : State :=
  let n := i.refusals + 1
  let same := check = 8 ∧ i.lastBad = some (h, crc)
  let s := setIngest p.key (fun i => { i with refusals := n, lastBad := if check = 8 then some (h, crc) else none }) s
  let s := raise 0x0301 ch p.id.toNat 0 (check + n * 256) (i.resume % 2 ^ 32) (i.resume / 2 ^ 32) (tick 0x0311 ch s)
  let s := muleInt ch 0b0100 s
  let place := recPlace h
  if same ∨ 4 ≤ n then
    muleEnd ch (checkStatus check) check 5 (ingestFail p.key check place.1 place.2.1 place.2.2 ch false s)
  else muleEnd ch (checkStatus check) check 3 s

/-- A record that passed is taken: RESUME moves past it, and the last one completes the page (R116). -/
def ingestAccept (ch : Nat) (p : Page) (i : Ingest) (h payload : List Byte) (len : Nat) (s : State) : State :=
  match takeRecord i.sid h payload s with
  | none => muleEnd ch 0x0307 0 7 s
  | some s =>
    let s := bump 0x0310 ch len s
    let s := setChan ch (fun c => { c with buf := c.buf.drop len }) s
    let s := setIngest p.key (fun i => { i with
      resume := i.resume + len, refusals := 0, lastBad := none
      accepted := i.accepted + b2n (leAt h 0 2 == 0xFA04) }) s
    if ((objOf s i.sid).map objComplete).getD false then
      let s := if p.preverify then setIngest p.key (fun i => { i with st := .verifying }) s else pageSpooled p.key s
      muleEnd ch stOk 0 4 s
    else descEnd ch s

/-- Judges a whole record, or a header that already fails (R89): the failing check and the CRC computed for check 8. -/
def judgeRecord (p : Page) (o : SpoolObj) (rec : List Byte) : Nat × Nat :=
  let type := leAt rec 0 2
  let h := rec.take (recHdrLen type)
  let c := headerCheck p.id p.planes o h
  if c ≠ 0 ∨ type ≠ 0xFA04 then (c, 0)
  else
    let n := leAt h 24 4
    let crc := crc32c (slice rec 40 n)
    if !(rec.drop (40 + n)).all (· == 0) then (2, crc)
    else if crc = leAt h 28 4 then (0, crc) else (8, crc)

/-- Acts on the record at the head of the stream, injections first (R484, R486), then checks 1 to 8 (R89, R114). -/
def ingestHead (ch : Nat) (p : Page) (i : Ingest) (o : SpoolObj) (len : Nat) (s : State) : State :=
  let raw := (chan s ch).buf.take len
  let type := leAt raw 0 2
  let post := ((injOf s 3 ch).map Injection.action) == some .corruptPost
  let body := leAt raw 24 4
  let r := if post && type != 0xFA04 then (s, none) else injOffer 3 ch (type % 256) none (if post then body else raw.length) p.id.toNat s
  let s := r.1
  let judge (rec : List Byte) (tamper : List Byte → List Byte) (s : State) : State :=
    let v := judgeRecord p o rec
    let h := rec.take (recHdrLen (leAt rec 0 2))
    let place := recPlace h
    if v.1 = 0 then ingestAccept ch p i h (tamper (slice rec 40 (if leAt h 0 2 = 0xFA04 then leAt h 24 4 else 0))) len s
    else if v.1 = 1 ∨ v.1 = 8 then ingestRefuse ch p i v.1 h v.2 s
    else muleEnd ch (checkStatus v.1) v.1 5 (ingestFail p.key v.1 place.1 place.2.1 place.2.2 ch false s)
  match r.2 with
  | none => judge raw id s
  | some j =>
    match j.action with
    | .drop => descEnd ch (setIngest p.key (fun i => { i with resume := i.resume + len, refusals := 0, lastBad := none }) (setChan ch (fun c => { c with buf := c.buf.drop len }) s))
    | .corruptPre => judge (xorAt raw j.offset j.mask) id s
    | .corruptPost => judge raw (fun b => xorAt b j.offset j.mask) s
    | .reorder =>
      let rest := (chan s ch).buf.drop len
      match recLen rest with
      | none => judge raw id s
      | some n => setChan ch (fun c => { c with buf := rest.take n ++ raw ++ rest.drop n }) s
    | .delay => setChan ch (fun c => { c with holdUntil := s.now + j.delay * 1000000 }) s

/-- Ingest to a channel waits while MEM.TRAIN trains it (R413): new extents lie on every healthy channel. -/
def ingestWaits (s : State) : Bool := match s.mem.train with
  | none => false
  | some j => bitOf (healthyMask s) j.chan

/-- INGEST_RECORD (R89): judges the record at the head of the channel's bytes. -/
def execIngestRecord (ch : Nat) (s : State) : Host.Outcome State Fault Refusal :=
  .next (when (engOn s && decide (ch < 16) && (chan s ch).st == .run && decide ((chan s ch).holdUntil ≤ s.now) && recReady s ch
      && !ingestWaits s)
    (fun s =>
      match (chan s ch).page.bind (pageOf s), (chan s ch).page.bind (ingestOf s), (chan s ch).page.bind (pageObj s), recLen (chan s ch).buf with
      | some p, some i, some o, some n => ingestHead ch p i o n s
      | _, _, _, _ => s) s)

end Sys2Proof.Machine
end

