-- ==== Sys2Proof/Machine/HostPort.lean ====
section
/-! DEFINITION. Meanings of the BAR0, BAR2, doorbell, event ring and PCI Express rows (R38 to R63, R511). -/

namespace Sys2Proof.Machine

/-- Records an access error: its bit, its count and where it was (Table 2.4). -/
def accErr (bit off : Nat) (bar2 : Bool) (s : State) : State :=
  tick 0x0101 0 { s with host := { s.host with
    accErr := s.host.accErr ||| (1#6 <<< bit), accErrAddr := BitVec.ofNat 26 off, accErrBar := bar2 } }

/-- A word of BAR0 that a register table lists or a rule gives a meaning to (R42, Tables 2.3, 2.4, 2.8, 2.10, 4.2, R113). -/
def regListed (off : Nat) : Bool :=
  let o := off % 0x1000
  match off / 0x1000 with
  | 0 => decide (o ≤ 0x028 ∨ (0x030 ≤ o ∧ o ≤ 0x038) ∨ o = 0x040)
  | 1 => true
  | 2 => decide (o ≤ 0x00C)
  | 3 => decide (o ≤ 0x02C ∨ (0x800 ≤ o ∧ o < 0xC08))
  | 4 => decide (o < 0x400)
  | 5 => true
  | _ => false

/-- Sends the messages of pending vectors that are unmasked and can be sent. -/
def msixFlush (s : State) : State :=
  forRange 64 s (fun v s =>
    if s.host.pba.getLsbD v && s.host.pci.msixEn && msixWord s.host (4 * v + 3) &&& 1 == 0 && reachable (envOf s) s.host then
      msix v { s with host := { s.host with pba := s.host.pba &&& ~~~(1#64 <<< v) } }
    else s)

/-- A write to a plain register of the interrupt and event ring block (Table 2.10), by its offset in the block. -/
def ringRegWrite (off : Nat) (v : Word) (s : State) : State :=
  let h := s.host
  let locked (h' : HostState) : State := if h.evrEn then s else { s with host := h' }
  match off with
  | 0x000 => locked { h with evrBaseLo := v &&& 0xFFFFF000 }
  | 0x004 => locked { h with evrBaseHi := v }
  | 0x014 => locked { h with shadowLo := v &&& 0xFFFFFFF8 }
  | 0x018 => locked { h with shadowHi := v }
  | 0x01C => { s with host := { h with modCount := v.setWidth 16, modTimer := (v >>> 16).setWidth 16 } }
  | 0x020 => { s with host := { h with intStatus := h.intStatus &&& ~~~(v.setWidth 4) } }
  | 0x024 => { s with host := { h with intEn := v.setWidth 4 } }
  | _ =>
    if 0x800 ≤ off ∧ off < 0xC00 ∧ off % 4 = 0 then
      msixFlush { s with host := { h with msix := updAt h.msix ((off - 0x800) / 4) (fun _ => v) } }
    else s

/-- A write to a plain register of a Mule channel (Table 4.2). -/
def muleRegWrite (ch off : Nat) (v : Word) (s : State) : State :=
  match off with
  | 0x00 => if (chan s ch).en then s else setChan ch (fun c => { c with ringLo := v &&& 0xFFFFFFC0 }) s
  | 0x04 => if (chan s ch).en then s else setChan ch (fun c => { c with ringHi := v }) s
  | 0x24 => setChan ch (fun c => { c with int := c.int &&& ~~~(v.setWidth 4) }) s
  | _ => s

/-- A write to a register without behaviour of its own, by access code (Table 0.4). Read-only fields ignore it, a register
that has a row of its own is left to that row, and a reserved offset records the access (R42). -/
def registerWrite (off : Nat) (v : Word) (s : State) : State :=
  let h := s.host
  if !regListed off then accErr 1 off false s
  else if off = 0x028 then { s with host := { h with scratch := v } }
  else if off = 0x030 then { s with host := { h with accErr := h.accErr &&& ~~~(v.setWidth 6) } }
  else if off = 0x040 then { s with host := { h with diagEn := v.getLsbD 0, diagRegion := (v >>> 4).setWidth 2 } }
  else if off = 0x2008 then { s with host := { h with slotDone := h.slotDone &&& ~~~(v.setWidth 16) } }
  else if 0x3000 ≤ off ∧ off < 0x4000 then ringRegWrite (off - 0x3000) v s
  else if 0x4000 ≤ off ∧ off < 0x4400 then muleRegWrite ((off - 0x4000) / 64) ((off - 0x4000) % 64) v s
  else s

/-- REGISTER_WRITE (R7). -/
def execRegisterWrite (off : Nat) (v : Word) (s : State) : Host.Outcome State Fault Refusal :=
  .next (when (barOn s) (registerWrite off v) s)

/-- BAD_SIZE_ACCESS (R41): not performed; a read returns 0. -/
def execBadSizeAccess (write : Bool) (off : Nat) (s : State) : Host.Outcome State Fault Refusal :=
  .next (when (barOn s) (fun s => accErr 0 off false (when (!write) (emit (.read 0)) s)) s)

/-- RESERVED_ADDR_ACCESS (R42): of a reserved offset, a read returns 0, a write is discarded and recorded. -/
def execReservedAddrAccess (write : Bool) (off : Nat) (s : State) : Host.Outcome State Fault Refusal :=
  .next (when (barOn s && !regListed off) (fun s => if write then accErr 1 off false s else emit (.read 0) s) s)

/-- TIME_LO_READ (R476, Table 2.4). -/
def execTimeLoRead (s : State) : Host.Outcome State Fault Refusal :=
  .next (when (barOn s) (fun s =>
    emit (.read (BitVec.ofNat 32 (nowNs s))) { s with host := { s.host with timeHi := BitVec.ofNat 32 (nowNs s / 2 ^ 32) } }) s)

/-- Size of a diagnostic region (Table 2.11), its first byte in the store, and the store. -/
def diagRegion (r : Nat) : Nat × Nat × Nat :=
  match r with
  | 0 => (2 ^ 26, 0, 0)
  | 1 => (2 ^ 25, 2 ^ 26, 0)
  | 2 => (8 * 2 ^ 20, 0, 3)
  | _ => (12 * 2 ^ 20, 0, 2)

/-- A byte of the line store (R62). -/
def storeByte (s : State) (a : Nat) : Byte := (mapGet s.pos.store a).getD 0

/-- BAR2_READ (R61, R63): a word of the selected store. `err` 0 found it clean, 1 + b corrected an error at bit b, which is recorded
and not written back (R396), 73 found it uncorrectable: it reads all ones and is recorded (R397). The contents of the camera
frame store and of the source staging are free values. -/
def bar2Read (off err : Nat) (s : State) : State :=
  let r := diagRegion s.host.diagRegion.toNat
  let word := (r.2.1 + off) / 8
  if !s.host.diagEn || decide (r.1 ≤ off) then emit (.read 0) s
  else if 72 < err then emit (.read 0xFFFFFFFF) (memUe false r.2.2 word (r.2.2 + 1) s)
  else
    let s := if err = 0 then s else memCe false r.2.2 word (err - 1) none s
    if r.2.2 = 0 then
      emit (.read (BitVec.ofNat 32 (leNat ((List.range 4).map (fun i => storeByte s (r.2.1 + off + i)))))) s
    else
      let d := drawNat s
      emit (.read (BitVec.ofNat 32 d.2)) d.1

/-- BAR2_READ (R63). -/
def execBar2Read (off err : Nat) (s : State) : Host.Outcome State Fault Refusal :=
  .next (when (barOn s) (bar2Read (off - off % 4) err) s)

/-- BAR2_WRITE (R61). -/
def execBar2Write (off : Nat) (s : State) : Host.Outcome State Fault Refusal :=
  .next (when (barOn s) (accErr 2 off true) s)

/-- A slot the host owns: IDLE or DONE (R45). -/
def hostOwns (s : State) (n : Nat) : Bool :=
  match s.host.slots[n]? with
  | none => false
  | some q => q.st == .idle || q.st == .done

/-- Writes words over a slot's words from index `word`. -/
def writeWords (ws : List Word) (word : Nat) (new : List Word) : List Word :=
  ws.take word ++ new ++ ws.drop (word + new.length)

/-- MAILBOX_SLOT_WRITE (R45): an owned slot keeps its words. -/
def execMailboxSlotWrite (slot word : Nat) (ws : List Word) (s : State) : Host.Outcome State Fault Refusal :=
  .next (when (barOn s && decide (slot < 16 ∧ word + ws.length ≤ 64)) (fun s =>
    if hostOwns s slot then
      { s with host := { s.host with slots := updAt s.host.slots slot (fun q => { q with words := writeWords q.words word ws }) } }
    else accErr 3 (0x1000 + 256 * slot + 4 * word) false s) s)

/-- Rings one slot (R46). -/
def ringSlot (n : Nat) (s : State) : State :=
  if hostOwns s n then
    { s with host := { s.host with
      slots := updAt s.host.slots n (fun q => { q with st := .posted })
      slotDone := s.host.slotDone &&& ~~~(1#16 <<< n)
      order := s.host.order ++ [n] } }
  else accErr 4 0x2000 false s

/-- DOORBELL (R46, R49): the named slots, in ascending number. -/
def execDoorbell (v : Word) (s : State) : Host.Outcome State Fault Refusal :=
  .next (when (barOn s) (fun s => forList (bitList 16 v.toNat) s ringSlot) s)

/-- A write of the ring's control word (R54). -/
def evrEnWrite (v : Word) (s : State) : State :=
  let h := s.host
  let en := v.getLsbD 0
  let h := { h with shadowEn := v.getLsbD 16, log2Size := if h.evrEn then h.log2Size else (v >>> 8).setWidth 5 }
  if en ∧ ¬ s.host.evrEn then drain { s with host := { h with evrEn := true, evrWrite := 0, evrRead := 0 } }
  else { s with host := { h with evrEn := en } }

/-- EVR_EN_WRITE (R54). -/
def execEvrEnWrite (v : Word) (s : State) : Host.Outcome State Fault Refusal :=
  .next (when (barOn s) (evrEnWrite v) s)

/-- EVR_READ_WRITE (R56): refused as RING_INDEX where it would leave more than N records. -/
def execEvrReadWrite (v : Word) (s : State) : Host.Outcome State Fault Refusal :=
  .next (when (barOn s) (fun s =>
    if ringSize s.host < (s.host.evrWrite - v).toNat then accErr 5 0x3010 false s
    else drain { s with host := { s.host with evrRead := v } }) s)

/-- EVENT_BACKLOG_DRAIN (R57). -/
def execEventBacklogDrain (s : State) : Host.Outcome State Fault Refusal :=
  .next (when (engOn s) drain s)

/-- MOD_TIMER_EXPIRY (R59): MOD_TIMER µs after the first unsignalled record. -/
def execModTimerExpiry (s : State) : Host.Outcome State Fault Refusal :=
  .next (when (engOn s && s.host.modTimer != 0) (fun s =>
    match s.host.firstUnsignalled with
    | none => s
    | some t =>
      let s := atTime (t + s.host.modTimer.toNat * 1000000) s
      let s := { s with host := { s.host with unsignalled := 0, firstUnsignalled := none } }
      withSink s (sinkInt (envOf s) 1 (sinkOf s))) s)

/-- The host interface as Table 2.2 leaves it; configuration space is at its defaults. -/
def hostReset (keepLink : Bool) (h : HostState) : HostState :=
  { timeHi := h.timeHi, accErrAddr := h.accErrAddr, accErrBar := h.accErrBar, outstanding := h.outstanding,
    nextOid := h.nextOid, backlog := h.backlog, lostSince := h.lostSince, lostCode := h.lostCode,
    lastTime := h.lastTime, linkUp := keepLink, linkSpeed := h.linkSpeed, linkWidth := h.linkWidth }

/-- Speed and width as EV_HOST_LINK reports them (Table 2.17). -/
def linkWord (h : HostState) : Nat := fld h.linkSpeed 0 4 + fld h.linkWidth 4 6

/-- A host-interface reset (R40, R112): 0 PERST#, 1 hot reset, 2 link down, 3 function level reset. The response of a
command that is executing is discarded. -/
def hostInterfaceReset (kind : Nat) (s : State) : State :=
  let flr := kind = 3
  let s := { s with
    host := hostReset (flr && s.host.linkUp) s.host
    spool := { s.spool with chans := List.replicate 16 {}, jobs := s.spool.jobs.map (fun j => { j with doomed := true }) }
    active := s.active.map (fun a => { a with slot := 16 }) }
  raise 0x0103 dev 0 0 (linkWord s.host) (if flr then 2 else 1) 0 s

/-- HOST_INTERFACE_RESET (R40). -/
def execHostInterfaceReset (kind : Nat) (s : State) : Host.Outcome State Fault Refusal :=
  .next (when (engOn s && decide (kind < 4)) (hostInterfaceReset kind) s)

/-- HOST_LINK_RETRAIN (R39): the link is up at a speed and a width. -/
def execHostLinkRetrain (speed width : Nat) (s : State) : Host.Outcome State Fault Refusal :=
  .next (when (engOn s && decide (1 ≤ speed ∧ speed ≤ 5) && [1, 2, 4, 8, 16].contains width) (fun s =>
    let s := { s with host := { s.host with linkUp := true, linkSpeed := speed, linkWidth := width } }
    msixFlush (drain (raise 0x0103 dev 0 0 (linkWord s.host) 0 0 s))) s)

/-- PCIE_POWER_STATE_CHANGE (R38, R40, R511): the power state, with configuration space as the host sets it. The host reaches the
Command register, the BARs and the power state through the same configuration writes (DESIGN CHOICE, log entry 81). -/
def execPciePowerStateChange (d3hot : Bool) (base : PciBase) (dev : PciDev) (caps : PciCaps) (s : State) : Host.Outcome State Fault Refusal :=
  let cfg : PciCfg := { toPciBase := base, toPciDev := dev, toPciCaps := caps }
  .next (when (engOn s && s.host.linkUp && cfg.wf) (fun s =>
    msixFlush (drain { s with host := { s.host with d3hot := d3hot, pci := cfg } })) s)

end Sys2Proof.Machine
end

