-- ==== Sys2Proof/Machine/Memory.lean ====
section
/-! DEFINITION. Meanings of the memory rows: Hen, sweeps, migration, fills, training, scans and their commands
(R394 to R420). -/

namespace Sys2Proof.Machine

/-- Words of an SRAM store (Table 13.1). -/
def storeWords (m : Nat) : Nat := [12582912, 2621440, 1572864, 1048576, 1048576].getD m 0

/-- Words of a channel's reserved area, 1 GiB. -/
def reservedWords : Nat := 134217728

/-- Marked words of an extent on one of its channels (R399): granules of 64 KiB, spread over its channels. -/
def markWords (m : Marks) : Nat := popCount 4 m.mask * 8192 / Nat.max 1 (popCount 4 m.channels)

/-- Words Hen reads of a memory in a pass (R400). -/
def scrubWords (s : State) (dram : Bool) (i : Nat) : Nat :=
  if dram then reservedWords + sumBy (fun m => if bitOf m.channels i then markWords m else 0) s.mem.marks else storeWords i

/-- The word address of a position behind the reserved area, among the marked extents of a channel. -/
def markedWord (s : State) (c : Nat) : List Marks → Nat → Nat
  | [], p => p
  | m :: t, p =>
    if !bitOf m.channels c then markedWord s c t p
    else if p < markWords m then extentWord s { no := m.extent, channels := m.channels } 0 + p
    else markedWord s c t (p - markWords m)

/-- The word at Hen's position. -/
def scrubWord (s : State) (dram : Bool) (i pos : Nat) : Nat :=
  if dram && decide (reservedWords ≤ pos) then markedWord s i s.mem.marks (pos - reservedWords) else pos

def scrubOf (s : State) (dram : Bool) (i : Nat) : Scrub := if dram then (ddr s i).scrub else (sram s i).scrub

def setScrub (dram : Bool) (i : Nat) (f : Scrub → Scrub) (s : State) : State :=
  if dram then setDdr i (fun d => { d with scrub := f d.scrub }) s else setSram i (fun t => { t with scrub := f t.scrub }) s

/-- A memory's number as MEM.STATUS gives it names a store or a channel that runs. -/
def memRuns (s : State) (n : Nat) : Bool :=
  decide (n < 5) || (decide (8 ≤ n ∧ n < 12) && ((ddr s (n - 8)).st == .inUse || (ddr s (n - 8)).st == .failing))

/-- The line-store slot-tile a word lies in is lost (Table 13.1): suppressed, its pages spoiled (R189). -/
def lineWordLost (word : Nat) (s : State) : State :=
  let byte := 8 * word
  let st := byte / (256 * 65536)
  let slot := byte / 65536 % 256
  let g := 16 * st + byte % 65536 / 4096
  let b := (dly s g).lastB
  let q := b + 1 + ((slot : Int) - (b + 1)) % 256
  if st < 6 ∧ slotHolds s g q then spoilRow g q 1 (suppressSlot g q s) else s

/-- The action of an uncorrectable word that Hen finds (Table 13.1). In control-core memory and in the reserved DRAM, `bit` 0
names a code word and data that firmware rebuilds, 1 a data word and a directory entry. -/
def ueAction (dram : Bool) (i pos bit : Nat) : Nat :=
  if dram then (if reservedWords ≤ pos then 3 else if bit = 0 then 8 else 7)
  else if i = 4 then (if bit = 0 then 5 else 6)
  else i + 1

/-- Hen moves to the next word; the end of a pass is counted (R400). -/
def scrubStep (dram : Bool) (i : Nat) (s : State) : State :=
  let c := scrubOf s dram i
  if c.pos + 1 < scrubWords s dram i then setScrub dram i (fun c => { c with pos := c.pos + 1, at_ := s.now }) s
  else tick 0x0C04 (memNo dram i) (setScrub dram i (fun c => { pos := 0, started := s.now, at_ := s.now, pass := c.pass + 1 }) s)

/-- Scrub period of a memory in seconds. -/
def scrubPeriod (s : State) (dram : Bool) : Nat := if dram then s.mem.dramPeriod * 3600 else s.mem.sramPeriod

/-- The time that the tokens of a metered class take at throttle level L, for `t` unthrottled (R445). -/
def throttled (s : State) (t : Nat) : Nat := t * 256 / (256 - Nat.min 240 s.sup.level)

/-- When Hen's next read of a memory is due: its reads are spread evenly over the period, and the throttle stretches them (R400, R446). -/
def scrubDue (s : State) (dram : Bool) (i : Nat) : Nat :=
  (scrubOf s dram i).at_ + throttled s (scrubPeriod s dram * 1000000000000 / Nat.max 1 (scrubWords s dram i))

/-- The repair of a correction-store word that Hen finds lost (R159); `bit` says what the word holds: 4 · n + 0 the position
table, rewritten at once, 4 · c + 1 the tone knot of column c of the device's 6 × 65,536, 4 · n + 2 a word of screen n. -/
def corrWordLost (word bit : Nat) (s : State) : State :=
  match bit % 4 with
  | 1 => let c := bit / 4 % 393216; knotLost (c / 65536) (c % 65536) s
  | 2 => screenWordLost (bit / 4 % 12) word s
  | _ => s

/-- SCRUB_READ (R396, R400 to R402): Hen reads the next word of a memory, as MEM.STATUS numbers it; `err` 1 found a correctable
error at `bit`, whose write-back may be dropped, 2 an uncorrectable one, of which `bit` says what the word holds. -/
def execScrubRead (store err bit : Nat) (dropped : Bool) (s : State) : Host.Outcome State Fault Refusal :=
  .next (when (engOn s && s.fw.power == .run && memRuns s store) (fun s =>
    let dram := decide (8 ≤ store)
    let i := if dram then store - 8 else store
    let s := atTime (scrubDue s dram i) s
    let c := scrubOf s dram i
    let w := scrubWord s dram i c.pos
    let s := match err with
      | 0 => s
      | 1 =>
        let s := memCe dram i w bit (some c.pass) s
        if dropped && !dram then tick 0x0C02 i s else s
      | _ =>
        let a := ueAction dram i c.pos bit
        let s := memUe dram i w a s
        if a = 1 ∧ !dram then lineWordLost w s else if a = 2 ∧ !dram then corrWordLost w bit s else if a = 6 ∧ !dram then fwFault .restart s else s
    scrubStep dram i s) s)

/-- SCRUB_LATE_TIMEOUT (R400): a pass has not completed by twice its period. -/
def execScrubLateTimeout (store : Nat) (s : State) : Host.Outcome State Fault Refusal :=
  let dram := decide (8 ≤ store)
  let i := if dram then store - 8 else store
  .next (when (engOn s && memRuns s store && !(scrubOf s dram i).late) (fun s =>
    let c := scrubOf s dram i
    let p := scrubPeriod s dram
    let s := atTime (c.started + 2 * p * 1000000000000) s
    raise 0x0C04 store 0 0 ((s.now - c.started) / 1000000000000) p 0 (setScrub dram i (fun c => { c with late := true }) s)) s)

/-! Live sweeps (R409, R410, R414). -/

/-- Between two sweeps of a channel, and the temperature step that starts one early, 1/16 °C. -/
def sweepPs : Nat := 256000000000
def sweepStep : Nat := 80

/-- DDR_SWEEP_START (R409): every 256 ms, or once the channel's MR4 temperature or the nearest die sensor has moved by 5 °C since the
last sweep. -/
def execDdrSweepStart (chan : Nat) (temps : DramTemps) (s : State) : Host.Outcome State Fault Refusal :=
  let d := ddr s chan
  .next (when (engOn s && s.fw.power == .run && (d.st == .inUse || d.st == .failing) && d.sweep.isNone
      && (s.mem.train.map TrainJob.chan) != some chan) (fun s =>
    let s := if sweepStep ≤ (temps.mr4 - d.lastTemp).natAbs ∨ sweepStep ≤ (temps.die - d.lastDie).natAbs then s else atTime (d.lastSweep + sweepPs) s
    tick 0x0C05 (8 + chan) (setDdr chan (fun d => { d with sweep := some {}, lastSweep := s.now, lastTemp := temps.mr4, lastDie := temps.die }) s)) s)

/-- The end of a sweep (R409, R410, R414): new centres apply, and a set that has moved by more than 4 steps in any parameter since it was
last written is written again. -/
def sweepEnd (chan : Nat) (found : Bool) (centre : List Int) (s : State) : State :=
  let s := setDdr chan (fun d => { d with sweep := none }) s
  if found then
    let s := setDdr chan (fun d => { d with failedRun := 0, centre := centre }) s
    let d := ddr s chan
    if (List.range centre.length).any (fun i => decide (4 < (centre.getD i 0 - d.written.getD i 0).natAbs)) then
      recDirty 3 (16 * chan + d.rate) (setDdr chan (fun d => { d with written := centre }) s)
    else s
  else
    let s := tick 0x0C06 (8 + chan) (setDdr chan (fun d => { d with failedRun := d.failedRun + 1 }) s)
    if 4 ≤ (ddr s chan).failedRun then chanFail chan 3 s else s

/-- DDR_SWEEP_PAUSE (R409): one point, in a pause at least 50 µs after the channel's last and clear of every other channel's.
The last point says whether a passing window was found, and its centre for each parameter. -/
def execDdrSweepPause (chan : Nat) (last found : Bool) (centre : List Int) (s : State) : Host.Outcome State Fault Refusal :=
  .next (when (engOn s && (ddr s chan).sweep.isSome) (fun s =>
    let others := (List.range 4).foldl (fun a c => if c = chan then a else Nat.max a ((ddr s c).lastPause + 1500000)) 0
    let s := atTime (Nat.max ((ddr s chan).lastPause + 50000000) others) s
    let s := setDdr chan (fun d => { d with lastPause := s.now, sweep := d.sweep.map (fun w => { w with points := w.points + 1, lastPause := some s.now }) }) s
    if last then sweepEnd chan found centre s else s) s)

/-! Migration (R415). -/

/-- An extent is still being filled: the newest of a stream that has blocks to come. -/
def extentOpen (s : State) (no : Nat) : Bool :=
  s.spool.objs.any (fun o => o.streams.any (fun t => t.extents.head? == some no && decide (t.recs.length < t.blocks)))

/-- The next extent to migrate. -/
def migrateNext (s : State) : Option Extent :=
  let failing := maskOf ((List.range 4).filter (fun c => (ddr s c).st == .failing))
  s.spool.extents.find? (fun e => e.channels &&& failing != 0 && !extentOpen s e.no)

/-- The directory points from one extent to another in one step (R415). -/
def repoint (old new : Nat) (s : State) : State :=
  let sw (n : Nat) : Nat := if n = old then new else n
  { s with spool := { s.spool with objs := s.spool.objs.map (fun o => { o with streams := o.streams.map (fun t =>
      { t with extents := t.extents.map sw, recs := t.recs.map (fun r => { r with extent := sw r.extent }) }) }) } }

/-- EXTENT_MIGRATE (R415): a copy of one extent ends; `ok` says that its check passed. -/
def execExtentMigrate (ok : Bool) (s : State) : Host.Outcome State Fault Refusal :=
  .next (when (engOn s) (fun s =>
    match migrateNext s with
    | none => s
    | some e =>
      if extentsFree s = 0 then spoolLow s
      else if !ok then s
      else
        let n := nextExtent s
        let mask := ((s.mem.marks.find? (fun m => m.extent == e.no)).map Marks.mask).getD 0
        let s := repoint e.no n s
        let s := { s with spool := { s.spool with extents := s.spool.extents.filter (fun x => x.no != e.no) ++ [{ no := n, channels := healthyMask s }] } }
        let s := markExtent n (healthyMask s) mask (tick 0x0C08 0 s)
        spoolLow (forRange 4 s retirePend)) s)

/-! Fills, training, scans. -/

/-- MEM_FILL_EXTENT_DONE (R399): the oldest fill has filled the extent it held, or finds none left. -/
def execMemFillExtentDone (s : State) : Host.Outcome State Fault Refusal :=
  .next (when (engOn s) (fun s =>
    match s.mem.fills with
    | [] => s
    | f :: t =>
      match fillAt s f with
      | none => complete f.oid stOk [f.done] { s with mem := { s.mem with fills := t } }
      | some n =>
        let s := markExtent n f.channels 15 s
        let s := { s with mem := { s.mem with filled := (n, f.pattern) :: s.mem.filled.filter (fun p => p.1 != n) } }
        let f' := { f with next := n + 1, done := f.done + 1 }
        match fillAt s f' with
        | none => complete f.oid stOk [f'.done] { s with mem := { s.mem with fills := t } }
        | some _ => { s with mem := { s.mem with fills := f' :: t } }) s)

/-- MEM_TRAIN_DONE (R413): a full training ends; where it found a set, the set is valid and its record is written again. -/
def execMemTrainDone (ok : Bool) (s : State) : Host.Outcome State Fault Refusal :=
  .next (when (engOn s) (fun s =>
    match s.mem.train with
    | none => s
    | some j =>
      let s := { s with mem := { s.mem with train := none } }
      let s := if ok then
          recDirty 3 (16 * j.chan + j.rate) (setDdr j.chan (fun d => { d with
            sets := d.sets ||| (1 <<< j.rate) }) s)
        else s
      trainNext (completeOpt j.oid stOk [] s)) s)

/-- A block record as the spool holds it: header, payload and pad (R118, R417). -/
def recordBytes (r : BlockRec) : List Byte := r.hdr ++ r.payload ++ List.replicate (padLen r.payload.length) 0

/-- A CRC of Table 13.7, from a seed where one is used. -/
def scanCrc (code : Nat) (seed : Option Nat) (bs : List Byte) : Nat :=
  match code with
  | 0 => crcRef 0x82F63B78 ((seed.getD 0xFFFFFFFF) % 2 ^ 32) bs ^^^ 0xFFFFFFFF
  | 1 => crcRef 0xEDB88320 ((seed.getD 0xFFFFFFFF) % 2 ^ 32) bs ^^^ 0xFFFFFFFF
  | 2 => crcMsb 16 0x1021 ((seed.getD 0xFFFF) % 2 ^ 16) bs
  | _ => crcMsb 64 0x42F0E1EBA9EA3693 (seed.getD 0) bs

/-- Parameter `n` of a scan. -/
def scanPar (j : ScanJob) (n : Nat) : Nat := (j.words.getD (n - 2) 0).toNat

/-- The bytes a scan reads: its status where it cannot; none where the model holds no contents of the store. -/
def scanData (s : State) (j : ScanJob) : Nat × Option (List Byte) :=
  let addr := scanPar j 3 + 2 ^ 32 * scanPar j 4
  let len := scanPar j 5
  match bits (scanPar j 2) 8 2 with
  | 0 => match hostRead s addr len with
    | none => (stDmaFault, none)
    | some bs => (stOk, some bs)
  | 1 =>
    let r := diagRegion (scanPar j 7)
    (stOk, if r.2.2 = 0 then some ((List.range len).map (fun i => storeByte s (r.2.1 + addr + i))) else none)
  | _ =>
    match (j.sid.bind (objOf s)).bind (fun o => o.stream? (bits (scanPar j 7) 0 8) (bits (scanPar j 7) 8 8)) with
    | none => (stState, none)
    | some t => (stOk, some ((t.recs.map recordBytes).flatten))

/-- Gives the waiting scans their engines, in the order taken (R417). -/
def scanAssign (s : State) : State :=
  forRange 2 s (fun e s =>
    if s.mem.scans.any (fun j => j.engine == some e) then s
    else match s.mem.scans.find? (fun j => j.engine.isNone) with
      | none => s
      | some j => { s with mem := { s.mem with scans := s.mem.scans.map (fun q => if q.oid = j.oid then { q with engine := some e } else q) } })

/-- CHK_SCAN_DONE (R417, R420): the scan on an engine ends; `err` says that a host read ended in an error. The contents of the
camera frame store and of the source staging are free values. -/
def execChkScanDone (engine : Nat) (err : Bool) (s : State) : Host.Outcome State Fault Refusal :=
  .next (when (engOn s) (fun s =>
    match s.mem.scans.find? (fun j => j.engine == some engine) with
    | none => s
    | some j =>
      let d := scanData s j
      let s := { s with mem := { s.mem with scans := s.mem.scans.filter (fun q => q.oid != j.oid) } }
      let s := scanAssign (tick 0x0C09 engine s)
      let seed := if bitOf (scanPar j 2) 16 then some (scanPar j 8 + 2 ^ 32 * scanPar j 9) else none
      if err && bits (scanPar j 2) 8 2 == 0 then complete j.oid stDmaFault [] s
      else match d with
        | (0, some bs) => complete j.oid stOk (two (scanCrc (bits (scanPar j 2) 0 2) seed bs)) s
        | (0, none) => let r := drawNat s; complete j.oid stOk (two r.2) r.1
        | (c, _) => complete j.oid c [] s) s)

/-! Commands. -/

/-- MEM_STATUS (R418). -/
def execMemStatus (s : State) : Host.Outcome State Fault Refusal :=
  .next (serve 0x0C01 .immediate [0xF] (fun ws s =>
    let n := par ws 2
    let dram := decide (8 ≤ n)
    if ¬(n ≤ 4 ∨ (8 ≤ n ∧ n ≤ 11)) then .refuse s stBadParam
    else
      let i := if dram then n - 8 else n
      let d := ddr s i
      let t := sram s i
      let c := scrubOf s dram i
      { st := s, results :=
        [ if dram then d.st.code + fld d.rate 8 3 + fld (b2n d.uncal) 16 1 else 1, ctrVal s 0x0C00 n, ctrVal s 0x0C01 n,
          if dram then 0 else fld t.spares 0 16 + fld t.pending.length 16 16, ctrVal s 0x0C04 n,
          (s.now - c.started) / 1000000000000 % 2 ^ 32, if dram then d.sets else 0, if dram then ctrVal s 0x0C06 n else 0 ] }) s)

/-- MEM_CONFIG (R407, R420). -/
def execMemConfig (s : State) : Host.Outcome State Fault Refusal :=
  .next (serve 0x0C02 .immediate [0xFFFFFF, 0xFFFFFF0F, allBits] (fun ws s =>
    let sp := bits (par ws 2) 0 16
    let dp := bits (par ws 2) 16 8
    let rl := bits (par ws 3) 0 4
    let gr := bits (par ws 3) 8 8
    let ic := bits (par ws 3) 16 16
    let ce := par ws 4
    if !(zeroOrIn 1 3600 sp && zeroOrIn 1 168 dp && zeroOrIn 2 15 rl && zeroOrIn 8 16 gr && zeroOrIn 20 1000 ic
        && zeroOrIn 100 0xFFFFFFFF ce) then .refuse s stBadParam
    else if gr ≠ 0 ∧ gr ≠ s.mem.log2Grain ∧ ¬ s.spool.extents.isEmpty then .refuse s stState
    else { st := { s with mem := { s.mem with
      sramPeriod := orKeep sp s.mem.sramPeriod, dramPeriod := orKeep dp s.mem.dramPeriod, rowLimit := orKeep rl s.mem.rowLimit,
      log2Grain := orKeep gr s.mem.log2Grain, idleClose := orKeep ic s.mem.idleClose, ceLimit := orKeep ce s.mem.ceLimit } } }) s)

/-- MEM_FILL (R399): a background command. -/
def execMemFill (s : State) : Host.Outcome State Fault Refusal :=
  .next (serve 0x0C03 .background [allBits, allBits, 0xF] (fun ws s =>
    let f : FillJob := { oid := s.host.nextOid, pattern := BitVec.ofNat 64 (par64 ws 2), channels := par ws 4 &&& healthyMask s }
    { st := { s with mem := { s.mem with fills := s.mem.fills ++ [f] } }, status := stPending }) s)

/-- What a read of a protected word finds, with bits (SRAM, data 0 to 63 and check 64 to 71) or symbols (DRAM, data 0 to 127 and check
128 to 159) in error, from an address that differs in `addr` bits (R394, R395): 0 clean, 1 corrected with the bit or symbol, 2
uncorrectable, 3 where the code's columns, which the manual does not give, decide between a wrong correction and a detection. Every
column of a data or check bit of the SRAM code is of odd weight and every address column of even weight, so that an even number of
wrong bits is never corrected. -/
def codeRead (dram : Bool) (hit : List Nat) (addr : Nat) : Nat × Nat :=
  match hit, addr with
  | [], 0 => (0, 0)
  | [], a => if a ≤ 3 then (2, 0) else (3, 0)
  | [i], 0 => (1, i)
  | [_, _], 0 => (2, 0)
  | _, 0 => if dram || hit.length % 2 == 1 then (3, 0) else (2, 0)
  | _, _ => (3, 0)

/-- The bits or symbols that a mask of MEM.TEST puts in error: it inverts check bits (R419). -/
def testHits (dram : Bool) (mask : Nat) : List Nat :=
  if dram then ((List.range 32).filter (fun i => bits mask (4 * i) 4 != 0)).map (· + 128) else (bitList 8 mask).map (· + 64)

/-- Stores a test word; a corrected one is rewritten with its right check bits (R396). -/
def testWrite (dram : Bool) (i : Nat) (w : TestWord) (s : State) : State :=
  let put (l : List TestWord) : List TestWord := w :: l.filter (fun x => x.offset != w.offset)
  if dram then setDdr i (fun d => { d with test := put d.test }) s else setSram i (fun t => { t with test := put t.test }) s

/-- What MEM.TEST reads back, 0 clean, 1 corrected or 2 uncorrectable, with the bit or symbol corrected and the word read: where the code's
columns decide (`codeRead` 3), all three are free values. -/
def testFound (dram : Bool) (data mask : Nat) (s : State) : (Nat × Nat × Nat) × State :=
  let c := codeRead dram (testHits dram mask) 0
  if c.1 = 3 then
    let f := drawNat s
    let g := drawNat f.1
    let h := drawNat g.1
    let found := 1 + f.2 % 2
    let bit := g.2 % (if dram then 160 else 72)
    ((found, bit, if found = 2 then 0 else if dram then h.2 % 2 ^ 64 else if bit < 64 then data ^^^ (1 <<< bit) else data), h.1)
  else ((c.1, c.2, if c.1 = 2 then 0 else data), s)

/-- MEM_TEST (R419): the read counts, and raises no event. -/
def execMemTest (s : State) : Host.Outcome State Fault Refusal :=
  .next (serve 0x0C04 .immediate [0xF, allBits, allBits, allBits, 0xFF, allBits, allBits, allBits, allBits] (fun ws s =>
    let n := par ws 2
    let off := par ws 3
    let dram := decide (8 ≤ n)
    if !memRuns s n || decide ((if dram then 131072 else 512) ≤ off) then .refuse s stBadParam
    else
      let mask := if dram then par64 ws 7 + 2 ^ 64 * par64 ws 9 else bits (par ws 6) 0 8
      let r := testFound dram (par64 ws 4) mask s
      let found := r.1.1
      let s := testWrite dram (if dram then n - 8 else n)
        { offset := off, data := BitVec.ofNat 64 r.1.2.2, mask := if found = 2 then mask else 0 } r.2
      { st := if found = 1 then tick 0x0C00 n s else if found = 2 then tick 0x0C01 n s else s
        results := two r.1.2.2 ++ [found + (if found = 1 then fld r.1.2.1 8 8 else 0)] }) s)

/-- MEM_TRAIN (R413): a background command. -/
def execMemTrain (s : State) : Host.Outcome State Fault Refusal :=
  .next (serve 0x0C06 .background [0x703] (fun ws s =>
    let c := bits (par ws 2) 0 2
    let r := bits (par ws 2) 8 3
    if 4 < r then .refuse s stBadParam
    else if anyLive s || !memRuns s (8 + c) then .refuse s stState
    else if s.mem.train.isSome then .refuse s stBusy
    else { st := { s with mem := { s.mem with train := some { oid := some s.host.nextOid, chan := c, rate := r } } }, status := stPending }) s)

/-- CHK_SCAN (R417, R420): a background command. -/
def execChkScan (s : State) : Host.Outcome State Fault Refusal :=
  .next (serve 0x0C08 .background [0x10303, allBits, allBits, allBits, allBits, 0xFFFF, allBits, allBits] (fun ws s =>
    let src := bits (par ws 2) 8 2
    let len := par ws 5
    let addr := par64 ws 3
    let take (sid : Option Nat) : Ans :=
      let j : ScanJob := { oid := s.host.nextOid, words := (List.range 8).map (fun i => BitVec.ofNat 32 (par ws (i + 2))), sid := sid }
      { st := scanAssign { s with mem := { s.mem with scans := s.mem.scans ++ [j] } }, status := stPending }
    match src with
    | 0 => if len = 0 then .refuse s stBadParam else take none
    | 1 =>
      if len = 0 then .refuse s stBadParam
      else if 4 ≤ par ws 7 % 16 then .refuse s stState
      else if (diagRegion (par ws 7 % 16)).1 < addr + len then .refuse s stBadParam
      else take none
    | 2 =>
      let pl := bits (par ws 7) 0 8
      let b := bits (par ws 7) 8 8
      if 5 < pl ∨ 15 < b then .refuse s stBadParam
      else match findPage s (par ws 6) with
        | none => .refuse s 0x0203
        | some p =>
          if p.st = .queued then .refuse s stState
          else if !bitOf p.planes pl then .refuse s stBadParam
          else take ((ingestOf s p.key).map Ingest.sid)
    | _ => .refuse s stBadParam) s)

end Sys2Proof.Machine
end

