-- ==== Sys2Proof/Machine/Boundary.lean ====
section
/-! DEFINITION. What happens at a line boundary of a station (R176, Table 6.4 and the rules that name a line boundary). -/

namespace Sys2Proof.Machine

/-- Time in ps within which a second boundary comes too soon (R179). -/
def tooSoonPs : Nat := 9500000

/-- The ACTIVE pages a station serves: those that use it and have lines still to fire there. -/
def servedPages (s : State) (st : Nat) : List Page :=
  s.page.pages.filter (fun p => p.st == .active && p.started && p.uses st && decide ((trk s st).k ≤ p.lastLine st))

/-- A position loss at a station (R179): counted, and the ACTIVE pages it serves are spoiled with reason REVERSE. -/
def positionLoss (st : Nat) (s : State) : State :=
  let s := tick 0x0504 st s
  forList (servedPages s st) s (fun p s => spoilNow p.key 3 st (stationLine s st) s)

/-- A page's first line is issued (Table 1.1, R12): ACTIVE at its first station, then the reasons and the suspicion held. The mask in
EV_PAGE_SPOILED has the first reason's bit alone, and the others join after it (DESIGN CHOICE, log entry 80). -/
def pageActive (p : Page) (st : Nat) (s : State) : State :=
  let line := lineNo (p.firstLine st)
  let s := { s with page := { s.page with lastActive := some p.key } }
  let s := pageTo p.key .active st line s
  let s := forList p.held s (fun r s => spoilNow p.key r st line s)
  setPage p.key (fun q => { q with held := [], suspect := q.suspect || q.suspectHeld, suspectHeld := false }) s

/-- The page to become ACTIVE next (R13): of the ADMITTED pages the first admitted, once its first line has been issued at its first
station. A page admitted later whose first line comes earlier waits for it (DEDUCED, log entry 80). -/
def nextActive (s : State) : Option Page :=
  let first := (s.page.pages.filter (fun p => p.st == .admitted)).foldl (fun (a : Option Page) p => match a with
    | none => some p
    | some q => if p.admission < q.admission then some p else some q) none
  first.filter (fun p => let st := firstStation s p; p.started && decide (p.firstLine st ≤ (trk s st).k))

/-- Every page becomes ACTIVE that can, in admission order (R13). -/
def activate (s : State) : State :=
  forRange (countBy (fun p => p.st == .admitted) s.page.pages) s (fun _ s => match nextActive s with
    | some p => pageActive p (firstStation s p) s
    | none => s)

/-- A page's last line fires at its last station (Table 1.1, R27): EXPOSED; the extended positions of the moment are kept. -/
def pageExposed (p : Page) (s : State) : State :=
  let s := if s.page.lastActive = some p.key then
      { s with page := { s.page with exposedPos := (List.range 6).map (fun x => (trk s x).ext) } }
    else s
  pageTo p.key .exposed (lastStation s p) (lineNo (p.lastLine (lastStation s p))) s

/-- The ACTIVE pages whose last line has fired at their last station. -/
def exposedNow (s : State) : List Page :=
  s.page.pages.filter (fun p => let st := lastStation s p; p.st == .active && p.started && decide (p.lastLine st ≤ (trk s st).k))

/-- The boundary came too soon (R179): no strobe, both rows suppressed, a position loss. -/
def tooSoon (st : Nat) (k : Int) (s : State) : State :=
  let t := trk s st
  let s := raise 0x0502 t.input 0 (lineNo k) 5 (s.pos.inputs.getD t.input {}).raw 0 s
  positionLoss st (forList (tilesOf st) s (fun g s => strobeLost g k s))

/-- SAFE_STATE at the first boundary of a station after a trip (Table 14.3). -/
def safeSpoil (st : Nat) (s : State) : State :=
  if !s.sup.spoilDue.getLsbD st then s
  else
    let s := spoilWhere (fun p => p.uses st) 8 st (stationLine s st) s
    withSup (fun u => { u with spoilDue := u.spoilDue &&& ~~~(1#6 <<< st) }) s

/-- The targets of an application still queued are written at once (R318). -/
def toneSettle (st : Nat) (s : State) : State :=
  let mine (r : ToneReq) : Bool := r.station == st && r.run.isSome
  forList (s.exp.toneReqs.filter mine) { s with exp := { s.exp with toneReqs := s.exp.toneReqs.filter (fun r => !mine r) } } (fun r s =>
    let s := toneAtOnce st r.col r.knots s
    match r.run with
    | some (kind, subj) => setCal kind subj (fun q => { q with updates := q.updates + 1 }) s
    | none => s)

/-- A station with no page ADMITTED, ACTIVE or EXPOSED splits its tiles' delays anew (R184), where the split may stand (R187), and has the
targets of an application at once (R318). -/
def splitIdle (st : Nat) (s : State) : State :=
  if stationLive s st then s
  else forList (tilesOf st) (toneSettle st s) (fun g s => if splitFits s g then resplit g s else s)

/-- Boundary k of a station fires at a sample of time `t` in ps (R176): too-soon test, page starts, expansion work, the updates
that go one per boundary, frames of boundary k + 1, page ends, and the work that follows the line count. -/
def fireBoundary (st t : Nat) (s : State) : State :=
  let tr := trk s st
  let k := tr.k + 1
  let soon := (tr.lastB.map (fun b => decide (t < b + tooSoonPs))).getD false
  let s := setTrk st (fun tr => { tr with
    k := k, lastB := some t, bTimes := (t :: tr.bTimes).take 65, bCount := if velValid tr then tr.bCount + 1 else 0 }) s
  let s := activate s
  let s := when soon (tooSoon st k) s
  let s := safeSpoil st s
  let s := expBoundary st k s
  let s := toneUpdate st k (overrideUpdate st k (delayUpdate st s))
  let s := forList (tilesOf st) s (fun g s =>
    buildFrame g (k + 1) (statusGaps g k (latencyLine g (holdBoundary g s))))
  let s := forList (exposedNow s) s pageExposed
  let s := rotateHandover st (releaseStation st s)
  let s := splitIdle st s
  camBoundary st k (calBoundary st s)

end Sys2Proof.Machine
end

