-- ==== Sys2Proof/Machine/Sequencer.lean ====
section
/-! DEFINITION. The engine sequencer: page programs and their instances (R347 to R354). -/

namespace Sys2Proof.Machine

def programOf (s : State) (n : Nat) : Program := s.loop.programs.getD n {}

/-- Changes the running instances. -/
def withInst (f : List Instance → List Instance) (s : State) : State := { s with loop := { s.loop with instances := f s.loop.instances } }

/-- Changes the instance of a page. -/
def setInst (page : Nat) (f : Instance → Instance) (s : State) : State := withInst (·.map (fun i => if i.page = page then f i else i)) s

/-- EV_PROG_STEP (Table 11.14), counted as a step failed or abandoned. -/
def progStepEvent (i : Instance) (step cause : Nat) (s : State) : State :=
  let id := ((pageOf s i.page).map (fun p => p.id.toNat)).getD 0
  let line := ((pageOf s i.page).map (fun p => stationLine s (firstStation s p))).getD 0
  raise 0x0A07 i.prog id line step cause 0 (tick 0x0A0B 0 s)

/-- An instance starts at its page's accepted start event (R350, R351). -/
def progStart (key : Nat) (s : State) : State :=
  match pageOf s key with
  | none => s
  | some p =>
    if p.program = 255 then s
    else if 32 ≤ s.loop.instances.length then spoilHere key 9 s
    else
      let g := programOf s p.program
      tick 0x0A0A 0 (withInst (· ++ [{ page := key, prog := p.program, steps := g.steps, need := g.need, started := s.now, prevAt := s.now }]) s)

/-- An instance ends (R353): the steps still pending are abandoned, each counted and reported. -/
def progEnd (i : Instance) (s : State) : State :=
  let s := withInst (·.filter (fun j => j.page != i.page)) s
  forList ((List.range i.steps.length).filter (fun n => decide (i.next ≤ n))) s (fun n s => progStepEvent i n 3 s)

/-- The trigger of a step holds (Table 11.7). -/
def trigHolds (s : State) (i : Instance) (p : ProgStep) : Bool :=
  let w0 := p.w0.toNat
  let st := bits w0 4 3
  let tval := p.w1.toNat
  let first := ((pageOf s i.page).map (fun g => g.firstLine st)).getD 0
  let lines : Int := (((pageOf s i.page).map Page.lines).getD 0 : Nat)
  match bits w0 0 4 with
  | 0 => true
  | 1 => decide (first + sint tval 32 ≤ (trk s st).k)
  | 2 => decide (first + lines - 1 + sint tval 32 ≤ (trk s st).k)
  | 3 => decide (i.started + tval * 1000000 ≤ s.now)
  | 4 => decide (i.prevAt + tval * 1000000 ≤ s.now)
  | _ =>
    let n := bits tval 8 6
    let io := s.loop.seqIn.getD n {}
    match bits tval 0 8 with
    | 1 => decide (16 ≤ (loopOf s n).inBand)
    | 2 => (loopOf s n).rampDone
    | 3 => io.rose
    | _ => io.fell

/-- The TIMEOUT of a step of trigger 5 in ps, 0 for none (Table 11.5). -/
def stepTimeout (p : ProgStep) : Nat := if bits p.w0.toNat 0 4 = 5 then bits p.w3.toNat 16 16 * 10000000 else 0

/-- The action of a step on its loop or output (Table 11.8); none where it cannot execute (R352). -/
def progAct (p : ProgStep) (s : State) : Option State :=
  let n := bits p.w0.toNat 16 6
  let v := sint p.w2.toNat 16
  let l := loopOf s n
  match bits p.w0.toNat 8 4 with
  | 1 => if l.configured then some (askSetpoint n v 0 s) else none
  | 2 => if l.configured then some (askSetpoint n v (bits p.w3.toNat 0 16) s) else none
  | 3 => if l.configured && !sourcesBad s l && !loopHeld s l then some (askMode n { auto := true, man := none, cause := 1 } s) else none
  | 4 => if l.configured then some (askMode n { auto := false, man := some v, cause := 1 } s) else none
  | 5 => some { s with loop := { s.loop with seqOut := updAt s.loop.seqOut n (fun o => { o with active := bitOf p.w2.toNat 0 }) } }
  | _ => some s

/-- A failed step is skipped, and its page spoils (R352, R354). -/
def progFail (i : Instance) (cause : Nat) (s : State) : State :=
  spoilHere i.page 9 (progStepEvent i i.next cause (setInst i.page (fun j => { j with next := i.next + 1, prevAt := s.now }) s))

/-- One step of an instance, if its trigger holds or its TIMEOUT has expired. -/
def progOne (page : Nat) (s : State) : Option State :=
  match s.loop.instances.find? (fun i => i.page == page) with
  | none => none
  | some i =>
    match i.steps[i.next]? with
    | none => some (progEnd i s)
    | some p =>
      if trigHolds s i p then
        if bits p.w0.toNat 8 4 = 0 then some (progEnd { i with next := i.next + 1 } s)
        else match progAct p s with
          | some t => some (setInst page (fun j => { j with next := i.next + 1, prevAt := s.now }) t)
          | none => some (progFail i 2 s)
      else if 0 < stepTimeout p ∧ i.prevAt + stepTimeout p ≤ s.now then some (progFail i 1 s)
      else none

/-- The sequencer at a loop tick: every instance, in admission order, as far as its triggers hold (R350, R351). -/
def progTick (s : State) : State :=
  let s := forList (s.loop.instances.map Instance.page) s (fun page s => iterate (progOne page) 66 s)
  { s with loop := { s.loop with seqIn := s.loop.seqIn.map (fun i => { i with rose := false, fell := false }) } }

/-- PROG_STEP_TIMEOUT (R352): the time limit of the step an instance waits at is reached. -/
def execProgStepTimeout (inst : Nat) (s : State) : Host.Outcome State Fault Refusal :=
  .next (match s.loop.instances[inst]? with
    | none => s
    | some i => match i.steps[i.next]? with
      | none => s
      | some p => if stepTimeout p = 0 then s else progFail i 1 (atTime (i.prevAt + stepTimeout p) s))

/-- PROG_INSTANCE_EXPIRY (R353): 10 s after its page became DONE, an instance ends. -/
def execProgInstanceExpiry (inst : Nat) (s : State) : Host.Outcome State Fault Refusal :=
  .next (match s.loop.instances[inst]? with
    | none => s
    | some i => match i.expiry with
      | none => s
      | some t => progEnd i (atTime t s))

/-- SEQ_IN_EDGE (R350, Table 11.8): a debounced edge of a sequencer input; rising and falling are taken against its active level. -/
def execSeqInEdge (input : Nat) (level : Bool) (s : State) : Host.Outcome State Fault Refusal :=
  .next (if !macOn s then s else { s with loop := { s.loop with seqIn := updAt s.loop.seqIn input (fun i =>
    if i.level = level then i
    else if level = i.activeHigh then { i with level := level, rose := true }
    else { i with level := level, fell := true }) } })

/-! Loading a program (R347 to R349). -/

/-- A word has no bit outside a mask. -/
def clean (mask : Nat) (w : Word) : Bool := within mask w.toNat

/-- A step's reserved bits are 0 and its codes exist (R348, R349). -/
def stepOk (s : State) (need : Nat) (p : ProgStep) : Bool :=
  let w0 := p.w0.toNat
  let trig := bits w0 0 4
  let act := bits w0 8 4
  let n := bits w0 16 6
  let tval := p.w1.toNat
  clean 0x003F0F7F p.w0 && clean 0xFFFF p.w2 && decide (trig ≤ 5) && decide ((trig = 1 ∨ trig = 2) → bits w0 4 3 ≤ 5) && decide (act ≤ 6)
    && (if trig = 5 then clean 0x3FFF p.w1 && decide (1 ≤ bits tval 0 8 ∧ bits tval 0 8 ≤ 4)
          && decide (bits tval 0 8 ≤ 2 ∨ bits tval 8 6 ≤ 7)
        else true)
    && (if trig = 1 ∨ trig = 2 then decide (-512 ≤ sint tval 32) else true)
    && (if 1 ≤ act ∧ act ≤ 4 then decide (8 ≤ n) && (loopOf s n).configured else if act = 5 then decide (n ≤ 7) else true)
    && !(act == 4 && bitOf need n) && decide (act = 2 → 1 ≤ bits p.w3.toNat 0 16 ∧ bits p.w3.toNat 0 16 ≤ 32767)

/-- Step `i` of a program image. -/
def stepAt (b : List Byte) (i : Nat) : ProgStep :=
  let w := fun j => BitVec.ofNat 32 (leAt b (32 + 16 * i + 4 * j) 4)
  { w0 := w 0, w1 := w 1, w2 := w 2, w3 := w 3 }

/-- The reserved bytes of a program header are 0 (R347). -/
def progHeaderOk (b : List Byte) : Bool := leAt b 2 6 == 0 && leAt b 16 16 == 0

/-- A program is bound to an ADMITTED or ACTIVE page (R355). -/
def progBound (s : State) (n : Nat) : Bool :=
  s.page.pages.any (fun p => (p.st == .admitted || p.st == .active) && p.program == n)

/-- Finishes a PROG.LOAD (R349, R357): fetch, CRC, checks; the program held before stays where it is refused. A program that
PAGE.ADMIT has bound since the load began stays too, and the load ends with ST_PAGE_LOCKED (Table 1.3; DEDUCED, log entry 80). -/
def progLoaded (j : ProgLoad) (s : State) : State :=
  let s := { s with loop := { s.loop with loads := s.loop.loads.filter (fun k => k.oid != j.oid) } }
  match hostRead s j.addr 32 with
  | none => complete j.oid stDmaFault [0xFF] s
  | some h =>
    let n := leAt h 0 2
    if n < 1 ∨ 64 < n then complete j.oid stBadParam [0xFF] s
    else match hostRead s j.addr (32 + 16 * n) with
      | none => complete j.oid stDmaFault [0xFF] s
      | some b =>
        let need := leAt b 8 8
        let steps := (List.range n).map (stepAt b)
        if crc32c b ≠ j.crc then complete j.oid stCheck [0xFF] s
        else if !progHeaderOk b then complete j.oid stBadParam [0xFF] s
        else match findIdx (fun p => !stepOk s need p) steps with
          | some i => complete j.oid stBadParam [i] s
          | none => if progBound s j.prog then complete j.oid stPageLocked [0xFF] s else
            let g : Program := { valid := true, need := need, steps := steps }
            complete j.oid stOk [0xFF] { s with loop := { s.loop with programs := s.loop.programs.set j.prog g } }

/-- PROG_LOAD (R347, R355): a background job. -/
def execProgLoad (s : State) : Host.Outcome State Fault Refusal :=
  .next (serve 0x0A08 .background [0x1F, allBits, allBits, allBits] (fun ws s =>
    let n := bits (par ws 2) 0 5
    if progBound s n then Ans.refuse s stPageLocked
    else
      let j : ProgLoad := { oid := s.host.nextOid, prog := n, addr := par64 ws 3, crc := par ws 5 }
      { st := { s with loop := { s.loop with loads := s.loop.loads ++ [j] } }, status := stPending }) s)

/-- PROG_STATUS (Table 11.12). -/
def execProgStatus (s : State) : Host.Outcome State Fault Refusal :=
  .next (serve 0x0A09 .immediate [0x1F] (fun ws s =>
    let n := bits (par ws 2) 0 5
    let g := programOf s n
    { st := s, results :=
      [b2n g.valid + fld (b2n (progBound s n)) 1 1 + fld g.steps.length 8 7 + fld (countBy (fun (i : Instance) => i.prog == n) s.loop.instances) 16 6]
        ++ two g.need }) s)

/-- SEQ_IO (Table 11.12). -/
def execSeqIo (s : State) : Host.Outcome State Fault Refusal :=
  .next (serve 0x0A0A .immediate [0x707, 0xFFFFFF] (fun ws s =>
    let n := bits (par ws 2) 0 3
    let hi := bitOf (par ws 2) 10
    if bitOf (par ws 2) 8 then
      { st := { s with loop := { s.loop with seqOut := updAt s.loop.seqOut n (fun o => { o with driven := bitOf (par ws 2) 9, activeHigh := hi }) } } }
    else
      let d := par ws 3
      if d < 1 ∨ 10000 < d then Ans.refuse s stBadParam
      else { st := { s with loop := { s.loop with seqIn := updAt s.loop.seqIn n (fun i => { i with activeHigh := hi, debounce := d }) } } }) s)

end Sys2Proof.Machine
end

