-- ==== Sys2Proof/Machine/Starts.lean ====
section
/-! DEFINITION. Page starts in sheet and web mode, PAGE.GAP holds, blank sheets, and the end of a page
(R16 to R19, R27, R30, R32). -/

namespace Sys2Proof.Machine

/-- The target position of a page's start at a station: latched position plus offset (R16). -/
def startTarget (s : State) (st : Nat) : Int := (trk s st).ext + (offsetOf s st : Int)

/-- Line index of a page's first line and its phase, for a target position (R182). -/
def firstFor (t : Tracker) (z : Int) : Int × Nat :=
  let l := lineAt t (z * 65536)
  (l, (z * 65536 - boundaryPos t l).toNat)

/-- The start event comes too early for a page (R17, R183): a station has no tracker enabled, less than 512 lines to go, or
its previous page not yet over. -/
def startEarly (s : State) (p : Page) : Bool :=
  p.stations.any (fun st =>
    let t := trk s st
    let z := startTarget s st
    !t.en || decide (offsetOf s st * 65536 < 512 * t.cpl)
      || (match s.page.prevEnd.getD st none with
          | some e => decide (z * 65536 < e)
          | none => false))

/-- What a pending PAGE.GAP hold says of a start event now (R27). -/
inductive HoldSays where
  | none | met | broken
  deriving DecidableEq, Repr

/-- A hold of station scope for a page. -/
def holdStation (s : State) (h : Hold) (p : Page) : HoldSays :=
  let mine := p.stations.filter (bitOf h.mask)
  if mine.isEmpty then .none
  else if mine.all (fun st => match s.page.lastLine.getD st Option.none with
      | some l => decide (l + 1 + h.lines ≤ (firstFor (trk s st) (startTarget s st)).1)
      | Option.none => true) then .met
  else .broken

/-- A hold of common scope for a page: the previous page is EXPOSED, and the lines count from its position then, which is the end of
its last line (the worked example of R27: EXPOSED after line 127,999, so 32 lines are over at line 128,032; DEDUCED, log entry 80). -/
def holdCommon (s : State) (h : Hold) (p : Page) : HoldSays :=
  match s.page.lastActive with
  | Option.none => .met
  | some key =>
    if ((pageOf s key).map (fun q => q.st == .active)).getD false then .broken
    else
      let st := firstStation s p
      let t := trk s st
      let first := (firstFor t (startTarget s st)).1
      if s.page.exposedPos.getD st 0 * 65536 + (h.lines + 1) * t.cpl ≤ boundaryPos t first then .met else .broken

def holdSays (s : State) (p : Page) : HoldSays :=
  match s.page.hold with
  | Option.none => .none
  | some h => if h.common then holdCommon s h p else holdStation s h p

/-- A start event of a page is accepted (R16, R27, R182, R350). -/
def startAccept (p : Page) (s : State) : State :=
  let s := if holdSays s p = .met then { s with page := { s.page with hold := none } } else s
  let zs := (List.range 6).map (startTarget s)
  let fs := (List.range 6).map (fun st => firstFor (trk s st) (startTarget s st))
  let s := setPage p.key (fun q => { q with
    started := true, startPos := zs, first := fs.map (fun f => f.1), phase := fs.map (fun f => f.2) }) s
  let s := forList p.stations s (fun st s =>
    { s with page := { s.page with
      prevEnd := s.page.prevEnd.set st (some (zs.getD st 0 * 65536 + p.lines * (trk s st).cpl))
      lastLine := s.page.lastLine.set st (some ((fs.getD st (0, 0)).1 + p.lines - 1)) } })
  progStart p.key s

/-- A sheet passes unprinted (R18): EV_SHEET_BLANK and the waste-gate windows of the blank sheet. -/
def sheetBlank (cause : Nat) (s : State) : State :=
  let s := raise 0x0205 dev 0 0 cause 0 0 (tick 0x0202 0 s)
  forRange 6 s (fun st s =>
    if (trk s st).en then
      wgAdd st (wgWindow s st (firstFor (trk s st) (startTarget s st)).1 s.page.cfg.sheetLen) s
    else s)

/-- TOS_EDGE (R17, R18): an active edge of TOS_IN at time `t` in ps. -/
def execTosEdge (t : Nat) (s : State) : Host.Outcome State Fault Refusal :=
  .next (when (engOn s && !s.page.cfg.web) (fun s =>
    let s := atTime t s
    match waitingPage s with
    | none => sheetBlank 0 s
    | some p =>
      if startEarly s p then sheetBlank 1 s
      else if holdSays s p = .broken then sheetBlank 2 s
      else startAccept p s) s)

/-- A pitch point passes (R19). -/
def pitchPoint (n : Nat) (s : State) : State :=
  match waitingPage s with
  | none =>
    let r := s.page.cfg.ref
    raise 0x0206 r 0 (stationLine s r) (n % 2 ^ 32) 0 0 (tick 0x0203 0 s)
  | some p => if startEarly s p || holdSays s p == .broken then s else startAccept p s

/-- The pitch points that the reference station's tracker has reached (R19). -/
def pitchPoints (s : State) : State :=
  let c := s.page.cfg
  let t := trk s c.ref
  if !c.web || c.pitch = 0 || !t.en then s
  else
    let upTo := (t.hwm - s.page.webOrigin) / (c.pitch : Int)
    forRange ((upTo + 1 - s.page.webNext).toNat) s (fun _ s =>
      let n := s.page.webNext
      pitchPoint n { s with page := { s.page with webNext := n + 1 } })

/-- Every station of a page has passed its last line + E_s counts (R32). -/
def pagePassed (s : State) (p : Page) : Bool :=
  p.stations.all (fun st =>
    let t := trk s st
    decide (boundaryPos t (p.lastLine st) + exitOf s st * 65536 ≤ t.hwm * 65536))

/-- What ends with a page's work in the expansion engines: its replays give up their engines, its lanes and runs go. -/
def expEnd (key : Nat) (s : State) : State :=
  let rids := (s.exp.replays.filter (fun r => r.page == key)).map Replay.rid
  let es := engineList.filter (fun e => ((eng s e).replay.map rids.contains).getD false)
  let s := forList es s (fun e s =>
    let s := setEng e (fun g => { g with replay := none }) s
    if (eng s e).st = .test then startTest e s else s)
  giveUnserved (expForget key s)

/-- A page becomes DONE (R32, R120, R262, R353). -/
def pageDone (p : Page) (st : Nat) (s : State) : State :=
  let s := pageTo p.key .done st (stationLine s st) s
  let s := endIngest p.key (expEnd p.key (consCharge p s))
  let s := setInst p.key (fun i => { i with expiry := some (s.now + 10000000000000) }) s
  trimPages (forList p.stations s (fun x s => splitIdle x (releaseStation x s)))

/-- How far a station has gone behind the exit of a page, in 1/65,536 count. -/
def exitOver (s : State) (p : Page) (st : Nat) : Nat :=
  ((trk s st).hwm * 65536 - boundaryPos (trk s st) (p.lastLine st) - exitOf s st * 65536).toNat

/-- The station at whose exit a page becomes DONE (Table 1.10): of its stations that follow the input of the sample, the one that
passed its exit last. -/
def doneStation (s : State) (p : Page) (st : Nat) : Nat :=
  (argMin (exitOver s p) (p.stations.filter (fun x => (trk s x).input == (trk s st).input))).getD st

/-- The EXPOSED pages of a station that have passed their exits. -/
def pagesDone (st : Nat) (s : State) : State :=
  forList (s.page.pages.filter (fun p => p.st == .exposed && p.uses st && pagePassed s p)) s (fun p s => pageDone p (doneStation s p st) s)

end Sys2Proof.Machine
end

