-- ==== Sys2Proof/Machine/Position.lean ====
section
/-! DEFINITION. Meanings of the rows of the position inputs, line trackers, strobes and delays (R172 to R200). -/

namespace Sys2Proof.Machine

def posIn (s : State) (i : Nat) : PosInput := s.pos.inputs.getD i {}

def setIn (i : Nat) (f : PosInput → PosInput) (s : State) : State :=
  { s with pos := { s.pos with inputs := updAt s.pos.inputs i f } }

/-- The range of an input's raw count (R173). -/
def rawBits (p : PosInput) : Nat := if p.mode = 4 then p.nbits else 32

/-- The raw count of timed mode at a time (R172). -/
def timedRaw (p : PosInput) (t : Nat) : Nat := (p.c0 + p.rate * (t - p.t0) / 1000000000000) % 2 ^ 32

/-- The enabled trackers that follow an input. -/
def followers (s : State) (i : Nat) : List Nat :=
  (List.range 6).filter (fun st => (trk s st).en && (trk s st).input == i)

/-- The velocity estimate starts anew (R180). -/
def dropVel (t : Tracker) : Tracker := { t with samples := [], bCount := 0 }

/-- Line issue stops (R178, R179). -/
def haltTrk (t : Tracker) : Tracker :=
  dropVel { t with stopped := true, inExcursion := false }

/-- Position has fallen more than JW below HWM (R178). -/
def reverse (st : Nat) (s : State) : State :=
  let t := trk s st
  let s := setTrk st haltTrk (tick 0x0503 st s)
  positionLoss st (raise 0x0501 st 0 (stationLine s st) (w32 (t.hwm - t.ext)) (w32 t.hwm) (posIn s t.input).raw s)

/-- Boundaries still to fire at the present HWM (R176). -/
def boundariesDue (t : Tracker) : Nat := (lineAt t (t.hwm * 65536) - t.k).toNat

/-- One used sample of an enabled tracker, its extended position already moved (R176 to R180). -/
def trackStep (st t : Nat) (s : State) : State :=
  let s := match (trk s st).samples.head? with
    | some x => if x.2 + (trk s st).stopTo * usPs < t then setTrk st dropVel s else s
    | none => s
  let tr := trk s st
  let s :=
    if tr.hwm < tr.ext then
      let s := if tr.inExcursion && !tr.stopped then tick 0x0502 st s else s
      if tr.stopped then
        let s := setTrk st (fun tr => dropVel { tr with stopped := false, hwm := tr.ext, inExcursion := false }) s
        raise 0x0503 st 0 (stationLine s st) (boundariesDue (trk s st)) (w32 (trk s st).hwm) 0 s
      else setTrk st (fun tr => { tr with hwm := tr.ext, inExcursion := false }) s
    else if tr.stopped then s
    else if tr.hwm - tr.ext > tr.jw then reverse st s
    else if tr.hwm = tr.ext then (if tr.inExcursion then tick 0x0502 st (setTrk st (fun tr => { tr with inExcursion := false }) s) else s)
    else setTrk st (fun tr => { tr with inExcursion := true }) s
  if (trk s st).stopped then s
  else
    let s := setTrk st (fun tr => { tr with samples := ((tr.hwm, t) :: tr.samples).take 64 }) s
    forRange (boundariesDue (trk s st)) s (fun _ s => fireBoundary st t s)

/-- A used sample of an input: trackers, page starts and ends, waste gates, drives (R173, R176, R364). -/
def useSample (i t : Nat) (s : State) : State :=
  let p := posIn s i
  let d0 := sint (p.raw + 2 ^ 32 * 2 - p.last) (rawBits p)
  let d := if p.invert then -d0 else d0
  let s := setIn i (fun p => { p with last := p.raw }) s
  let s := { s with pos := { s.pos with trackers := s.pos.trackers.map (fun tr => if tr.input = i then { tr with ext := tr.ext + d } else tr) } }
  let mine := followers s i
  let s := forList mine s (fun st s => trackStep st t s)
  let s := if mine.contains s.page.cfg.ref then pitchPoints s else s
  let s := forList mine s (fun st s => wgDrive st (pagesDone st s))
  drvSample i d t s

/-- An input reports a fault (R174, R179, R362): once per episode. -/
def inputFault (i cause : Nat) (s : State) : State :=
  let p := posIn s i
  let s := setIn i (fun p => { p with fault := true, good := 0 }) s
  if p.fault then s
  else
    let line := ((followers s i).head?.map (stationLine s)).getD 0
    let s := raise 0x0502 i 0 line cause p.raw 0 (tick 0x0505 i s)
    let s := forList (followers s i) s (fun st s => positionLoss st (setTrk st haltTrk s))
    drvInputFault i s

/-- Place of the levels of A (bit 0) and B (bit 1) in the quadrature cycle: A leads B upward (PRESUMED, log entry 87). -/
def quadPlace (v : Nat) : Nat := [0, 1, 3, 2].getD (v % 4) 0

/-- The number that a Gray code of `n` bits stands for. -/
def grayDecode (n g : Nat) : Nat := (List.range n).foldl (fun v i => v ^^^ (g >>> i)) 0

/-- The raw count after a sample of signals `a` (R172): quadrature levels, an angle in 1/65,536 of a signal period or electrical
revolution, or an SSI code. The first sample after POS.INPUT is where relative modes start to count. -/
def sampleRaw (p : PosInput) (a t : Nat) : Nat :=
  let add (d : Int) : Nat := if p.fresh then p.raw else unsig (p.raw + d) 32
  match p.mode with
  | 1 => add (sint (quadPlace a + 4 - quadPlace p.phase) 2)
  | 2 => add (sint (2 ^ p.interp + a % 65536 / 2 ^ (16 - p.interp) - p.phase / 2 ^ (16 - p.interp)) p.interp)
  | 3 => add (sint (65536 + a % 65536 - p.phase) 16)
  | 4 => if p.gray then grayDecode p.nbits (a % 2 ^ p.nbits) else a % 2 ^ p.nbits
  | _ => timedRaw p t

/-- An SSI frame differs from the one before by more than a quarter of the range (R174). -/
def ssiJump (p : PosInput) (raw : Nat) : Bool :=
  !p.fresh && decide (2 ^ (p.nbits - 2) < (sint (raw + 2 ^ p.nbits - p.raw % 2 ^ p.nbits) p.nbits).natAbs)

/-- A sample shows a fault (R174): A and B change at once; the vector's amplitude, `b` mVpp; the carrier's, `b` % of its calibrated value;
a bad start or stop bit (`b` = 0), or a jump. -/
def sampleBad (p : PosInput) (a b raw : Nat) : Bool :=
  match p.mode with
  | 1 => !p.fresh && (quadPlace a + 4 - quadPlace p.phase) % 4 == 2
  | 2 => decide (b < 400 ∨ 1600 < b)
  | 3 => decide (b < 25)
  | 4 => b == 0 || ssiJump p raw
  | _ => false

/-- Time in ps from one sample to the next in modes 2 to 5 (Table 6.1). -/
def samplePs (p : PosInput) : Nat := if p.mode = 4 then p.ssiPeriod * 10000 else usPs

/-- POS_SAMPLE (R172 to R174): an input's signals as its front end takes them at the ball time `t` in ps. Mode 1: the levels of A and B in
`a`, which then last `b` ps: levels that do not outlast the glitch filter are no edge. Modes 2 and 3: the angle in `a`, the amplitude in `b`.
Mode 4: a frame's code in `a`, `b` 0 where its start or stop bit is bad. Mode 5 counts by Rooster time. -/
def execPosSample (input a b t : Nat) (s : State) : Host.Outcome State Fault Refusal :=
  let p := posIn s input
  let early := if p.mode = 1 then decide (b < p.filter * 5000) else decide (t < p.nextAt)
  .next (when (macOn s && decide (input < 8) && p.mode != 0 && !early) (fun s =>
    let s := atTime t s
    let s := when (p.mode == 4) (emit (.posDrive input (p.ssiClk * 100000) p.nbits)) s
    let raw := sampleRaw p a t
    let bad := sampleBad p a b raw
    let raw := if (p.mode = 4 ∧ b = 0) ∨ (p.mode = 1 ∧ bad) then p.raw else raw
    let s := setIn input (fun p => { p with
      raw := raw, phase := if p.mode = 1 then a % 4 else a % 65536, nextAt := t + samplePs p
      last := if p.fresh && !bad then raw else p.last, fresh := p.fresh && bad }) s
    if bad then inputFault input p.mode s
    else if !p.fault then useSample input t s
    else if p.good + 1 < 8 then setIn input (fun p => { p with good := p.good + 1 }) s
    else useSample input t (setIn input (fun p => { p with fault := false, good := 0 }) s)) s)

/-- VELOCITY_STOP_TIMEOUT (R180): no HWM sample for longer than the stop timeout. -/
def execVelocityStopTimeout (station : Nat) (s : State) : Host.Outcome State Fault Refusal :=
  .next (match (trk s station).samples.head? with
    | some x => when (engOn s && (trk s station).en) (fun s => setTrk station dropVel (atTime (x.2 + (trk s station).stopTo * usPs) s)) s
    | none => s)

/-- Z_EDGE (R172): a rising Z edge in incremental mode latches the extended position, for report only. -/
def execZEdge (input t : Nat) (s : State) : Host.Outcome State Fault Refusal :=
  .next (when (macOn s && (posIn s input).mode == 1) (fun s =>
    let s := atTime t s
    { s with pos := { s.pos with trackers := s.pos.trackers.map (fun tr => if tr.input = input then { tr with zPos := tr.ext } else tr) } }) s)

/-- A strobe fell due without a valid estimate (R179): the boundary is lost at every tile that has not yet fired it. -/
def strobeFail (st : Nat) (k : Int) (s : State) : State :=
  let t := trk s st
  let s := raise 0x0502 t.input 0 (stationLine s st) 6 (posIn s t.input).raw 0 s
  positionLoss st (forList (tilesOf st) s (fun g s => strobeLost g k s))

/-- The strobe of a boundary goes in a block with a phase (R196, R218). -/
def strobeOut (g : Nat) (k : Int) (block phase : Nat) (s : State) : State :=
  emit (.strobe g k block phase) (txSet g block true (setBytes 0xB4 phase (unsig k 16)) s)

/-- STROBE_COMMIT (R179, R194, R196): the next strobe of a tile is committed and its ordered set sent; a boundary whose frame has
NO_STROBE, or for which no frame was built, gets none. -/
def execStrobeCommit (lane : Nat) (s : State) : Host.Outcome State Fault Refusal :=
  let st := stOf lane
  let k := (dly s lane).nextStrobe
  let skip (s : State) : State := setDly lane (fun d => { d with nextStrobe := k + 1 }) s
  .next (when (engOn s && (port s lane).st == .online && (trk s st).en && decide (k ≤ (trk s st).k + 1)) (fun s =>
    match (port s lane).awaits.find? (fun a => a.k == k) with
    | none => skip s
    | some a =>
      if a.lost then skip s
      else match strobeSend s lane k with
        | some t =>
          if a.blank then skip s
          else
            let b := strobePhase t
            skip (strobeOut lane k b.1 b.2 (atTime (b.1 * 6400 + b.2 * 100) s))
        | none => if strobeMissed s lane k || (!velValid (trk s st) && decide (k ≤ (trk s st).k)) then skip (strobeFail st k s) else s) s)

/-- TIME_REF_LOSS (R181): the external reference in use is lost. -/
def execTimeRefLoss (s : State) : Host.Outcome State Fault Refusal :=
  .next (when (engOn s && s.pos.refExt && s.pos.locked) (fun s =>
    raise 0x0506 dev 0 0 0 1 0 { s with pos := { s.pos with locked := false } }) s)

/-- TIME_REF_LOCK (R181): Rooster locks to the external reference again. -/
def execTimeRefLock (s : State) : Host.Outcome State Fault Refusal :=
  .next (when (engOn s && s.pos.refExt && !s.pos.locked) (fun s =>
    raise 0x0506 dev 0 0 1 1 0 { s with pos := { s.pos with locked := true } }) s)

/-! Commands. -/

/-- The fields a mode uses lie in their ranges (Table 6.6). -/
def inputOk (ws : List Word) : Bool :=
  let mode := bits (par ws 2) 4 3
  let w3 := par ws 3
  let w4 := par ws 4
  let w5 := par ws 5
  decide (mode ≤ 5)
    && (mode != 2 || decide (2 ≤ bits w3 0 4 ∧ bits w3 0 4 ≤ 10))
    && (mode != 3 || decide (5000 ≤ w5 ∧ w5 ≤ 20000))
    && (mode != 4 || decide (8 ≤ bits w3 8 6 ∧ bits w3 8 6 ≤ 32 ∧ 1 ≤ bits w4 0 8 ∧ bits w4 0 8 ≤ 100 ∧ 200 ≤ bits w4 16 16))
    && (mode != 5 || decide (w5 ≤ 20000000))

/-- An axis in automatic follows an input (R200): its speed loop is automatic. -/
def axisAuto (s : State) (i : Nat) : Bool :=
  s.motion.drives.any (fun d => d.st != .off && d.cfg.input == i && (loopOf s d.cfg.sslot).auto)

/-- POS_INPUT (R172, R200). -/
def execPosInput (s : State) : Host.Outcome State Fault Refusal :=
  .next (serve 0x0501 .immediate [0x177, 0x13F0F, 0xFFFF00FF, allBits, 0xFF] (fun ws s =>
    let i := bits (par ws 2) 0 3
    if !inputOk ws then .refuse s stBadParam
    else if !(followers s i).isEmpty || axisAuto s i then .refuse s stState
    else
      let f (p : PosInput) : PosInput :=
        let q : PosInput := { p with
          mode := bits (par ws 2) 4 3, invert := bitOf (par ws 2) 8, interp := bits (par ws 3) 0 4, nbits := bits (par ws 3) 8 6,
          gray := bitOf (par ws 3) 16, ssiClk := bits (par ws 4) 0 8, ssiPeriod := bits (par ws 4) 16 16, rate := par ws 5,
          filter := bits (par ws 6) 0 8, fault := false, good := 0, c0 := p.raw, t0 := s.now, phase := 0, fresh := bits (par ws 2) 4 3 != 5, nextAt := s.now }
        { q with raw := q.raw % 2 ^ rawBits q, last := q.last % 2 ^ rawBits q }
      let s := when (bits (par ws 2) 4 3 == 3) (emit (.posDrive i (par ws 5) 0)) s
      { st := drvUnalign i (setIn i f s) }) s)

/-- The limits of R20 hold for a station's CPL under a page configuration. -/
def cplFits (c : PageConfig) (st cpl : Nat) : Bool :=
  !(bitOf c.stations st && decide (c.offsets.getD st 0 * 65536 < 512 * cpl))
    && !(c.web && c.ref == st && decide (c.pitch * 65536 < 512 * cpl))

/-- A time before every line: tables in force when a tracker is enabled stand for all its lines. -/
def longAgo : Int := -(2 ^ 62)

/-- A tracker is enabled (R175, R213): line numbers start again, so nothing of the station's line store, frames or tables
refers to the old ones. -/
def lineStart (st : Nat) (s : State) : State :=
  let lo := st * 65536
  let mine (k : Nat) : Bool := decide (lo ≤ k ∧ k < lo + 65536)
  let base := st * 256 * 65536
  let s : State := { s with
    pos := { s.pos with
      store := s.pos.store.filter (fun b => !decide (base ≤ b.1 ∧ b.1 < base + 256 * 65536)),
      slots := s.pos.slots.filter (fun h => stOf h.tile != st),
      pattern := updAt s.pos.pattern st (fun vs => (vs.take 1).map (fun v => { v with fromLine := longAgo })),
      stitch := updAt s.pos.stitch st (fun vs => (vs.take 1).map (fun v => { v with fromLine := longAgo })),
      overrides := s.pos.overrides.map (fun o => if mine o.1 then (o.1, (o.2.take 1).map (fun v => { v with fromLine := longAgo })) else o), },
    exp := { s.exp with tone := s.exp.tone.map (fun o => if mine o.1 then (o.1, (o.2.take 1).map (fun v => { v with fromLine := longAgo })) else o) },
    page := { s.page with
      pages := s.page.pages.map (fun p => if p.started && p.uses st then { p with first := p.first.set st (longAgo + p.key) } else p),
      lastLine := s.page.lastLine.set st ((s.page.prevEnd.getD st none).map (fun e => lineAt (trk s st) (e - 1))), }, }
  let s : State := { s with cam := { s.cam with trigs := s.cam.trigs.map (fun g => if g.station = st then { g with base := none } else g) } }
  forList (tilesOf st) s (fun g s =>
    setPort g (fun p => { p with resync := true, frames := [], awaits := [] })
      (setTile g (fun t => { t with codesFrom := none })
        (setDly g (fun d => { d with lastA := -1 - d.ia, lastB := -1 - d.ib, nextStrobe := 0 }) s)))

/-- POS_TRACK (R175, R176, R200): boundary 0 fires as the tracker is enabled. -/
def execPosTrack (s : State) : Host.Outcome State Fault Refusal :=
  .next (serve 0x0502 .immediate [0xF0177, allBits, 0xFFFF] (fun ws s =>
    let w2 := par ws 2
    let st := bits w2 0 3
    let i := bits w2 4 3
    let cpl := par ws 3
    let sto := bits (par ws 4) 0 16
    if 5 < st ∨ cpl < 0x10000 ∨ (0 < sto ∧ sto < 10) then .refuse s stBadParam
    else if stationLive s st || !cplFits s.page.cfg st cpl then .refuse s stState
    else
      let s := setTrk st (fun t => dropVel { t with
        en := false, input := i, jw := bits w2 16 4, cpl := cpl, stopTo := if sto = 0 then 1000 else sto,
        stopped := false, inExcursion := false, bTimes := [], lastB := none }) s
      if !bitOf w2 8 then { st := movesNow s }
      else
        let p := posIn s i
        let s := if p.mode = 5 ∧ !p.fault then useSample i s.now (setIn i (fun p => { p with raw := timedRaw p s.now }) s) else s
        let k := (trk s st).k
        let s := { s with exp := { s.exp with slack := updAt s.exp.slack st (fun q => { q with calmSince := q.calmSince - k - 1 }) } }
        let s := setTrk st (fun t => { t with en := true, origin := t.ext, hwm := t.ext, k := -1 }) s
        { st := fireBoundary st s.now (lineStart st s) }) s)

/-- POS_STATUS. -/
def execPosStatus (s : State) : Host.Outcome State Fault Refusal :=
  .next (serve 0x0503 .immediate [7] (fun ws s =>
    let st := par ws 2
    if 5 < st then .refuse s stBadParam
    else
      let t := trk s st
      let p := posIn s t.input
      let raw := if p.mode = 5 then timedRaw p s.now else p.raw
      { st := s, results := [raw] ++ two (unsig t.ext 48) ++ two (unsig t.hwm 48) ++
          [stationLine s st, if velValid t then w32 (velCps t) else 0, periodOf t,
           fld (b2n (velValid t)) 0 1 + fld (b2n t.stopped) 1 1 + fld (b2n p.fault) 2 1 + fld (b2n t.en) 3 1,
           ctrVal s 0x0502 st, ctrVal s 0x0503 st, ctrVal s 0x0504 st, w32 t.zPos] }) s)

/-- The target of a tile's taps lies beyond live travel (Table 6.6). -/
def beyondTravel (d : TileDelay) : Bool :=
  let e := d.hostDebt + d.calDebt
  let ta : Int := d.ta + e
  let tb : Int := d.tb + e
  decide (ta < 0 ∨ 255 < ta ∨ tb < 0 ∨ 255 < tb)

/-- A new REG_HOST of a tile (R184, R185): by live steps, or by a split at once while the station has no live page. -/
def regHost (g : Nat) (v : Int) (s : State) : State :=
  let s := setDly g (fun d => { d with hostDebt := d.hostDebt + (v - d.regHost), regHost := v, hostWait := d.hostWait && d.regHost == v }) s
  if !stationLive s (stOf g) && splitFits s g then resplit g s else s

/-- POS_DELAY (R185). -/
def execPosDelay (s : State) : Host.Outcome State Fault Refusal :=
  .next (serve 0x0504 .immediate (7 :: List.replicate 8 allBits) (fun ws s =>
    let st := par ws 2
    let vs := (List.range 16).map (fun t => sbits (par ws (3 + t / 2)) (16 * (t % 2)) 16)
    if 5 < st ∨ vs.any (fun v => decide (v < -1024 ∨ 1024 < v)) then .refuse s stBadParam
    else
      let s := forRange 16 s (fun t s => regHost (16 * st + t) (vs.getD t 0) s)
      { st := s, results := [maskOf ((List.range 16).filter (fun t => beyondTravel (dly s (16 * st + t))))] }) s)

/-- Puts a new table of a station in force from an image line on (R192). -/
def maskApply (st : Nat) (stitch : Bool) (bytes : List Byte) (from_ : Int) (s : State) : State :=
  let add (vs : List MaskVer) : List MaskVer := { fromLine := from_, bytes := bytes } :: keepVers MaskVer.fromLine (trk s st).k vs
  if stitch then { s with pos := { s.pos with stitch := updAt s.pos.stitch st add } }
  else { s with pos := { s.pos with pattern := updAt s.pos.pattern st add } }

/-- POS_MASK (R191, R192, R200). -/
def execPosMask (s : State) : Host.Outcome State Fault Refusal :=
  .next (serve 0x0505 .deferred [0x107, allBits, allBits, allBits] (fun ws s =>
    let st := bits (par ws 2) 0 3
    let stitch := bitOf (par ws 2) 8
    if 5 < st then .refuse s stBadParam
    else match hostRead s (par64 ws 3) (if stitch then 7680 else 1024) with
      | none => .refuse s stDmaFault
      | some bs =>
        if crc32c bs ≠ par ws 5 then .refuse s stCheck
        else if !stationLive s st then { st := maskApply st stitch bs longAgo s }
        else
          let oid := s.host.nextOid
          let s := { s with pos := { s.pos with maskWaits := s.pos.maskWaits ++ [{ station := st, stitch := stitch, bytes := bs, oid := oid }] } }
          { st := gapPend (.mask st) (some (1 <<< st)) (some oid) s, status := stDeferred }) s)

/-- POS_OVERRIDE (R193, R200). -/
def execPosOverride (s : State) : Host.Outcome State Fault Refusal :=
  .next (serve 0x0506 .immediate (0x3F07 :: List.replicate 60 0x3FFFF) (fun ws s =>
    let st := bits (par ws 2) 0 3
    let n := bits (par ws 2) 8 6
    let q := s.pos.overQueue.getD st []
    if 5 < st ∨ n = 0 ∨ 60 < n ∨ (List.range (60 - n)).any (fun i => par ws (3 + n + i) != 0) then .refuse s stBadParam
    else if 4096 < q.length + n then .refuse s stBusy
    else
      let add := (List.range n).map (fun i => (bits (par ws (3 + i)) 0 16, bits (par ws (3 + i)) 16 2))
      { st := { s with pos := { s.pos with overQueue := s.pos.overQueue.set st (q ++ add) } }, results := [q.length + n] }) s)

/-- POS_LATENCY. -/
def execPosLatency (s : State) : Host.Outcome State Fault Refusal :=
  .next (serve 0x0507 .immediate [0x7F] (fun ws s =>
    let g := par ws 2
    if 95 < g then .refuse s stBadParam
    else
      let d := dly s g
      { st := s, results := [fld (d.lat / 250) 0 16, fld (d.rtt / 250) 0 16, unsig d.ia 16 + unsig d.ib 16 * 65536, fld d.ta 0 8 + fld d.tb 8 8] }) s)

/-- TIME_CONFIG (R181, R200). -/
def execTimeConfig (s : State) : Host.Outcome State Fault Refusal :=
  .next (serve 0x0508 .immediate [1] (fun ws s =>
    if anyLive s then .refuse s stState
    else { st := { s with pos := { s.pos with refExt := bitOf (par ws 2) 0, locked := true } } }) s)

end Sys2Proof.Machine
end

