-- ==== Sys2Proof/Machine/Gaps.lean ====
section
/-! DEFINITION. Service gaps and the start of gap-only work (R23, R24, R26, R233, R411, R412, R416, R461). -/

namespace Sys2Proof.Machine

/-- How far the boundaries of a page reach before its first and behind its last line for a piece of work: for the retraining of a
tile, the boundaries whose frames carry a line of the page (R233). -/
def gapMargin (s : State) (w : GapWork) (p : Page) : Int × Int :=
  match w with
  | .retrain g =>
    let ds := allDInt s p g
    let d := dly s g
    (min d.ia d.ib + ds.foldl min (ds.headD 0), max d.ia d.ib + ds.foldl max (ds.headD 0))
  | _ => (0, 0)

/-- Lines from a station's position to a line of it, whole lines only: 2,000 at the edge of the worked example of R27. -/
def linesTo (s : State) (st : Nat) (line : Int) : Nat :=
  let t := trk s st
  (floorDiv (boundaryPos t line - t.hwm * 65536) t.cpl).toNat

/-- Remaining known lines of a station's gap (R23, R24): none where there is no gap or its extent is not known, some none
where it has no known end. -/
def stationGap (s : State) (w : GapWork) (st : Nat) : Option (Option Nat) :=
  let next := (trk s st).k + 1
  let span := fun (p : Page) => let m := gapMargin s w p; (p.firstLine st + m.1, p.lastLine st + m.2)
  let mine := s.page.pages.filter (fun p => p.uses st && p.started)
  let within := fun (p : Page) => let r := span p; decide (r.1 ≤ next ∧ next ≤ r.2)
  let ahead := (mine.filter (fun p => p.live && decide (next < (span p).1))).map (fun p => (span p).1)
  if mine.any (fun p => (p.live || p.st == .done) && within p) then none
  else match ahead with
    | a :: t => some (some (linesTo s st (t.foldl min a)))
    | [] => if s.page.pages.any (fun p => p.uses st && (p.st == .admitted || p.st == .active)) then none else some none

/-- Remaining known lines of the common gap (R23, R24, Table 1.10): until the first line of a started page, the smallest over the
enabled stations, each of which has latched its position at the start event (R16). -/
def commonGap (s : State) : Option (Option Nat) :=
  if s.page.pages.any (fun p => p.st == .active) then none
  else
    let adm := s.page.pages.filter (fun p => p.st == .admitted)
    let on := (bitList 6 s.page.cfg.stations).filter (fun st => (trk s st).en)
    match ((adm.filter Page.started).map (fun p => on.map (fun st => linesTo s st (p.firstLine st)))).flatten with
    | a :: t => some (some (t.foldl Nat.min a))
    | [] => if adm.isEmpty then some none else none

/-- Remaining known lines of the gap of an item's scope, the smallest over its stations. -/
def gapRemain (s : State) (g : GapItem) : Option (Option Nat) :=
  let both := fun (a b : Option (Option Nat)) => match a, b with
    | some x, some y => some (minExtent x y)
    | _, _ => none
  match g.work, g.scope with
  | .handover, _ => stationGap s g.work (leadStation s)
  | _, some m => (bitList 6 m).foldl (fun a st => both a (stationGap s g.work st)) (some none)
  | _, none => commonGap s

/-- The spool demand of the live pages, in a common gap the ADMITTED ones and those EXPOSED, fits the print budget of some channels at a rate index (R411). -/
def admittedFit (s : State) (channels rate : Nat) : Bool :=
  spoolFits (liveSpoolDemand s) (presentRate s) channels rate

/-- What an item needs besides its gap (R411, R416). -/
def gapAllowed (s : State) (w : GapWork) : Bool :=
  match w with
  | .ddrRate r => admittedFit s (popCount 4 (ddrMask s)) r
  | .retire _ =>
    let left := popCount 4 (ddrMask s) - 1
    admittedFit s left (ddrRate s) && decide (entriesUsed s ≤ left * 16777216)
  | _ => true

/-- The oldest pending item of a scope, if it can start (R24). -/
def gapNext (s : State) (scope : Option Nat) : Option GapItem :=
  match s.page.gapPending.find? (fun g => g.scope == scope) with
  | none => none
  | some g => if gapSuffices (gapRemain s g) && gapAllowed s g.work then some g else none

/-- The effect of an item's start. -/
def gapBegin (w : GapWork) (s : State) : State :=
  match w with
  | .retrain g => retrainStart g s
  | .ddrRate _ =>
    forRange 4 s (fun c s => if (ddr s c).sweep.isSome then tick 0x0C07 0 (setDdr c (fun d => { d with sweep := none }) s) else s)
  | .handover => forList s.cal.runs (withFw (fun f => { f with st := .handover }) s) (fun r s => calDiscard r.kind r.subject s)
  | _ => s

/-- An item starts: it is then running, with the gap's extent and the items that have gone before it. -/
def gapStart (g : GapItem) (extent count : Nat) (s : State) : State :=
  gapBegin g.work { s with page := { s.page with
    gapPending := s.page.gapPending.erase g
    gapRunning := s.page.gapRunning ++ [{ item := g, extent := extent, count := count }] } }

/-- GAP_ITEM_START (R24, R25): the oldest item that can start does, one at a time in a scope, and none while an admission waits. -/
def execGapItemStart (s : State) : Host.Outcome State Fault Refusal :=
  .next (if !fwReady s || !s.page.admitWaits.isEmpty then s
    else
      let idle := s.page.gapPending.filter (fun g => !s.page.gapRunning.any (fun r => r.item.scope == g.scope))
      match idle.find? (fun g => gapNext s g.scope == some g) with
      | none => s
      | some g =>
        let extent := match gapRemain s g with
          | some (some n) => n
          | _ => 0xFFFFFFFF
        gapStart g extent 0 s)

/-- GAP_WANTED_REPEAT (R26): every 60 s while an item stays pending. -/
def execGapWantedRepeat (s : State) : Host.Outcome State Fault Refusal :=
  .next (match s.page.gapPending with
    | [] => s
    | g :: t =>
      let s := atTime (t.foldl (fun a x => Nat.min a x.nextWanted) g.nextWanted) s
      let due := s.page.gapPending.filter (fun x => decide (x.nextWanted ≤ s.now))
      let s := { s with page := { s.page with
        gapPending := s.page.gapPending.map (fun x => if x.nextWanted ≤ s.now then { x with nextWanted := s.now + minute } else x) } }
      forList due s gapWanted)

end Sys2Proof.Machine
end

