-- ==== Sys2Proof/Machine/PageCmd.lean ====
section
/-! DEFINITION. The page commands: admission (R14, R25), announcement, withdrawal, configuration, holds, spoiling and status
(R20, R27, R33 to R35, R111). -/

namespace Sys2Proof.Machine

/-- Status codes of Table 1.8. -/
def stAdmitRefused : Nat := 0x0202
def stUnknownPage : Nat := 0x0203

/-! Creation. -/

/-- A new QUEUED page with its spool object and ingest context (R12, R103). -/
def pageNew (id : Word) (preverify trust : Bool) (planes : Nat) (obj : Nat → State → State) (ingest : Nat → Ingest) (s : State) : State :=
  let key := s.page.nextKey
  let p : Page := { key := key, id := id, preverify := preverify, trust := trust, planes := planes }
  let s := { s with page := { s.page with pages := s.page.pages ++ [p], nextKey := key + 1 } }
  obj key { s with spool := { s.spool with ingests := s.spool.ingests ++ [ingest key] } }

/-- PAGE_ANNOUNCE (R12, R35, R103). -/
def execPageAnnounce (s : State) : Host.Outcome State Fault Refusal :=
  .next (serve 0x0201 .immediate [allBits, 3, 0x3F] (fun ws s =>
    let planes := par ws 4
    if planes = 0 then .refuse s stBadParam
    else
      { st := pageNew (BitVec.ofNat 32 (par ws 2)) (bitOf (par ws 3) 0) (bitOf (par ws 3) 1) planes
          (fun key s => { s with spool := { s.spool with objs := s.spool.objs ++ [{ sid := key, planes := planes }] } })
          (fun key => { page := key, sid := key }) s }) s)

/-! Admission. -/

/-- Some DDR5 channel in the channel set of an extent of the page is UNCALIBRATED (R14). -/
def extentsUncal (s : State) (o : SpoolObj) (planes : Nat) : Bool :=
  let nos := ((o.streams.filter (fun t => bitOf planes t.plane)).map PbStream.extents).flatten
  (s.spool.extents.filter (fun e => nos.contains e.no)).any (fun e => (bitList 4 e.channels).any (fun c => (ddr s c).uncal))

/-- The NEED of a program number, 0 for none (R347). -/
def needOf (s : State) (program : Nat) : Nat := if program = 255 then 0 else (programOf s program).need

/-- The slack forecast fails for a page (R14, R123, R166). -/
def slackFails (s : State) (p : Page) : Bool :=
  let rate := presentRate s
  match pageObj s p.key with
  | none => true
  | some o =>
    let t := slackTerms s (p.planes ||| liveStations s) rate (pageDecodeDemand o p.planes rate) 
      (peakDemand (placePages s (liveByAdmission s ++ [p])) (some p.key))
    !(t.1 && t.2.1 && t.2.2)

/-- The reason mask of Table 1.9 for a page and a program. -/
def admitReasons (s : State) (p : Page) (program : Nat) : Nat :=
  let union := p.planes ||| liveStations s
  let tiles := (p.stations.map tilesOf).flatten
  let uncal := tiles.any (fun g => (tileOf s g).uncal) || ((pageObj s p.key).map (fun o => extentsUncal s o p.planes)).getD false
  b2n (p.st != .spooled)
    + 2 * b2n (tiles.any (fun g => (port s g).st != .online))
    + 4 * b2n (decide (engCount s EngSt.healthy < 4 * popCount 6 union))
    + 8 * b2n (slackFails s p)
    + 16 * b2n (!thermalOk s union (presentRate s))
    + 32 * b2n (s.sup.safe || (bitList 64 (needOf s program)).any (fun n => !(decide (n < 8) || (loopOf s n).auto)))
    + 64 * b2n (s.page.cfg.needAuth && s.tile.slots.any (fun c => c.stations &&& p.planes != 0 && c.st != .authenticated))
    + 128 * b2n (p.stations.any (stationHot s))
    + 256 * b2n (s.page.cfg.refuseUncal && uncal)
    + 512 * b2n (decide (8 ≤ countBy (fun q => q.st == .admitted) s.page.pages))
    + 1024 * b2n (p.stations.any (fun st => !bitOf s.page.cfg.stations st))
    + 2048 * b2n (p.stations.any (fun st => !(trk s st).en))

/-- The requests that cannot be weighed (R14, items 1 to 5): the page, or the status. -/
def admitScreen (id w3 : Nat) (s : State) : Except Nat Page :=
  let program := bits w3 8 8
  match findPage s id with
  | none => .error stUnknownPage
  | some p =>
    let screens := p.stations.map (fun st => s.exp.screens.getD (6 * bits w3 1 1 + st) {})
    if program ≠ 255 ∧ ¬ (programOf s program).valid then .error stBadParam
    else if s.fw.power ≠ .run ∨ s.fw.standbyDue then .error stState
    else if s.mem.train.isSome || screens.any (fun x => !x.loading.isEmpty) then .error stBusy
    else if screens.any (fun x => !x.valid) then .error stState
    else .ok p

/-- A page is ADMITTED (R8, R14, R131). -/
def admitPage (p : Page) (w3 : Nat) (s : State) : State :=
  let program := bits w3 8 8
  let n := s.page.admissions + 1
  let s := { s with page := { s.page with admissions := n } }
  let s := setPage p.key (fun p => { p with
    admission := n, geomBank := bits w3 0 1, screenBank := bits w3 1 1, program := program, need := needOf s program }) s
  assignPage p (pageTo p.key .admitted dev 0 s)

/-- Weighs an admission (R14): the state, the status and the results. -/
def admitWeigh (id w3 : Nat) (s : State) : State × Nat × List Nat :=
  match admitScreen id w3 s with
  | .error status => (s, status, [])
  | .ok p =>
    let mask := admitReasons s p (bits w3 8 8)
    if mask ≠ 0 then (s, stAdmitRefused, [mask])
    else
      let t := admitPage p w3 s
      (t, stOk, two t.page.admissions)

/-- The admission is deferred (R25). -/
def admitDefers (s : State) : Bool := !s.page.gapRunning.isEmpty && !s.page.pages.any (fun p => p.st == .admitted)

/-- PAGE_ADMIT (R14, R25). -/
def execPageAdmit (s : State) : Host.Outcome State Fault Refusal :=
  .next (serve 0x0202 .immediate [allBits, 0xFF03] (fun ws s =>
    match admitScreen (par ws 2) (par ws 3) s with
    | .error status => .refuse s status
    | .ok _ =>
      if admitDefers s then
        { st := { s with page := { s.page with admitWaits := s.page.admitWaits ++
              [{ oid := s.host.nextOid, id := BitVec.ofNat 32 (par ws 2), word3 := BitVec.ofNat 32 (par ws 3) }] } }, status := stDeferred }
      else
        let r := admitWeigh (par ws 2) (par ws 3) s
        { st := r.1, status := r.2.1, results := r.2.2 }) s)

/-! Other commands. -/

/-- PAGE_WITHDRAW (R10, R22, R111, R120): a bound channel stops with cause WITHDRAWN first. -/
def execPageWithdraw (s : State) : Host.Outcome State Fault Refusal :=
  .next (serve 0x0203 .immediate [allBits] (fun ws s =>
    match findPage s (par ws 2) with
    | none => .refuse s stUnknownPage
    | some p =>
      if p.live then .refuse s stPageLocked
      else
        let s := match boundTo s p.key with
          | some ch => muleEnd ch 0x0308 0 6 s
          | none => s
        { st := trimPages (endIngest p.key (pageTo p.key .withdrawn dev 0 s)) }) s)

/-- The page that PAGE.STATUS reports (R34). -/
def statusPage (s : State) (ws : List Word) : Option Page :=
  if bitOf (par ws 3) 0 then s.page.pages.find? (fun p => p.admission != 0 && p.admission == par64 ws 4)
  else match findPage s (par ws 2) with
    | some p => some p
    | none => (s.page.pages.filter (fun p => p.id.toNat == par ws 2)).getLast?

/-- PAGE_STATUS (R34). -/
def execPageStatus (s : State) : Host.Outcome State Fault Refusal :=
  .next (serve 0x0204 .immediate [allBits, 1, allBits, allBits] (fun ws s =>
    match statusPage s ws with
    | none => .refuse s stUnknownPage
    | some p =>
      { st := s, results := [fld p.st.code 0 3 + fld (b2n p.spoiled) 8 1 + fld (b2n p.suspect) 9 1 + fld p.firstReason 16 8,
          fld p.reasonMask 0 16 + fld p.firstStation 16 3, p.firstLineNo] ++ two p.admission }) s)

/-- The configuration that PAGE.CONFIG's words spell (Table 1.7). -/
def pageCfgOf (ws : List Word) : PageConfig :=
  { web := bitOf (par ws 2) 0, ref := bits (par ws 2) 8 3, wgHigh := bitOf (par ws 2) 16, stations := bits (par ws 3) 0 6,
    wgEnable := bits (par ws 3) 8 6, needAuth := bitOf (par ws 4) 0, refuseUncal := bitOf (par ws 4) 1,
    offsets := (List.range 6).map (fun st => par ws (5 + st)), exits := (List.range 6).map (fun st => par ws (11 + st)),
    pitch := par ws 17, sheetLen := par ws 18, preMargin := bits (par ws 19) 0 16, postMargin := bits (par ws 19) 16 16 }

/-- The limits of R20. -/
def pageCfgOk (s : State) (c : PageConfig) : Bool :=
  decide (c.ref ≤ 5) && (List.range 6).all (fun st => cplFits c st (trk s st).cpl) && !(c.web && !bitOf c.stations c.ref)

/-- PAGE.CONFIG takes effect (R19, R31, R465): pitch points count from here, and the waste gates follow; a waste gate that it no longer
enables goes back to high impedance (DESIGN CHOICE, log entry 80). -/
def pageConfigure (c : PageConfig) (s : State) : State :=
  let s := { s with page := { s.page with
    cfg := c, webOrigin := (trk s c.ref).ext, webNext := 1, wgForced := false,
    wgWindows := (List.range 6).map (fun st => if bitOf c.wgEnable st then s.page.wgWindows.getD st [] else []),
    wgOut := (List.range 6).map (fun st => if bitOf c.wgEnable st then .inactive else .highZ) } }
  forRange 6 s wgDrive

/-- PAGE_CONFIG (R20, R22). -/
def execPageConfig (s : State) : Host.Outcome State Fault Refusal :=
  .next (serve 0x0205 .immediate ([0x10701, 0x3F3F, 3] ++ List.replicate 15 allBits) (fun ws s =>
    if !pageCfgOk s (pageCfgOf ws) then .refuse s stBadParam
    else if anyLive s then .refuse s stState
    else { st := pageConfigure (pageCfgOf ws) s }) s)

/-- PAGE_GAP (R27, R35). -/
def execPageGap (s : State) : Host.Outcome State Fault Refusal :=
  .next (serve 0x0206 .immediate [0x3F01FFFF] (fun ws s =>
    let n := bits (par ws 2) 0 16
    let common := bitOf (par ws 2) 16
    let mask := bits (par ws 2) 24 6
    let put := fun (h : Option Hold) => { s with page := { s.page with hold := h } }
    if n = 0 then { st := put none }
    else if n < 32 ∨ (¬ common ∧ mask = 0) then .refuse s stBadParam
    else match s.page.hold with
      | none => { st := put (some { lines := n, common := common, mask := mask }) }
      | some h => { st := put (some { lines := Nat.max n h.lines, common := common || h.common, mask := mask ||| h.mask }) }) s)

/-- PAGE_SPOIL (R28, R35). -/
def execPageSpoil (s : State) : Host.Outcome State Fault Refusal :=
  .next (serve 0x0207 .immediate [allBits] (fun ws s =>
    match findPage s (par ws 2) with
    | none => .refuse s stUnknownPage
    | some p =>
      if !p.running then .refuse s stState
      else { st := spoilNow p.key 10 (firstStation s p) (stationLine s (firstStation s p)) s }) s)

end Sys2Proof.Machine
end

