-- ==== Sys2Proof/Machine/GapEnd.lean ====
section
/-! DEFINITION. The end of gap-only work: its effect, EV_GAP_USED, the command it completes, and the admissions that waited
(R24, R25, R27, R192, R234, R403, R412, R416). -/

namespace Sys2Proof.Machine

/-- The mask loads that an item carries (R192): the new tables apply from the first image line after the gap's last page line. -/
def maskEffect (st oid : Nat) (s : State) : State :=
  let past := (s.page.pages.filter (fun p => p.started && p.uses st && p.st != .withdrawn && decide (p.lastLine st ≤ (trk s st).k))).map
    (fun p => p.lastLine st)
  let q := match past with
    | [] => longAgo
    | a :: t => t.foldl max a + 1
  let mine := s.pos.maskWaits.filter (fun w => w.oid == oid)
  let s := { s with pos := { s.pos with maskWaits := s.pos.maskWaits.filter (fun w => w.oid != oid) } }
  forList mine s (fun w s => maskApply w.station w.stitch w.bytes q s)

/-- A row is remapped to a spare, or stays where no spare is left (R403). -/
def remapEffect (store row : Nat) (s : State) : State :=
  let t := sram s store
  let s := setSram store (fun t => { t with pending := t.pending.erase row }) s
  if t.spares = 0 then raise 0x0C03 store 0 0 row 0 0 s
  else
    let s := setSram store (fun t => { t with
      spares := t.spares - 1, remapped := t.remapped ++ [row], rows := t.rows.filter (fun r => r.row != row) }) s
    raise 0x0C03 store 0 0 row (t.spares - 1) 0 (tick 0x0C03 store s)

/-- The rate of every channel in the interleave changes (R410 to R412, R423): its stored set is loaded, and its record is
due, whose writing makes the new rate the boot rate. -/
def ddrRateEffect (r : Nat) (s : State) : State :=
  let old := ddrRate s
  let cs := bitList 4 (ddrMask s)
  let s := forList cs s (fun c s => recDirty 3 (16 * c + r) (setDdr c (fun d => { d with rate := r, centre := setStored s c r, written := setStored s c r }) s))
  raise 0x0C06 dev 0 0 r old 0 { s with mem := { s.mem with rateDue := some r } }

/-- A channel is retired (R416): out of the address map, its granule marks cleared. -/
def retireEffect (c : Nat) (s : State) : State :=
  let cause := (ddr s c).cause
  let s := setDdr c (fun d => { d with st := .retired, sweep := none, oid := none }) s
  let s := { s with mem := { s.mem with marks := s.mem.marks.filter (fun m => !bitOf m.channels c) } }
  spoolLow (raise 0x0C05 (8 + c) 0 0 3 cause 0 s)

/-- The effect of an item at its end; `up` is what a retrain has measured of the device's settings. -/
def gapEffect (g : GapItem) (up : List (Nat × Nat × Nat × Nat)) (s : State) : State :=
  match g.work with
  | .retrain lane => retrainEnd lane up s
  | .mask st => maskEffect st (g.oid.getD 0) s
  | .remap store row => remapEffect store row s
  | .handover => s
  | .ddrRate r => ddrRateEffect r s
  | .retire c => retireEffect c s

/-- Common-scope work can run at once: its gap is there, it may start, no other work of the scope goes before it and no admission waits
(R24, R25, R411, R416). -/
def gapAtOnce (s : State) (w : GapWork) : Bool :=
  fwReady s && s.page.admitWaits.isEmpty && !s.page.gapPending.any (fun g => g.scope.isNone)
    && !s.page.gapRunning.any (fun r => r.item.scope.isNone) && gapSuffices (commonGap s) && gapAllowed s w

/-- Work that runs at once: its start and its end. -/
def gapNow (w : GapWork) (s : State) : Ans :=
  { st := gapEffect { work := w, scope := none, oid := none, nextWanted := 0 } [] (gapBegin w s) }

/-- Common-scope work that a command asks for: where it can run at once it does and the response is final, else it waits for its gap
(R48; DEDUCED, log entry 84: work that runs at once was never pending, so it raises no EV_GAP_WANTED and no EV_GAP_USED). -/
def gapAsk (w : GapWork) (s : State) : Ans :=
  if gapAtOnce s w then gapNow w s
  else { st := gapPend w none (some s.host.nextOid) s, status := stDeferred }

/-- MEM_RATE (R411): deferred to a common service gap. -/
def execMemRate (s : State) : Host.Outcome State Fault Refusal :=
  .next (serve 0x0C05 .deferred [7] (fun ws s =>
    let r := par ws 2
    if 4 < r then .refuse s stBadParam
    else if (bitList 4 (ddrMask s)).any (fun c => !bitOf (ddr s c).sets r) then .refuse s 0x0C01
    else gapAsk (.ddrRate r) s) s)

/-- MEM_RETIRE (R414, R418): the channel becomes FAILING and its extents migrate at once; its gap-only item follows when none is left. -/
def execMemRetire (s : State) : Host.Outcome State Fault Refusal :=
  .next (serve 0x0C07 .deferred [3] (fun ws s =>
    let c := par ws 2
    if !memRuns s (8 + c) then .refuse s stState
    else if popCount 4 (ddrMask s) ≤ 1 then .refuse s 0x0C02
    else if (ddr s c).oid.isSome then .refuse s stBusy
    else
      let s := if (ddr s c).st = .failing then s else chanFailing c 4 s
      if extentsOn s c = 0 ∧ gapAtOnce s (.retire c) then gapNow (.retire c) s
      else
        let oid := some s.host.nextOid
        let s := retirePend c (setDdr c (fun d => { d with oid := oid }) s)
        { st := { s with page := { s.page with gapPending := s.page.gapPending.map (fun g => if g.work = .retire c then { g with oid := oid } else g) } },
          status := stDeferred }) s)

/-- EV_GAP_USED (Table 1.10). -/
def gapUsed (r : GapRun) (s : State) : State :=
  raise 0x0204 (scopeSource r.item.scope) 0 0 (r.count + 1) s.page.gapPending.length r.extent (tick 0x0204 0 s)

/-- The admissions that waited for the item are weighed (R25); where items of several scopes run, when the first of them ends (DESIGN
CHOICE, log entry 80). -/
def admitWaiting (s : State) : State :=
  let ws := s.page.admitWaits
  forList ws { s with page := { s.page with admitWaits := [] } } (fun w s =>
    let r := admitWeigh w.id.toNat w.word3.toNat s
    complete w.oid r.2.1 r.2.2 r.1)

/-- A running item ends: the next item of its scope runs in the same gap if the gap still suffices; else EV_GAP_USED. -/
def gapFinish (r : GapRun) (s : State) : State :=
  let s := { s with page := { s.page with gapRunning := s.page.gapRunning.erase r } }
  let next := if s.page.admitWaits.isEmpty && fwReady s then gapNext s r.item.scope else none
  let s := match next with
    | some g => gapStart g r.extent (r.count + 1) s
    | none => gapUsed r s
  admitWaiting (completeOpt r.item.oid stOk [] s)

/-- GAP_ITEM_DONE (R24, R27): the item that has run longest ends; a hand-over ends by its own row. For a retrain, `tests` holds for each of
the device's settings the symbols corrected, codewords failed and PRBS bit errors of its dwell, and `eyes` its eye height (R234). -/
def execGapItemDone (tests : List (Nat × Nat × Nat)) (eyes : List Nat) (s : State) : Host.Outcome State Fault Refusal :=
  .next (if !engOn s then s
    else match s.page.gapRunning.find? (fun r => r.item.work != .handover) with
      | none => s
      | some r => gapFinish r (gapEffect r.item (List.zipWith (fun m e => (m.1, m.2.1, m.2.2, e)) tests eyes) s))

end Sys2Proof.Machine
end

