-- ==== Sys2Proof/Machine/Reset.lean ====
section
/-! DEFINITION. What each reset keeps (R437, R452, R466, Table 15.8). -/

namespace Sys2Proof.Machine

/-- A counter that an engine die cycle keeps: those of the machine die and of the device's life (Table 15.8, R471). -/
def ctrKept (key : Nat) : Bool :=
  let id := key / 65536
  let sub := id / 256
  sub == 0x0A || sub == 0x0B || sub == 0x0D || sub == 0x0E || id == 0x0505

/-- Training sets of a channel that persist: the valid records of kind 3 (R410, R412). -/
def setsKept (s : State) (c : Nat) : Nat :=
  maskOf ((List.range 5).filter (fun r => (recInUse s 3 (16 * c + r) (fingerprint s c) 0).isSome))

/-- The DDR5 channels after the bring-up of the memory (R404, R410, R423): the populated ones, trained at the boot rate. -/
def chansFresh (s : State) : List DdrChan :=
  (List.range 4).map (fun c =>
    { st := if bitOf s.board.ddrMask.toNat c then .inUse else .absent,
      rate := s.board.bootRate, centre := setStored s c s.board.bootRate, written := setStored s c s.board.bootRate, sets := setsKept s c ||| (1 <<< s.board.bootRate),
      scrub := { started := s.now, at_ := s.now } })

/-- An SRAM store after it has been written in full (R398). -/
def storesFresh (s : State) : List SramStore :=
  [256, 64, 32, 16, 16].map (fun n => { spares := n, scrub := { started := s.now, at_ := s.now } })

/-- The flash, OTP and power-control parts of the firmware's state, which no reset of the engine die changes. -/
def fwKept (f : FwState) : FwState :=
  { banks := f.banks, boot := f.boot, svnMin := f.svnMin, revoked := f.revoked, wakeTimer := f.wakeTimer, wakeAt := f.wakeAt,
    power := f.power, restarts := f.restarts }

/-- The engine die loses its state (Table 15.8): the machine die's configuration, Goose, flash, OTP and board stay, and the admission
counter goes on (R8). -/
def engineReset (s : State) : State :=
  { now := s.now, pending := s.pending, board := s.board, hostMem := s.hostMem, hostBad := s.hostBad, out := s.out, free := s.free,
    host := { nextOid := s.host.nextOid, lastTime := s.host.lastTime },
    ctr := { s.ctr with vals := s.ctr.vals.filter (fun p => ctrKept p.1), sat := s.ctr.sat.filter ctrKept },
    test := { jtag := s.test.jtag.set 0 .idcode },
    page := { nextKey := s.page.nextKey, admissions := s.page.admissions, wgOut := s.page.wgOut, wgForced := s.page.wgForced },
    pos := { inputs := s.pos.inputs },
    tile := { tsb := s.tile.tsb, recs := s.tile.recs, roots := s.tile.roots, master := s.tile.master },
    loop := s.loop, motion := s.motion,
    mem := { stores := storesFresh s, chans := chansFresh s },
    sup := { s.sup with spoilDue := 0 },
    fw := fwKept s.fw }

/-- ENG_RST_OUT is released (Table 14.7 step 3): every engine starts its self-test (R171), and the periods begin. -/
def engRelease (s : State) : State :=
  let s := engineReset s
  { s with
    exp := { s.exp with engines := List.replicate 28 { st := .test, testEnd := some (s.now + 1500000000) },
                        nextRotate := s.now + 10000000000000 }
    tile := { s.tile with nextPoll := s.now + 250000000000 }
    fw := { s.fw with beatAt := s.now }
    sup := { s.sup with power := { s.sup.power with engRst := false, phase := .on } } }

/-- The whole device in its power-on reset (R437, R466): flash, OTP, the board and the levels at its balls stay. -/
def porReset (s : State) : State :=
  { now := s.now, pending := s.pending, board := s.board, hostMem := s.hostMem, hostBad := s.hostBad, out := s.out, free := s.free,
    host := { nextOid := s.host.nextOid },
    page := { nextKey := s.page.nextKey, admissions := s.page.admissions },
    tile := { recs := s.tile.recs, roots := s.tile.roots, master := s.tile.master },
    loop := { tick := (s.now + 9999999) / 10000000 },
    fw := { banks := s.fw.banks, boot := s.fw.boot, svnMin := s.fw.svnMin, revoked := s.fw.revoked },
    sup := { safeIn := s.sup.safeIn.map (fun c => { high := c.high }), bothHigh := s.now, vin := s.sup.vin, vinAt := s.sup.vinAt,
             ilks := s.sup.ilks.map (fun i => { level := i.level }),
             power := { por := true, phase := .off, en := 0, pg := 0, engRst := true } } }

/-- PWR_EN[0] goes active: the power-up of R438 begins. -/
def powerUp (s : State) : State :=
  { s with sup := { s.sup with power := { s.sup.power with phase := .up 0, en := 1, pg := 0, engRst := true, stepAt := s.now } } }

/-- The power-on reset ends and Goose starts (R436, R438). -/
def porRelease (s : State) : State :=
  let s := { s with sup := { s.sup with power := { s.sup.power with por := false, porAt := s.now, vinSince := none } } }
  if s.board.engAuto then powerUp s else s

/-- An instance is abandoned with the engine die off (R465): Goose logs its program under the loss. -/
def progLost (i : Instance) (s : State) : State := gooseLog 8 i.prog (progEnd i s)

/-- What a loss of the engine die does on the machine die (R465): instances end, and enabled waste gates are driven active. -/
def engineLost (s : State) : State :=
  let s := forList s.loop.instances s progLost
  if s.page.cfg.wgEnable = 0 then s
  else
    { s with page := { s.page with
      wgForced := true
      wgOut := (List.range 6).map (fun st => if bitOf s.page.cfg.wgEnable st then .active else s.page.wgOut.getD st .highZ) } }

/-- Goose powers the engine die down (R440, R464, R465): ENG_RST_OUT goes active and the rails follow in reverse order. -/
def powerDown (why : PwrDown) (s : State) : State :=
  let wasOn := s.sup.power.phase == .on
  let s := { s with sup := { s.sup with power := { s.sup.power with engRst := true } } }
  let s := if why = .standby then { s with page := { s.page with wgOut := List.replicate 6 .highZ } } else engineLost s
  let s := if wasOn then tick 0x0D01 0 s else s
  engineReset { s with sup := { s.sup with power := { s.sup.power with
    phase := .down 6, stepAt := s.now, why := why, cycles := s.sup.power.cycles + b2n wasOn } } }

end Sys2Proof.Machine
end

