-- ==== Sys2Proof/Machine/Power.lean ====
section
/-! DEFINITION. Machine supply, resets and the power sequence of the engine die (R436 to R441). -/

namespace Sys2Proof.Machine

def withPower (f : PowerState → PowerState) (s : State) : State := { s with sup := { s.sup with power := f s.sup.power } }

/-- VIN_MACH against the power-on thresholds of Table 14.5, 20 mV. -/
def vinUnder (v : Nat) : Bool := decide (v < 270)
def vinOver (v : Nat) : Bool := decide (285 < v)

/-- The supply warnings of Table 14.5 at a sample. -/
def vinWarnStep (s : State) : State :=
  let u := s.sup
  let below := decide (u.vin < u.vinWarn)
  let cross := below && !u.vinLow
  let s := if cross then raise 0x0D03 dev 0 0 1 u.vin 0 (tick 0x0D04 0 (withSup (fun u => { u with vinLow := true }) s)) else s
  let s := if below && causeEnabled s 5 && (cross || !u.latched.getLsbD 5) then trip 5 0 s else s
  if u.vinLow && decide (u.vinWarn + 15 ≤ u.vin) then raise 0x0D03 dev 0 0 3 u.vin 0 (withSup (fun u => { u with vinLow := false }) s) else s

/-- The over-voltage report of Table 14.5. -/
def vinOverStep (s : State) : State :=
  let u := s.sup
  if u.vin ≤ 2600 then
    let s := withSup (fun u => { u with overSince := none, overReported := false }) s
    if u.overReported then raise 0x0D03 dev 0 0 3 u.vin 0 s else s
  else
    let since := u.overSince.getD s.now
    let s := withSup (fun u => { u with overSince := some since }) s
    if !u.overReported && decide (since + 100000000 ≤ s.now) then
      raise 0x0D03 dev 0 0 2 u.vin 0 (withSup (fun u => { u with overReported := true }) s)
    else s

/-- VIN_SAMPLE (R436): VIN_MACH every 10 µs, in codes of 20 mV. -/
def execVinSample (code : Nat) (s : State) : Host.Outcome State Fault Refusal :=
  let s := atTime (s.sup.vinAt + 10000000) s
  let beyond := if s.sup.power.por then vinOver code else vinUnder code
  let s := withSup (fun u => { u with
    vin := code, vinAt := s.now,
    power := { u.power with vinSince := if beyond then some (u.power.vinSince.getD s.now) else none } }) s
  .next (if s.sup.power.por then s else vinOverStep (vinWarnStep s))

/-- MACHINE_POR_ASSERT (R436): VIN_MACH has been below 5.4 V for 5 µs. -/
def execMachinePorAssert (s : State) : Host.Outcome State Fault Refusal :=
  .next (match s.sup.power.vinSince with
    | some t => if s.sup.power.por then s else porReset (atTime (t + 5000000) s)
    | none => s)

/-- MACHINE_POR_RELEASE (R436): VIN_MACH has been above 5.7 V for 2 ms. -/
def execMachinePorRelease (s : State) : Host.Outcome State Fault Refusal :=
  .next (match s.sup.power.vinSince with
    | some t => if s.sup.power.por then porRelease (atTime (t + 2000000000) s) else s
    | none => s)

/-- SYS_RST_N (R437): as a power-on reset. -/
def execSysRstN (s : State) : Host.Outcome State Fault Refusal :=
  .next (when (macOn s) (fun s => porRelease (porReset s)) s)

/-- ENG_WAKE (R438, R455): an active edge powers the engine die up, or starts a parked boot ROM again. -/
def execEngWake (s : State) : Host.Outcome State Fault Refusal :=
  .next (if !macOn s then s
    else if s.sup.power.phase = .off then powerUp s
    else if engOn s && s.fw.parked then withFw (fun f => { f with parked := false, why := .cold }) s
    else s)

/-- POWER_SEQ_STEP (R438, Table 14.7): the rail that was enabled last has been good for 1 ms, rail 6 for 10 ms. -/
def execPowerSeqStep (rail : Nat) (s : State) : Host.Outcome State Fault Refusal :=
  .next (if s.sup.power.phase ≠ .up rail ∨ 6 < rail then s
    else
      let s := atTime (s.sup.power.stepAt + (if rail = 6 then 10000000000 else 1000000000)) s
      let s := withPower (fun p => { p with pg := p.pg ||| (1#7 <<< rail) }) s
      if rail = 6 then engRelease s
      else withPower (fun p => { p with phase := .up (rail + 1), en := p.en ||| (1#7 <<< (rail + 1)), stepAt := s.now }) s)

/-- POWER_SEQ_TIMEOUT (R438): the rail's PWR_PG is not good within 10 ms of its enable. -/
def execPowerSeqTimeout (s : State) : Host.Outcome State Fault Refusal :=
  .next (match s.sup.power.phase with
    | .up rail =>
      let s := atTime (s.sup.power.stepAt + 10000000000) s
      powerDown .sequence (tick 0x0D02 rail (gooseLog (16 + rail) rail s))
    | _ => s)

/-- POWER_DOWN_STEP (R440): the next PWR_EN in reverse order is released. -/
def execPowerDownStep (s : State) : Host.Outcome State Fault Refusal :=
  .next (match s.sup.power.phase with
    | .down rail =>
      let p := s.sup.power
      let due := if rail = 6 then p.stepAt + 100000000
        else if p.pg.getLsbD (rail + 1) then p.stepAt + 5000000000 else s.now
      let s := atTime due s
      let s := withPower (fun p => { p with en := p.en &&& ~~~(1#7 <<< rail), stepAt := s.now }) s
      if rail = 0 then withPower (fun p => { p with phase := .off, pg := 0, offAt := s.now }) s
      else withPower (fun p => { p with phase := .down (rail - 1) }) s
    | _ => s)

/-- The engine die is lost with cause ENGINE_LOSS (R441, R444): logged and raised with the reset already active. -/
def engineLoss (why : PwrDown) (detail : Nat) (s : State) : State :=
  powerDown why (tripLogged 8 detail (withPower (fun p => { p with engRst := true }) s))

/-- PWR_PG_LOSS (R441): a PWR_PG has been inactive for 5 µs. -/
def execPwrPgLoss (rail : Nat) (s : State) : Host.Outcome State Fault Refusal :=
  .next (if !s.sup.power.pg.getLsbD rail then s
    else
      let s := withPower (fun p => { p with pg := p.pg &&& ~~~(1#7 <<< rail) }) s
      if s.sup.power.phase = .on then engineLoss .loss rail s else s)

/-- ENGINE_AUTO_RESTART (R441): 1 s after the power-down, at most 3 times in any hour. -/
def execEngineAutoRestart (s : State) : Host.Outcome State Fault Refusal :=
  let p := s.sup.power
  let t := Nat.max s.now (p.offAt + 1000000000000)
  let recent := p.restarts.filter (fun x => decide (t < x + 3600000000000000))
  .next (if macOn s && s.sup.autoRestart && p.phase == .off && p.why == .loss && decide (recent.length < 3) then
      powerUp (withPower (fun p => { p with restarts := t :: recent }) (atTime t s))
    else s)

end Sys2Proof.Machine
end

