-- ==== Sys2Proof/Machine/Firmware.lean ====
section
/-! DEFINITION. Start-up, restart, replacement and power states of the firmware, and the commands FW.* and LIFE.*
(R453 to R471). -/

namespace Sys2Proof.Machine

/-! Start-up. -/

/-- BOOT_ROM_START (R455, R470): the boot ROM selects a bank. -/
def execBootRomStart (s : State) : Host.Outcome State Fault Refusal :=
  .next (when (engOn s && s.fw.st == .boot && s.fw.bank.isNone && !s.fw.parked) (fun s =>
    let s := bootSelect .cold s
    match s.fw.bank with
    | some b => tick 0x0E00 b s
    | none => s) s)

/-- A DDR5 channel at bring-up (R410, Table 15.3): with no valid record for its rate it has had a full training and is UNCALIBRATED
until its set is written. -/
def chanBringUp (c : Nat) (s : State) : State :=
  let loc := 16 * c + (ddr s c).rate
  let print := fingerprint s c
  if (ddr s c).st = .absent || (recInUse s 3 loc print 0).isSome then s
  else recDirty 3 loc (recStale 3 loc print 0 false (setDdr c (fun d => { d with uncal := true }) s))

/-- What a restarted image drops of the commands that were outstanding (R459): each completes with ST_ABORTED in the order taken,
and calibration runs end without a result. Gap-only work that is running, and the retirement of a failing channel, go on without their
commands. -/
def abandonCommands (s : State) : State :=
  let oids := s.host.outstanding.map Outst.oid
  let jobs := s.spool.jobs.filter (fun j => match j.work with | .flush _ => false | _ => true)
  let keep := fun (g : GapItem) => g.oid.isNone || g.work.cls == 6
  let s := forList (s.cal.runs.filter (fun r => r.phase != .idle)) s (fun r s => calQuit r.kind r.subject s)
  let due := match s.mem.train with | some j => if j.oid.isNone then [(j.chan, j.rate)] else [] | none => []
  let s := { s with
    page := { s.page with
      gapPending := (s.page.gapPending.filter keep).map (fun g => { g with oid := none }),
      gapRunning := (s.page.gapRunning.filter (fun r => r.item.work != .handover)).map (fun r => { r with item := { r.item with oid := none } }),
      admitWaits := [] }
    pos := { s.pos with maskWaits := [] }
    spool := { s.spool with jobs := [] }
    mem := { s.mem with
      fills := [], train := none, trainDue := due ++ s.mem.trainDue, scans := [],
      chans := s.mem.chans.map (fun d => { d with oid := none }) }
    exp := { s.exp with neutral := [], screens := s.exp.screens.map (fun x => { x with loading := [] }) }
    loop := { s.loop with loads := [] }
    link := { s.link with trains := [] }
    tile := { s.tile with auths := [] } }
  let s := forList jobs s (fun _ s => tick 0x0300 0 s)
  forList oids s (fun o s => complete o 0x0E02 [] s)

/-- FW_READY (R456, R459, R471, R497 for DDR5 channel 0): bring-up ends; the events held go out, then those of the start itself. -/
def execFwReady (s : State) : Host.Outcome State Fault Refusal :=
  .next (match engOn s && s.fw.st == .boot && bitOf s.board.ddrMask.toNat 0, s.fw.bank with
    | true, some b =>
      let cold := !s.fw.recover
      let old := s.fw.power
      let why := s.fw.why
      let hdr := (s.fw.banks[b]?).bind FlashBank.hdr
      let s := withFw (fun f => { f with
        st := .ready, running := hdr, machineOk := true, power := if cold then .run else f.power, wakeAt := none,
        recover := false, beatAt := s.now + 1000000000 }) s
      let s := drain (withSup (fun u => { u with kick := s.now }) s)
      let s := if cold then forRange 4 s chanBringUp else s
      let s := fwEvent why.code s
      let s := if cold && old != .run then raise 0x0E02 dev 0 0 0 old.code 0 s else s
      let s := if s.sup.logNew = 0 then s
        else raise 0x0D08 dev 0 0 s.sup.logNew 0 0 (withSup (fun u => { u with logNew := 0 }) s)
      let s := tripEvent s
      if cold then s else abandonCommands s
    | _, _ => s)

/-- HEARTBEAT_TICK (Table 2.4, R425): every 1 ms; firmware kicks Goose's watchdog, and begins a training that had to wait (R248). -/
def execHeartbeatTick (s : State) : Host.Outcome State Fault Refusal :=
  .next (when (fwReady s) (fun s =>
    let s := atTime s.fw.beatAt s
    let s := withFw (fun f => { f with beatAt := s.now + 1000000000 }) (tick 0x0100 0 s)
    trainNext (withSup (fun u => { u with kick := s.now }) s)) s)

/-- CORE_RESTART (R458): Goose restarts the control cores from the boot ROM after 10 ms in reset. -/
def execCoreRestart (s : State) : Host.Outcome State Fault Refusal :=
  .next (match engOn s && s.fw.st == .fault, s.fw.resetSince with
    | true, some t =>
      let s := atTime (t + 10000000000) s
      let s := withFw (fun f => { f with restarts := s.now :: f.restarts, resetSince := none }) s
      bootSelect s.fw.why (tick 0x0E03 0 s)
    | _, _ => s)

/-! Images. -/

/-- The header fields of an image (Table 15.2). -/
def hdrOf (b : List Byte) : ImgHdr :=
  { patch := leAt b 4 1, minor := leAt b 5 1, major := leAt b 6 1, keyIdx := leAt b 7 1, build := leAt b 8 4, svn := leAt b 12 4 }

/-- An image meets the conditions of R454 that never change. -/
def imageSound (b : List Byte) : Bool :=
  let len := leAt b 16 4
  let h := hdrOf b
  leAt b 0 4 == 0x4E465731 && decide (1 ≤ len ∧ len ≤ 3145728) && decide (b.length = 128 + len) && decide (2 ≤ h.major)
    && decide (h.keyIdx ≤ 3 ∧ h.svn ≤ 63) && decide (leAt b 20 1 ≤ 0xB1 ∧ leAt b 21 1 ≤ 0x02)
    && slice b 24 32 == sha256 (b.drop 128) && ecdsaOk (Config.fwKey h.keyIdx) (b.take 64) (slice b 64 64)

/-- The standby bank (R460): neither running nor COMMITTED; none while the running bank is not COMMITTED. -/
def standby (s : State) : Option Nat :=
  match s.fw.bank with
  | some b => if b = committed s then some (1 - b) else none
  | none => none

/-- FW_LOAD (R460, R468): a background command; one at a time. -/
def execFwLoad (s : State) : Host.Outcome State Fault Refusal :=
  .next (serve 0x0E02 .background [allBits, allBits, allBits, allBits] (fun ws s =>
    if 3145856 < par ws 4 then .refuse s stBadParam
    else if (standby s).isNone || s.fw.activate.isSome then .refuse s stState
    else if s.fw.load.isSome then .refuse s stBusy
    else { st := withFw (fun f => { f with load := some { oid := s.host.nextOid, addr := par64 ws 2, bytes := par ws 4, crc := par ws 5 } }) s,
           status := stPending }) s)

/-- FW_LOAD_DONE (R460, R468): the image has been fetched, and unless that failed, written and validated. -/
def execFwLoadDone (s : State) : Host.Outcome State Fault Refusal :=
  .next (match fwReady s, s.fw.load, standby s with
    | true, some l, some n =>
      let s := withFw (fun f => { f with load := none }) s
      match hostRead s l.addr l.bytes with
      | none => complete l.oid stDmaFault [] s
      | some b =>
        if crc32c b ≠ l.crc then complete l.oid stCheck [] s
        else
          let s := withFw (fun f => { f with banks := f.banks.set n { hdr := some (hdrOf b), sound := imageSound b } }) s
          if bankOk s n then complete l.oid stOk [] s else complete l.oid 0x0E01 [] (tick 0x0E04 0 s)
    | _, _, _ => s)

/-- FW_ACTIVATE (R461, R467, R468). -/
def execFwActivate (s : State) : Host.Outcome State Fault Refusal :=
  .next (serve 0x0E03 .deferred [] (fun _ s =>
    if !((standby s).map (bankOk s)).getD false || s.fw.load.isSome || s.fw.activate.isSome then .refuse s stState
    else { st := withFw (fun f => { f with activate := some { oid := s.host.nextOid } }) s, status := stDeferred }) s)

/-- FW_PRELOAD_DONE (R461, R467): the standby image has been copied and validated; the hand-over becomes gap-only work. -/
def execFwPreloadDone (ok : Bool) (s : State) : Host.Outcome State Fault Refusal :=
  .next (match fwReady s, s.fw.activate, standby s with
    | true, some a, some n =>
      if a.preloaded then s
      else if ok && bankOk s n then
        let hdr := (s.fw.banks[n]?).bind FlashBank.hdr
        gapPend .handover (some (1 <<< leadStation s)) (some a.oid)
          (withFw (fun f => { f with preload := hdr, activate := some { a with preloaded := true } }) s)
      else complete a.oid 0x0E01 [] (tick 0x0E04 0 (withFw (fun f => { f with activate := none }) s))
    | _, _, _ => s)

/-- HANDOVER_COMPLETE (R461, Table 15.4): the new image is READY; or it is not, and FW_STATE becomes FAULT (R462). -/
def execHandoverComplete (ok : Bool) (s : State) : Host.Outcome State Fault Refusal :=
  .next (match engOn s && s.fw.st == .handover, s.page.gapRunning.find? (fun r => r.item.work == .handover) with
    | true, some r =>
      if !ok then fwFault .trialFailed s
      else
        let new := standby s
        let s := withFw (fun f => { f with
          st := .ready, why := .handover, bank := if new.isSome then new else f.bank, running := f.preload, trial := true,
          preload := none, activate := none, beatAt := s.now + 1000000000 }) s
        let s := drain (withSup (fun u => { u with kick := s.now }) (tick 0x0E02 0 s))
        gapFinish r (fwEvent 3 s)
    | _, _ => s)

/-- TRIAL_FAILED (R462): the new image does not reach READY. -/
def execTrialFailed (s : State) : Host.Outcome State Fault Refusal :=
  .next (when (engOn s && s.fw.st == .handover) (fwFault .trialFailed) s)

/-- FW_COMMIT (R462, R468). -/
def execFwCommit (s : State) : Host.Outcome State Fault Refusal :=
  .next (serve 0x0E04 .immediate [1] (fun ws s =>
    match s.fw.bank with
    | none => .refuse s stState
    | some b =>
      if b = committed s then .refuse s stState
      else
        let svn := ((s.fw.running).map ImgHdr.svn).getD 0
        let s := bootWrite b s
        { st := withFw (fun f => { f with trial := false, svnMin := if bitOf (par ws 2) 0 then Nat.max f.svnMin svn else f.svnMin }) s }) s)

/-- Control-core restarts of the last hour. -/
def restartsHour (s : State) : Nat := countBy (fun t => decide (s.now < t + hourPs)) s.fw.restarts

/-- FW_STATUS (Table 15.10). -/
def execFwStatus (s : State) : Host.Outcome State Fault Refusal :=
  .next (serve 0x0E01 .immediate [] (fun _ s =>
    let hdr := fun n => (s.fw.banks[n]?).bind FlashBank.hdr
    let build := fun n => ((hdr n).map ImgHdr.build).getD 0
    { st := s, results :=
        [fld (s.fw.bank.getD 0) 0 1 + fld (committed s) 1 1 + fld (b2n (bankOk s 0)) 2 1 + fld (b2n (bankOk s 1)) 3 1
          + fld s.fw.svnMin 8 6 + fld s.fw.power.code 16 2,
         release (hdr 0), release (hdr 1), build 0, build 1,
         fld ((s.fw.running.map ImgHdr.svn).getD 0) 0 6 + fld (restartsHour s) 8 8] }) s)

/-! Power states. -/

/-- A change of power state with EV_LIFE (Table 15.12). -/
def powerTo (new : PowerSt) (s : State) : State :=
  raise 0x0E02 dev 0 0 new.code s.fw.power.code 0 (withFw (fun f => { f with power := new }) s)

/-- The device is in RUN and no page is live (R468). -/
def lifeMay (s : State) : Bool := s.fw.power == .run && !s.fw.standbyDue && !anyLive s

/-- LIFE_IDLE (R463, Table 15.6): ONLINE links go to IDLE, sweeps pause, and camera ports stop. -/
def execLifeIdle (s : State) : Host.Outcome State Fault Refusal :=
  .next (serve 0x0E05 .immediate [] (fun _ s =>
    if !lifeMay s then .refuse s stState
    else
      let s := forRange 96 s (fun g s => if (port s g).st = .online then laneIdle g s else s)
      let s := forRange 4 s (fun p s => if (camPort s p).en then camStop p s else s)
      { st := powerTo .idle s }) s)

/-- LIFE_WAKE (R463): idle links exit, each channel makes one verification sweep, camera ports resume. -/
def execLifeWake (s : State) : Host.Outcome State Fault Refusal :=
  .next (serve 0x0E07 .immediate [] (fun _ s =>
    if s.fw.power ≠ .idle then .refuse s stState
    else
      let s := forRange 96 s (fun g s =>
        if (port s g).st = .idle then setPort g (fun p => { p with exitAt := some (s.now + 100 * usPs) }) s else s)
      let s := forRange 4 s (fun c s => setDdr c (fun d => { d with lastSweep := s.now - sweepPs }) s)
      { st := powerTo .run s }) s)

/-- Writes every changed persistent record whose place can be written (R464). -/
def writeRecords (s : State) : State :=
  forList s.tile.dirty s (fun d s =>
    match recMayWrite s d.kind d.location, recObject s d.kind d.location with
    | true, some (serial, gen) => recWrite d.kind d.location serial gen s
    | _, _ => s)

/-- LIFE_STANDBY (R464, step 1): the changed records are written; the power-down follows. -/
def execLifeStandby (s : State) : Host.Outcome State Fault Refusal :=
  .next (serve 0x0E06 .immediate [allBits] (fun ws s =>
    if !lifeMay s then .refuse s stState
    else { st := writeRecords (withFw (fun f => { f with standbyDue := true, wakeTimer := par ws 2 }) s) }) s)

/-- LIFECYCLE_POWER_DOWN (R464, steps 2 and 3): Goose powers the engine die down; the pages go with it. -/
def execLifecyclePowerDown (s : State) : Host.Outcome State Fault Refusal :=
  .next (when (engOn s && s.fw.standbyDue) (fun s =>
    let s := powerTo .standby (writeRecords s)
    let s := withFw (fun f => { f with
      standbyDue := false, wakeAt := if f.wakeTimer = 0 then none else some (s.now + f.wakeTimer * 1000000000000) }) s
    powerDown .standby (tick 0x0E05 0 s)) s)

/-- WAKE_TIMER (R463, R464). -/
def execWakeTimer (s : State) : Host.Outcome State Fault Refusal :=
  .next (match macOn s && s.fw.power == .standby && s.sup.power.phase == .off, s.fw.wakeAt with
    | true, some t => powerUp (withFw (fun f => { f with wakeAt := none }) (atTime t s))
    | _, _ => s)

end Sys2Proof.Machine
end

