-- ==== Sys2Proof/Machine/Loops.lean ====
section
/-! DEFINITION. Meanings of the loop engine's ticks, high voltage, fuser and loop commands (R325, R339 to R346, R356, R357). -/

namespace Sys2Proof.Machine

/-- A waiting ramp of an AXIS.START begins (R375): once its slot has gone to automatic, when the command completes, or at RAMP_DONE. -/
def rampTick (a : Nat) (s : State) : State :=
  let d := drv s a
  match d.ramps with
  | [] => s
  | r :: t =>
    let l := loopOf s d.cfg.sslot
    if if r.onDone then l.rampDone else l.auto && l.modeReqs.isEmpty then
      alignDone a stOk [d.st.code] (askSetpoint d.cfg.sslot r.target r.rate (setDrv a (fun d => { d with ramps := t }) s))
    else s

/-- A transfer loop samples at a tick (R325). -/
def loopDue (l : LoopSlot) (j : Nat) : Bool := l.configured && decide (l.phase ≤ j) && (j - l.phase) % Nat.max 1 l.div == 0

/-- An overrun (R326, R362, R426): counted; a transfer slot trips Goose, a fixed slot faults its axis. -/
def overrun (n : Nat) (s : State) : State :=
  let s := tick 0x0A03 0 s
  if n < 8 then drvFault n 4 s else trip 2 n s

/-- LOOP_TICK (R325): the newest 12-bit codes of the monitors are taken, every due loop samples in slot order, then the
sequencer evaluates its triggers. `overruns` names, as a mask, the slots that failed to complete within the tick. -/
def execLoopTick (vmon imon : List Nat) (overruns : Nat) (s : State) : Host.Outcome State Fault Refusal :=
  .next (if !macOn s then s else
    let j := s.loop.tick
    let s := atTime (j * 10000000) s
    let s := { s with loop := { s.loop with
      tick := j + 1
      hv := (List.range 24).map (fun c => { hvOf s c with vmon := vmon.getD c (hvOf s c).vmon % 4096, imon := imon.getD c (hvOf s c).imon % 4096 }) } }
    let s := if s.sup.loopsDue then loopsSafe (withSup (fun u => { u with loopsDue := false }) s) else s
    let s := forList transferSlots s (fun n s => if loopDue (loopOf s n) j then loopSample n s else s)
    let s := forRange 8 s (fun a s => rampTick a s)
    let s := forList (bitList 64 overruns) s (fun n s => overrun n s)
    progTick s)

/-! High voltage. -/

/-- HV_ARC_EDGE (R341, R342): the active edge of a channel's arc input. -/
def execHvArcEdge (chan : Nat) (s : State) : Host.Outcome State Fault Refusal :=
  .next (if 24 ≤ chan || !macOn s then s else
    let h := hvOf s chan
    let arcs := s.now :: h.arcs.filter (fun t => decide (s.now < t + 1000000000000))
    let latch := !h.latched && decide (h.arcMax < arcs.length)
    let s := setHv chan (fun h => { h with ref := 0, arcs := arcs, latched := h.latched || latch }) (tick 0x0A05 chan s)
    let s := if latch then tick 0x0A06 chan s else s
    let s := raise 0x0A03 chan 0 0 arcs.length (b2n (h.latched || latch)) 0 s
    match loopOfHv s chan with
    | none => s
    | some n => if h.latched then s else needSpoil n (askMode n { auto := false, man := some 0, cause := if latch then 4 else 3 } s))

/-- HV_ARC_HOLD_EXPIRY (R341): a loop that was automatic returns to automatic from MAN 0, its setpoint restarting at its feedback. -/
def execHvArcHoldExpiry (chan : Nat) (s : State) : Host.Outcome State Fault Refusal :=
  .next (match loopOfHv s chan with
    | none => s
    | some n => match (loopOf s n).arcUntil with
      | none => s
      | some t =>
        let was := (loopOf s n).arcAuto
        let man := (loopOf s n).arcMan
        let s := setLoop n (fun l => { l with arcUntil := none, arcAuto := false, arcMan := 0 }) (atTime t s)
        if was then askMode n { auto := true, man := none, cause := 3, arcRamp := some (hvOf s chan).arcRamp } s
        else askMode n { auto := false, man := some man, cause := 0 } s)

/-- HV_COMPLIANCE_END (R340): 1 ms below LIM ends an episode. -/
def execHvComplianceEnd (chan : Nat) (s : State) : Host.Outcome State Fault Refusal :=
  .next (let h := hvOf s chan
    match h.episode, h.belowSince with
    | true, some t => setHv chan (fun h => { h with episode := false, belowSince := none }) (atTime (t + 1000000000) s)
    | _, _ => s)

/-! The fuser. -/

/-- ln 2 in units of 2^−60. -/
def ln2Fix : Int := 799144290325165979

/-- The series of 2·atanh(z) for z = num ÷ den in units of 2^−60. -/
def atanhFix (z z2 : Int) : Nat → Nat → Int → Int
  | 0, _, _ => 0
  | n + 1, k, pow => 2 * pow / (k : Int) + atanhFix z z2 n (k + 2) (pow * z2 / 2 ^ 60)

/-- ln(num ÷ den) in units of 2^−60, for positive numbers. -/
def lnFix (num den : Nat) : Int :=
  let e : Int := (Nat.log2 num : Int) - Nat.log2 den
  let a := if 0 ≤ e then num else num * 2 ^ (-e).toNat
  let b := if 0 ≤ e then den * 2 ^ e.toNat else den
  let z : Int := ((a : Int) - b) * 2 ^ 60 / ((a : Int) + b)
  e * ln2Fix + atanhFix z (z * z / 2 ^ 60) 40 1 z

/-- T of R344 in 0.01 °C, rounded down: ρ in 1/65,536 between 0 and 1, and positive resistances. -/
def thermT (rho beta r25 rbias : Nat) : Int :=
  let ln := lnFix (rbias * rho) (r25 * (65536 - rho))
  -- 1 ÷ (100 ÷ 29815 + ln ÷ β) in 0.01 K, with ln in 2^−60
  let den : Int := 100 * (beta : Int) * 2 ^ 60 + 29815 * ln
  if den ≤ 0 then 32767 else 29815 * (beta : Int) * 100 * 2 ^ 60 / den - 27315

/-- The value of a thermistor sample: R344 fixes it but for its last digit, which is free; of resistances of 0 it says nothing. -/
def thermValue (t : Thermistor) (rho : Nat) (s : State) : State × Int :=
  if t.r25 = 0 ∨ t.rbias = 0 ∨ rho = 0 ∨ 65536 ≤ rho then drawInt s
  else let r := drawNat s; (r.1, thermT rho t.beta t.r25 t.rbias + (r.2 % 2 : Nat))

/-- ρ is below 0.02 (1) or above 0.98 (2); 0 for a good sample (R344). -/
def thermBad (rho : Nat) : Nat := if rho * 100 < 2 * 65536 then 1 else if 98 * 65536 < rho * 100 then 2 else 0

/-- The comparator of a zone is beyond its threshold for a ρ in 1/65,536, or sees a short or open that its option makes a trip (R346). -/
def cmpBeyond (z : FuserZone) (rho : Nat) : Bool :=
  z.tripEn && ((if z.tripRising then decide (z.tripThr * 64 < rho) else decide (rho < z.tripThr * 64)) || (z.tripOpen && thermBad rho != 0))

/-- One thermistor's sample (R344), and its comparator's input. -/
def thermStep (i rho : Nat) (s : State) : State :=
  let t := s.loop.therms.getD i {}
  let bad := thermBad rho
  let put := fun (f : Thermistor → Thermistor) (s : State) => { s with loop := { s.loop with therms := updAt s.loop.therms i f } }
  let s := if bad = 0 then
      let v := thermValue t rho s
      let good := if t.valid then 0 else t.good + 1
      let back := !t.valid && decide (16 ≤ good)
      let s := put (fun t => { t with rho := rho, value := v.2, good := if back then 0 else good, valid := t.valid || back }) v.1
      if back then raise 0x0A05 i 0 0 rho 3 0 s else s
    else
      let s := put (fun t => { t with rho := rho, valid := false, good := 0 }) s
      if t.valid then raise 0x0A05 i 0 0 rho bad 0 (tick 0x0A08 i s) else s
  if i < 4 then
    let b := cmpBeyond (zoneOf s i) rho
    withSup (fun u => { u with fuser := updAt u.fuser i (fun c => { c with beyond := b, tripped := c.tripped || b, safeSince := if c.beyond && !b then s.now else c.safeSince }) }) s
  else s

/-- THERMISTOR_SAMPLE (R344): every 1 ms; `codes` are the ratios ρ in 1/65,536. -/
def execThermistorSample (codes : List Nat) (s : State) : Host.Outcome State Fault Refusal :=
  .next (if !macOn s then s else forRange 16 s (fun i s => match codes[i]? with
    | none => s
    | some rho => thermStep i rho s))

/-- A fuser gate is held inactive: the safe state, or a comparator trip (R346, Table 14.4). -/
def fuserHeld (s : State) : Bool := s.sup.safe || s.sup.fuser.any FuserCmp.beyond

/-- One zero-cross zone at an edge (R343). -/
def zoneCross (z : Nat) (s : State) : State :=
  let f := zoneOf s z
  if !(f.configured && f.zeroCross) then s
  else
    let a := f.acc + f.duty
    if 32768 ≤ a then
      let s := setZone z (fun f => { f with acc := a - 32768, stopped := false }) s
      if fuserHeld s then s else emit (.fire z (s.now + f.zcDelay * 1000000) (f.zcWidth * 1000000)) (tick 0x0A09 z s)
    else setZone z (fun f => { f with acc := a, stopped := false }) s

/-- FUS_ZC_EDGE (R343): the active edge of FUS_ZC. -/
def execFusZcEdge (s : State) : Host.Outcome State Fault Refusal :=
  .next (if !macOn s then s else forRange 4 { s with loop := { s.loop with zcAt := s.now } } (fun z s => zoneCross z s))

/-- The loops of a zone. -/
def loopsOfZone (s : State) (z : Nat) : List Nat :=
  transferSlots.filter (fun n => (loopOf s n).configured && (loopOf s n).outKind == 2 && (loopOf s n).outIdx == z)

/-- FUS_ZC_TIMEOUT (R345): no edge for 25 ms while a zone runs in zero-cross mode. -/
def execFusZcTimeout (s : State) : Host.Outcome State Fault Refusal :=
  .next (let zs := (List.range 4).filter (fun z => (zoneOf s z).configured && (zoneOf s z).zeroCross && !(zoneOf s z).stopped)
    if zs.isEmpty || !macOn s then s
    else
      let s := atTime (s.loop.zcAt + 25000000000) s
      let s := forList zs s (fun z s =>
        let s := setZone z (fun f => { f with stopped := true }) s
        forList (loopsOfZone s z) s (fun n s => askMode n { auto := false, man := some 0, cause := 6 } s))
      raise 0x0A06 dev 0 0 (maskOf zs) 0 0 s)

/-- FUSER_COMPARATOR_TRIP (R346): the comparator of FUS_TH[zone] trips, if its trip is enabled. -/
def execFuserComparatorTrip (zone : Nat) (s : State) : Host.Outcome State Fault Refusal :=
  .next (if zone < 4 && (zoneOf s zone).tripEn && macOn s then
      trip 3 zone (withSup (fun u => { u with fuser := updAt u.fuser zone (fun c => { c with beyond := true, tripped := true, safeSince := s.now }) }) s)
    else s)

/-! Commands. -/

/-- The feedback, setpoint and output sources of LOOP.CONFIG exist (Table 11.6, R357). -/
def sourcesOk (fbK fbI spK spI outK outI fs : Nat) : Bool :=
  (match fbK with
    | 0 => true | 1 => decide (fbI < 24) | 2 => decide (fbI < 24) | 3 => decide (fbI < 16)
    | 4 => decide (fbI < 8) && decide (1 ≤ fs) | 5 => decide (fbI < 8) && decide (1 ≤ fs) | _ => false)
  && (spK == 0 || (spK == 6 && decide (spI < 64)))
  && (match outK with
    | 0 => true | 1 => decide (outI < 24) | 2 => decide (outI < 4) | 3 => decide (outI < 8) | 4 => decide (outI < 64) | _ => false)

/-- LOOP_CONFIG (R335, R355, R357). -/
def execLoopConfig (s : State) : Host.Outcome State Fault Refusal :=
  .next (serve 0x0A01 .immediate [0x3F, allBits, 0xFFFF, allBits, allBits, allBits, 0xFFFF] (fun ws s =>
    let n := bits (par ws 2) 0 6
    let fb := bits (par ws 3) 0 8
    let fi := bits (par ws 3) 8 8
    let sk := bits (par ws 3) 16 8
    let si := bits (par ws 3) 24 8
    let ok := bits (par ws 4) 0 8
    let oi := bits (par ws 4) 8 8
    let div := bits (par ws 5) 0 16
    let phase := bits (par ws 5) 16 16
    let band := bits (par ws 8) 0 16
    if n < 8 then Ans.refuse s stState
    else if !sourcesOk fb fi sk si ok oi (par ws 6) ∨ div < 5 ∨ div ≤ phase ∨ band < 1 ∨ 32767 < band then Ans.refuse s stBadParam
    else if loopProtected s n then Ans.refuse s stPageLocked
    else if (loopOf s n).auto then Ans.refuse s stState
    else
      let s := setLoop n (fun l => { l with
        configured := true, fbKind := fb, fbIdx := fi, spKind := sk, spIdx := si, outKind := ok, outIdx := oi, div := div, phase := phase
        fs := par ws 6, pref := sint (par ws 7) 32, band := band, fresh := true, inBand := 0 }) s
      { st := setLoop n (fun l => { l with fbInvalid := sourcesBad s l }) s }) s)

/-- A coefficient write of LOOP.COEF: index and value (Table 11.9). -/
def coefParam (w : Nat) : Nat × Int := (bits w 0 3, sbits w 16 16)

/-- A coefficient write is in range for its slot, UMIN staying below UMAX after the writes before it (Table 11.9). -/
def coefsOk (n : Nat) : List (Nat × Int) → List Int → Bool
  | [], _ => true
  | (i, v) :: t, c =>
    let d := c.set i v
    (if n < 8 then i == 0 || i == 1 || i == 4 else decide (i ≤ 6)) && (if i = 4 then decide (0 ≤ v ∧ v ≤ 8) else true)
      && (if i = 5 ∨ i = 6 then decide (d.getD 5 0 < d.getD 6 0) else true) && coefsOk n t d

/-- LOOP_COEF (R335, R337, R357). -/
def execLoopCoef (s : State) : Host.Outcome State Fault Refusal :=
  .next (serve 0x0A02 .immediate (0x1F3F :: List.replicate 16 0xFFFF0007) (fun ws s =>
    let n := bits (par ws 2) 0 6
    let k := bits (par ws 2) 8 5
    let l := loopOf s n
    let cs := (List.range k).map (fun i => coefParam (par ws (3 + i)))
    let now := l.queue.foldl (fun (c : List Int) w => c.set w.1 w.2) l.coef
    if k < 1 ∨ 16 < k ∨ (List.range 16).any (fun i => decide (k ≤ i) && par ws (3 + i) != 0) ∨ !coefsOk n cs now then Ans.refuse s stBadParam
    else if 16 < l.queue.length + k then Ans.refuse s stBusy
    else { st := setLoop n (fun l => { l with queue := l.queue ++ cs }) s, results := [l.queue.length + k] }) s)

/-- LOOP_MODE (R333, R335, R342, R355, R357). -/
def execLoopMode (s : State) : Host.Outcome State Fault Refusal :=
  .next (serve 0x0A03 .immediate [0x33F, 0xFFFF] (fun ws s =>
    let n := bits (par ws 2) 0 6
    let l := loopOf s n
    if n < 8 then Ans.refuse s stState
    else if bitOf (par ws 2) 8 then
      if l.outKind = 1 ∧ (hvOf s l.outIdx).latched then Ans.refuse s 0x0A01
      else if sourcesBad s l then Ans.refuse s stState
      else { st := askMode n { auto := true, man := none, cause := 0 } s }
    else if loopProtected s n then Ans.refuse s stPageLocked
    else
      let man := if bitOf (par ws 2) 9 then some (sbits (par ws 3) 0 16) else none
      { st := askMode n { auto := false, man := man, cause := 0 } s }) s)

/-- LOOP_SETPOINT (R338). -/
def execLoopSetpoint (s : State) : Host.Outcome State Fault Refusal :=
  .next (serve 0x0A04 .immediate [0x3F, 0xFFFF, 0xFFFF] (fun ws s =>
    let n := bits (par ws 2) 0 6
    { st := askSetpoint n (sbits (par ws 3) 0 16) (bits (par ws 4) 0 16) s }) s)

/-- LOOP_STATUS (Table 11.12). Of the two laws of a fixed slot, the q law's values are reported. -/
def execLoopStatus (s : State) : Host.Outcome State Fault Refusal :=
  .next (serve 0x0A05 .immediate [0x3F] (fun ws s =>
    let n := bits (par ws 2) 0 6
    let l := loopOf s n
    let d := drv s n
    let c := fun i => fld (unsig (coefOf l i) 16) 0 16
    let pair := fun (a b : Int) => fld (unsig a 16) 0 16 + fld (unsig b 16) 16 16
    let latched := l.outKind == 1 && (hvOf s l.outIdx).latched
    let flags := if n < 8 then 1 else
      b2n l.auto + 2 * b2n l.ramping + 4 * b2n l.frozen + 8 * b2n l.arcUntil.isSome + 16 * b2n latched + 32 * b2n l.fbInvalid
    let head := if n < 8 then [pair (sat16 (d.iqRef + trimOf s n)) d.iq, pair l.out (toQ15 d.accQ)] else [pair (spNow s n) l.fb, pair l.out (toQ15 l.acc)]
    { st := s, results := [flags + fld l.queue.length 8 5] ++ head
        ++ [c 0 + 65536 * c 1, c 2 + 65536 * c 3, c 4, c 5 + 65536 * c 6] }) s)

/-- HV_CONFIG (R339 to R342, R355, R357). -/
def execHvConfig (s : State) : Host.Outcome State Fault Refusal :=
  .next (serve 0x0A06 .immediate [0x71F, 0xFFFF, allBits, 0xFF] (fun ws s =>
    let c := bits (par ws 2) 0 5
    let en := bitOf (par ws 2) 8
    let hold := bits (par ws 4) 0 16
    let ramp := bits (par ws 4) 16 16
    if 23 < c ∨ !zeroOrIn 1 1000 hold ∨ !zeroOrIn 1 32767 ramp then Ans.refuse s stBadParam
    else if (hvOf s c).en && !en && (match loopOfHv s c with | some n => loopProtected s n | none => false) then Ans.refuse s stPageLocked
    else
      let off := (hvOf s c).en && !en
      let s := match loopOfHv s c with
        | some n => if off then askMode n { auto := false, man := some 0, cause := 0 } s else s
        | none => s
      { st := setHv c (fun h => { h with
        configured := true, en := en, latched := h.latched && !bitOf (par ws 2) 9, arcHigh := bitOf (par ws 2) 10, lim := sbits (par ws 3) 0 16
        arcHold := orKeep hold h.arcHold, arcRamp := orKeep ramp h.arcRamp, arcMax := orKeep (bits (par ws 5) 0 8) h.arcMax
        arcs := if bitOf (par ws 2) 9 then [] else h.arcs, ref := if en then h.ref else 0
        episode := h.episode && bits (par ws 3) 0 16 != 0 }) s }) s)

/-- Every fuser loop is in manual with MAN 0 (R346). -/
def fuserLoopsOff (s : State) : Bool :=
  transferSlots.all (fun n => let l := loopOf s n; !(l.configured && l.outKind == 2) || (!l.auto && l.man == 0))

/-- FUS_CONFIG (R343, R344, R346, R357). -/
def execFusConfig (s : State) : Host.Outcome State Fault Refusal :=
  .next (serve 0x0A07 .immediate [0x33, allBits, 0xFFFF, 0xFFFF000F, allBits, allBits, 0x73FF] (fun ws s =>
    let z := bits (par ws 2) 0 2
    let fper := bits (par ws 3) 0 16
    let dly := bits (par ws 3) 16 16
    let w := bits (par ws 4) 0 16
    let th := bits (par ws 5) 0 4
    let beta := bits (par ws 5) 16 16
    let f := zoneOf s z
    let thr := bits (par ws 8) 0 10
    let rising := bitOf (par ws 8) 12
    let opn := bitOf (par ws 8) 13
    let en := bitOf (par ws 8) 14
    let changes := thr != f.tripThr || rising != f.tripRising || opn != f.tripOpen || en != f.tripEn
    if fper < 100 ∨ 5000 < dly ∨ w < 10 ∨ 2000 < w ∨ beta < 1000 ∨ 10000 < beta then Ans.refuse s stBadParam
    else if changes && !fuserLoopsOff s then Ans.refuse s stState
    else
      let runs := s.loop.zones.any (fun f => f.configured && f.zeroCross && !f.stopped)
      let s := setZone z (fun f => { f with
        configured := true, zeroCross := bitOf (par ws 2) 4, gateHigh := bitOf (par ws 2) 5, fper := fper, zcDelay := dly, zcWidth := w
        stopped := false, tripThr := thr, tripRising := rising, tripOpen := opn, tripEn := en }) s
      let s := { s with loop := { s.loop with
        zcAt := if runs then s.loop.zcAt else s.now
        therms := updAt s.loop.therms th (fun t => { t with beta := beta, r25 := par ws 6, rbias := par ws 7 }) } }
      { st := s }) s)

end Sys2Proof.Machine
end

