-- ==== Sys2Proof/Machine/SpoolCmd.lean ====
section
/-! DEFINITION. The spool commands and pre-verification (R104, R121, R122, R124, R125). -/

namespace Sys2Proof.Machine

/-- The blocks of a page in the order pre-verification takes them: each with its plane-band stream. -/
def pageBlocks (o : SpoolObj) (planes : Nat) : List (PbStream × BlockRec) :=
  ((o.streams.filter (fun t => bitOf planes t.plane)).map (fun t => t.recs.map (fun r => (t, r)))).flatten

/-- A block has passed pre-verification or is marked suspect: the last one makes the page SPOOLED. -/
def verifyNext (key total : Nat) (s : State) : State :=
  let s := setIngest key (fun i => { i with verified := i.verified + 1, retry := none }) s
  if total ≤ ((ingestOf s key).map Ingest.verified).getD 0 then pageSpooled key s else s

/-- Marks a block suspect in its directory entry, with EV_VERIFY_SUSPECT (R121). -/
def markSuspect (p : Page) (sid : Nat) (t : PbStream) (block : Nat) (s : State) : State :=
  let s := setObj sid (fun o => { o with streams := o.streams.map (fun q =>
    if q.plane = t.plane ∧ q.band = t.band then
      { q with recs := q.recs.map (fun r => if r.block = block then { r with suspect := true } else r) }
    else q) }) s
  raise 0x0305 dev p.id.toNat 0 (t.plane + t.band * 256) block 0 (tick 0x0314 0 s)

/-- What the second attempt at a block says (R121): the failure repeats or not. -/
def verifyRepeats (first : VerifyRetry) (second : BlockCheck) : Bool :=
  match first.check with
  | 12 => second.check != 0
  | 11 => second.check == 11 && second.pixels == first.pixels
  | _ => (second.check == 9 || second.check == 10) && second.index == first.index

/-- The SPARE engine that makes the next attempt of pre-verification (R121, R512): after check 9, 10 or 11 another than the one that failed. -/
def verifyEngine (s : State) (i : Ingest) : Option Nat :=
  pickSpare s (match i.retry with | some f => if f.check = 12 then 28 else f.engine | none => 28)

/-- PREVERIFY_BLOCK (R121): one attempt at the next block of the oldest VERIFYING page, on an engine that carries no band of a live
page. `seen` is the payload where other bytes than those stored were read; `fault` 1 is an uncorrectable word, 2 a directory
mismatch, both check 12. -/
def execPreverifyBlock (seen : List Byte) (fault : Nat) (s : State) : Host.Outcome State Fault Refusal :=
  .next (match engOn s, s.spool.ingests.find? (fun i => i.st == .verifying) with
    | true, some i =>
      match pageOf s i.page, objOf s i.sid, verifyEngine s i with
      | some p, some o, some e =>
        let blocks := pageBlocks o p.planes
        match blocks[i.verified]? with
        | none => s
        | some (t, r) =>
          let c := laneChecks t r seen (if fault = 0 then 0 else 2)
          let place := (s.spool.extents.find? (fun e => e.no == r.extent)).map (fun e => (extentChan s e r.offset, extentWord s e r.offset))
          let s := match fault, place with
            | 1, some (ch, w) => memUe true ch w 3 s
            | _, _ => s
          match i.retry with
          | none =>
            if c.check = 0 then verifyNext i.page blocks.length s
            else setIngest i.page (fun i => { i with retry := some { engine := e, check := c.check, index := c.index, pixels := c.pixels } }) s
          | some f =>
            if !verifyRepeats f c then verifyNext i.page blocks.length (tick 0x0313 0 s)
            else if f.check = 11 ∧ p.trust then verifyNext i.page blocks.length (markSuspect p i.sid t r.block s)
            else ingestFail i.page f.check t.plane t.band r.block dev true s
      | _, _, _ => s
    | _, _ => s)

/-- SPOOL_BIND (R104, R125): ST_STATE for a page in any other state, which for a live page R125 gives where Table 1.3 names ST_PAGE_LOCKED
(log entry 80). -/
def execSpoolBind (s : State) : Host.Outcome State Fault Refusal :=
  .next (serve 0x0305 .immediate [allBits, 0x10F] (fun ws s =>
    let ch := bits (par ws 3) 0 4
    match findPage s (par ws 2) with
    | none => .refuse s stUnknownPage
    | some p =>
      match ingestOf s p.key with
      | none => .refuse s stState
      | some i =>
        if p.st ≠ .queued ∨ i.st ≠ .receiving ∨ (boundTo s p.key).isSome ∨ (chan s ch).st ≠ .unbound then .refuse s stState
        else
          { st := setChan ch (fun c => { c with
              st := .stopped, page := some p.key, pio := bitOf (par ws 3) 8, appended := 0, buf := [], desc := none, stopReq := false }) s
            results := two i.resume }) s)

/-- SPOOL_UNBIND (R125). -/
def execSpoolUnbind (s : State) : Host.Outcome State Fault Refusal :=
  .next (serve 0x0306 .immediate [0xF] (fun ws s =>
    let ch := par ws 2
    if (chan s ch).st ≠ .stopped then .refuse s stState
    else { st := setChan ch (fun c => { c with st := .unbound, page := none, pio := false, buf := [] }) s, results := two (chanResume s ch) }) s)

/-- The retention of a page (R122). -/
def retentionOf (s : State) (key : Nat) : Option Retention := s.spool.retains.find? (fun r => r.page == key)

/-- SPOOL_STATUS (R124). -/
def execSpoolStatus (s : State) : Host.Outcome State Fault Refusal :=
  .next (serve 0x0307 .immediate [allBits] (fun ws s =>
    match findPage s (par ws 2) with
    | none => .refuse s stUnknownPage
    | some p =>
      let i := (ingestOf s p.key).getD { page := p.key, sid := p.key }
      let o := objOf s i.sid
      let bound := boundTo s p.key
      let handle := (retentionOf s p.key).map Retention.handle
      { st := s, results := [fld i.st.code 0 2 + fld (bound.getD 0) 4 4 + fld (b2n bound.isSome) 8 1 + fld (b2n handle.isSome) 16 1
          + fld (handle.getD 0) 24 8] ++ two i.resume ++ [i.accepted, i.verified, ((o.map objExtents).getD []).length,
          fld i.failCheck 0 8 + fld i.failPlane 8 8 + fld i.failBand 16 8, i.failBlock] }) s)

/-- SPOOL_INFO (R124). -/
def execSpoolInfo (s : State) : Host.Outcome State Fault Refusal :=
  .next (serve 0x0308 .immediate [] (fun _ s =>
    { st := s, results := [extentsTotal s, extentsFree s, entriesFree s, printBudget (popCount 4 (ddrMask s)) (ddrRate s), s.spool.retains.length] }) s)

/-- SPOOL_RETAIN (R122, R125). -/
def execSpoolRetain (s : State) : Host.Outcome State Fault Refusal :=
  .next (serve 0x0309 .immediate [allBits] (fun ws s =>
    match findPage s (par ws 2) with
    | none => .refuse s stUnknownPage
    | some p =>
      if !(p.live || p.st == .spooled) then .refuse s stState
      else match pageObj s p.key with
        | none => .refuse s stState
        | some o =>
          match retentionOf s p.key with
          | some r => { st := s, results := [r.handle] }
          | none =>
            let used := s.spool.retains.map Retention.handle
            match (List.range 256).find? (fun h => !used.contains h) with
            | none => .refuse s stBusy
            | some h =>
              let r : Retention := { handle := h, page := p.key, sid := o.sid, planes := p.planes }
              { st := { s with spool := { s.spool with retains := s.spool.retains ++ [r] } }, results := [h] }) s)

/-- The retention that a handle names. -/
def retentionBy (s : State) (h : Nat) : Option Retention := s.spool.retains.find? (fun r => r.handle == h)

/-- SPOOL_REPEAT (R122, R125). -/
def execSpoolRepeat (s : State) : Host.Outcome State Fault Refusal :=
  .next (serve 0x030A .immediate [0xFF, allBits, 0x3F03] (fun ws s =>
    match retentionBy s (par ws 2) with
    | none => .refuse s stBadParam
    | some r =>
      let asked := bits (par ws 4) 8 6
      let planes := if asked = 0 then r.planes else asked
      let verify := bitOf (par ws 4) 0
      if maskDiff planes r.planes ≠ 0 then .refuse s stBadParam
      else
        let blocks := ((objOf s r.sid).map (fun o => (pageBlocks o planes).length)).getD 0
        let s := pageNew (BitVec.ofNat 32 (par ws 3)) verify (bitOf (par ws 4) 1) planes (fun _ s => s)
          (fun key => { page := key, sid := r.sid, st := if verify then .verifying else .receiving, accepted := blocks }) s
        { st := if verify then s else pageSpooled (s.page.nextKey - 1) s }) s)

/-- SPOOL_RELEASE (R122, R125). -/
def execSpoolRelease (s : State) : Host.Outcome State Fault Refusal :=
  .next (serve 0x030B .immediate [0xFF] (fun ws s =>
    match retentionBy s (par ws 2) with
    | none => .refuse s stBadParam
    | some r => { st := freeObj r.sid { s with spool := { s.spool with retains := s.spool.retains.filter (fun q => q.handle != r.handle) } } }) s)

end Sys2Proof.Machine
end

