-- ==== Sys2Proof/Machine/StepCore.lean ====
section
/-! DEFINITION. The planner, stops and homing of the stepper axes (R381 to R388). -/

namespace Sys2Proof.Machine

/-- Signed modular difference of two 32-bit positions (R9, R383). -/
def posDiff (a b : Nat) : Int := sint (unsig ((a : Int) - b) 32) 32

/-- A position moved by a signed number of microsteps, modulo 2³². -/
def posAdd (p : Nat) (d : Int) : Nat := unsig ((p : Int) + d) 32

/-- floor of a square root, from its highest possible bit down. -/
def isqrt (n : Nat) : Nat → Nat → Nat
  | 0, r => r
  | k + 1, r => if (r + 2 ^ k) * (r + 2 ^ k) ≤ n then isqrt n k (r + 2 ^ k) else isqrt n k r

/-- n·(√a + √b) ≤ m, exactly. -/
def sumSqrtLe (n a b m : Nat) : Bool :=
  decide (n * n * (a + b) ≤ m * m) && decide (4 * (n * n) * (n * n) * (a * b) ≤ (m * m - n * n * (a + b)) * (m * m - n * n * (a + b)))

/-- The nearest whole number to 8·10⁸ ÷ (√a + √b), which is 2 ÷ (√a + √b) in 2.5 ns ticks (R383); not both a and b are 0. -/
def stepTicks (a b : Nat) : Nat :=
  let w := 2 ^ 80
  let r := isqrt (a * w) 112 0 + isqrt (b * w) 112 0
  let k := 800000000 * 2 ^ 40 / Nat.max 1 r
  let ok := fun (k : Nat) => sumSqrtLe (2 * k - 1) a b 1600000000
  if ok (k + 2) then k + 2 else if ok (k + 1) then k + 1 else if ok k then k else k - 1

/-- ceil(v² ÷ (2·DEC)); a DEC of 0 makes it a free value. -/
def stopDist (v2 dec : Nat) (s : State) : State × Nat :=
  if dec = 0 then drawNat s else (s, (v2 + 2 * dec - 1) / (2 * dec))

/-- Input `i` of an axis is active: 0 LIMP, 1 LIMN, 2 HOME. -/
def switchOn (x : Stepper) (i : Nat) : Bool := (x.switches.getD i {}).level == bitOf x.cfg.active i

/-- The limit that stands in a direction. -/
def limitOf (dir : Int) : Nat := if dir < 0 then 1 else 0

/-- The axis moves. -/
def StepSt.moves (x : StepSt) : Bool := x == .moving || x == .homing

/-- A stop with a ramp (R384): the target becomes the nearest position within the stopping distance. -/
def rampStop (a dec : Nat) (s : State) : State :=
  let x := stp s a
  if !x.st.moves then s
  else
    let r := stopDist x.v2 dec s
    setStp a (fun x => { x with dec := dec, target := posAdd x.pos (x.dir * r.2), pend := none }) r.1

/-- A homing fails with a ramp at DEC_LIM (R388). -/
def homeAbort (a result : Nat) (s : State) : State :=
  if (stp s a).homing.isNone then s
  else rampStop a (stp s a).cfg.decLim (setStp a (fun x => { x with st := if x.st = .homing then .moving else x.st }) (homeFail a result s))

/-- An active limit stops the axis (R385, R388): hard, or with a ramp at DEC_LIM; a homing fails and stops with the ramp. -/
def limitStop (a i pos : Nat) (s : State) : State :=
  let x := stp s a
  let ramp := x.homing.isSome || (if i = 0 then x.cfg.rampP else x.cfg.rampN)
  let s := raise 0x0B04 (8 + a) 0 0 i pos (b2n ramp) (tick 0x0B08 a s)
  if x.homing.isSome then homeAbort a 1 s
  else if ramp then rampStop a x.cfg.decLim s
  else stepRest a x.deEnergise s

/-- The farthest target in a direction, for a movement that an edge ends. -/
def farTarget (pos : Nat) (dir : Int) : Nat := posAdd pos (dir * 2147483647)

/-- Direction of HDIR. -/
def hdir (h : Homing) : Int := if h.neg then -1 else 1

def setHoming (a : Nat) (f : Homing → Homing) (s : State) : State := setStp a (fun x => { x with homing := x.homing.map f }) s

/-- A homing step's movement begins: target, VMAX, and its next microstep if the axis stands. -/
def homeMove (a step target vmax : Nat) (s : State) : State :=
  setHoming a (fun h => { h with step := step, travelled := 0 })
    (setStp a (fun x => { x with target := target, vmax := vmax, nextAt := some (x.nextAt.getD s.now), holdAt := none }) s)

/-- Backing off (Table 12.2 step 3): BACKOFF further microsteps against HDIR. -/
def homeBackoff (a : Nat) (h : Homing) (s : State) : State :=
  homeMove a 7 (posAdd (stp s a).pos (-(hdir h) * h.backoff)) h.fast s

/-- A homing whose movement has ended goes on (Table 12.2 steps 3, 4 and 7). -/
def homeRest (a : Nat) (h : Homing) (s : State) : State :=
  let x := stp s a
  match h.step with
  | 2 =>
    let s := setStp a (fun x => { x with dec := h.dec }) s
    if switchOn x 2 then homeMove a 3 (farTarget x.pos (-(hdir h))) h.fast s else homeBackoff a h s
  | 7 => homeMove a 4 (farTarget x.pos (hdir h)) h.creep (setStp a (fun x => { x with vstart := h.creep }) s)
  | 6 =>
    let s := stepRest a x.deEnergise (setStp a (fun x => { x with pos := posAdd x.pos (posDiff h.homePos h.latched), homing := none }) s)
    complete h.oid stOk [0] (raise 0x0B05 (8 + a) 0 0 0 h.latched 0 s)
  | _ => stepRest a x.deEnergise (homeAbort a 2 s)

/-- An accepted edge of HOME in a homing (Table 12.2 steps 2, 3, 5 and 6). -/
def homeEdge (a : Nat) (active : Bool) (pos : Nat) (s : State) : State :=
  match (stp s a).homing with
  | none => s
  | some h => match h.step, active with
    | 1, true => rampStop a h.dec (setHoming a (fun h => { h with step := 2, latched := pos }) s)
    | 3, false => homeBackoff a h s
    | 4, true => homeMove a 5 (farTarget (stp s a).pos (-(hdir h))) h.creep s
    | 5, false => rampStop a h.dec (setHoming a (fun h => { h with step := 6, latched := pos }) s)
    | _, _ => s

/-- What the planner of R383 decides: arrived, or the new v², direction and interval in ticks. -/
inductive Plan where
  | arrived
  | go (v2 : Nat) (dir : Int) (old2 : Nat)

/-- max(√(v² − 2·DEC), VSTART), squared. -/
def slower (v2 dec floor : Nat) : Nat := Nat.max (v2 - 2 * dec) (floor * floor)

/-- The planner (R383) on v², a direction and the distance to the target; `dist` is ceil(v² ÷ (2·DEC)). -/
def plan (x : Stepper) (d : Int) (dist : Nat) : Plan :=
  let v2 := if x.v2 = 0 then x.vstart * x.vstart else x.v2
  let slow := decide (v2 ≤ x.vstart * x.vstart)
  if d = 0 ∧ slow then .arrived
  else if d.sign ≠ x.dir then
    if slow then .go (x.vstart * x.vstart) d.sign v2 else .go (slower v2 x.dec x.vstart) x.dir v2
  else if d.natAbs ≤ dist then .go (slower v2 x.dec x.vstart) x.dir v2
  else if v2 < x.vmax * x.vmax then .go (Nat.min (v2 + 2 * x.acc) (x.vmax * x.vmax)) x.dir v2
  else if x.vmax * x.vmax < v2 then .go (slower v2 x.dec x.vmax) x.dir v2
  else .go v2 x.dir v2

/-- The mode asked for by a step rate (R382). -/
def modeWanted (x : Stepper) (v2 : Nat) : Bool :=
  let m := 2 ^ x.cfg.mres
  if (x.cfg.spdHi * m) * (x.cfg.spdHi * m) < v2 then true
  else if v2 < (x.cfg.spdLo * m) * (x.cfg.spdLo * m) then false
  else x.wantStrong

/-- AMP in force, Q15 (R382). -/
def ampNow (x : Stepper) : Int :=
  let a := if x.strong then x.cfg.ampS else x.cfg.ampQ
  if x.held then floorDiv (a * x.cfg.hold) 32768 else a

/-- The current commands of the two phases (R381). -/
def phaseA (x : Stepper) : Int := floorDiv (ampNow x * cosQ15 (x.mu * 64) + 16384) 32768
def phaseB (x : Stepper) : Int := floorDiv (ampNow x * sinQ15 (x.mu * 64) + 16384) 32768

/-- One microstep (R381 to R383): position, angle, mode, and the time of the next. -/
def stepGo (a v2 : Nat) (dir : Int) (old2 : Nat) (s : State) : State :=
  let r := if v2 = 0 ∧ old2 = 0 then drawNat s else (s, stepTicks old2 v2)
  let s := setStp a (fun x =>
    let mu := unsig ((x.mu : Int) + dir * (256 / 2 ^ x.cfg.mres : Nat)) 10
    let want := modeWanted x v2
    { x with v2 := v2, dir := dir, pos := posAdd x.pos dir, mu := mu, wantStrong := want, held := false, holdAt := none
             strong := if mu % 256 = 0 then want else x.strong, nextAt := some (s.now + r.2 * 2500)
             homing := x.homing.map (fun h => { h with travelled := h.travelled + 1 }) }) r.1
  emit (.step a (stp s a).pos (phaseA (stp s a)) (phaseB (stp s a))) s

/-- The planner runs: a pending STEP.MOVE is taken first (R384), an active limit stops a reversal toward it (R385), HOME_MAX ends a
homing (R388). -/
def stepPlan (a : Nat) (s : State) : State :=
  let s := setStp a (fun x => match x.pend with
    | some (t, v, c, d) => { x with target := t, vmax := v, acc := c, dec := d, pend := none }
    | none => x) s
  let s := match (stp s a).homing with
    | some h => if (h.step = 1 ∨ h.step = 4) ∧ h.max ≤ h.travelled then homeAbort a 2 s
      else if h.step = 1 ∨ h.step = 4 then setStp a (fun x => { x with target := farTarget x.pos (hdir h) }) s
      else if h.step = 3 ∨ h.step = 5 then setStp a (fun x => { x with target := farTarget x.pos (-(hdir h)) }) s
      else s
    | none => s
  let x := stp s a
  let r := stopDist (if x.v2 = 0 then x.vstart * x.vstart else x.v2) x.dec s
  match plan x (posDiff x.target x.pos) r.2 with
  | .arrived => match x.homing with
    | some h => homeRest a h (setStp a (fun x => { x with v2 := 0, nextAt := none }) r.1)
    | none => stepRest a x.deEnergise r.1
  | .go v2 dir old2 =>
    if (dir != x.dir || x.v2 == 0) && switchOn x (limitOf dir) then
      limitStop a (limitOf dir) x.pos (setStp a (fun x => { x with v2 := 0, dir := dir }) r.1)
    else stepGo a v2 dir old2 r.1

end Sys2Proof.Machine
end

