-- ==== Sys2Proof/Machine/Steppers.lean ====
section
/-! DEFINITION. Meanings of the stepper axes: microsteps, hold, switches, chatter and commands (R382 to R388, R390). -/

namespace Sys2Proof.Machine

/-- MICROSTEP (R383): the timer of a moving stepper expires. -/
def execMicrostep (axis : Nat) (s : State) : Host.Outcome State Fault Refusal :=
  .next (match (stp s axis).nextAt with
    | some t => when (macOn s && (stp s axis).st.moves) (fun s => stepPlan axis (atTime t s)) s
    | none => s)

/-- STEP_HOLD_TIMEOUT (R382): HOLD_DELAY has passed at standstill. -/
def execStepHoldTimeout (axis : Nat) (s : State) : Host.Outcome State Fault Refusal :=
  .next (match (stp s axis).holdAt with
    | some t => when (macOn s && (stp s axis).st == .idle) (fun s => setStp axis (fun x => { x with held := true, holdAt := none }) (atTime t s)) s
    | none => s)

def setSwitch (a i : Nat) (f : SwitchIn → SwitchIn) (s : State) : State := setStp a (fun x => { x with switches := updAt x.switches i f }) s

/-- Raw edges within CHAT_WIN (R386). -/
def edgesNow (s : State) (a i : Nat) : Nat :=
  (((stp s a).switches.getD i {}).edges.filter (fun t => decide (s.now < t + (stp s a).cfg.chatWin * 1000000000))).length

/-- A raw transition of a switch input: the stable period begins anew and the edge counts toward chatter (R385, R386). -/
def rawEdge (a i : Nat) (level : Bool) (s : State) : State :=
  let x := stp s a
  let s := setSwitch a i (fun w => { w with raw := some (level, s.now, x.pos), edges := (s.now :: w.edges).take 257 }) s
  let n := edgesNow s a i
  if n ≤ x.cfg.chatEdges ∨ (x.switches.getD i {}).chatter then s
  else
    let s := setSwitch a i (fun w => { w with chatter := true }) s
    let s := raise 0x0B03 (8 + a) 0 0 i n (stp s a).pos (tick 0x0B09 (3 * a + i) s)
    if x.homing.isSome then homeAbort a 3 s else rampStop a x.cfg.decLim s

/-- A level has held for DEB: its edge is accepted and acts on motion or homing (R385, R387). -/
def acceptEdge (a i : Nat) (level : Bool) (pos : Nat) (s : State) : State :=
  let s := setSwitch a i (fun w => { w with level := level, raw := none }) s
  let x := stp s a
  let active := level == bitOf x.cfg.active i
  if i = 2 then homeEdge a active pos s
  else if active && x.st.moves && limitOf x.dir == i && x.v2 != 0 then limitStop a i pos s
  else s

/-- SWITCH_EDGE (R385, R386): a raw transition of input `switch` to `level`; or, with `accepted`, that level has held for DEB. -/
def execSwitchEdge (axis switch : Nat) (level accepted : Bool) (s : State) : Host.Outcome State Fault Refusal :=
  .next (when (macOn s && decide (axis < 8) && decide (switch < 3) && (stp s axis).st != .off) (fun s =>
    let w := (stp s axis).switches.getD switch {}
    if !accepted then rawEdge axis switch level s
    else match w.raw with
      | some (l, t, pos) =>
        if l ≠ level then s
        else
          let s := atTime (t + (stp s axis).cfg.deb * 1000000) s
          if level = w.level then setSwitch axis switch (fun w => { w with raw := none }) s else acceptEdge axis switch level pos s
      | none => s) s)

/-- CHATTER_WINDOW_END (R386): one full window at or below CHAT_EDGES ends the episode. -/
def execChatterWindowEnd (axis switch : Nat) (s : State) : Host.Outcome State Fault Refusal :=
  .next (let x := stp s axis
    let w := x.switches.getD switch {}
    when (macOn s && w.chatter) (fun s =>
      let s := match w.edges[x.cfg.chatEdges]? with
        | some t => atTime (t + 2 * (x.cfg.chatWin * 1000000000)) s
        | none => s
      setSwitch axis switch (fun w => { w with chatter := false }) s) s)

/-! Commands. -/

/-- STEP_CONFIG (R382, R385, R386, R390). -/
def execStepConfig (s : State) : Host.Outcome State Fault Refusal :=
  .next (serve 0x0B10 .immediate [0x737107, allBits, allBits, allBits, 0xFF00FF, 0xFF3FFF, 0x3FF, allBits] (fun ws s =>
    let a := bits (par ws 2) 0 3
    let c : StepCfg := {
      bus := bits (par ws 2) 8 1, mres := bits (par ws 2) 12 3, rampP := bitOf (par ws 2) 16, rampN := bitOf (par ws 2) 17
      active := bits (par ws 2) 20 3, spdHi := bits (par ws 3) 0 16, spdLo := bits (par ws 3) 16 16
      ampQ := sbits (par ws 4) 0 16, ampS := sbits (par ws 4) 16 16, hold := sbits (par ws 5) 0 16, holdDelay := bits (par ws 5) 16 16
      toff := bits (par ws 6) 0 8, spwm := bits (par ws 6) 16 8, deb := bits (par ws 7) 0 14, chatEdges := bits (par ws 7) 16 8
      chatWin := bits (par ws 8) 0 10, decLim := par ws 9 }
    if c.spdHi ≤ c.spdLo ∨ c.toff < 1 ∨ 100 < c.toff ∨ c.spwm < 20 ∨ 100 < c.spwm ∨ c.deb < 1 ∨ 10000 < c.deb ∨ c.chatEdges < 2
        ∨ c.chatWin < 1 ∨ 1000 < c.chatWin then Ans.refuse s stBadParam
    else { st := setStp a (fun x => { x with cfg := c, st := if x.st = .off then .disabled else x.st }) s }) s)

/-- A move or a homing of an axis is refused with ST_STATE (R385, R390): OFF, a chopper fault of its bus, or an active limit ahead. -/
def moveRefused (s : State) (a : Nat) (d : Int) : Bool :=
  let x := stp s a
  x.st == .off || (busOf s x.cfg.bus).fault || (d != 0 && switchOn x (limitOf d))

/-- STEP_MOVE (R384, R385, R388, R390). -/
def execStepMove (s : State) : Host.Outcome State Fault Refusal :=
  .next (serve 0x0B11 .immediate [7, allBits, allBits, allBits, allBits, allBits] (fun ws s =>
    let a := bits (par ws 2) 0 3
    let t := par ws 3
    let vmax := par ws 4
    let vstart := par ws 5
    let acc := par ws 6
    let dec := par ws 7
    let x := stp s a
    if vmax < vstart then Ans.refuse s stBadParam
    else if moveRefused s a (posDiff t x.pos) then Ans.refuse s stState
    else if x.st.moves then
      let s := homeFail a 4 s
      { st := setStp a (fun x => { x with st := .moving, pend := some (t, vmax, acc, dec), deEnergise := false }) s }
    else
      { st := setStp a (fun x => { x with
        st := .moving, target := t, vmax := vmax, vstart := vstart, acc := acc, dec := dec, v2 := 0, deEnergise := false, holdAt := none
        nextAt := some s.now }) s }) s)

/-- STEP_HOME (R387, R390). The command gives no acceleration, and no VSTART for its first movements: both are free values. -/
def execStepHome (s : State) : Host.Outcome State Fault Refusal :=
  .next (serve 0x0B12 .background [0x107, allBits, allBits, allBits, allBits, allBits, allBits] (fun ws s =>
    let a := bits (par ws 2) 0 3
    let x := stp s a
    let h : Homing := {
      oid := s.host.nextOid, neg := bitOf (par ws 2) 8, fast := par ws 3, creep := par ws 4, backoff := par ws 5, max := par ws 6
      homePos := par ws 7, dec := par ws 8 }
    if moveRefused s a (hdir h) then Ans.refuse s stState
    else if x.homing.isSome then Ans.refuse s stBusy
    else
      let r := drawNat s
      let q := drawNat r.1
      let s := setStp a (fun x => { x with
        st := .homing, homing := some h, target := farTarget x.pos (hdir h), vmax := h.fast, acc := r.2, dec := h.dec
        vstart := if x.st.moves then x.vstart else q.2, pend := none, deEnergise := false, holdAt := none
        nextAt := some (x.nextAt.getD s.now) }) q.1
      { st := s, status := stPending }) s)

/-- STEP_STOP (R384, R388): hard at once, or with a ramp; the motor is de-energised after stopping where bit 9 says so. -/
def execStepStop (s : State) : Host.Outcome State Fault Refusal :=
  .next (serve 0x0B13 .immediate [0x307] (fun ws s =>
    let a := bits (par ws 2) 0 3
    let off := bitOf (par ws 2) 9
    let x := stp s a
    if bitOf (par ws 2) 8 then { st := stepHard a off s }
    else if x.st.moves then
      let s := setStp a (fun x => { x with deEnergise := off }) s
      { st := if x.homing.isSome then homeAbort a 4 s else rampStop a ((x.pend.map (fun p => p.2.2.2)).getD x.dec) s }
    else { st := if off then stepRest a true s else s }) s)

/-- v in microsteps/s as STEP.STATUS gives it; the spec states no rounding of a v that is no whole number. -/
def speedNow (a : Nat) (s : State) : State × Nat :=
  let r := isqrt (stp s a).v2 40 0
  if r * r = (stp s a).v2 then (s, r) else let q := drawNat s; (q.1, r + q.2 % 2)

/-- STEP_STATUS (Table 12.4). -/
def execStepStatus (s : State) : Host.Outcome State Fault Refusal :=
  .next (serve 0x0B14 .immediate [7] (fun ws s =>
    let a := bits (par ws 2) 0 3
    let x := stp s a
    let lv := fun (i : Nat) => b2n ((x.switches.getD i {}).level)
    let v := speedNow a s
    { st := v.1, results := [x.st.code + 256 * b2n x.strong + 1024 * (lv 0 + 2 * lv 1 + 4 * lv 2), x.pos, v.2, x.target] }) s)

end Sys2Proof.Machine
end

