-- ==== Sys2Proof/Machine/Supervisor.lean ====
section
/-! DEFINITION. Goose's watchdogs, the emergency-stop chain, the HV interlocks, temperature, and the commands SUP.* and THERM.*
(R424 to R435, R442 to R452). -/

namespace Sys2Proof.Machine

/-! Watchdogs. -/

/-- GOOSE_WATCHDOG_EXPIRY (R424): the core restarts in under 1 ms; cause GOOSE_WD. -/
def execGooseWatchdogExpiry (s : State) : Host.Outcome State Fault Refusal :=
  .next (when (macOn s) (fun s => trip 9 0 (raise 0x0D07 dev 0 0 1 10 0 (tick 0x0D03 256 s))) s)

/-- CORE_WATCHDOG_EXPIRY (R425): firmware has not kicked for WD_PERIOD. -/
def execCoreWatchdogExpiry (s : State) : Host.Outcome State Fault Refusal :=
  .next (when (macOn s && engOn s && (s.fw.st == .ready || s.fw.st == .handover)) (fun s =>
    let s := atTime (s.sup.kick + s.sup.wdPeriod * 1000000000) s
    let ms := (s.now - s.sup.kick) / 1000000000
    let s := fwFault .restart (tick 0x0D03 0 s)
    tripLogged 7 0 (raise 0x0D07 dev 0 0 0 ms 0 s)) s)

/-! The emergency-stop chain. -/

/-- SAFE_IN_EDGE (R431): a channel has been low for 1 µs. A chain that was closed opens: cause SAFE_IN. -/
def execSafeInEdge (chan : Nat) (s : State) : Host.Outcome State Fault Refusal :=
  .next (if !macOn s || !((s.sup.safeIn[chan]?).map SafeChan.high).getD false then s
    else
      let first := s.sup.safeIn.all SafeChan.high
      let s := withSup (fun u => { u with safeIn := if first && u.safeLowAt.isNone then u.safeIn.map (fun c => { c with wentLow := false }) else u.safeIn }) s
      let s := withSup (fun u => { u with safeIn := updAt u.safeIn chan (fun _ => { high := false, wentLow := true }) }) s
      let s := withSup (fun u => { u with needBothLow := u.needBothLow && u.safeIn.any SafeChan.high }) s
      if first && s.sup.safeLowAt.isNone then trip 1 0 (withSup (fun u => { u with safeLowAt := some s.now }) s) else s)

/-- SAFE_IN_HEALTHY (R429, R431): a channel is high again. -/
def execSafeInHealthy (chan : Nat) (s : State) : Host.Outcome State Fault Refusal :=
  .next (if !macOn s || ((s.sup.safeIn[chan]?).map SafeChan.high).getD true then s
    else withSup (fun u => { u with safeIn := updAt u.safeIn chan (fun c => { c with high := true }), bothHigh := s.now }) s)

/-- Writes the detail into the newest log record of cause SAFE_IN. -/
def logDetail (detail : Nat) : List LogRec → List LogRec
  | [] => []
  | r :: t => if r.code = 1 then { r with detail := detail } :: t else r :: logDetail detail t

/-- SAFE_IN_DETAIL_TIMER (R431): the detail is fixed 10 ms after the first channel went low. -/
def execSafeInDetailTimer (s : State) : Host.Outcome State Fault Refusal :=
  .next (match s.sup.safeLowAt with
    | none => s
    | some t =>
      let s := atTime (t + 10000000000) s
      let detail := if s.sup.safeIn.all SafeChan.wentLow then 1 else 2
      tripEvent (withSup (fun u => { u with
        safeLowAt := none, log := logDetail detail u.log,
        firstDetail := if u.tripDue && u.firstCause == 1 then detail else u.firstDetail,
        needBothLow := u.needBothLow || (detail == 2 && u.safeIn.any SafeChan.high) }) s))

/-! HV interlocks. -/

/-- The channels of a mask are held off (R432): reference 0, their loops to manual. -/
def ilkHold (mask : Nat) (s : State) : State :=
  forList (bitList 24 mask) s (fun c s =>
    let s := setHv c (fun h => { h with ref := 0 }) s
    match loopOfHv s c with
    | some n => loopForce n false s
    | none => s)

/-- An interlock after a change of its input or its configuration (R432): `was` tells whether it was open, `held` which channels
it held off. -/
def ilkApply (n : Nat) (was : Bool) (held : Nat) (s : State) : State :=
  let i := s.sup.ilks.getD n {}
  if ilkOpen i then
    let s := ilkHold (if was then maskDiff i.mask held else i.mask) s
    if was then s else trip 10 n (raise 0x0D04 n 0 0 0 i.mask 0 (tick 0x0D05 n s))
  else if was then raise 0x0D04 n 0 0 1 i.mask 0 s else s

/-- HV_INTERLOCK_CHANGE (R432): an interlock input has held a new level for 1 µs. -/
def execHvInterlockChange (ilk : Nat) (level : Bool) (s : State) : Host.Outcome State Fault Refusal :=
  .next (if !macOn s then s
    else match s.sup.ilks[ilk]? with
      | none => s
      | some i => ilkApply ilk (ilkOpen i) i.mask (withSup (fun u => { u with ilks := updAt u.ilks ilk (fun i => { i with level := level }) }) s))

/-! Temperature. -/

/-- The grid neighbours of a sensor (R442): 9 columns by 8 rows on the engine die, a row of 8 on the machine die. -/
def neighbours (machine : Bool) (i : Nat) : List Nat :=
  let cols := if machine then 8 else 9
  let rows := if machine then 1 else 8
  let x := i % cols
  let y := i / cols
  (if 0 < x then [i - 1] else []) ++ (if x + 1 < cols then [i + 1] else [])
    ++ (if 0 < y then [i - cols] else []) ++ (if y + 1 < rows then [i + cols] else [])

/-- Twice the median of readings, none for no reading. -/
def median2 (l : List Int) : Option Int :=
  let v := l.mergeSort (fun a b => decide (a ≤ b))
  if v.isEmpty then none else some (v.getD ((v.length - 1) / 2) 0 + v.getD (v.length / 2) 0)

/-- A reading lies within −55 °C to 150 °C (R443). -/
def inTempRange (v : Int) : Bool := decide (-880 ≤ v ∧ v ≤ 2400)

/-- A reading is valid (R443). -/
def tempValid (machine : Bool) (old : List TempSensor) (values : List Int) (i : Nat) : Bool :=
  let v := values.getD i 0
  let near := (neighbours machine i).filter (fun n => inTempRange (values.getD n 0) && !((old[n]?).map TempSensor.excluded).getD false)
  inTempRange v && match median2 (near.map (fun n => values.getD n 0)) with
    | none => true
    | some m => decide ((2 * v - m).natAbs ≤ 480)

def therm (s : State) (machine : Bool) : DieTherm := if machine then s.sup.machine else s.sup.engine

def setTherm (machine : Bool) (f : DieTherm → DieTherm) (s : State) : State :=
  withSup (fun u => if machine then { u with machine := f u.machine } else { u with engine := f u.engine }) s

def sensorOf (s : State) (machine : Bool) (i : Nat) : TempSensor := (therm s machine).sensors.getD i {}

/-- One sensor's new reading (R443): exclusion at once, restoration after 16 good samples in a row. -/
def sensorTake (machine : Bool) (i : Nat) (v : Int) (ok : Bool) (s : State) : State :=
  let die := b2n machine
  let put := fun (f : TempSensor → TempSensor) (s : State) =>
    setTherm machine (fun d => { d with sensors := updAt d.sensors i (fun x => { f x with value := v }) }) s
  let was := (sensorOf s machine i).excluded
  if !ok then
    let s := put (fun x => { x with excluded := true, good := 0 }) s
    if was then s
    else
      let s := raise 0x0D06 die 0 0 i (w32 v) 0 (tick 0x0D06 (if machine then 72 + i else i) s)
      if !machine && sensorsLost s && !s.sup.engine.manyRaised then
        raise 0x0D06 die 0 0 i (w32 v) 2 (setTherm false (fun d => { d with manyRaised := true }) s)
      else s
  else if !was then put id s
  else if (sensorOf s machine i).good + 1 < 16 then put (fun x => { x with good := x.good + 1 }) s
  else raise 0x0D06 die 0 0 i (w32 v) 1 (put (fun x => { x with excluded := false, good := 0 }) s)

/-- The hottest valid reading of a die with its sensor, the first of equals. -/
def hottestAt (d : DieTherm) : Option (Int × Nat) :=
  (List.range d.sensors.length).foldl (fun (a : Option (Int × Nat)) i =>
    let t := d.sensors.getD i {}
    if t.excluded then a else match a with
      | none => some (t.value, i)
      | some x => if x.1 < t.value then some (t.value, i) else a) none

/-- EV_THERM (Table 14.13). -/
def thermEvent (machine : Bool) (what : Nat) (hot : Int) (s : State) : State :=
  raise 0x0D05 (b2n machine) 0 0 what (w32 hot) s.sup.level s

/-- The throttle at a sample of the engine die (R445), and the time at L above 0 in ms. -/
def throttle (hot : Int) (s : State) : State :=
  let l := s.sup.level
  let l' := if 16 * (s.sup.thrC : Int) ≤ hot then Nat.min 240 (l + 16)
    else if hot < 16 * ((s.sup.thrC : Int) - 3) then l - 8 else l
  let ms := if l = 0 then 0 else (s.now - s.sup.levelSince) / 1000000000
  let s := bump 0x0D07 0 ms s
  let s := withSup (fun u => { u with level := l', levelSince := if l = 0 then s.now else u.levelSince + ms * 1000000000 }) s
  if l = 0 ∧ 0 < l' then thermEvent false 3 hot s else if 0 < l ∧ l' = 0 then thermEvent false 4 hot s else s

/-- T_WARN at a sample (R444). -/
def warnStep (machine : Bool) (hot : Int) (s : State) : State :=
  let d := therm s machine
  if !d.warn && decide (16 * (d.warnC : Int) ≤ hot) then thermEvent machine 1 hot (setTherm machine (fun d => { d with warn := true }) s)
  else if d.warn && decide (hot < 16 * ((d.warnC : Int) - 3)) then
    thermEvent machine 2 hot (setTherm machine (fun d => { d with warn := false }) s)
  else s

/-- T_CRIT at a sample (R444): two consecutive samples trip TEMP_CRIT. -/
def critStep (machine : Bool) (hot : Int) (sensor : Nat) (s : State) : State :=
  let d := therm s machine
  let run := if 16 * (d.critC : Int) ≤ hot then d.critRun + 1 else 0
  let left := decide (hot < 16 * ((d.critC : Int) - 3))
  let s := setTherm machine (fun d => { d with critRun := run, crit := d.crit && !left }) s
  if run = 2 ∧ ¬ d.crit then trip 4 sensor (setTherm machine (fun d => { d with crit := true }) s) else s

/-- A die is sampled every 250 µs while its hottest valid reading lies within 10 °C of its T_CRIT (R442). -/
def fastSampling (d : DieTherm) : Bool := match hottest d with
  | none => false
  | some h => decide (16 * ((d.critC : Int) - 10) ≤ h)

/-- DIE_TEMP_SAMPLE (R442 to R445): a die's sensors are read and its thresholds applied. -/
def execDieTempSample (machine : Bool) (values : List Int) (s : State) : Host.Outcome State Fault Refusal :=
  .next (if !(if machine then macOn s else engOn s) then s
    else
      let d := therm s machine
      let s := atTime (d.at_ + if fastSampling d then 250000000 else 10000000000) s
      let s := setTherm machine (fun d => { d with at_ := s.now }) s
      let s := forRange d.sensors.length s (fun i s =>
        sensorTake machine i (values.getD i (sensorOf s machine i).value) (tempValid machine d.sensors values i) s)
      let s := if machine then s else setTherm false (fun d => { d with manyRaised := d.manyRaised && sensorsLost s }) s
      match hottestAt (therm s machine) with
      | none => s
      | some (hot, i) =>
        let s := warnStep machine hot (if machine then s else throttle hot s)
        let s := critStep machine hot i s
        if !machine && decide (2160 ≤ hot) then engineLoss .shut i s else s)

/-! Commands. -/

/-- SUP_STATUS. -/
def execSupStatus (s : State) : Host.Outcome State Fault Refusal :=
  .next (serve 0x0D01 .immediate [] (fun _ s =>
    let u := s.sup
    let w2 := b2n u.safe + maskOf ((List.range 2).filter (fun c => ((u.safeIn[c]?).map SafeChan.high).getD false)) * 2
      + maskOf ((List.range 4).filter (fun n => !ilkOpen (u.ilks.getD n {}))) * 16 + u.power.pg.toNat * 256
    { st := s, results := [w2, u.latched.toNat + presentMask s * 65536, fld u.vin 0 16, u.trips % 2 ^ 32]
        ++ two ((u.tripAt.getD 0) / 1000) ++ [fld u.power.cycles 0 8] }) s)

/-- SUP_CONFIG (R432, R435, R441). -/
def execSupConfig (s : State) : Host.Outcome State Fault Refusal :=
  .next (serve 0x0D02 .immediate [0x105E0, 0x0FFF0FFF, 0xF, 0xFFFFFF, 0xFFFFFF, 0xFFFFFF, 0xFFFFFF, 1] (fun ws s =>
    let w := bits (par ws 3) 0 12
    let wd := bits (par ws 3) 16 12
    if !zeroOrIn 300 2400 w || !zeroOrIn 10 1000 wd then .refuse s stBadParam
    else
      let old := s.sup.ilks
      let s := withSup (fun u => { u with
        enables := if bitOf (par ws 2) 16 then BitVec.ofNat 16 (par ws 2) else u.enables,
        vinWarn := orKeep w u.vinWarn, wdPeriod := orKeep wd u.wdPeriod, autoRestart := bitOf (par ws 9) 0,
        ilks := (List.range 4).map (fun n => { level := (old.getD n {}).level, closedHigh := bitOf (par ws 4) n, mask := par ws (5 + n) }) }) s
      { st := forRange 4 s (fun n s => ilkApply n (ilkOpen (old.getD n {})) (old.getD n {}).mask s) }) s)

/-- Balls of an output group, and its greatest action (Table 14.4). -/
def groupSize (g : Nat) : Nat := [8, 8, 24, 24, 4, 8, 6, 4, 6].getD g 0
def groupAction (g : Nat) : Nat := [2, 1, 1, 1, 1, 2, 2, 1, 2].getD g 0

/-- SUP_OUTPUT (R435). -/
def execSupOutput (s : State) : Host.Outcome State Fault Refusal :=
  .next (serve 0x0D03 .immediate [0x17F0F, 3] (fun ws s =>
    let g := bits (par ws 2) 0 4
    let i := bits (par ws 2) 8 7
    let all := bitOf (par ws 2) 16
    let a := par ws 3
    if groupSize g = 0 ∨ (¬ all ∧ groupSize g ≤ i) ∨ groupAction g < a then .refuse s stBadParam
    else if s.sup.safe then .refuse s stState
    else
      let is := if all then List.range (groupSize g) else [i]
      { st := withSup (fun u => { u with actions := is.foldl (fun m i => natSet m (g * 128 + i) a) u.actions }) s }) s)

/-- SUP_TRIP (R426). -/
def execSupTrip (s : State) : Host.Outcome State Fault Refusal :=
  .next (serve 0x0D04 .immediate [] (fun _ s => { st := trip 11 0 s }) s)

/-- ST_TRIP_ACTIVE (Table 14.12). -/
def stTripActive : Nat := 0x0D01

/-- The safe state ends (R429): EV_SUP_CLEAR; the comparators' episodes are over. Loops that no loop tick has reached yet go to
manual first, since their references are 0 on a clear. -/
def safeClear (s : State) : State :=
  let s := if s.sup.loopsDue then loopsSafe (withSup (fun u => { u with loopsDue := false }) s) else s
  let u := s.sup
  let ms := (s.now - u.tripAt.getD s.now) / 1000000000
  let s := withSup (fun u => { u with
    safe := false, latched := 0, fuser := u.fuser.map (fun f => { f with tripped := false }),
    busCmp := u.busCmp.map (fun _ => {}) }) s
  raise 0x0D02 dev 0 0 ms u.latched.toNat 0 s

/-- SUP_CLEAR (R429). -/
def execSupClear (s : State) : Host.Outcome State Fault Refusal :=
  .next (serve 0x0D05 .immediate [] (fun _ s =>
    if !s.sup.safe then .refuse s stState
    else if presentMask s ≠ 0 then { st := s, status := stTripActive, results := [presentMask s] }
    else { st := safeClear s }) s)

/-- SUP_LOG (R441). -/
def execSupLog (s : State) : Host.Outcome State Fault Refusal :=
  .next (serve 0x0D06 .immediate [0x3F] (fun ws s =>
    let rs := (s.sup.log.drop (par ws 2)).take 20
    { st := s, results := rs.length :: (rs.map (fun r => [r.ms % 2 ^ 32, r.code + 256 * b2n r.powered, r.detail])).flatten }) s)

/-- Two sensors of THERM.STATUS in one word. -/
def sensorWord (d : DieTherm) (j : Nat) : Nat :=
  let one := fun (i : Nat) => let t := d.sensors.getD i {}; if t.excluded then 0x8000 else unsig t.value 16
  one (2 * j) + one (2 * j + 1) * 65536

/-- THERM_STATUS. With no valid sensor the hottest reading and its sensor are free values: none is stated. -/
def execThermStatus (s : State) : Host.Outcome State Fault Refusal :=
  .next (serve 0x0D07 .immediate [1] (fun ws s =>
    let d := therm s (bitOf (par ws 2) 0)
    let (s, hot) : State × (Int × Nat) := match hottestAt d with
      | some h => (s, h)
      | none => let a := drawInt s; let b := drawNat a.1; (b.1, (a.2, b.2 % 128))
    let p := forecastPower s (popCount 6 (liveStations s)) (presentRate s) / 100000
    { st := s, results := [unsig hot.1 16 + fld hot.2 16 7,
        fld s.sup.level 0 8 + fld (b2n (fastSampling d)) 8 1 + fld (countBy (fun (t : TempSensor) => t.excluded) d.sensors) 16 7,
        unsig p 16] ++ (List.range (d.sensors.length / 2)).map (sensorWord d) }) s)

/-- The thermal settings that a THERM.CONFIG asks for; a field of 0 keeps its value (Table 14.11). -/
def thermWanted (ws : List Word) (u : SupState) : SupState :=
  { u with
    thrC := orKeep (bits (par ws 2) 0 8) u.thrC
    engine := { u.engine with warnC := orKeep (bits (par ws 2) 8 8) u.engine.warnC, critC := orKeep (bits (par ws 2) 16 8) u.engine.critC }
    machine := { u.machine with warnC := orKeep (bits (par ws 3) 0 8) u.machine.warnC, critC := orKeep (bits (par ws 3) 8 8) u.machine.critC }
    marginT := orKeep (bits (par ws 3) 16 8) u.marginT, kth := orKeep (par ws 4) u.kth
    pBase := orKeep (bits (par ws 5) 0 16) u.pBase, pSt := orKeep (bits (par ws 5) 16 16) u.pSt }

/-- The order and the ranges of the thermal settings (R444, R449). -/
def thermOk (w : SupState) : Bool :=
  decide (60 ≤ w.thrC ∧ w.thrC < w.engine.warnC ∧ w.engine.warnC < w.engine.critC ∧ w.machine.warnC < w.machine.critC
    ∧ 85 ≤ w.engine.critC ∧ w.engine.critC ≤ 125 ∧ 85 ≤ w.machine.critC ∧ w.machine.critC ≤ 125)

/-- A new critical threshold lies at or below the hottest sensor of its die. -/
def thermLow (new : Nat) (d : DieTherm) : Bool :=
  decide (new ≠ 0) && match hottest d with
    | none => false
    | some h => decide (16 * (new : Int) ≤ h)

/-- THERM_CONFIG (R444, R447, R449). -/
def execThermConfig (s : State) : Host.Outcome State Fault Refusal :=
  .next (serve 0x0D08 .immediate [0xFFFFFF, 0xFFFFFF, 0xFFFF, allBits] (fun ws s =>
    if !thermOk (thermWanted ws s.sup) || !zeroOrIn 2 30 (bits (par ws 3) 16 8) || !zeroOrIn 50 2000 (par ws 4) then .refuse s stBadParam
    else if thermLow (bits (par ws 2) 16 8) s.sup.engine || thermLow (bits (par ws 3) 8 8) s.sup.machine then .refuse s stState
    else { st := withSup (thermWanted ws) s }) s)

end Sys2Proof.Machine
end

