-- ==== Sys2Proof/Machine/Sys.lean ====
section
/-! DEFINITION. Meanings of the system commands (R66, Table 2.16). -/

namespace Sys2Proof.Machine

/-- The firmware release at identity offset 0x008: 0 until firmware is READY (Table 2.4). -/
def releaseWord (s : State) : Nat :=
  if s.fw.st = .boot then 0
  else match s.fw.running with
    | none => 0
    | some h => fld h.patch 0 8 + fld h.minor 8 8 + fld h.major 16 8

/-- DDR_MASK and SPOOL_GIB at identity offset 0x018. -/
def spoolWord (s : State) : Nat := fld (ddrMask s) 0 4 + fld (spoolGib s) 16 9

/-- SYS_IDENTIFY (R66). -/
def execSysIdentify (s : State) : Host.Outcome State Fault Refusal :=
  .next (serve 0x0101 .immediate [] (fun _ s =>
    { st := s, results := [Config.vendorId.toNat + 0x64000000, 0x02B1, releaseWord s, ((s.fw.running.map ImgHdr.build).getD 0)]
        ++ two s.board.serial.toNat ++ [spoolWord s, 0x3F + fld 28 8 8] }) s)

/-- SYS_PING (R66): the parameters come back unchanged. -/
def execSysPing (s : State) : Host.Outcome State Fault Refusal :=
  .next (serve 0x0102 .immediate (List.replicate 62 allBits) (fun ws s =>
    { st := s, results := (List.range (plen ws)).map (fun i => wordAt ws (i + 2)) }) s)

/-- SYS_TIME (R66). -/
def execSysTime (s : State) : Host.Outcome State Fault Refusal :=
  .next (serve 0x0103 .immediate [] (fun _ s =>
    { st := s, results := two (nowNs s) ++ [fld (b2n s.pos.refExt) 0 2 + fld (b2n s.pos.locked) 8 1] }) s)

/-- Pages in a state, saturating at 255. -/
def pagesIn (s : State) (f : Page → Bool) : Nat := Nat.min 255 (countBy f s.page.pages)

/-- Tiles linked: ports ONLINE (R227). -/
def tilesLinked (s : State) : Nat := countBy (fun (p : Port) => p.st == .online) s.link.ports

/-- Healthy engines (Table 5.1). -/
def healthyEngines (s : State) : Nat := countBy (fun (e : Engine) => e.st.healthy) s.exp.engines

/-- The results of SYS.STATUS (Table 2.16). -/
def sysStatus (s : State) : List Nat :=
  [ fld s.fw.st.code 0 3 + fld (s.fw.bank.getD 0) 4 1,
    fld (pagesIn s (fun p => p.st == .queued)) 0 8 + fld (pagesIn s (fun p => p.st == .spooled)) 8 8
      + fld (pagesIn s (fun p => p.st == .admitted)) 16 8 + fld (pagesIn s Page.running) 24 8,
    fld s.page.cfg.stations 0 6 + fld (tilesLinked s) 8 7 + fld (healthyEngines s) 16 5,
    fld s.host.outstanding.length 0 6 + fld s.host.backlog.length 16 11,
    fld s.page.gapPending.length 0 16 ]

/-- SYS_STATUS (R66). -/
def execSysStatus (s : State) : Host.Outcome State Fault Refusal :=
  .next (serve 0x0104 .immediate [] (fun _ s => { st := s, results := sysStatus s }) s)

/-- One line of SYS.PENDING. -/
def pendingWord (o : Outst) : Nat :=
  bits o.word0.toNat 0 16 + fld (b2n (o.cls == .background)) 16 1 + fld (bits o.word0.toNat 24 8) 24 8

/-- SYS_PENDING (R66): in the order taken. -/
def execSysPending (s : State) : Host.Outcome State Fault Refusal :=
  .next (serve 0x0105 .immediate [] (fun _ s =>
    { st := s, results := s.host.outstanding.length :: s.host.outstanding.map pendingWord }) s)

end Sys2Proof.Machine
end

