-- ==== Sys2Proof/Machine/TestCmd.lean ====
section
/-! DEFINITION. Meanings of the counter, PRBS, injection, spine and test access port commands (R477 to R490). -/

namespace Sys2Proof.Machine

/-- The value of a counter instance (R477): those that another field of the state holds are read from there. -/
def ctrRead (s : State) (id inst : Nat) : Nat :=
  match id with
  | 0x0200 => s.page.admissions % 2 ^ 64
  | 0x0500 => stationLine s inst
  | 0x0501 => let t := trk s (inst % 256); unsig (if inst / 256 = 0 then t.ext else t.hwm) 48
  | 0x0700 => consUsage (slotOf s inst)
  | 0x0B00 => (s.motion.drives.getD inst {}).xm
  | 0x0B01 => (s.motion.steppers.getD inst {}).pos
  | _ => ctrVal s id inst

/-- The modulus of a class W counter, none of another class: 2^width, and CPR for XM (R473). -/
def ctrModulus (s : State) (id inst : Nat) : Option Nat :=
  match ctrDesc id with
  | none => none
  | some d => if d.cls ≠ .w then none else some (if id = 0x0B00 then (s.motion.drives.getD inst {}).cfg.cpr else 2 ^ d.width)

/-- How far a class W counter has advanced between two readings (R473). -/
def ctrSince (m old new : Nat) : Nat := (new + (m - old % m)) % m

/-- Counters of the machine die, captured in one loop tick (R478). -/
def ctrMachine (id : Nat) : Bool := id / 256 == 0x0A || id / 256 == 0x0B || id / 256 == 0x0D || id == 0x0505

/-- Rooster time of a capture in ns: now, or the newest loop tick. -/
def captureTime (s : State) (id : Nat) : Nat := if ctrMachine id then s.now / 10000000 * 10000 else nowNs s

/-- CTR_READ (R478, R490). -/
def execCtrRead (s : State) : Host.Outcome State Fault Refusal :=
  .next (serve 0x0F01 .immediate [0xFFFF, 0x1FFFFF] (fun ws s =>
    let id := bits (par ws 2) 0 16
    let first := bits (par ws 3) 0 16
    let n := bits (par ws 3) 16 5
    match ctrDesc id with
    | none => Ans.refuse s stBadParam
    | some d =>
      let has := fun (i : Nat) => ctrInst d.per (first + i)
      if n < 1 ∨ 28 < n ∨ !(List.range n).any has then Ans.refuse s stBadParam
      else
        let sat := maskOf ((List.range n).filter (fun i => has i && s.ctr.sat.contains (ctrKey id (first + i))))
        let vals := (List.range n).map (fun i => two (if has i then ctrRead s id (first + i) else 0))
        { st := s, results := two (captureTime s id) ++ [d.cls.code + 256 * d.width, sat] ++ vals.flatten }) s)

/-- CTR_CLEAR (R474, R490). -/
def execCtrClear (s : State) : Host.Outcome State Fault Refusal :=
  .next (serve 0x0F02 .immediate [0xFFFF, 0xFFFF, 0xFFFF] (fun ws s =>
    let id := bits (par ws 2) 0 16
    let first := bits (par ws 3) 0 16
    let n := bits (par ws 4) 0 16
    match ctrDesc id with
    | none => Ans.refuse s stBadParam
    | some d =>
      if n < 1 ∨ !(List.range n).any (fun i => ctrInst d.per (first + i)) then Ans.refuse s stBadParam
      else if d.cls ≠ .s then Ans.refuse s stState
      else
        let keep := fun (k : Nat) => !(k / 65536 == id && decide (first ≤ k % 65536 ∧ k % 65536 < first + n))
        { st := { s with ctr := { s.ctr with vals := s.ctr.vals.filter (fun v => keep v.1), sat := s.ctr.sat.filter keep } } }) s)

/-! Raw PRBS. -/

def rawOf (s : State) (g : Nat) : Option RawPrbs := s.test.raw.getD g none

def setRaw (g : Nat) (r : Option RawPrbs) (s : State) : State := { s with test := { s.test with raw := s.test.raw.set g r } }

/-- A lane enters raw test (R481). -/
def rawStart (pattern : Nat) (half near : Bool) (g : Nat) (s : State) : State :=
  linkTo g .test 0 (setRaw g (some { pattern := pattern, half := half, nearEnd := near }) s)

/-- TEST_PRBS (R481, R490). -/
def execTestPrbs (s : State) : Host.Outcome State Fault Refusal :=
  .next (serve 0x0F03 .immediate [0x7303, allBits, allBits, allBits] (fun ws s =>
    let lanes := maskLanes ws
    let pattern := bits (par ws 2) 12 3
    match bits (par ws 2) 0 2 with
    | 0 =>
      if lanes.any (fun g => (rawOf s g).isNone) then Ans.refuse s stState
      else { st := lanesOff lanes s, results := laneWords lanes }
    | 1 =>
      if pattern < 2 ∨ 6 < pattern then Ans.refuse s stBadParam
      else if lanes.any (fun g => (port s g).st != .off) then Ans.refuse s stState
      else { st := forList lanes s (rawStart pattern (bitOf (par ws 2) 9) (bitOf (par ws 2) 8)), results := laneWords lanes }
    | 2 =>
      match lanes with
      | [] => Ans.refuse s stBadParam
      | g :: _ => match rawOf s g with
        | none => Ans.refuse s stState
        | some r => { st := s, results := [b2n r.chk.inSync] ++ two (ctrVal s 0x0F01 g) ++ [ctrVal s 0x0F02 g, ctrVal s 0x0F03 g] }
    | _ =>
      if lanes.any (fun g => (rawOf s g).isNone) then Ans.refuse s stState
      else { st := forList lanes s (fun g s => setRaw g ((rawOf s g).map (fun r => { r with insert := r.insert + 1 })) s), results := laneWords lanes }) s)

/-- The next bits of a lane's raw pattern, the first inverted where a bit error is to be inserted (R481). -/
def rawSent (r : RawPrbs) (n : Nat) : List Bool :=
  match (prbsRun r.pattern n r.gen []).2 with
  | b :: t => if r.insert = 0 then b :: t else (!b) :: t
  | [] => []

/-- The lane sends as many bits as it receives; with near-end loopback it receives what it sends, and its balls stay idle (R481). -/
def rawLine (r : RawPrbs) (rx : List Bool) : RawPrbs × List Bool :=
  let p := prbsRun r.pattern rx.length r.gen []
  let sent := rawSent r rx.length
  ({ r with gen := p.1, insert := if rx.isEmpty then r.insert else r.insert - 1 }, if r.nearEnd then sent else rx)

/-- PRBS_CHECKER_SYNC (R482, R483): bits received by the raw checker of a lane in TEST, or by a spine checker. -/
def execPrbsCheckerSync (spine : Bool) (index : Nat) (bits : List Bool) (s : State) : Host.Outcome State Fault Refusal :=
  .next (if spine then
      when (engOn s && decide (index < 2)) (fun s =>
        let c := bits.foldl (prbsCheck 6) { chk := s.test.spine.getD index {} }
        bump 0x0F06 (256 * index) c.errs { s with test := { s.test with spine := s.test.spine.set index c.chk } }) s
    else match rawOf s index with
      | none => s
      | some r => when (engOn s) (fun s =>
          let q := rawLine r bits
          let s := if r.nearEnd then s else emit (.rawBits index (rawSent r bits.length)) s
          let c := q.2.foldl (prbsCheck r.pattern) { chk := r.chk }
          bump 0x0F03 index c.resyncs (bump 0x0F02 index c.errs (bump 0x0F01 index c.bits (setRaw index (some { q.1 with chk := c.chk }) s)))) s)

/-! Fault injection. -/

/-- The largest length of an armed type at a target (R486); none for a type that the target does not have. -/
def injLimit (kind : Nat) (action : InjAction) (ftype : Nat) : Option Nat :=
  match kind with
  | 0 => match ftype with
    | 0 => some 8232 | 1 => some 8232 | 2 => some 532 | 3 => some 2048 | 4 => some 1030 | _ => none
  | 1 => match ftype with
    | 0 => some 2048 | 3 => some 2048 | 4 => some 1030 | 0x11 => some 64 | 0x12 => some 532 | _ => none
  | 2 => some 64
  | _ =>
    if action = .corruptPost then (if ftype = 0 ∨ ftype = 4 then some 135248 else none)
    else match ftype with
      | 0 => some 135288 | 1 => some 32 | 2 => some 32 | 3 => some 32 | 4 => some 135288 | _ => none

/-- The action of a code (Table 16.8). -/
def injAction (n : Nat) : Option InjAction :=
  match n with
  | 1 => some .drop | 2 => some .corruptPre | 3 => some .corruptPost | 4 => some .reorder | 5 => some .delay | _ => none

/-- A station of the target has a page ADMITTED, ACTIVE or EXPOSED (R487). -/
def injLive (s : State) (kind index : Nat) : Bool :=
  if kind ≤ 1 then stationLive s (stOf index) else (List.range 6).any (fun st => stationLive s st)

/-- A target exists (Table 16.4). -/
def injTarget (kind index : Nat) : Bool :=
  match kind with
  | 0 => decide (index < 96) | 1 => decide (index < 96) | 2 => decide (index < 2) | _ => decide (index < 16)

/-- INJ_ARM (R486, R487, R490). -/
def execInjArm (s : State) : Host.Outcome State Fault Refusal :=
  .next (serve 0x0F04 .immediate [0x1077F03, 0xFF, allBits, allBits, 0xFFFF, allBits, 0xFFFF] (fun ws s =>
    let kind := bits (par ws 2) 0 2
    let index := bits (par ws 2) 8 7
    let live := bitOf (par ws 2) 24
    let left := ((injOf s kind index).map Injection.remaining).getD 0
    if !injTarget kind index then Ans.refuse s stBadParam
    else if bits (par ws 2) 16 3 = 0 then { st := setInj kind index none s, results := [left] }
    else match injAction (bits (par ws 2) 16 3) with
      | none => Ans.refuse s stBadParam
      | some a =>
        let j : Injection := {
          kind := kind, index := index, action := a, live := live, ftype := bits (par ws 3) 0 8, line := par ws 4
          remaining := bits (par ws 5) 0 16, interval := bits (par ws 5) 16 16, offset := bits (par ws 6) 0 16
          mask := BitVec.ofNat 32 (par ws 7), delay := bits (par ws 8) 0 16 }
        let corrupt := a == .corruptPre || a == .corruptPost
        let offOk := match injLimit kind a j.ftype with | some n => decide (j.offset + 4 ≤ n) | none => false
        if j.remaining < 1 ∨ j.interval < 1 ∨ (a = .delay ∧ (j.delay < 1 ∨ 10000 < j.delay)) ∨ (corrupt && !offOk) then Ans.refuse s stBadParam
        else if injLive s kind index && !live then Ans.refuse s stPageLocked
        else { st := setInj kind index (some j) s, results := [left] }) s)

/-! The spine. -/

/-- 10-bit symbols of coded bits that a mask over the four bytes from an offset touches. -/
def symbolsHit (offset : Nat) (mask : Word) : Nat :=
  (((List.range 32).filter (fun i => mask.getLsbD i)).map (fun i => (8 * offset + i) / 10)).eraseDups.length

/-- A frame is corrected, and discarded where it fails its CRC-32C or sequence number (R485, Table 16.10). -/
def spineCount (dir : Nat) (corrected ok : Bool) (s : State) : State :=
  let s := if corrected then tick 0x0F04 (256 * dir) s else s
  if ok then s else tick 0x0F05 (256 * dir) s

/-- SPINE_FRAME_RX (R484 to R486): a spine frame arrives, with what its code and its checks make of it; an armed injection acts
on it. The spec states no type of a spine frame, so only an injection of any type matches, and no order in which a frame that
changed places is judged, so it counts as out of sequence. -/
def execSpineFrameRx (toMachine corrected ok : Bool) (s : State) : Host.Outcome State Fault Refusal :=
  .next (when (engOn s) (fun s =>
    let dir := if toMachine then 0 else 1
    let r := injOffer 2 dir 0 none 64 0 s
    match r.2.map (fun (j : Injection) => (j.action, j.offset, j.mask)) with
    | none => spineCount dir corrected ok r.1
    | some (.drop, _, _) => r.1
    | some (.delay, _, _) => spineCount dir corrected ok r.1
    | some (.reorder, _, _) => spineCount dir corrected false r.1
    | some (.corruptPost, _, m) => spineCount dir corrected (ok && m == 0) r.1
    | some (.corruptPre, o, m) =>
      let n := symbolsHit o m
      if n = 0 then spineCount dir corrected ok r.1
      else if n = 1 ∧ !corrected then spineCount dir true ok r.1
      else spineCount dir false false r.1) s)

/-! The test access port. -/

/-- The identification register of a die that IDCODE selects (R488, in the layout of IEEE 1149.1): version, part number, manufacturer, 1. -/
def idcode (machine : Bool) : BitVec 32 :=
  Config.dieVersion machine ++ (if machine then 0x6401#16 else 0x6400#16) ++ Config.jedecId ++ 1#1

/-- JTAG_INSTRUCTION (R488): an instruction takes effect on a die: 1 IDCODE, 2 SAMPLE/PRELOAD, 3 EXTEST under TEST_MODE, else
BYPASS. The spec gives the instructions no binary codes; these are the model's. -/
def execJtagInstruction (machine : Bool) (code : Nat) (s : State) : Host.Outcome State Fault Refusal :=
  let i : JtagInstr := match code with
    | 1 => .idcode
    | 2 => .samplePreload
    | 3 => if s.board.testMode then .extest else .bypass
    | _ => .bypass
  .next (when (if machine then macOn s else engOn s) (fun s => { s with test := { s.test with jtag := s.test.jtag.set (if machine then 1 else 0) i } }) s)

end Sys2Proof.Machine
end

