-- ==== Sys2Proof/Machine/Dispatch.lean ====
section
/-! DEFINITION. The effect of each command: one arm per constructor of Instr. -/

namespace Sys2Proof.Machine

def exec (i : Instr) (s : State) : Host.Outcome State Fault Refusal :=
  match i with
  | .registerWrite off v => Sys2Proof.Machine.execRegisterWrite off v s
  | .badSizeAccess write off => Sys2Proof.Machine.execBadSizeAccess write off s
  | .reservedAddrAccess write off => Sys2Proof.Machine.execReservedAddrAccess write off s
  | .timeLoRead => Sys2Proof.Machine.execTimeLoRead s
  | .bar2Read off err => Sys2Proof.Machine.execBar2Read off err s
  | .bar2Write off => Sys2Proof.Machine.execBar2Write off s
  | .mailboxSlotWrite slot word ws => Sys2Proof.Machine.execMailboxSlotWrite slot word ws s
  | .doorbell v => Sys2Proof.Machine.execDoorbell v s
  | .evrEnWrite v => Sys2Proof.Machine.execEvrEnWrite v s
  | .evrReadWrite v => Sys2Proof.Machine.execEvrReadWrite v s
  | .eventBacklogDrain => Sys2Proof.Machine.execEventBacklogDrain s
  | .modTimerExpiry => Sys2Proof.Machine.execModTimerExpiry s
  | .hostInterfaceReset kind => Sys2Proof.Machine.execHostInterfaceReset kind s
  | .hostLinkRetrain speed width => Sys2Proof.Machine.execHostLinkRetrain speed width s
  | .pciePowerStateChange d3hot base dev caps => Sys2Proof.Machine.execPciePowerStateChange d3hot base dev caps s
  | .muleEnWrite ch v => Sys2Proof.Machine.execMuleEnWrite ch v s
  | .muleStopWrite ch v => Sys2Proof.Machine.execMuleStopWrite ch v s
  | .muleTailWrite ch v => Sys2Proof.Machine.execMuleTailWrite ch v s
  | .muleResumeLoRead ch => Sys2Proof.Machine.execMuleResumeLoRead ch s
  | .pioWindowWrite ch ws => Sys2Proof.Machine.execPioWindowWrite ch ws s
  | .muleDescriptorFetch ch => Sys2Proof.Machine.execMuleDescriptorFetch ch s
  | .muleReadCompletion ch len reply => Sys2Proof.Machine.execMuleReadCompletion ch len reply s
  | .muleReadTimeout ch => Sys2Proof.Machine.execMuleReadTimeout ch s
  | .ingestRecord ch => Sys2Proof.Machine.execIngestRecord ch s
  | .preverifyBlock seen fault => Sys2Proof.Machine.execPreverifyBlock seen fault s
  | .pageAnnounce => Sys2Proof.Machine.execPageAnnounce s
  | .pageAdmit => Sys2Proof.Machine.execPageAdmit s
  | .pageWithdraw => Sys2Proof.Machine.execPageWithdraw s
  | .pageStatus => Sys2Proof.Machine.execPageStatus s
  | .pageConfig => Sys2Proof.Machine.execPageConfig s
  | .pageGap => Sys2Proof.Machine.execPageGap s
  | .pageSpoil => Sys2Proof.Machine.execPageSpoil s
  | .tosEdge t => Sys2Proof.Machine.execTosEdge t s
  | .posSample input a b t => Sys2Proof.Machine.execPosSample input a b t s
  | .velocityStopTimeout station => Sys2Proof.Machine.execVelocityStopTimeout station s
  | .zEdge input t => Sys2Proof.Machine.execZEdge input t s
  | .strobeCommit lane => Sys2Proof.Machine.execStrobeCommit lane s
  | .timeRefLoss => Sys2Proof.Machine.execTimeRefLoss s
  | .timeRefLock => Sys2Proof.Machine.execTimeRefLock s
  | .gapItemStart => Sys2Proof.Machine.execGapItemStart s
  | .gapItemDone tests eyes => Sys2Proof.Machine.execGapItemDone tests eyes s
  | .gapWantedRepeat => Sys2Proof.Machine.execGapWantedRepeat s
  | .sysIdentify => Sys2Proof.Machine.execSysIdentify s
  | .sysPing => Sys2Proof.Machine.execSysPing s
  | .sysTime => Sys2Proof.Machine.execSysTime s
  | .sysStatus => Sys2Proof.Machine.execSysStatus s
  | .sysPending => Sys2Proof.Machine.execSysPending s
  | .streamBandmap => Sys2Proof.Machine.execStreamBandmap s
  | .codecCompress => Sys2Proof.Machine.execCodecCompress s
  | .codecFlush => Sys2Proof.Machine.execCodecFlush s
  | .codecVerify => Sys2Proof.Machine.execCodecVerify s
  | .codecJobStart => Sys2Proof.Machine.execCodecJobStart s
  | .codecJobDone => Sys2Proof.Machine.execCodecJobDone s
  | .spoolBind => Sys2Proof.Machine.execSpoolBind s
  | .spoolUnbind => Sys2Proof.Machine.execSpoolUnbind s
  | .spoolStatus => Sys2Proof.Machine.execSpoolStatus s
  | .spoolInfo => Sys2Proof.Machine.execSpoolInfo s
  | .spoolRetain => Sys2Proof.Machine.execSpoolRetain s
  | .spoolRepeat => Sys2Proof.Machine.execSpoolRepeat s
  | .spoolRelease => Sys2Proof.Machine.execSpoolRelease s
  | .expStatus => Sys2Proof.Machine.execExpStatus s
  | .expGeomLoad => Sys2Proof.Machine.execExpGeomLoad s
  | .expScreenLoad => Sys2Proof.Machine.execExpScreenLoad s
  | .expToneNeutral => Sys2Proof.Machine.execExpToneNeutral s
  | .expPolicy => Sys2Proof.Machine.execExpPolicy s
  | .expSlack => Sys2Proof.Machine.execExpSlack s
  | .expForecast => Sys2Proof.Machine.execExpForecast s
  | .expEngine => Sys2Proof.Machine.execExpEngine s
  | .blockFetch engine tile err bit => Sys2Proof.Machine.execBlockFetch engine tile err bit s
  | .blockDecodeDone engine tile seen run => Sys2Proof.Machine.execBlockDecodeDone engine tile seen run s
  | .bandLineDone engine dur check place => Sys2Proof.Machine.execBandLineDone engine dur check place s
  | .bandLineRelease engine tile => Sys2Proof.Machine.execBandLineRelease engine tile s
  | .engineHang engine => Sys2Proof.Machine.execEngineHang engine s
  | .replayStart => Sys2Proof.Machine.execReplayStart s
  | .replayDone engine seen run => Sys2Proof.Machine.execReplayDone engine seen run s
  | .selfTestDone engine ok => Sys2Proof.Machine.execSelfTestDone engine ok s
  | .engineWarmupDone engine => Sys2Proof.Machine.execEngineWarmupDone engine s
  | .rotationTimer => Sys2Proof.Machine.execRotationTimer s
  | .posInput => Sys2Proof.Machine.execPosInput s
  | .posTrack => Sys2Proof.Machine.execPosTrack s
  | .posStatus => Sys2Proof.Machine.execPosStatus s
  | .posDelay => Sys2Proof.Machine.execPosDelay s
  | .posMask => Sys2Proof.Machine.execPosMask s
  | .posOverride => Sys2Proof.Machine.execPosOverride s
  | .posLatency => Sys2Proof.Machine.execPosLatency s
  | .timeConfig => Sys2Proof.Machine.execTimeConfig s
  | .lineFrameStart lane poison => Sys2Proof.Machine.execLineFrameStart lane poison s
  | .prbsSlotSend lane => Sys2Proof.Machine.execPrbsSlotSend lane s
  | .codewordRx lane ws => Sys2Proof.Machine.execCodewordRx lane ws s
  | .statusFrameRx lane => Sys2Proof.Machine.execStatusFrameRx lane s
  | .mgmtResponseRx lane => Sys2Proof.Machine.execMgmtResponseRx lane s
  | .mgmtRetryTimeout lane => Sys2Proof.Machine.execMgmtRetryTimeout lane s
  | .probeTimer lane => Sys2Proof.Machine.execProbeTimer lane s
  | .echoRx lane bytes t => Sys2Proof.Machine.execEchoRx lane bytes t s
  | .probeTimeout lane => Sys2Proof.Machine.execProbeTimeout lane s
  | .prbsSlotRx lane => Sys2Proof.Machine.execPrbsSlotRx lane s
  | .acquirePeakTimer lane eye => Sys2Proof.Machine.execAcquirePeakTimer lane eye s
  | .acquireRateTimer lane => Sys2Proof.Machine.execAcquireRateTimer lane s
  | .offlineRetryTimer lane => Sys2Proof.Machine.execOfflineRetryTimer lane s
  | .mgmtOnlyRetryTimer lane => Sys2Proof.Machine.execMgmtOnlyRetryTimer lane s
  | .fastExitTimeout lane => Sys2Proof.Machine.execFastExitTimeout lane s
  | .linkErrorWindow lane eye => Sys2Proof.Machine.execLinkErrorWindow lane eye s
  | .linkStatus => Sys2Proof.Machine.execLinkStatus s
  | .linkTrain => Sys2Proof.Machine.execLinkTrain s
  | .linkConfig => Sys2Proof.Machine.execLinkConfig s
  | .linkEnable => Sys2Proof.Machine.execLinkEnable s
  | .linkErrors => Sys2Proof.Machine.execLinkErrors s
  | .tileInfo => Sys2Proof.Machine.execTileInfo s
  | .tileThermal => Sys2Proof.Machine.execTileThermal s
  | .tileMem => Sys2Proof.Machine.execTileMem s
  | .recDiscard => Sys2Proof.Machine.execRecDiscard s
  | .tilePower => Sys2Proof.Machine.execTilePower s
  | .tilePowerDelayExpiry station => Sys2Proof.Machine.execTilePowerDelayExpiry station s
  | .recordWrite kind location => Sys2Proof.Machine.execRecordWrite kind location s
  | .consStatus => Sys2Proof.Machine.execConsStatus s
  | .consBind => Sys2Proof.Machine.execConsBind s
  | .consAuth => Sys2Proof.Machine.execConsAuth s
  | .consOtpKey => Sys2Proof.Machine.execConsOtpKey s
  | .consPoll acks => Sys2Proof.Machine.execConsPoll acks s
  | .consAuthTimer slot => Sys2Proof.Machine.execConsAuthTimer slot s
  | .consChipResponse slot data ok => Sys2Proof.Machine.execConsChipResponse slot data ok s
  | .consBusyRetry slot => Sys2Proof.Machine.execConsBusyRetry slot s
  | .consIncrement slot => Sys2Proof.Machine.execConsIncrement slot s
  | .camFrameStart port vs => Sys2Proof.Machine.execCamFrameStart port vs s
  | .camLine port clocks => Sys2Proof.Machine.execCamLine port clocks s
  | .camPipeLineDone pipe line => Sys2Proof.Machine.execCamPipeLineDone pipe line s
  | .camTrigPeriod trig => Sys2Proof.Machine.execCamTrigPeriod trig s
  | .camPort => Sys2Proof.Machine.execCamPort s
  | .camMosaic => Sys2Proof.Machine.execCamMosaic s
  | .camStream => Sys2Proof.Machine.execCamStream s
  | .camStats => Sys2Proof.Machine.execCamStats s
  | .camStatus => Sys2Proof.Machine.execCamStatus s
  | .camTrigger => Sys2Proof.Machine.execCamTrigger s
  | .camI2c acks data => Sys2Proof.Machine.execCamI2c acks data s
  | .calView => Sys2Proof.Machine.execCalView s
  | .calConfig => Sys2Proof.Machine.execCalConfig s
  | .calStart => Sys2Proof.Machine.execCalStart s
  | .calStop => Sys2Proof.Machine.execCalStop s
  | .calResult => Sys2Proof.Machine.execCalResult s
  | .calWindowTimeout kind subject => Sys2Proof.Machine.execCalWindowTimeout kind subject s
  | .calInterval kind subject => Sys2Proof.Machine.execCalInterval kind subject s
  | .loopTick vmon imon overruns => Sys2Proof.Machine.execLoopTick vmon imon overruns s
  | .progStepTimeout inst => Sys2Proof.Machine.execProgStepTimeout inst s
  | .progInstanceExpiry inst => Sys2Proof.Machine.execProgInstanceExpiry inst s
  | .seqInEdge input level => Sys2Proof.Machine.execSeqInEdge input level s
  | .hvArcEdge chan => Sys2Proof.Machine.execHvArcEdge chan s
  | .hvArcHoldExpiry chan => Sys2Proof.Machine.execHvArcHoldExpiry chan s
  | .hvComplianceEnd chan => Sys2Proof.Machine.execHvComplianceEnd chan s
  | .thermistorSample codes => Sys2Proof.Machine.execThermistorSample codes s
  | .fusZcEdge => Sys2Proof.Machine.execFusZcEdge s
  | .fusZcTimeout => Sys2Proof.Machine.execFusZcTimeout s
  | .fuserComparatorTrip zone => Sys2Proof.Machine.execFuserComparatorTrip zone s
  | .loopConfig => Sys2Proof.Machine.execLoopConfig s
  | .loopCoef => Sys2Proof.Machine.execLoopCoef s
  | .loopMode => Sys2Proof.Machine.execLoopMode s
  | .loopSetpoint => Sys2Proof.Machine.execLoopSetpoint s
  | .loopStatus => Sys2Proof.Machine.execLoopStatus s
  | .hvConfig => Sys2Proof.Machine.execHvConfig s
  | .fusConfig => Sys2Proof.Machine.execFusConfig s
  | .progLoad => Sys2Proof.Machine.execProgLoad s
  | .progStatus => Sys2Proof.Machine.execProgStatus s
  | .seqIo => Sys2Proof.Machine.execSeqIo s
  | .pwmPeriod axis su sv sw => Sys2Proof.Machine.execPwmPeriod axis su sv sw s
  | .drvFaultInput axis => Sys2Proof.Machine.execDrvFaultInput axis s
  | .axisStopTimeout axis => Sys2Proof.Machine.execAxisStopTimeout axis s
  | .axisAlignDone axis => Sys2Proof.Machine.execAxisAlignDone axis s
  | .busSample bus vbus isns => Sys2Proof.Machine.execBusSample bus vbus isns s
  | .chopperDetectTimeout bus => Sys2Proof.Machine.execChopperDetectTimeout bus s
  | .vbusHardTrip bus => Sys2Proof.Machine.execVbusHardTrip bus s
  | .microstep axis => Sys2Proof.Machine.execMicrostep axis s
  | .stepHoldTimeout axis => Sys2Proof.Machine.execStepHoldTimeout axis s
  | .switchEdge axis switch level accepted => Sys2Proof.Machine.execSwitchEdge axis switch level accepted s
  | .chatterWindowEnd axis switch => Sys2Proof.Machine.execChatterWindowEnd axis switch s
  | .axisConfig => Sys2Proof.Machine.execAxisConfig s
  | .axisAdvance => Sys2Proof.Machine.execAxisAdvance s
  | .axisAlign => Sys2Proof.Machine.execAxisAlign s
  | .axisEnable => Sys2Proof.Machine.execAxisEnable s
  | .axisStart => Sys2Proof.Machine.execAxisStart s
  | .axisStatus => Sys2Proof.Machine.execAxisStatus s
  | .axisBus => Sys2Proof.Machine.execAxisBus s
  | .stepConfig => Sys2Proof.Machine.execStepConfig s
  | .stepMove => Sys2Proof.Machine.execStepMove s
  | .stepHome => Sys2Proof.Machine.execStepHome s
  | .stepStop => Sys2Proof.Machine.execStepStop s
  | .stepStatus => Sys2Proof.Machine.execStepStatus s
  | .scrubRead store err bit dropped => Sys2Proof.Machine.execScrubRead store err bit dropped s
  | .scrubLateTimeout store => Sys2Proof.Machine.execScrubLateTimeout store s
  | .ddrSweepStart chan temps => Sys2Proof.Machine.execDdrSweepStart chan temps s
  | .ddrSweepPause chan last found centre => Sys2Proof.Machine.execDdrSweepPause chan last found centre s
  | .extentMigrate ok => Sys2Proof.Machine.execExtentMigrate ok s
  | .memFillExtentDone => Sys2Proof.Machine.execMemFillExtentDone s
  | .memTrainDone ok => Sys2Proof.Machine.execMemTrainDone ok s
  | .chkScanDone engine err => Sys2Proof.Machine.execChkScanDone engine err s
  | .memStatus => Sys2Proof.Machine.execMemStatus s
  | .memConfig => Sys2Proof.Machine.execMemConfig s
  | .memFill => Sys2Proof.Machine.execMemFill s
  | .memTest => Sys2Proof.Machine.execMemTest s
  | .memRate => Sys2Proof.Machine.execMemRate s
  | .memTrain => Sys2Proof.Machine.execMemTrain s
  | .memRetire => Sys2Proof.Machine.execMemRetire s
  | .chkScan => Sys2Proof.Machine.execChkScan s
  | .gooseWatchdogExpiry => Sys2Proof.Machine.execGooseWatchdogExpiry s
  | .coreWatchdogExpiry => Sys2Proof.Machine.execCoreWatchdogExpiry s
  | .safeInEdge chan => Sys2Proof.Machine.execSafeInEdge chan s
  | .safeInDetailTimer => Sys2Proof.Machine.execSafeInDetailTimer s
  | .hvInterlockChange ilk level => Sys2Proof.Machine.execHvInterlockChange ilk level s
  | .vinSample code => Sys2Proof.Machine.execVinSample code s
  | .machinePorAssert => Sys2Proof.Machine.execMachinePorAssert s
  | .machinePorRelease => Sys2Proof.Machine.execMachinePorRelease s
  | .sysRstN => Sys2Proof.Machine.execSysRstN s
  | .engWake => Sys2Proof.Machine.execEngWake s
  | .powerSeqStep rail => Sys2Proof.Machine.execPowerSeqStep rail s
  | .powerSeqTimeout => Sys2Proof.Machine.execPowerSeqTimeout s
  | .powerDownStep => Sys2Proof.Machine.execPowerDownStep s
  | .pwrPgLoss rail => Sys2Proof.Machine.execPwrPgLoss rail s
  | .engineAutoRestart => Sys2Proof.Machine.execEngineAutoRestart s
  | .dieTempSample machine values => Sys2Proof.Machine.execDieTempSample machine values s
  | .supStatus => Sys2Proof.Machine.execSupStatus s
  | .supConfig => Sys2Proof.Machine.execSupConfig s
  | .supOutput => Sys2Proof.Machine.execSupOutput s
  | .supTrip => Sys2Proof.Machine.execSupTrip s
  | .supClear => Sys2Proof.Machine.execSupClear s
  | .supLog => Sys2Proof.Machine.execSupLog s
  | .thermStatus => Sys2Proof.Machine.execThermStatus s
  | .thermConfig => Sys2Proof.Machine.execThermConfig s
  | .bootRomStart => Sys2Proof.Machine.execBootRomStart s
  | .fwReady => Sys2Proof.Machine.execFwReady s
  | .heartbeatTick => Sys2Proof.Machine.execHeartbeatTick s
  | .coreRestart => Sys2Proof.Machine.execCoreRestart s
  | .fwLoadDone => Sys2Proof.Machine.execFwLoadDone s
  | .fwPreloadDone ok => Sys2Proof.Machine.execFwPreloadDone ok s
  | .handoverComplete ok => Sys2Proof.Machine.execHandoverComplete ok s
  | .wakeTimer => Sys2Proof.Machine.execWakeTimer s
  | .fwStatus => Sys2Proof.Machine.execFwStatus s
  | .fwLoad => Sys2Proof.Machine.execFwLoad s
  | .fwActivate => Sys2Proof.Machine.execFwActivate s
  | .fwCommit => Sys2Proof.Machine.execFwCommit s
  | .lifeIdle => Sys2Proof.Machine.execLifeIdle s
  | .lifeStandby => Sys2Proof.Machine.execLifeStandby s
  | .lifeWake => Sys2Proof.Machine.execLifeWake s
  | .ctrRead => Sys2Proof.Machine.execCtrRead s
  | .ctrClear => Sys2Proof.Machine.execCtrClear s
  | .testPrbs => Sys2Proof.Machine.execTestPrbs s
  | .injArm => Sys2Proof.Machine.execInjArm s
  | .spineFrameRx toMachine corrected ok => Sys2Proof.Machine.execSpineFrameRx toMachine corrected ok s
  | .jtagInstruction machine code => Sys2Proof.Machine.execJtagInstruction machine code s
  | .blockLock lane headers => Sys2Proof.Machine.execBlockLock lane headers s
  | .idleEnterRx rx => Sys2Proof.Machine.execIdleEnterRx rx s
  | .safeInHealthy chan => Sys2Proof.Machine.execSafeInHealthy chan s
  | .consBusTimeout slot => Sys2Proof.Machine.execConsBusTimeout slot s
  | .trialFailed => Sys2Proof.Machine.execTrialFailed s
  | .lifecyclePowerDown => Sys2Proof.Machine.execLifecyclePowerDown s
  | .prbsCheckerSync spine index bits => Sys2Proof.Machine.execPrbsCheckerSync spine index bits s

end Sys2Proof.Machine
end

