-- ==== Sys2Proof/Machine/Idle.lean ====
section
/-! DEFINITION. What the block does while no command waits: Rooster time goes on, and firmware ends the background work that no row of
the table ends (R168, R347). -/

namespace Sys2Proof.Machine

/-- The screen slot whose load is under way, the lowest first. -/
def loadingScreen (s : State) : Option Nat := findIdx (fun (c : Screen) => !c.loading.isEmpty) s.exp.screens

/-- Firmware ends one background job: a screen load, a program load, or the EXP.TONE_NEUTRAL commands whose stations are neutral. -/
def idleWork (s : State) : State :=
  match loadingScreen s with
  | some i => screenLoaded i s
  | none => match s.loop.loads with
    | j :: _ => progLoaded j s
    | [] => neutralEnd s

/-- An idle step: 2.5 ns of Rooster time, and background work where firmware is READY. -/
def idleTick (s : State) : State := when (fwReady s) idleWork (atTime (s.now + 2500) s)

end Sys2Proof.Machine
end

