-- ==== Sys2Proof/Machine/Balls.lean ====
section
/-! DEFINITION. What the machine-facing outputs, the camera triggers and the power controls drive in every state (R339, R343, R361,
R382, R427, R433 to R435, R505). -/

namespace Sys2Proof.Machine

/-- What an output ball drives: an analog or PWM code; a gate active for a share of its period (ps) in 1/32,768, less `off` ps; or a
bridge side active until its comparator trips, then in slow decay for a time (ps). -/
inductive Pin where
  | highZ | inactive | active
  | code (n : Nat)
  | duty (n period off : Nat)
  | untilTrip (decay : Nat)
  deriving DecidableEq, Repr

def pinOf (on : Bool) : Pin := if on then .active else .inactive

/-- The logic level of an output with an active level; none in high impedance, for a code and for a PWM. -/
def pinLevel (activeHigh : Bool) (p : Pin) : Option Bool :=
  match p with
  | .active => some activeHigh
  | .inactive => some !activeHigh
  | _ => none

/-- A safe action (Table 14.4): 0 releases the ball, 1 drives it inactive, 2 active. -/
def safePin (action : Nat) : Pin :=
  match action with
  | 0 => .highZ
  | 1 => .inactive
  | _ => .active

/-- Ball `i` of output group `g` (R427, R428, R433, R435): high impedance in a reset of its die and until firmware configures it; its
safe action while the safe state holds; else what its block drives. -/
def groupPin (s : State) (dieOn configured : Bool) (g i : Nat) (block : Pin) : Pin :=
  if !dieOn || !configured then .highZ else if s.sup.safe then safePin (safeAction s g i) else block

/-- HV_EN[n] (R339, R342, R432; group 3). -/
def hvEnPin (s : State) (n : Nat) : Pin :=
  groupPin s (macOn s) (hvOf s n).configured 3 n (pinOf (hvOn (hvOf s n) && !hvOpen s n))

/-- HV_REF[n] (R339, R341, R432; group 2): action 1 is code 0. -/
def hvRefPin (s : State) (n : Nat) : Pin :=
  match groupPin s (macOn s) (hvOf s n).configured 2 n (.code (if hvOpen s n then 0 else (hvOf s n).ref)) with
  | .inactive => .code 0
  | p => p

/-- FUS_GATE[z] (R343, R346; group 4): in PWM mode active for u ÷ 32,768 of each FPER; in zero-cross mode active in the pulses that
`Out.fire` gives. A comparator beyond its threshold forces every gate inactive. -/
def fusGatePin (s : State) (z : Nat) : Pin :=
  let f := zoneOf s z
  groupPin s (macOn s) f.configured 4 z
    (if fuserHeld s then .inactive
     else if f.zeroCross then pinOf (s.out.any (fun o => match o with
       | .fire y t w => y == z && decide (t ≤ s.now ∧ s.now < t + w)
       | _ => false))
     else .duty f.duty (f.fper * 1000000) 0)

/-- SEQ_OUT[n] (R356; group 5). -/
def seqOutPin (s : State) (n : Nat) : Pin :=
  let o := s.loop.seqOut.getD n {}
  groupPin s (macOn s) o.driven 5 n (pinOf o.active)

/-- WG_OUT[st] (R31, R465; group 6). -/
def wgOutPin (s : State) (st : Nat) : Pin :=
  match s.page.wgOut.getD st .highZ with
  | .highZ => .highZ
  | .inactive => groupPin s (macOn s) true 6 st .inactive
  | .active => groupPin s (macOn s) true 6 st .active

/-- CAM_TRIG[t] (R289; group 7), a ball of the engine die. -/
def camTrigPin (s : State) (t : Nat) : Pin :=
  let g := s.cam.trigs.getD t {}
  groupPin s (engOn s) (g.mode != 0) 7 t (pinOf (decide (2 ≤ g.mode ∧ s.now < g.pulseEnd)))

/-- TSB_EN[st] (R256; group 8). -/
def tsbPin (s : State) (st : Nat) : Pin :=
  let b := s.tile.tsb.getD st {}
  groupPin s (macOn s) b.driven 8 st (pinOf b.on)

/-- BRK_GATE[b] (Table 14.4): it has no safe action, and chopper control continues. -/
def brkGatePin (s : State) (b : Nat) : Pin :=
  let x := s.motion.buses.getD b {}
  if !macOn s || !x.configured then .highZ else pinOf (x.on && !x.fault)

/-- The gates of a drive axis, UH, UL, VH, VL, WH, WL (Table 12.1; group 0): action 1 holds every gate inactive, and under action 2 the
axis is in ASC or FAULT. The low gate of a phase is active for what its high gate and the dead time at both transitions leave (R369). -/
def drivePins (s : State) (a : Nat) : List Pin :=
  let d := drv s a
  let period := 1000000000 / Nat.max 1 d.cfg.fpwm
  let pwm (n : Nat) : List Pin := [.duty n period 0, .duty (32768 - n) period (2 * (d.cfg.dt * 10000))]
  let act := safeAction s 0 a
  if !macOn s || d.st == .off || (s.sup.safe && act == 0) then List.replicate 6 .highZ
  else match d.st with
    | .asc => if s.sup.safe && act == 1 then List.replicate 6 .inactive else [.inactive, .active, .inactive, .active, .inactive, .active]
    | .run | .aligning =>
      if s.sup.safe then List.replicate 6 .inactive else pwm d.duty.1 ++ pwm d.duty.2.1 ++ pwm d.duty.2.2
    | _ => List.replicate 6 .inactive

/-- A phase of a stepper bridge, its 1 and 2 sides (R382): in quiet mode sign-magnitude PWM at SPWM, in strong mode driven on the side
of the sign until STPn_CMPx trips, then in slow decay for TOFF. -/
def phasePins (c : StepCfg) (strong : Bool) (i : Int) : List Pin :=
  let on : Pin := if i = 0 then .inactive else if strong then .untilTrip (c.toff * 1000000) else .duty i.natAbs (1000000000 / Nat.max 1 c.spwm) 0
  if 0 ≤ i then [on, .inactive] else [.inactive, on]

/-- STPn_A1, _A2, _B1, _B2 (R382; group 1). -/
def stepPins (s : State) (a : Nat) : List Pin :=
  let x := stp s a
  if !macOn s || x.st == .off then List.replicate 4 .highZ
  else if s.sup.safe then List.replicate 4 (safePin (safeAction s 1 a))
  else if x.st == .disabled then List.replicate 4 .inactive
  else phasePins x.cfg x.strong (phaseA x) ++ phasePins x.cfg x.strong (phaseB x)

/-- STPn_REFA and _REFB in strong mode (R382); none in quiet mode, in which the spec gives them no code. -/
def stepRefs (s : State) (a : Nat) : Option (List Pin) :=
  let x := stp s a
  if !macOn s || x.st == .off then some [.highZ, .highZ]
  else if s.sup.safe then some (List.replicate 2 (safePin (safeAction s 1 a)))
  else if x.strong then some [.code (phaseA x).natAbs, .code (phaseB x).natAbs]
  else none

/-- The SPI balls are driven: not while neither bank is valid and the boot ROM has released them (R455). -/
def spiDriven (s : State) : Bool := engOn s && !s.fw.parked

/-- PWR_EN[n] and ENG_RST_OUT (R434). -/
def pwrEnPin (s : State) (n : Nat) : Pin := if !macOn s then .highZ else pinOf (s.sup.power.en.getLsbD n)
def engRstPin (s : State) : Pin := if !macOn s then .highZ else pinOf s.sup.power.engRst

/-- The logic levels of the outputs whose active level a command sets: WG_OUT (Table 1.7), FUS_GATE (Table 11.12), SEQ_OUT
(R356), CAM_TRIG (R289), TSB_EN (R256), the gates of a drive axis and of a brake chopper (Table 12.4). -/
def wgOutLevel (s : State) (st : Nat) : Option Bool := pinLevel s.page.cfg.wgHigh (wgOutPin s st)
def fusGateLevel (s : State) (z : Nat) : Option Bool := pinLevel (zoneOf s z).gateHigh (fusGatePin s z)
def driveLevels (s : State) (a : Nat) : List (Option Bool) := (drivePins s a).map (pinLevel (drv s a).cfg.gateHigh)
def seqOutLevel (s : State) (n : Nat) : Option Bool := pinLevel (s.loop.seqOut.getD n {}).activeHigh (seqOutPin s n)
def camTrigLevel (s : State) (t : Nat) : Option Bool := pinLevel (s.cam.trigs.getD t {}).high (camTrigPin s t)
def tsbLevel (s : State) (st : Nat) : Option Bool := pinLevel (s.tile.tsb.getD st {}).activeHigh (tsbPin s st)
def brkGateLevel (s : State) (b : Nat) : Option Bool := pinLevel (s.motion.buses.getD b {}).gateHigh (brkGatePin s b)

/-- Pair C of a position input drives in SSI and resolver mode, and pairs A, B and Z are terminated in incremental and SSI mode
(R505). -/
def pairCDrives (p : PosInput) : Bool := p.mode == 3 || p.mode == 4
def pairTerminated (p : PosInput) : Bool := p.mode == 1 || p.mode == 4

end Sys2Proof.Machine
end

