-- ==== Sys2Proof/Safety.lean ====
section
/-! DEFINITION. The terms that statements use: a step that completes, the bounds that the block keeps, and a mailbox
command that the firmware takes. -/

namespace Sys2Proof.Machine

/-- The step answers a next state. -/
def Completes (s : State) : Prop := ∃ t, step s = .next t

/-- `t` is reached from `s` by `n` steps that all complete. -/
def reaches : Nat → State → State → Prop
  | 0, s, t => s = t
  | n + 1, s, t => ∃ u, step s = .next u ∧ reaches n u t

/-- The bounds of the host interface, `n` of them for outstanding commands: an enabled ring holds at most its N records (R55, R56), the backlog at most 1,024
(R57), at most `n` deferred and background commands are outstanding (R51: 60), and host memory, which is the model's own
data, is in its canonical form. -/
def boundsOk (n : Nat) (h : HostState) (m : Bytes) : Prop :=
  (h.evrEn = true → ringUsed h ≤ ringSize h) ∧ h.backlog.length ≤ backlogMax ∧ h.outstanding.length ≤ n ∧ memWf m = true

/-- The bounds, of a whole state. -/
def BoundedBy (n : Nat) (s : State) : Prop := boundsOk n s.host s.hostMem

/-- The bounds with the limit of R51. -/
def Bounded (s : State) : Prop := BoundedBy outstMax s

/-- The firmware takes the slot `n` with the words `ws` next: its command is `code`, every field that the command's
table does not assign is 0 (check 2 of R44), and a further command may be outstanding (R51). -/
def Accepts (s : State) (code : Nat) (masks : List Nat) (n : Nat) (ws : List Word) : Prop :=
  takeable s = some (n, ws) ∧ bits (wordAt ws 0) 0 16 = code ∧ paramsOk masks ws = true ∧ s.host.outstanding.length < outstMax

/-- The state with the slot at the head of the ring order taken. -/
def taken (s : State) : State := { s with host := { s.host with order := s.host.order.tail } }

/-- The state `u` with slot `n` answered ST_OK and the result words. -/
abbrev okReply (n : Nat) (results : List Nat) (u : State) : State := respond n stOk results u

/-- The state `u` with slot `n` answered ST_PENDING, its command outstanding under the name `oid` (R48, R51). -/
abbrev pendingReply (n : Nat) (ws : List Word) (oid : Nat) (u : State) : State := respond n stPending [] (pushOutst n ws stPending oid u)

/-- The state `u` with slot `n` answered ST_DEFERRED, its command outstanding under the name `oid` (R48, R51). -/
abbrev deferredReply (n : Nat) (ws : List Word) (oid : Nat) (u : State) : State := respond n stDeferred [] (pushOutst n ws stDeferred oid u)

end Sys2Proof.Machine
end

