-- ==== Sys2Proof/Certificates/Slice0/Obligations.lean ====
section
/-! DEFINITION. The statements for the provers. -/

open Sys2Proof Sys2Proof.Machine

/-- For every command c, every queue q and every state s: a step of the state whose queue is c followed by q is exec of c on the state
whose queue is q. The queue is the model's own (notes/assumptions/1.md). -/
def Obligations.StepRunsTheFrontCommand : Prop :=
  ∀ (c : Instr) (q : List Instr) (s : State), step { s with pending := c :: q } = exec c { s with pending := q }

/-- With no command waiting a step completes: while firmware is not READY it moves Rooster time on by 2,500 ps and changes nothing
else; with firmware READY and no background job of firmware open, it likewise changes nothing else, save that EXP.TONE_NEUTRAL
commands whose stations are done complete (the model's choice, notes/assumptions/2.md). -/
def Obligations.EmptyQueueIdles : Prop :=
  ∀ s : State, s.pending = [] →
    (fwReady s = false → step s = .next { s with now := s.now + 2500 })
    ∧ (fwReady s = true → loadingScreen s = none → s.loop.loads = [] →
        step s = .next (neutralEnd { s with now := s.now + 2500 }))

/-- The table gives no row any bits: decodeTableWord answers none on every word, and withFetchWord leaves the state as it was. -/
def Obligations.TableWordsSpellNoCommand : Prop :=
  ∀ (nbits w : Nat) (s : State), Sys2Proof.decodeTableWord nbits w = none ∧ s.withFetchWord nbits w = s

/-- At reset an enabled ring holds at most N records, the backlog at most 1,024, at most 60 commands are outstanding, and host memory
is in its canonical form. -/
def Obligations.BoundsAtReset : Prop := Bounded State.reset

/-- From every state within the bounds a step answers a next state, and that state is within them: no step writes an event over a
record the host has not consumed (EVR_WRITE − EVR_READ stays at most N while the ring is enabled, R55, R56), the backlog never
holds more than 1,024 records (R57), at most 60 deferred and background commands are outstanding (R51), and host memory keeps the
canonical form of the model's data. -/
def Obligations.EveryStepKeepsTheBounds : Prop :=
  ∀ s : State, Bounded s → ∃ t, step s = .next t ∧ Bounded t

/-- From every state within the bounds, and for every n, n steps complete, and every state they reach is within the bounds. -/
def Obligations.RunsKeepTheBounds : Prop :=
  ∀ (n : Nat) (s : State), Bounded s → (∃ t, reaches n s t) ∧ ∀ t, reaches n s t → Bounded t

/-- Serving one command code: with no slot that can be taken nothing changes. A slot taken with a code that no table knows answers
ST_BAD_CMD. A command whose reserved or unassigned bits are not all 0 answers ST_BAD_PARAM. A deferred or background command taken
while 60 are outstanding answers ST_BUSY. In all three the slot leaves the order and nothing but the response is written.
Otherwise the answer is what the command's own work gives. -/
def Obligations.ServingChecksInOrder : Prop :=
  ∀ (code : Nat) (cls : CmdClass) (masks : List Nat) (body : List Word → State → Ans) (s : State) (n : Nat) (ws : List Word),
    (takeable s = none → serve code cls masks body s = s)
    ∧ (takeable s = some (n, ws) →
        (knownCode (bits (wordAt ws 0) 0 16) = false → serve code cls masks body s = respond n stBadCmd [] (taken s))
        ∧ (knownCode code = true → bits (wordAt ws 0) 0 16 = code → paramsOk masks ws = false →
            serve code cls masks body s = respond n stBadParam [] (taken s))
        ∧ (knownCode code = true → bits (wordAt ws 0) 0 16 = code → paramsOk masks ws = true → cls ≠ .immediate →
            60 ≤ s.host.outstanding.length → serve code cls masks body s = respond n stBusy [] (taken s))
        ∧ (knownCode code = true → bits (wordAt ws 0) 0 16 = code → paramsOk masks ws = true → s.host.outstanding.length < 60 →
            serve code cls masks body s = answer n ws s.host.nextOid (body ws (taken s))))

/-- Writing a response of a status and result words to slot n: word 0 stays, word 1 holds the status with the result length above it,
the result words follow from word 2, the words behind them stay, the slot is DONE and SLOT_DONE bit n is set; every other slot
stays. Where IRQ (bit 16 of word 0) is 0 nothing else changes; where it is 1, INT_STATUS.MBX is set too, and only the host
interface, its memory writes and messages may change besides. -/
def Obligations.ResponseIsWritten : Prop :=
  ∀ (n status : Nat) (results : List Nat) (s : State) (q : Slot), s.host.slots[n]? = some q →
    let t := respond n status results s
    t.host.slots = s.host.slots.set n (Slot.mk (q.words.take 1 ++ [BitVec.ofNat 32 (status + results.length * 65536)]
        ++ results.map (BitVec.ofNat 32) ++ q.words.drop (2 + results.length)) .done)
    ∧ t.host.slotDone = s.host.slotDone ||| (1#16 <<< n)
    ∧ (bitOf (wordAt q.words 0) 16 = false →
        t = { s with host := { s.host with slots := t.host.slots, slotDone := t.host.slotDone } })
    ∧ (bitOf (wordAt q.words 0) 16 = true → t.host.intStatus = s.host.intStatus ||| 1
        ∧ t = { s with host := t.host, ctr := t.ctr, hostMem := t.hostMem, out := t.out })

/-- Raising an event on a running engine die. With the ring enabled, reachable and with room, firmware READY and nothing in the
backlog, the 32 bytes of the record stand at EVR_BASE + (EVR_WRITE mod N) × 32, EVR_WRITE has advanced by one, and with SHADOW_EN
the new EVR_WRITE stands at the shadow address (without the shadow every other byte of host memory is as before). Otherwise the
record joins the backlog behind those that wait, if it holds fewer than 1,024; with 1,024 waiting it is lost and counted. Nothing
but the host interface, the counters, host memory and the messages sent changes. -/
def Obligations.EventReachesRingOrBacklog : Prop :=
  ∀ (code source page line d0 d1 d2 : Nat) (s : State), engOn s = true →
    let r : EventRec := {
      time := BitVec.ofNat 64 (s.now / 1000), code := BitVec.ofNat 16 code, source := BitVec.ofNat 16 source
      pageId := BitVec.ofNat 32 page, line := BitVec.ofNat 32 line, d0 := BitVec.ofNat 32 d0, d1 := BitVec.ofNat 32 d1, d2 := BitVec.ofNat 32 d2 }
    let t := raise code source page line d0 d1 d2 s
    let there := ringOpen (envOf s) s.host = true ∧ s.host.backlog = []
    (there → t.host.evrWrite = s.host.evrWrite + 1 ∧ t.host.backlog = []
      ∧ (s.host.shadowEn = false → memRead t.hostMem (ringAddr s.host) 32 = eventBytes r
          ∧ ∀ a, (a < ringAddr s.host ∨ ringAddr s.host + 32 ≤ a) → memGet t.hostMem a = memGet s.hostMem a)
      ∧ (s.host.shadowEn = true →
          memRead t.hostMem (s.host.shadowHi.toNat * 2 ^ 32 + s.host.shadowLo.toNat) 4 = leBytes 4 (s.host.evrWrite + 1).toNat))
    ∧ (¬ there → t.hostMem = s.hostMem ∧ t.host.evrWrite = s.host.evrWrite
      ∧ (s.host.backlog.length < 1024 → t.host.backlog = s.host.backlog ++ [r] ∧ t.ctr = s.ctr)
      ∧ (1024 ≤ s.host.backlog.length → t.host.backlog = s.host.backlog ∧ t.host.lostSince = s.host.lostSince + 1))
    ∧ t = { s with host := t.host, ctr := t.ctr, hostMem := t.hostMem, out := t.out }

/-- Adding n to a counter instance: a class W counter holds the sum modulo two to its width, and nothing else changes. A counter of
another class holds the sum held at all ones; its SAT bit is set once the sum passes all ones, and without that nothing but the
value changes. EV_CTR_SAT is raised only where the SAT bit becomes set. Every other instance keeps its value, save the counter of
EV_CTR_SAT itself. -/
def Obligations.CountersFollowTheirClass : Prop :=
  ∀ (id inst n : Nat) (d : CtrDesc) (s : State), ctrDesc id = some d →
    let v := ctrVal s id inst
    let t := bump id inst n s
    (d.cls = .w → t = { s with ctr := { s.ctr with vals := natSet s.ctr.vals (ctrKey id inst) ((v + n) % 2 ^ d.width) } })
    ∧ (d.cls ≠ .w → (v + n < 2 ^ d.width ∨ s.ctr.sat.contains (ctrKey id inst) = true) →
        t = { s with ctr := { s.ctr with vals := natSet s.ctr.vals (ctrKey id inst) (Nat.min (2 ^ d.width - 1) (v + n)) } })
    ∧ (d.cls ≠ .w → 2 ^ d.width ≤ v + n → s.ctr.sat.contains (ctrKey id inst) = false → ctrKey id inst ≠ ctrKey 0x0F07 0 →
        engOn s = true → s.host.backlog.length < 1023 →
        ctrVal t id inst = 2 ^ d.width - 1 ∧ t.ctr.sat.contains (ctrKey id inst) = true)
    ∧ (d.cls = .w → ctrVal t id inst = (v + n) % 2 ^ d.width)

/-- REGISTER_WRITE with BAR access decoded completes. SCRATCH takes the value; ACC_ERR, SLOT_DONE and INT_STATUS lose the bits written
as 1 and no others; DIAG_EN and its region, INT_EN and the moderation fields take their bits; the ring base takes its value while
EN is 0 and discards it while EN is 1 (R54); a write to the identity block (offset 0) changes nothing. Nothing else changes in any
of these. A write to a word that no register table lists is discarded and recorded as RESERVED_ADDR (R42). Without BAR access
nothing changes. -/
def Obligations.RegisterWritesFollowAccessCodes : Prop :=
  ∀ (v : Word) (s : State),
    (barOn s = true →
      exec (.registerWrite 0x028 v) s = .next { s with host := { s.host with scratch := v } }
      ∧ exec (.registerWrite 0x030 v) s = .next { s with host := { s.host with accErr := s.host.accErr &&& ~~~(v.setWidth 6) } }
      ∧ exec (.registerWrite 0x040 v) s
          = .next { s with host := { s.host with diagEn := v.getLsbD 0, diagRegion := (v >>> 4).setWidth 2 } }
      ∧ exec (.registerWrite 0x2008 v) s = .next { s with host := { s.host with slotDone := s.host.slotDone &&& ~~~(v.setWidth 16) } }
      ∧ exec (.registerWrite 0x3020 v) s
          = .next { s with host := { s.host with intStatus := s.host.intStatus &&& ~~~(v.setWidth 4) } }
      ∧ exec (.registerWrite 0x3024 v) s = .next { s with host := { s.host with intEn := v.setWidth 4 } }
      ∧ exec (.registerWrite 0x301C v) s
          = .next { s with host := { s.host with modCount := v.setWidth 16, modTimer := (v >>> 16).setWidth 16 } }
      ∧ (s.host.evrEn = true → exec (.registerWrite 0x3000 v) s = .next s)
      ∧ (s.host.evrEn = false →
          exec (.registerWrite 0x3000 v) s = .next { s with host := { s.host with evrBaseLo := v &&& 0xFFFFF000 } })
      ∧ exec (.registerWrite 0 v) s = .next s
      ∧ (∀ off, regListed off = false → exec (.registerWrite off v) s = .next (accErr 1 off false s)))
    ∧ (barOn s = false → ∀ off, exec (.registerWrite off v) s = .next s)

/-- With BAR access decoded, BAD_SIZE_ACCESS, a RESERVED_ADDR_ACCESS write of an offset that no register table lists and BAR2_WRITE
complete: each sets its bit of ACC_ERR (0, 1, 2), records the offset and the BAR, and counts in counter 0x0101; a read of them
returns 0. A RESERVED_ADDR_ACCESS read returns 0 and records nothing; an offset that a table lists is no such access. Nothing else
changes. -/
def Obligations.AccessErrorsAreRecorded : Prop :=
  ∀ (off : Nat) (s : State), barOn s = true →
    let err (bit : Nat) (bar2 : Bool) (s : State) : State :=
      tick 0x0101 0 { s with host := { s.host with
        accErr := s.host.accErr ||| (1#6 <<< bit), accErrAddr := BitVec.ofNat 26 off, accErrBar := bar2 } }
    exec (.badSizeAccess true off) s = .next (err 0 false s)
    ∧ exec (.badSizeAccess false off) s = .next (err 0 false { s with out := .read 0 :: s.out })
    ∧ (regListed off = false → exec (.reservedAddrAccess true off) s = .next (err 1 false s)
        ∧ exec (.reservedAddrAccess false off) s = .next { s with out := .read 0 :: s.out })
    ∧ (regListed off = true → ∀ w, exec (.reservedAddrAccess w off) s = .next s)
    ∧ exec (.bar2Write off) s = .next (err 2 true s)

/-- TIME_LO_READ with BAR access returns the low half of Rooster time in ns and latches the high half in TIME_HI. BAR2_READ returns 0
while DIAG_EN is 0; with DIAG_EN 1 in region 0 it returns the four line-store bytes at the offset rounded down to a word: alone
where the word is clean, with the correctable error at bit b recorded where one was corrected (R396), and all ones with the
uncorrectable error recorded (R397) where the word is lost. Nothing else changes. Operand: 0 clean, 1 + b corrected at bit b, 73
or more uncorrectable. -/
def Obligations.TimeAndDiagnosticReads : Prop :=
  ∀ (off : Nat) (s : State), barOn s = true →
    exec .timeLoRead s = .next { s with
      host := { s.host with timeHi := BitVec.ofNat 32 (s.now / 1000 / 2 ^ 32) }, out := .read (BitVec.ofNat 32 (s.now / 1000)) :: s.out }
    ∧ (s.host.diagEn = false → ∀ ue, exec (.bar2Read off ue) s = .next { s with out := .read 0 :: s.out })
    ∧ (s.host.diagEn = true → s.host.diagRegion = 0 → off < 2 ^ 26 →
        let got (t : State) := emit (.read (BitVec.ofNat 32 (leNat ((List.range 4).map (fun i => storeByte t (off - off % 4 + i)))))) t
        exec (.bar2Read off 0) s = .next (got s)
        ∧ (∀ b, b < 72 → exec (.bar2Read off (1 + b)) s = .next (got (memCe false 0 ((off - off % 4) / 8) b none s)))
        ∧ (∀ e, 72 < e → exec (.bar2Read off e) s = .next (emit (.read 0xFFFFFFFF) (memUe false 0 ((off - off % 4) / 8) 1 s))))

/-- With BAR access, MAILBOX_SLOT_WRITE to a slot in IDLE or DONE replaces the words from its index and changes nothing else; to a
slot in POSTED or ACTIVE it is discarded and recorded as SLOT_OWNED (bit 3). DOORBELL completes: the rung slots that the host owns
join the ring order behind those that wait, in ascending number; each of them is POSTED with its words kept; every other slot
keeps its state and words. -/
def Obligations.MailboxSlotsAndDoorbell : Prop :=
  ∀ (s : State), barOn s = true →
    (∀ (n word : Nat) (ws : List Word), n < 16 → word + ws.length ≤ 64 →
      (hostOwns s n = true → exec (.mailboxSlotWrite n word ws) s = .next { s with host := { s.host with
          slots := s.host.slots.modify n (fun q => { q with words := q.words.take word ++ ws ++ q.words.drop (word + ws.length) }) } })
      ∧ (hostOwns s n = false → exec (.mailboxSlotWrite n word ws) s = .next (accErr 3 (0x1000 + 256 * n + 4 * word) false s)))
    ∧ (∀ v : Word, ∃ t, exec (.doorbell v) s = .next t
      ∧ t.host.order = s.host.order ++ (bitList 16 v.toNat).filter (hostOwns s)
      ∧ ∀ n, t.host.slots[n]? = (s.host.slots[n]?).map (fun q =>
          if (bitList 16 v.toNat).contains n && hostOwns s n then { q with st := .posted } else q))

/-- With BAR access. EVR_EN_WRITE setting EN from 0 to 1 with an empty backlog sets EVR_WRITE and EVR_READ to 0 and takes SHADOW_EN
and LOG2_SIZE; while EN is 1 it keeps LOG2_SIZE and both indices; clearing EN leaves EN 0. Writes to EVR_BASE_LO, EVR_BASE_HI,
SHADOW_LO and SHADOW_HI are discarded while EN is 1. EVR_READ_WRITE of a value that would leave more than N records is discarded
and recorded as RING_INDEX (bit 5); another value is taken, with an empty backlog changing nothing else. -/
def Obligations.RingControlWrites : Prop :=
  ∀ (v : Word) (s : State), barOn s = true →
    (v.getLsbD 0 = true → s.host.evrEn = false → s.host.backlog = [] →
      exec (.evrEnWrite v) s = .next { s with host := { s.host with
        evrEn := true, evrWrite := 0, evrRead := 0, shadowEn := v.getLsbD 16, log2Size := (v >>> 8).setWidth 5 } })
    ∧ (s.host.evrEn = true → exec (.evrEnWrite v) s = .next { s with host := { s.host with
        evrEn := v.getLsbD 0, shadowEn := v.getLsbD 16 } })
    ∧ (s.host.evrEn = true → ∀ off, (off = 0x3000 ∨ off = 0x3004 ∨ off = 0x3014 ∨ off = 0x3018) → exec (.registerWrite off v) s = .next s)
    ∧ (ringSize s.host < (s.host.evrWrite - v).toNat → exec (.evrReadWrite v) s = .next (accErr 5 0x3010 false s))
    ∧ ((s.host.evrWrite - v).toNat ≤ ringSize s.host → s.host.backlog = [] →
        exec (.evrReadWrite v) s = .next { s with host := { s.host with evrRead := v } })

/-- EVENT_BACKLOG_DRAIN with one record waiting, the ring open and no loss owed completes: the record's 32 bytes stand at the ring
address of the producer index, EVR_WRITE has advanced by one and the backlog is empty. With the ring closed it changes nothing.
MOD_TIMER_EXPIRY with a record unsignalled and MOD_TIMER not 0: Rooster time has reached MOD_TIMER µs after that record, no record
is unsignalled, and INT_STATUS.EVR (bit 1) is set. -/
def Obligations.BacklogAndModeration : Prop :=
  ∀ (s : State), engOn s = true →
    (∀ r, s.host.backlog = [r] → ringOpen (envOf s) s.host = true → s.host.lostSince = 0 → s.host.shadowEn = false →
      ∃ t, exec .eventBacklogDrain s = .next t ∧ t.host.backlog = [] ∧ t.host.evrWrite = s.host.evrWrite + 1
        ∧ memRead t.hostMem (ringAddr s.host) 32 = eventBytes r ∧ t.ctr = s.ctr)
    ∧ (ringOpen (envOf s) s.host = false → exec .eventBacklogDrain s = .next s)
    ∧ (∀ f, s.host.firstUnsignalled = some f → s.host.modTimer ≠ 0 →
      ∃ t, exec .modTimerExpiry s = .next t ∧ t.now = Nat.max s.now (f + s.host.modTimer.toNat * 1000000)
        ∧ t.host.unsignalled = 0 ∧ t.host.firstUnsignalled = none ∧ t.host.intStatus = s.host.intStatus ||| 2 ∧ t.ctr = s.ctr
        ∧ t.hostMem = s.hostMem)

/-- On a running engine die. HOST_INTERFACE_RESET of any kind completes: every slot is IDLE with words of 0, the order and SLOT_DONE
are empty, the ring and its interrupt enables are off, bus mastering, memory space and MSI-X are off and the BARs are 0, every
Mule channel is as at reset, outstanding commands stay outstanding; the link stays up only for a function level reset;
EV_HOST_LINK is raised with cause 2 for a function level reset and 1 otherwise. HOST_LINK_RETRAIN to a speed and width that exist
completes with the link up at them. PCIE_POWER_STATE_CHANGE with the link up and settings that the host can make completes with
the power state and the configuration settings (BARs, Memory Space Enable, Bus Master Enable, payload and read request sizes,
MSI-X Enable) as given. The page, spool, position and supervisor state other than the channels is kept by all three. -/
def Obligations.HostLinkChanges : Prop :=
  ∀ (s : State), engOn s = true →
    (∀ kind, kind < 4 → ∃ t u, exec (.hostInterfaceReset kind) s = .next t
        ∧ t = raise 0x0103 dev 0 0 (linkWord u.host) (if kind = 3 then 2 else 1) 0 u
        ∧ u.host.slots = List.replicate 16 {} ∧ u.host.order = [] ∧ u.host.slotDone = 0 ∧ u.host.evrEn = false ∧ u.host.intEn = 0
        ∧ u.host.pci = {} ∧ u.host.outstanding = s.host.outstanding
        ∧ u.host.linkUp = (decide (kind = 3) && s.host.linkUp)
        ∧ u.spool.chans = List.replicate 16 {} ∧ u.spool.objs = s.spool.objs ∧ u.page = s.page ∧ u.pos = s.pos ∧ u.sup = s.sup)
    ∧ (∀ speed width, 1 ≤ speed → speed ≤ 5 → width ∈ [1, 2, 4, 8, 16] →
        exec (.hostLinkRetrain speed width) s = .next (msixFlush (drain (raise 0x0103 dev 0 0
          (linkWord { s.host with linkUp := true, linkSpeed := speed, linkWidth := width }) 0 0
          { s with host := { s.host with linkUp := true, linkSpeed := speed, linkWidth := width } }))))
    ∧ (∀ (d3 : Bool) (c : PciCfg), s.host.linkUp = true → c.wf = true →
        exec (.pciePowerStateChange d3 c.toPciBase c.toPciDev c.toPciCaps) s = .next (msixFlush (drain { s with host := { s.host with d3hot := d3, pci := c } })))

/-- With BAR access, for each of the 16 channels. MULE_EN_WRITE setting EN on a bound channel with EN 0 completes with EN 1, STATE
RUN, HEAD and TAIL 0 and an empty buffer; on an unbound channel EN stays 0. MULE_STOP_WRITE in RUN with no descriptor in progress
completes with the channel STOPPED, EN 0 and cause 2. MULE_TAIL_WRITE of a TAIL at most N ahead of HEAD is taken while EN is 1,
and discarded otherwise. MULE_RESUME_LO_READ returns the low half of RESUME and latches the high half. PIO_WINDOW_WRITE of 4 or 8
bytes in RUN in PIO mode within FREE appends its bytes to the stream and counts them. No other channel changes in any of these. -/
def Obligations.MuleChannelRegisters : Prop :=
  ∀ (ch : Nat) (v : Word) (bs : List Byte) (s : State), barOn s = true → ch < 16 → s.spool.chans.length = 16 →
    (v.getLsbD 0 = true → (chan s ch).en = false → (chan s ch).st ≠ .unbound →
      ∃ t, exec (.muleEnWrite ch v) s = .next t ∧ (chan t ch).en = true ∧ (chan t ch).st = .run ∧ (chan t ch).head = 0
        ∧ (chan t ch).tail = 0 ∧ (chan t ch).buf = [] ∧ (chan t ch).log2Size = (v >>> 8).setWidth 5 ∧ (chan t ch).page = (chan s ch).page
        ∧ ∀ c, c ≠ ch → chan t c = chan s c)
    ∧ (v.getLsbD 0 = true → (chan s ch).en = false → (chan s ch).st = .unbound →
      ∃ t, exec (.muleEnWrite ch v) s = .next t ∧ (chan t ch).en = false ∧ (chan t ch).st = .unbound ∧ ∀ c, c ≠ ch → chan t c = chan s c)
    ∧ ((chan s ch).en = true → (chan s ch).st = .run → (chan s ch).desc = none →
      ∃ t, exec (.muleStopWrite ch v) s = .next t ∧ (chan t ch).en = false ∧ (chan t ch).st = .stopped ∧ (chan t ch).cause = 2
        ∧ (chan t ch).page = (chan s ch).page ∧ ∀ c, c ≠ ch → chan t c = chan s c)
    ∧ ((chan s ch).en = true → (v - (chan s ch).head).toNat ≤ muleN (chan s ch) →
      exec (.muleTailWrite ch v) s = .next (setChan ch (fun c => { c with tail := v }) s))
    ∧ ((chan s ch).en = false ∨ muleN (chan s ch) < (v - (chan s ch).head).toNat → exec (.muleTailWrite ch v) s = .next s)
    ∧ (exec (.muleResumeLoRead ch) s = .next { setChan ch (fun c => { c with resumeHi := BitVec.ofNat 32 (chanResume s ch / 2 ^ 32) }) s with
        out := .read (BitVec.ofNat 32 (chanResume s ch)) :: s.out })
    ∧ ((chan s ch).st = .run → (chan s ch).pio = true → bs.length ∈ [4, 8] → bs.length ≤ pioFree (chan s ch) →
      exec (.pioWindowWrite ch bs) s = .next (setChan ch (fun c => { c with
        buf := c.buf ++ bs, appended := (c.appended + bs.length) % 2 ^ 32 }) s))

/-- On a running engine die. MULE_DESCRIPTOR_FETCH of a descriptor whose first 24 bytes are readable and well formed makes it the
channel's descriptor and sends its first read requests; of a readable ill-formed one it stops the channel with cause 9.
MULE_READ_COMPLETION of m bytes with more to come adds to the stream the m bytes of host memory from the oldest request's address,
or with FIXED those that ADDR returned, and sends further requests; with an error, or where the host cannot supply those bytes, it
ends the descriptor with ST_DMA_FAULT and cause 8, as MULE_READ_TIMEOUT does while a request is outstanding. INGEST_RECORD of a
record ready on a channel in RUN, with no injection armed and every check passed, takes the record as R116 says; with check 1 or 8
failing it refuses it; with another check failing the ingest fails with cause 5. PREVERIFY_BLOCK of a block whose decode passes at
the first attempt moves on to the next block, and to the page's SPOOLED after the last. -/
def Obligations.MuleTransfersAndIngest : Prop :=
  ∀ (ch : Nat) (s : State), engOn s = true → ch < 16 →
    (canFetch s ch = true → ∀ d, hostRead s (descAddr (chan s ch)) 24 = some d →
      (descOk d = true → exec (.muleDescriptorFetch ch) s = .next (sendReads ch (descRun d) s))
      ∧ (descOk d = false → exec (.muleDescriptorFetch ch) s
          = .next (muleStop ch 9 (descDone ch 0 stBadParam 0 9 (bitOf (leAt d 12 4) 1) s))))
    ∧ (∀ d a n rest, (chan s ch).desc = some d → d.requests = (a, n) :: rest → ch < s.spool.chans.length →
      (∀ m fifo, d.fixed = false → m ≤ n → hostOk s a m = true → d.got + m < d.len →
        exec (.muleReadCompletion ch m { fifo := fifo, err := false }) s = .next (sendReads ch (takeRead a n m rest d)
          (setChan ch (fun c => { c with buf := c.buf ++ memRead s.hostMem a m }) s)))
      ∧ (∀ m fifo, d.fixed = true → fifo.length ≤ n → d.got + fifo.length < d.len →
        exec (.muleReadCompletion ch m { fifo := fifo, err := false }) s = .next (sendReads ch (takeRead a n fifo.length rest d)
          (setChan ch (fun c => { c with buf := c.buf ++ fifo }) s)))
      ∧ (∀ m fifo, exec (.muleReadCompletion ch m { fifo := fifo, err := true }) s = .next (muleEnd ch stDmaFault 0 8 s))
      ∧ (∀ m fifo, d.fixed = false → m ≤ n → hostOk s a m = false →
        exec (.muleReadCompletion ch m { fifo := fifo, err := false }) s = .next (muleEnd ch stDmaFault 0 8 s))
      ∧ exec (.muleReadTimeout ch) s = .next (muleEnd ch stDmaFault 0 8 s))
    ∧ (∀ key p i o n, (chan s ch).st = .run → (chan s ch).holdUntil ≤ s.now → recReady s ch = true → ingestWaits s = false → (chan s ch).page = some key →
        pageOf s key = some p → ingestOf s key = some i → pageObj s key = some o → recLen (chan s ch).buf = some n → s.test.injections = [] →
        let raw := (chan s ch).buf.take n
        let h := raw.take (recHdrLen (leAt raw 0 2))
        let v := judgeRecord p o raw
        (v.1 = 0 → exec (.ingestRecord ch) s
            = .next (ingestAccept ch p i h (slice raw 40 (if leAt h 0 2 = 0xFA04 then leAt h 24 4 else 0)) n s))
        ∧ (v.1 = 1 ∨ v.1 = 8 → exec (.ingestRecord ch) s = .next (ingestRefuse ch p i v.1 h v.2 s))
        ∧ (v.1 ≠ 0 → v.1 ≠ 1 → v.1 ≠ 8 → exec (.ingestRecord ch) s = .next (muleEnd ch (checkStatus v.1) v.1 5
            (ingestFail p.key v.1 (recPlace h).1 (recPlace h).2.1 (recPlace h).2.2 ch false s))))
    ∧ (∀ i p o t r seen, (verifyEngine s i).isSome = true → s.spool.ingests.find? (fun i => i.st == .verifying) = some i →
        pageOf s i.page = some p → objOf s i.sid = some o → (pageBlocks o p.planes)[i.verified]? = some (t, r) → i.retry = none →
        (laneChecks t r seen 0).check = 0 →
        exec (.preverifyBlock seen 0) s = .next (verifyNext i.page (pageBlocks o p.planes).length s))

/-- Each accepted with its fields legal. SPOOL.BIND of a QUEUED page whose context is RECEIVING and unbound to an UNBOUND channel
binds it, STOPPED, and returns RESUME; SPOOL.UNBIND of a STOPPED channel frees it and returns RESUME. SPOOL.STATUS of a page and
SPOOL.INFO return their words and change nothing. SPOOL.RETAIN of a SPOOLED, ADMITTED, ACTIVE or EXPOSED page returns the handle
it has, or retains it under the lowest free one. SPOOL.REPEAT of a handle for planes its page had makes a new page on that page's
object, VERIFYING if asked and SPOOLED if not. SPOOL.RELEASE ends that retention alone and frees the object if no page and no
other retention uses it. -/
def Obligations.SpoolCommandsComplete : Prop :=
  ∀ (s : State) (n : Nat) (ws : List Word),
    (Accepts s 0x0305 [allBits, 0x10F] n ws → ∀ p i, findPage s (par ws 2) = some p → ingestOf s p.key = some i → p.st = .queued →
      i.st = .receiving → boundTo s p.key = none → (chan s (bits (par ws 3) 0 4)).st = .unbound →
      exec .spoolBind s = .next (okReply n (two i.resume) (setChan (bits (par ws 3) 0 4) (fun c => { c with
        st := .stopped, page := some p.key, pio := bitOf (par ws 3) 8, appended := 0, buf := [], desc := none, stopReq := false }) (taken s))))
    ∧ (Accepts s 0x0306 [0xF] n ws → (chan s (par ws 2)).st = .stopped →
      exec .spoolUnbind s = .next (okReply n (two (chanResume s (par ws 2))) (setChan (par ws 2) (fun c => { c with
        st := .unbound, page := none, pio := false, buf := [] }) (taken s))))
    ∧ (Accepts s 0x0307 [allBits] n ws → ∀ p, findPage s (par ws 2) = some p →
      ∃ r, r.length = 8 ∧ exec .spoolStatus s = .next (okReply n r (taken s)))
    ∧ (Accepts s 0x0308 [] n ws → exec .spoolInfo s = .next (okReply n
        [extentsTotal s, extentsFree s, entriesFree s, printBudget (popCount 4 (ddrMask s)) (ddrRate s), s.spool.retains.length] (taken s)))
    ∧ (Accepts s 0x0309 [allBits] n ws → ∀ p o, findPage s (par ws 2) = some p → (p.live = true ∨ p.st = .spooled) → pageObj s p.key = some o →
      (∀ r, retentionOf s p.key = some r → exec .spoolRetain s = .next (okReply n [r.handle] (taken s)))
      ∧ (∀ h, retentionOf s p.key = none → (List.range 256).find? (fun h => !(s.spool.retains.map Retention.handle).contains h) = some h →
          exec .spoolRetain s = .next (okReply n [h] { taken s with spool := { s.spool with
            retains := s.spool.retains ++ [{ handle := h, page := p.key, sid := o.sid, planes := p.planes }] } })))
    ∧ (Accepts s 0x030A [0xFF, allBits, 0x3F03] n ws → ∀ r o, retentionBy s (par ws 2) = some r → objOf s r.sid = some o →
      let planes := if bits (par ws 4) 8 6 = 0 then r.planes else bits (par ws 4) 8 6
      maskDiff planes r.planes = 0 →
      let new (st : IngestSt) := pageNew (BitVec.ofNat 32 (par ws 3)) (bitOf (par ws 4) 0) (bitOf (par ws 4) 1) planes (fun _ s => s)
        (fun key => { page := key, sid := r.sid, st := st, accepted := (pageBlocks o planes).length }) (taken s)
      (bitOf (par ws 4) 0 = true → exec .spoolRepeat s = .next (okReply n [] (new .verifying)))
      ∧ (bitOf (par ws 4) 0 = false → exec .spoolRepeat s = .next (okReply n [] (pageSpooled s.page.nextKey (new .receiving)))))
    ∧ (Accepts s 0x030B [0xFF] n ws → ∀ r, retentionBy s (par ws 2) = some r →
      exec .spoolRelease s = .next (okReply n [] (freeObj r.sid { taken s with spool := { s.spool with
        retains := s.spool.retains.filter (fun q => q.handle != r.handle) } })))

/-- STREAM.BANDMAP of a legal request returns 35 words (width, height, blocks, and first column and count of each band) and changes
nothing. With fewer than 16 jobs, CODEC.COMPRESS and CODEC.VERIFY of legal parameters answer ST_PENDING with their job behind
those queued; CODEC.FLUSH in drain mode behind a job that can run does too. CODEC_JOB_START runs the job at the head.
CODEC_JOB_DONE ends the running job with what its work gives (a job that a host-interface reset met ends with ST_DMA_FAULT), and
flushes with no job before them complete. -/
def Obligations.CompressorCommandsAndJobs : Prop :=
  ∀ (s : State) (n : Nat) (ws : List Word),
    (Accepts s 0x0301 [allBits, 3, allBits] n ws →
      let px := bits (par ws 2) 0 16
      let py := bits (par ws 2) 16 16
      let dose := bitOf (par ws 3) 0
      (dose = true → px = 0 ∧ py = 0) → (dose = false → 300 ≤ px ∧ px ≤ 2540 ∧ 300 ≤ py ∧ py ≤ 2540) →
      1 ≤ par ws 4 → par ws 4 ≤ 1048576 →
      let d := planeDims dose (bitOf (par ws 3) 1) (par ws 4) px py
      exec .streamBandmap s = .next (okReply n ([d.1, d.2, ceilDiv d.2 16]
        ++ ((List.range 16).map (fun t => [(bandMap dose px d.1 t).1, (bandMap dose px d.1 t).2])).flatten) (taken s)))
    ∧ (Accepts s 0x0302 [allBits, allBits, 0xF71F3FFF, 0xFF0F, allBits, allBits, allBits, allBits, allBits, 0x3FFFF] n ws →
      let b := bits (par ws 4) 0 14
      let rows := bits (par ws 4) 16 5
      let stride := bits (par ws 11) 0 18
      1 ≤ b → b ≤ 8453 → 1 ≤ rows → rows ≤ 16 → bits (par ws 4) 24 3 ≤ 5 → bits (par ws 5) 0 3 ≤ 4 → (stride = 0 ∨ b ≤ stride) →
      par ws 8 % 4 = 0 → 40 + rows * b + padLen (40 + rows * b) ≤ par ws 10 → jobCount s < 16 →
      exec .codecCompress s = .next (pendingReply n ws s.host.nextOid
        (setJobs (s.spool.jobs ++ [{ oid := s.host.nextOid, work := .compress (parWords ws 10) }]) (taken s))))
    ∧ (Accepts s 0x0304 [allBits, allBits, 0x3FFF, allBits, allBits, allBits] n ws →
      1 ≤ bits (par ws 4) 0 14 → bits (par ws 4) 0 14 ≤ 8453 → jobCount s < 16 →
      exec .codecVerify s = .next (pendingReply n ws s.host.nextOid
        (setJobs (s.spool.jobs ++ [{ oid := s.host.nextOid, work := .verify (parWords ws 6) }]) (taken s))))
    ∧ (Accepts s 0x0303 [1] n ws → par ws 2 = 0 → ∀ j t w, s.spool.jobs = j :: t → j.work = .compress w → j.abandoned = false →
      exec .codecFlush s = .next (pendingReply n ws s.host.nextOid
        (setJobs (s.spool.jobs ++ [{ oid := s.host.nextOid, work := .flush 0 }]) (taken s))))
    ∧ (∀ j t, fwReady s = true → s.spool.jobs = j :: t → exec .codecJobStart s = .next (setJobs ({ j with running := true } :: t) s))
    ∧ (∀ j t w, engOn s = true → s.spool.jobs = j :: t → j.running = true →
      (j.doomed = true → exec .codecJobDone s = .next (codecSettle (jobFinish j.oid { st := setJobs t s, status := 0x0306 })))
      ∧ (j.doomed = false → j.work = .compress w →
          exec .codecJobDone s = .next (codecSettle (jobFinish j.oid (compressJob w (setJobs t s)))))
      ∧ (j.doomed = false → j.work = .verify w →
          exec .codecJobDone s = .next (codecSettle (jobFinish j.oid (verifyJob w (setJobs t s))))))

/-- Each accepted with its fields legal. PAGE.ANNOUNCE with a plane makes a new QUEUED page behind the others, with a spool object and
an ingest context of its own. PAGE.ADMIT of a page that passes the screening, with no reason against it and no gap work in the
way, admits it and returns its admission number; with a reason against it the answer is ST_ADMIT_REFUSED with the reason mask, and
nothing else changes. PAGE.WITHDRAW of an unbound page that is not ADMITTED, ACTIVE or EXPOSED withdraws it; of such a page it
answers ST_PAGE_LOCKED. PAGE.STATUS returns its four words and changes nothing. PAGE.CONFIG within the limits with no live page
takes effect, and with a live page it answers ST_STATE. PAGE.GAP of at least 32 lines with a scope sets the hold, joins it to the
one that waits (the larger length, both scopes), and a length of 0 removes it (the model's choice, log entry 10). PAGE.SPOIL of an
ACTIVE or EXPOSED page spoils it for reason 10, and of another page answers ST_STATE. -/
def Obligations.PageCommandsComplete : Prop :=
  ∀ (s : State) (n : Nat) (ws : List Word),
    (Accepts s 0x0201 [allBits, 3, 0x3F] n ws → par ws 4 ≠ 0 →
      exec .pageAnnounce s = .next (okReply n [] (pageNew (BitVec.ofNat 32 (par ws 2)) (bitOf (par ws 3) 0) (bitOf (par ws 3) 1) (par ws 4)
        (fun key s => { s with spool := { s.spool with objs := s.spool.objs ++ [{ sid := key, planes := par ws 4 }] } })
        (fun key => { page := key, sid := key }) (taken s))))
    ∧ (Accepts s 0x0202 [allBits, 0xFF03] n ws → ∀ p, admitScreen (par ws 2) (par ws 3) s = .ok p → admitDefers s = false →
      (admitReasons s p (bits (par ws 3) 8 8) = 0 → exec .pageAdmit s
          = .next (okReply n (two (admitPage p (par ws 3) (taken s)).page.admissions) (admitPage p (par ws 3) (taken s))))
      ∧ (∀ m, m ≠ 0 → admitReasons s p (bits (par ws 3) 8 8) = m →
          exec .pageAdmit s = .next (respond n stAdmitRefused [m] (taken s))))
    ∧ (Accepts s 0x0203 [allBits] n ws → ∀ p, findPage s (par ws 2) = some p →
      (p.live = false → boundTo s p.key = none → exec .pageWithdraw s
          = .next (okReply n [] (trimPages (endIngest p.key (pageTo p.key .withdrawn dev 0 (taken s))))))
      ∧ (p.live = true → exec .pageWithdraw s = .next (respond n stPageLocked [] (taken s))))
    ∧ (Accepts s 0x0204 [allBits, 1, allBits, allBits] n ws → ∀ p, statusPage s ws = some p → exec .pageStatus s
        = .next (okReply n ([fld p.st.code 0 3 + fld (b2n p.spoiled) 8 1 + fld (b2n p.suspect) 9 1 + fld p.firstReason 16 8,
          fld p.reasonMask 0 16 + fld p.firstStation 16 3, p.firstLineNo] ++ two p.admission) (taken s)))
    ∧ (Accepts s 0x0205 ([0x10701, 0x3F3F, 3] ++ List.replicate 15 allBits) n ws → pageCfgOk s (pageCfgOf ws) = true →
      (anyLive s = false → exec .pageConfig s = .next (okReply n [] (pageConfigure (pageCfgOf ws) (taken s))))
      ∧ (anyLive s = true → exec .pageConfig s = .next (respond n stState [] (taken s))))
    ∧ (Accepts s 0x0206 [0x3F01FFFF] n ws →
      let len := bits (par ws 2) 0 16
      let common := bitOf (par ws 2) 16
      let mask := bits (par ws 2) 24 6
      let hold (h : Option Hold) : State := { taken s with page := { s.page with hold := h } }
      (len = 0 → exec .pageGap s = .next (okReply n [] (hold none)))
      ∧ (32 ≤ len → (common = true ∨ mask ≠ 0) → s.page.hold = none →
          exec .pageGap s = .next (okReply n [] (hold (some { lines := len, common := common, mask := mask }))))
      ∧ (32 ≤ len → (common = true ∨ mask ≠ 0) → ∀ h, s.page.hold = some h → exec .pageGap s = .next (okReply n []
          (hold (some { lines := Nat.max len h.lines, common := common || h.common, mask := mask ||| h.mask })))))
    ∧ (Accepts s 0x0207 [allBits] n ws → ∀ p, findPage s (par ws 2) = some p →
      (p.running = true → exec .pageSpoil s
          = .next (okReply n [] (spoilNow p.key 10 (firstStation s p) (stationLine s (firstStation s p)) (taken s))))
      ∧ (p.running = false → exec .pageSpoil s = .next (respond n stState [] (taken s))))

/-- TOS_EDGE in sheet mode starts the page that waits, unless no page waits, the event is too early or a hold is broken: then a sheet
passes blank for cause 0, 1 or 2. POS_SAMPLE of an input in use, of levels that outlast the glitch filter in mode 1 and not before
the input's next sample in the other modes, sets the raw count that its signals give in its mode (quadrature counting,
interpolated angle, resolver angle, SSI code, Rooster time): without a fault it is used; a bad sample is a fault of the input, and
levels that changed both at once or a frame with a bad start or stop bit leave the raw count; of an input in fault the first 7
good samples are only counted, and the eighth ends the fault and is used. VELOCITY_STOP_TIMEOUT drops the samples of the estimate.
Z_EDGE in incremental mode latches the extended position of the trackers on the input and changes nothing else of them.
STROBE_COMMIT of a tile whose next boundary is due, was framed, is not lost and not suppressed, puts out the strobe at the
committed block and phase with its ordered set and moves on to the next boundary. TIME_REF_LOSS and TIME_REF_LOCK of the external
reference change LOCKED and raise EV_TIME_REF. -/
def Obligations.StartEventsAndPositionInputs : Prop :=
  ∀ (s : State) (i t : Nat),
    (engOn s = true → s.page.cfg.web = false →
      let u := atTime t s
      (waitingPage u = none → exec (.tosEdge t) s = .next (sheetBlank 0 u))
      ∧ (∀ p, waitingPage u = some p → startEarly u p = true → exec (.tosEdge t) s = .next (sheetBlank 1 u))
      ∧ (∀ p, waitingPage u = some p → startEarly u p = false → holdSays u p = .broken → exec (.tosEdge t) s = .next (sheetBlank 2 u))
      ∧ (∀ p, waitingPage u = some p → startEarly u p = false → holdSays u p ≠ .broken → exec (.tosEdge t) s = .next (startAccept p u)))
    ∧ (∀ a b, macOn s = true → i < 8 →
      let p := posIn s i
      p.mode ≠ 0 → (p.mode = 1 → p.filter * 5000 ≤ b) → (p.mode ≠ 1 → p.nextAt ≤ t) →
      let x := sampleRaw p a t
      let take (raw : Nat) (bad : Bool) := setIn i (fun p => { p with
          raw := raw, phase := if p.mode = 1 then a % 4 else a % 65536, nextAt := t + samplePs p
          last := if p.fresh && !bad then raw else p.last, fresh := p.fresh && bad })
        (when (p.mode == 4) (emit (.posDrive i (p.ssiClk * 100000) p.nbits)) (atTime t s))
      (sampleBad p a b x = true → exec (.posSample i a b t) s
        = .next (inputFault i p.mode (take (if (p.mode = 4 ∧ b = 0) ∨ p.mode = 1 then p.raw else x) true)))
      ∧ (sampleBad p a b x = false →
        (p.fault = false → exec (.posSample i a b t) s = .next (useSample i t (take x false)))
        ∧ (p.fault = true → p.good < 7 →
          exec (.posSample i a b t) s = .next (setIn i (fun p => { p with good := p.good + 1 }) (take x false)))
        ∧ (p.fault = true → 7 ≤ p.good →
          exec (.posSample i a b t) s = .next (useSample i t (setIn i (fun p => { p with fault := false, good := 0 }) (take x false))))))
    ∧ (∀ x, engOn s = true → (trk s i).en = true → (trk s i).samples.head? = some x →
      exec (.velocityStopTimeout i) s = .next (setTrk i dropVel (atTime (x.2 + (trk s i).stopTo * usPs) s)))
    ∧ (macOn s = true → (posIn s i).mode = 1 → ∃ u, exec (.zEdge i t) s = .next u
      ∧ ∀ st, st < s.pos.trackers.length →
        trk u st = if (trk s st).input = i then { trk s st with zPos := (trk s st).ext } else trk s st)
    ∧ (∀ b, engOn s = true → (port s i).st = .online → (trk s (stOf i)).en = true → (dly s i).nextStrobe ≤ (trk s (stOf i)).k + 1 →
      ∀ a, (port s i).awaits.find? (fun a => a.k == (dly s i).nextStrobe) = some a → a.lost = false → a.blank = false →
      strobeSend s i (dly s i).nextStrobe = some b →
      exec (.strobeCommit i) s = .next (setDly i (fun d => { d with nextStrobe := (dly s i).nextStrobe + 1 })
        (strobeOut i (dly s i).nextStrobe (strobePhase b).1 (strobePhase b).2
          (atTime ((strobePhase b).1 * 6400 + (strobePhase b).2 * 100) s))))
    ∧ (engOn s = true → s.pos.refExt = true →
      (s.pos.locked = true → exec .timeRefLoss s = .next (raise 0x0506 dev 0 0 0 1 0 { s with pos := { s.pos with locked := false } }))
      ∧ (s.pos.locked = false → exec .timeRefLock s = .next (raise 0x0506 dev 0 0 1 1 0 { s with pos := { s.pos with locked := true } })))

/-- GAP_ITEM_START with firmware READY and no admission waiting starts the first pending item whose scope has nothing running and that
is the next item that can start there: it leaves the pending items, joins those running with the gap's remaining extent (all ones
where it has no known end) and a count of 0, and its work begins. GAP_ITEM_DONE ends the item that has run longest, other than a
hand-over, with its effect. GAP_WANTED_REPEAT raises EV_GAP_WANTED for every pending item that is due and sets each of those to
fall due 60 s later. -/
def Obligations.GapOnlyWork : Prop :=
  ∀ (s : State),
    (∀ g n, fwReady s = true → s.page.admitWaits = [] →
      (s.page.gapPending.filter (fun g => !s.page.gapRunning.any (fun r => r.item.scope == g.scope))).find?
        (fun g => gapNext s g.scope == some g) = some g →
      (gapRemain s g = some (some n) ∨ (gapRemain s g = some none ∧ n = 0xFFFFFFFF)) →
      exec .gapItemStart s = .next (gapBegin g.work { s with page := { s.page with
        gapPending := s.page.gapPending.erase g, gapRunning := s.page.gapRunning ++ [{ item := g, extent := n, count := 0 }] } }))
    ∧ (∀ r tests eyes, engOn s = true → s.page.gapRunning.find? (fun r => r.item.work != .handover) = some r →
      exec (.gapItemDone tests eyes) s = .next (gapFinish r (gapEffect r.item (List.zipWith (fun m e => (m.1, m.2.1, m.2.2, e)) tests eyes) s)))
    ∧ (∀ g, s.page.gapPending = [g] → s.now ≤ g.nextWanted →
      exec .gapWantedRepeat s = .next (gapWanted g { s with
        now := g.nextWanted, page := { s.page with gapPending := [{ g with nextWanted := g.nextWanted + 60000000000000 }] } }))

/-- Each system command accepted completes at once with ST_OK and changes nothing but its slot: SYS.IDENTIFY returns the identity
words, SYS.PING its parameters unchanged (as many as its header says), SYS.TIME Rooster's time in ns with the reference and
LOCKED, SYS.STATUS its five words, and SYS.PENDING the number of outstanding commands and a word for each in the order taken. -/
def Obligations.SystemCommandsAnswer : Prop :=
  ∀ (s : State) (n : Nat) (ws : List Word),
    (Accepts s 0x0101 [] n ws → exec .sysIdentify s = .next (okReply n
      ([Config.vendorId.toNat + 0x64000000, 0x02B1, releaseWord s, ((s.fw.running.map ImgHdr.build).getD 0)]
        ++ two s.board.serial.toNat ++ [spoolWord s, 0x3F + fld 28 8 8]) (taken s)))
    ∧ (Accepts s 0x0102 (List.replicate 62 allBits) n ws →
      exec .sysPing s = .next (okReply n ((List.range (plen ws)).map (fun i => wordAt ws (i + 2))) (taken s)))
    ∧ (Accepts s 0x0103 [] n ws →
      exec .sysTime s = .next (okReply n (two (nowNs s) ++ [fld (b2n s.pos.refExt) 0 2 + fld (b2n s.pos.locked) 8 1]) (taken s)))
    ∧ (Accepts s 0x0104 [] n ws → exec .sysStatus s = .next (okReply n (sysStatus (taken s)) (taken s)))
    ∧ (Accepts s 0x0105 [] n ws →
      exec .sysPending s = .next (okReply n (s.host.outstanding.length :: s.host.outstanding.map pendingWord) (taken s)))

/-- Each accepted with its fields legal. EXP.STATUS, EXP.SLACK and EXP.FORECAST complete with ST_OK; EXP.STATUS and EXP.FORECAST
change nothing, EXP.FORECAST returns what R166's three terms, pipe rate and ingest rate are for its stations, rate and blocks, and
EXP.SLACK starts the slack statistics again. EXP.GEOM_LOAD of valid geometry for a station whose bank is not in use stores the 16
tiles and the kernel there and changes no other station or bank. EXP.SCREEN_LOAD, and EXP.TONE_NEUTRAL of stations that none is
running for, answer ST_PENDING with their work entered. EXP.POLICY takes each field that is not 0 and returns the policy in force.
EXP.ENGINE fences (0) an engine that is SPARE, turns one off (1) or starts the self-test of one that is OFF (2), each with
ST_PENDING. -/
def Obligations.ExpansionCommandsComplete : Prop :=
  ∀ (s : State) (n : Nat) (ws : List Word),
    (Accepts s 0x0401 [] n ws → ∃ r, r.length = 12 ∧ exec .expStatus s = .next (okReply n r (taken s)))
    ∧ (Accepts s 0x0402 (0x00030701 :: List.replicate 32 allBits) n ws →
      let bank := bits (par ws 2) 0 1
      let st := bits (par ws 2) 8 3
      let k := bits (par ws 2) 16 2
      let g (t : Nat) : TileGeom := geomParam ws t
      st ≤ 5 → k ≠ 3 → (∀ t, t < 16 → geomInRange (g t) = true ∧ geomValid (g t) t = true) → geomInUse s bank st = false →
      ∃ u, exec .expGeomLoad s = .next (okReply n [0xFF] u) ∧ u.exp.screens = s.exp.screens
        ∧ (∀ b, b ≠ bank → u.exp.banks.getD b {} = s.exp.banks.getD b {})
        ∧ (bank < s.exp.banks.length →
            (∀ t, t < 16 → (u.exp.banks.getD bank {}).tiles.getD (16 * st + t) {} = g t)
            ∧ (∀ x, x < 96 → x / 16 ≠ st → (u.exp.banks.getD bank {}).tiles.getD x {} = (s.exp.banks.getD bank {}).tiles.getD x {})
            ∧ (u.exp.banks.getD bank {}).kernel = (s.exp.banks.getD bank {}).kernel.set st k))
    ∧ (Accepts s 0x0403 [0x701, 0x03FF03FF, 0x00FF01FF, 0x01FF01FF, allBits, allBits, allBits] n ws →
      let bank := bits (par ws 2) 0 1
      let plane := bits (par ws 2) 8 3
      let w := bits (par ws 3) 0 10
      let h := bits (par ws 3) 16 10
      plane ≤ 5 → 1 ≤ w → w ≤ 512 → 1 ≤ h → h ≤ 512 → bits (par ws 4) 0 9 < w → bits (par ws 4) 16 8 ≠ 0 →
      bits (par ws 5) 0 9 < w → bits (par ws 5) 16 9 < h → screenInUse s bank plane = false →
      exec .expScreenLoad s = .next (pendingReply n ws s.host.nextOid { taken s with exp := { s.exp with
        screens := updAt s.exp.screens (6 * bank + plane) (fun c => { c with
          loading := c.loading ++ [(s.host.nextOid, (List.range 7).map (fun i => BitVec.ofNat 32 (par ws (i + 2))))] }) } }))
    ∧ (Accepts s 0x0404 [0x3F] n ws →
      let mask := bits (par ws 2) 0 6
      s.exp.neutral.any (fun n => n.stations &&& mask != 0) = false →
      let u := forList (bitList 6 mask) (taken s) (fun st s => calReset st 0xFFFF (· == 0) s)
      exec .expToneNeutral s = .next (pendingReply n ws s.host.nextOid { u with exp := { u.exp with
        toneReqs := u.exp.toneReqs.filter (fun r => !bitOf mask r.station)
        neutral := u.exp.neutral ++ [{ oid := u.host.nextOid, stations := mask }] } }))
    ∧ (Accepts s 0x0405 [0x00FFFFFF, 0x0F03FFFF] n ws →
      let a := par ws 2
      let b := par ws 3
      zeroOrIn 18 63 (bits a 0 8) = true → zeroOrIn 1 63 (bits a 8 8) = true → zeroOrIn 2 20 (bits a 16 8) = true →
      zeroOrIn 1 3600 (bits b 0 16) = true → (bitOf b 16 = false ∨ bitOf b 17 = false) →
      ∃ u, exec .expPolicy s = .next (okReply n [fld u.exp.stall 0 8 + fld u.exp.slackThr 8 8 + fld u.exp.margin 16 8,
          fld u.exp.rotate 0 16 + fld (b2n u.exp.rotateOff) 16 1 + fld u.exp.fenceLimit 24 4] u)
        ∧ u.exp.stall = orKeep (bits a 0 8) s.exp.stall ∧ u.exp.slackThr = orKeep (bits a 8 8) s.exp.slackThr
        ∧ u.exp.margin = orKeep (bits a 16 8) s.exp.margin ∧ u.exp.rotate = orKeep (bits b 0 16) s.exp.rotate
        ∧ u.exp.fenceLimit = orKeep (bits b 24 4) s.exp.fenceLimit
        ∧ u.exp.rotateOff = (bitOf b 16 || (s.exp.rotateOff && !bitOf b 17)) ∧ u.exp.engines = s.exp.engines)
    ∧ (Accepts s 0x0406 [] n ws → ∃ r, r.length = 12 ∧ exec .expSlack s = .next (okReply n r { taken s with exp := { s.exp with
        slack := s.exp.slack.map (fun k => { k with least := none, replays := 0 }) } }))
    ∧ (Accepts s 0x0407 [0x3F01FFFF, 0x00033FFF] n ws →
      let rate := bits (par ws 2) 0 17
      1 ≤ rate → rate ≤ 100000 → 1 ≤ bits (par ws 3) 16 2 → bits (par ws 3) 16 2 ≤ 2 →
      let m := taken s
      let stations := bits (par ws 2) 24 6 ||| liveStations m
      let steps := if bits (par ws 3) 0 14 = 0 then 2 * 4096 else 2 * bits (par ws 3) 0 14 * bits (par ws 3) 16 2
      let t := slackTerms m stations rate (steps * rate * 25400) (liveSpoolDemand m)
      let e := slowest Engine.rMeas m
      let q := forecastFactor m stations rate e
      exec .expForecast s = .next (okReply n [b2n t.1 + 2 * b2n t.2.1 + 4 * b2n t.2.2,
        (if q.2 ≤ 0 then 0 else (pipeRate m e * q.1 / q.2).toNat), 16384 * rate * (100 + s.exp.margin) / 100000000] m))
    ∧ (Accepts s 0x0408 [0x31F] n ws →
      let e := bits (par ws 2) 0 5
      let own := setEng e (fun g => { g with oids := g.oids ++ [s.host.nextOid] }) (taken s)
      e ≤ 27 → (eng s e).move = none →
      (bits (par ws 2) 8 2 = 0 → (eng s e).st = .spare →
        exec .expEngine s = .next (pendingReply n ws s.host.nextOid (movesNow (engFail e 10 true own))))
      ∧ (bits (par ws 2) 8 2 = 1 → (eng s e).st = .spare →
        exec .expEngine s = .next (pendingReply n ws s.host.nextOid (movesNow (engFail e 0 false own))))
      ∧ (bits (par ws 2) 8 2 = 2 → (eng s e).st = .off →
        exec .expEngine s = .next (pendingReply n ws s.host.nextOid
          (startTest e (setEng e (fun g => { g with st := .fenced, toOff := false }) own)))))

/-- On a running engine die. BLOCK_FETCH brings the next block of the lane that fetches into the decode lane while the staging ring
has room for its first line; of an uncorrectable word the block fails for cause 9. BLOCK_DECODE_DONE of a block that passes its
checks marks it passed, empties the decode lane and notes the lane's rate; a failing check makes it wait for a replay.
BAND_LINE_DONE computes the band-line that is next once its blocks are in the lane, and a failed hardware check fences the engine
for cause 1 or 2. BAND_LINE_RELEASE releases the oldest waiting band-line once all its blocks have passed. ENGINE_HANG of an
engine with work fences it for cause 3. REPLAY_START gives the first waiting replay an engine. REPLAY_DONE of a block that passes
replaces the failed block. SELF_TEST_DONE with a pass makes an engine in TEST a SPARE, and with a failure turns it off.
ENGINE_WARMUP_DONE makes a warming engine that carries its quartet alone ACTIVE. ROTATION_TIMER starts a rotation: of the ACTIVE
engines that carry a quartet the one longest without spare duty is the outgoing one, the SPARE engine whose self-test passed
longest ago warms up on its quartet, and the lanes divide 16 band-lines ahead of the quartet's next one; with no spare engine it
is put off by one period. -/
def Obligations.EnginesCarryTheirLanes : Prop :=
  ∀ (s : State) (e tile : Nat), engOn s = true →
    (∀ l p t, fetchLane s e tile = some l → pageOf s l.page = some p → tileStream s l.page tile = some t →
      16 * l.fetchNext < lowLine s p t l + ringLines t.colCount →
      let u := setLane e l.page tile (fun x => { x with fetchNext := l.fetchNext + 1, inLane := some l.fetchNext }) s
      (∀ bit, exec (.blockFetch e tile 0 bit) s = .next u)
      ∧ (∀ bit, t.recs.find? (fun r => r.block == l.fetchNext) = none →
          exec (.blockFetch e tile 2 bit) s = .next (blockFail l p l.fetchNext 9 none u)))
    ∧ (∀ l p t b r seen dur, s.exp.lanes.find? (fun l => l.engine == e && l.tile == tile && l.inLane.isSome) = some l → l.inLane = some b →
      pageOf s l.page = some p → tileStream s l.page tile = some t → t.recs.find? (fun r => r.block == b) = some r →
      16 * b + rowsOf t b ≤ lowLine s p t l + ringLines t.colCount →
      ((laneChecks t r seen 0).check = 0 → exec (.blockDecodeDone e tile seen { fault := 0, dur := dur }) s = .next (setLane e l.page tile (fun x => { x with
          inLane := none, passed := b :: x.passed.filter (fun y => decide (lowLine s p t l / 16 ≤ y + 12)) })
        (setEng e (measureLane (tile % 4) (decodeSteps t r) dur) s)))
      ∧ ((laneChecks t r seen 0).check ≠ 0 → exec (.blockDecodeDone e tile seen { fault := 0, dur := dur }) s
          = .next (blockFail l p b (checkCause (laneChecks t r seen 0).check) (some {
              check := (laneChecks t r seen 0).check, index := (laneChecks t r seen 0).index, pixels := (laneChecks t r seen 0).pixels }) s)))
    ∧ (∀ x dur place, pipeReady s e = some x →
      (screenLost s x.2.1 x.1.tile x.2.2 = false → exec (.bandLineDone e dur 0 place) s = .next (produce e x.1 x.2.1 x.2.2 dur none s))
      ∧ exec (.bandLineDone e dur 1 place) s = .next (engFail e 1 true s)
      ∧ exec (.bandLineDone e dur 2 place) s = .next (engFail e 2 true s))
    ∧ (∀ l p n, s.exp.lanes.find? (fun l => l.engine == e && l.tile == tile && !l.waiting.isEmpty) = some l → pageOf s l.page = some p →
      l.waiting.head? = some n → (blocksDrawn s p tile n).all (fun b => l.passed.contains b) = true →
      exec (.bandLineRelease e tile) s = .next (releaseLine p tile n e s))
    ∧ (hasWork s e = true → exec (.engineHang e) s = .next (movesNow (engFail e 3 true s)))
    ∧ (∀ r rs x, replayWaiting s = r :: rs → pickOther s (r.failing.toList ++ r.tried) = some x →
      let u := setEng x (fun g => { g with replay := some r.rid, testEnd := none }) s
      exec .replayStart s = .next { u with exp := { u.exp with replays := s.exp.replays.map (fun q =>
        if q.rid = r.rid then { q with engine := some x, attempts := q.attempts + 1, tried := x :: q.tried } else q) } })
    ∧ (∀ r p t b q seen dur, s.exp.replays.find? (fun r => r.block.isSome && r.engine == some e && (eng s e).replay == some r.rid) = some r →
      r.block = some b → pageOf s r.page = some p → tileStream s r.page r.tile = some t → t.recs.find? (fun q => q.block == b) = some q →
      (laneChecks t q seen 0).check = 0 → r.failing = none →
      exec (.replayDone e seen { fault := 0, dur := dur }) s = .next (replayPass r p t b [] 0 e dur s))
    ∧ (∀ t, (eng s e).testEnd = some t → (eng s e).st = .test → e < s.exp.engines.length →
      exec (.selfTestDone e true) s = .next (giveUnserved (engSettle e
        (setEng e (fun g => { g with st := .spare, passedAt := Nat.max s.now t })
          (tick 0x0404 0 (setEng e (fun g => { g with testEnd := none }) (atTime t s))))))
      ∧ ∃ u f, exec (.selfTestDone e false) s = .next (giveUnserved (engSettle e (raise 0x0402 e 0 0 11 f 5 u))) ∧ (eng u e).st = .off)
    ∧ ((eng s e).st = .warming → (eng s e).quartet.isSome = true → (eng s e).move = none →
      (∀ x, x ∈ engineList → x ≠ e → (eng s x).quartet ≠ (eng s e).quartet) →
      exec (.engineWarmupDone e) s = .next (engSettle e (setEng e (fun g => { g with st := .active }) s)))
    ∧ (s.exp.rotateOff = false → s.fw.power = .run → pickSpare s 28 = none → s.now ≤ s.exp.nextRotate →
      exec .rotationTimer s = .next { s with now := s.exp.nextRotate, exp := { s.exp with
        nextRotate := s.exp.nextRotate + s.exp.rotate * 1000000000000 } })
    ∧ (∀ inn out q page n, s.exp.rotateOff = false → s.fw.power = .run → s.exp.rotation = none → s.now ≤ s.exp.nextRotate →
      pickSpare s 28 = some inn → rotationOut s = some out → (eng s out).quartet = some q →
      let u : State := { s with now := s.exp.nextRotate, exp := { s.exp with
        nextRotate := s.exp.nextRotate + s.exp.rotate * 1000000000000 } }
      quartetHead u q = some (page, n) →
      let v := rotateLanes out inn q page (n + 16) (engTake inn .warming (some q) u)
      exec .rotationTimer s = .next { v with exp := { v.exp with
        rotation := some { out := out, inn := inn, quartet := q, page := page.key, h := n + 16 } } })

/-- Each accepted with its fields legal. POS.INPUT of an input that no enabled tracker and no axis in automatic follows takes its
fields, clears the fault, waits for a first sample, puts out the carrier of a resolver, and drops the alignment of the axes on it;
with a follower it answers ST_STATE. POS.TRACK without EN of a station with no live page stops its tracker and takes the fields (a
stop timeout of 0 is 1,000 µs); with EN it starts the line at the position of the moment, and boundary 0 fires at once (the
model's reading, log entry 27). POS.STATUS and POS.LATENCY return their words and change nothing. POS.DELAY within ±1,024 sets
REG_HOST of the station's 16 tiles and returns the tiles whose taps lie beyond live travel. POS.MASK whose table is read and whose
CRC holds applies at once to a station with no live page, and waits for a gap otherwise; with another CRC it answers ST_CHECK.
POS.OVERRIDE adds its entries to the station's queue and returns the queue's length. TIME.CONFIG with no live page selects the
reference. -/
def Obligations.PositionCommandsComplete : Prop :=
  ∀ (s : State) (n : Nat) (ws : List Word),
    (Accepts s 0x0501 [0x177, 0x13F0F, 0xFFFF00FF, allBits, 0xFF] n ws → inputOk ws = true →
      let i := bits (par ws 2) 0 3
      ((followers s i).isEmpty = true → axisAuto s i = false →
        ∃ f, exec .posInput s = .next (okReply n [] (drvUnalign i (setIn i f
              (when (bits (par ws 2) 4 3 == 3) (emit (.posDrive i (par ws 5) 0)) (taken s)))))
          ∧ ∀ p, (f p).mode = bits (par ws 2) 4 3 ∧ (f p).invert = bitOf (par ws 2) 8 ∧ (f p).interp = bits (par ws 3) 0 4
            ∧ (f p).nbits = bits (par ws 3) 8 6 ∧ (f p).gray = bitOf (par ws 3) 16 ∧ (f p).rate = par ws 5 ∧ (f p).fault = false
            ∧ (f p).filter = bits (par ws 6) 0 8 ∧ (f p).fresh = (bits (par ws 2) 4 3 != 5))
      ∧ (((followers s i).isEmpty = false ∨ axisAuto s i = true) → exec .posInput s = .next (respond n stState [] (taken s))))
    ∧ (Accepts s 0x0502 [0xF0177, allBits, 0xFFFF] n ws →
      let st := bits (par ws 2) 0 3
      let i := bits (par ws 2) 4 3
      let cpl := par ws 3
      let sto := bits (par ws 4) 0 16
      st ≤ 5 → 0x10000 ≤ cpl → (sto = 0 ∨ 10 ≤ sto) → stationLive s st = false → cplFits s.page.cfg st cpl = true →
      let u := setTrk st (fun t => dropVel { t with
        en := false, input := i, jw := bits (par ws 2) 16 4, cpl := cpl, stopTo := if sto = 0 then 1000 else sto,
        stopped := false, inExcursion := false, bTimes := [], lastB := none }) (taken s)
      (bitOf (par ws 2) 8 = false → exec .posTrack s = .next (okReply n [] (movesNow u)))
      ∧ (bitOf (par ws 2) 8 = true → (posIn s i).mode ≠ 5 → exec .posTrack s = .next (okReply n [] (fireBoundary st s.now
          (lineStart st (setTrk st (fun t => { t with en := true, origin := t.ext, hwm := t.ext, k := -1 })
            { u with exp := { u.exp with slack := updAt u.exp.slack st (fun q => { q with calmSince := q.calmSince - (trk u st).k - 1 }) } }))))))
    ∧ (Accepts s 0x0503 [7] n ws → par ws 2 ≤ 5 → ∃ r, r.length = 13 ∧ exec .posStatus s = .next (okReply n r (taken s)))
    ∧ (Accepts s 0x0504 (7 :: List.replicate 8 allBits) n ws →
      let st := par ws 2
      let v (t : Nat) : Int := sbits (par ws (3 + t / 2)) (16 * (t % 2)) 16
      st ≤ 5 → (∀ t, t < 16 → -1024 ≤ v t ∧ v t ≤ 1024) →
      let u := forRange 16 (taken s) (fun t s => regHost (16 * st + t) (((List.range 16).map v).getD t 0) s)
      exec .posDelay s = .next (okReply n [maskOf ((List.range 16).filter (fun t => beyondTravel (dly u (16 * st + t))))] u))
    ∧ (Accepts s 0x0505 [0x107, allBits, allBits, allBits] n ws →
      let st := bits (par ws 2) 0 3
      let stitch := bitOf (par ws 2) 8
      st ≤ 5 → ∀ bs, hostRead s (par64 ws 3) (if stitch then 7680 else 1024) = some bs →
      (crc32c bs = par ws 5 → stationLive s st = false → exec .posMask s = .next (okReply n [] (maskApply st stitch bs longAgo (taken s))))
      ∧ (crc32c bs = par ws 5 → stationLive s st = true → exec .posMask s = .next (deferredReply n ws s.host.nextOid
          (gapPend (.mask st) (some (1 <<< st)) (some s.host.nextOid) { taken s with pos := { s.pos with
            maskWaits := s.pos.maskWaits ++ [{ station := st, stitch := stitch, bytes := bs, oid := s.host.nextOid }] } })))
      ∧ (crc32c bs ≠ par ws 5 → exec .posMask s = .next (respond n stCheck [] (taken s))))
    ∧ (Accepts s 0x0506 (0x3F07 :: List.replicate 60 0x3FFFF) n ws →
      let st := bits (par ws 2) 0 3
      let k := bits (par ws 2) 8 6
      let q := s.pos.overQueue.getD st []
      st ≤ 5 → 1 ≤ k → k ≤ 60 → (∀ i, i < 60 - k → par ws (3 + k + i) = 0) → q.length + k ≤ 4096 →
      exec .posOverride s = .next (okReply n [q.length + k] { taken s with pos := { s.pos with
        overQueue := s.pos.overQueue.set st (q ++ (List.range k).map (fun i => (bits (par ws (3 + i)) 0 16, bits (par ws (3 + i)) 16 2))) } }))
    ∧ (Accepts s 0x0507 [0x7F] n ws → par ws 2 ≤ 95 →
      let d := dly s (par ws 2)
      exec .posLatency s = .next (okReply n
        [fld (d.lat / 250) 0 16, fld (d.rtt / 250) 0 16, unsig d.ia 16 + unsig d.ib 16 * 65536, fld d.ta 0 8 + fld d.tb 8 8] (taken s)))
    ∧ (Accepts s 0x0508 [1] n ws →
      (anyLive s = false → exec .timeConfig s
          = .next (okReply n [] { taken s with pos := { s.pos with refExt := bitOf (par ws 2) 0, locked := true } }))
      ∧ (anyLive s = true → exec .timeConfig s = .next (respond n stState [] (taken s))))

/-- LINE_FRAME_START sends the oldest built frame once the transmitter is free, counts it and its suppressed rows, and counts a
poisoned frame besides. PRBS_SLOT_SEND lets the frames that wait go first; then in an allowed slot with a tracker enabled it sends
8,192 bits of the pattern and counts them. BLOCK_LOCK takes each header while the lane listens and then notes what locks.
CODEWORD_RX of 85 data blocks on a listening lane in block lock, before codeword lock and with nothing injected, counts the
symbols corrected and one good codeword, and locks at the third in a row; a codeword that cannot be corrected counts as such and
breaks the row. STATUS_FRAME_RX and MGMT_RESPONSE_RX of a frame with a false CRC drop it; with a true CRC the counts, the
temperature and the row results of a status frame are taken, and a response with the SEQ of an outstanding request ends that
request and is used. MGMT_RETRY_TIMEOUT of a request sent fewer than four times sends it again; of one sent four times raises
EV_LINK_MGMT_FAIL. PRBS_SLOT_RX takes the slot off the queue, counts lost bytes, and is ignored with checking off. ECHO_RX of a
block with a true CRC-16 that answers an outstanding probe within 10 µs, on a lane that reports, ends the probe with the time
since it was sent, less its wait at the tile, as the new round trip; of a block with a false CRC-16 it is ignored. -/
def Obligations.LanesSendAndReceive : Prop :=
  ∀ (s : State) (g : Nat),
    (∀ f t poison, (port s g).frames = f :: t →
      let u := tick 0x0602 g (atTime (port s g).busyUntil (setPort g (fun p => { p with frames := t }) s))
      let v := bump 0x0508 g (b2n f.supA + b2n f.supB) (when poison (tick 0x0603 g) u)
      exec (.lineFrameStart g poison) s = .next (txFrame g (lineBytes f poison) (some (unsig f.k 32))
        (((rowPages v g f.imgA ++ rowPages v g f.imgB).head?.map (fun p => p.id.toNat)).getD 0) v.now v))
    ∧ (let u := txDrain g s
      slotAllowed u g = true → (trk u (stOf g)).en = true →
      let r := prbsRun (port u g).prbs 8192 (port u g).prbsReg []
      let v := bump 0x060A g 8192 (setPort g (fun p => { p with prbsReg := r.1, prbsAt := u.now, wBits := satAdd 64 p.wBits 8192 }) u)
      exec (.prbsSlotSend g) s = .next (txFrame g (frameCore 0x04 0 1030 ++ (groupsOf 8 1024 r.2).map (BitVec.ofNat 8)) none 0 u.now v))
    ∧ (∀ hs, exec (.blockLock g hs) s
        = .next (lockNote g (forList hs s (fun h s => if listens (port s g) then hdrNote g h s else s))))
    ∧ (∀ ws, let bs := blocksOf ws.length ws
      let u := forList bs s (fun b s => if listens (port s g) then hdrNote g (b.1 != b.2.1) s else s)
      let pl := payloads (port u g).descr bs []
      listens (port s g) = true → (port s g).blockLock = true →
      countBy (fun (b : Bool × Bool × List Bool) => !(b.1 && !b.2.1)) bs = 85 →
      listens (port u g) = true → (port u g).blockLock = true → (port u g).cwLock = false → (port u g).flips = [] →
      let v := setPort g (fun p => { p with descr := pl.1, flips := [] }) u
      exec (.codewordRx g ws) s = match (decodeWord pl.2).2 with
        | some n => .next (lockNote g (setPort g (fun p => { p with cwBad := 0, cwGood := p.cwGood + 1, cwLock := p.cwLock || decide (3 ≤ p.cwGood + 1) })
            (setPort g (fun p => { p with wUpCorr := satAdd 32 p.wUpCorr n }) (bump 0x0600 g n v))))
        | none => .next (setPort g (fun p => { p with cwBad := p.cwBad + 1, cwGood := 0 })
            (setPort g (fun p => { p with wUpUnc := satAdd 16 p.wUpUnc 1 }) (tick 0x0601 g v))))
    ∧ (∀ f u, popRx g 0x11 s = some (f, u) →
      let b := f.map (fun x => x.1)
      (tailCrcOk b = false → exec (.statusFrameRx g) s = .next u)
      ∧ (tailCrcOk b = true → linkHeld (port u g).st = true → reports (port (dnCounts g (readStatus b) u) g).st = false →
          exec (.statusFrameRx g) s = .next (tileTemp g (readStatus b) false (dnCounts g (readStatus b) u)))
      ∧ (tailCrcOk b = true → linkHeld (port u g).st = true →
          let v := dnCounts g (readStatus b) u
          let rows := statusRows g (readStatus b) v
          reports (port v g).st = true → rows ≠ [] → exec (.statusFrameRx g) s
            = .next (forList rows (setPort g (fun p => { p with gapRun := 0 })
                (tileTemp g (readStatus b) (rows.any (fun r => r.2.1 == 7 || r.2.2 == 7)) v)) (fun r s => rowResults g r.1 r.2.1 r.2.2 s))))
    ∧ (∀ f u, popRx g 0x12 s = some (f, u) →
      let b := f.map (fun x => x.1)
      (tailCrcOk b = false → exec (.mgmtResponseRx g) s = .next u)
      ∧ (∀ r, tailCrcOk b = true → (port u g).mgmt.find? (fun r => r.seq == leAt b 7 1) = some r → exec (.mgmtResponseRx g) s
          = .next (mgmtUse g r (leAt b 9 1) (slice b 16 (leAt b 10 2))
              (mgmtNext g (setPort g (fun p => { p with mgmt := p.mgmt.filter (fun q => q.seq != r.seq) }) u)))))
    ∧ (∀ r, (port s g).mgmt = [r] →
      let u := atTime r.due s
      (r.sends < 4 → exec (.mgmtRetryTimeout g) s = .next (txOther g (mgmtBytes g r) (setPort g (fun p => { p with
          mgmt := p.mgmt.map (fun q => if q.seq = r.seq then { q with sends := q.sends + 1, due := u.now + 100 * usPs } else q) }) u)))
      ∧ (4 ≤ r.sends → let v := setPort g (fun p => { p with mgmt := p.mgmt.filter (fun q => q.seq != r.seq) }) u
          exec (.mgmtRetryTimeout g) s = .next (mgmtNext g (mgmtFailed g r
            (raise 0x0604 g 0 (stationLine v (stOf g)) r.op r.addr r.seq (tick 0x0607 g v))))))
    ∧ (∀ f u, popRx g 0x04 s = some (f, u) →
      ((port u g).prbs = 1 → exec (.prbsSlotRx g) s = .next u)
      ∧ ((port u g).prbs ≠ 1 →
        let c := (f.drop 6).foldl (fun (c : PrbsCount) (b : Byte × Bool) => if b.2 then (lsbBits 8 b.1.toNat).foldl (prbsCheck (port u g).prbs) c
          else { c with chk := prbsSkip (port u g).prbs c.chk 8 }) { chk := (port u g).prbsChk }
        exec (.prbsSlotRx g) s = .next (bump 0x060B g c.errs (bump 0x060A g c.bits (setPort g (fun p => { p with
          prbsLost := p.prbsLost + countBy (fun (b : Byte × Bool) => !b.2) (f.drop 6), prbsChk := c.chk
          wBits := satAdd 64 p.wBits c.bits, wErrs := satAdd 32 p.wErrs c.errs }) u)))))
    ∧ (∀ bytes t q, (port s g).probes.find? (fun q => q.1 == leAt bytes 2 2) = some q →
      (setOk 0xB6 bytes = true → t ≤ q.2 + 10 * usPs → reports (port s g).st = true →
        exec (.echoRx g bytes t) s = .next (latencyNew g (t - q.2 - echoWait (bits (leAt bytes 1 1) 0 6))
          (setPort g (fun p => { p with probes := p.probes.filter (fun x => x.1 != q.1) }) (atTime t s))))
      ∧ (setOk 0xB6 bytes = false → exec (.echoRx g bytes t) s = .next s))

/-- PROBE_TIMER on an ONLINE lane sends a probe and sets the next 1 ms later. PROBE_TIMEOUT drops the oldest outstanding probe and
counts it. In ACQUIRE, ACQUIRE_PEAK_TIMER tries the next peaking setting unless all three locks hold; ACQUIRE_RATE_TIMER goes to
half rate with every lock dropped, and to OFFLINE after both rates. OFFLINE_RETRY_TIMER and MGMT_ONLY_RETRY_TIMER go to ACQUIRE 10
s and 60 s after the lane entered its state. FAST_EXIT_TIMEOUT of an IDLE lane that is exiting goes to ACQUIRE. LINK_ERROR_WINDOW
on an ONLINE lane starts the window again, and beyond a threshold raises EV_LINK_ERRORS and asks for a retrain unless one waits.
IDLE_ENTER_RX of a block with a true CRC-16 on an IDLE lane notes the tile's silence; in any other case it changes nothing. -/
def Obligations.LaneTimersRunTheLink : Prop :=
  ∀ (s : State) (g : Nat),
    ((port s g).st = .online → let u := atTime (port s g).nextProbe s
      exec (.probeTimer g) s = .next (probeSend g u.now (setPort g (fun p => { p with nextProbe := u.now + msPs }) u)))
    ∧ (∀ q t, (port s g).probes = q :: t → exec (.probeTimeout g) s
        = .next (measured g (tick 0x0606 g (setPort g (fun p => { p with probes := t }) (atTime (q.2 + 10 * usPs) s)))))
    ∧ (∀ eye, (port s g).st = .acquire →
      let u := atTime (port s g).acqNext s
      let p := port s g
      let keep := p.blockLock && p.cwLock && p.frameLock
      exec (.acquirePeakTimer g eye) s = .next (lockNote g (setPort g (fun p => { p with
        eye := eye, acqNext := u.now + 200 * usPs, acqTried := if keep then p.acqTried else p.acqTried + 1,
        devPeak := if keep then p.devPeak else p.acqTried % 16 }) u)))
    ∧ ((port s g).st = .acquire →
      ((port s g).acqHalfTried = true → exec (.acquireRateTimer g) s
          = .next (linkTo g .offline 7 (setPort g (fun p => { p with half := false }) (atTime (port s g).acqEnd s))))
      ∧ ((port s g).acqHalfTried = false → g < s.link.ports.length → ∃ u, exec (.acquireRateTimer g) s = .next u ∧ u.page = s.page
          ∧ (port u g).half = true ∧ (port u g).acqHalfTried = true ∧ (port u g).acqTried = 0 ∧ (port u g).blockLock = false
          ∧ (port u g).cwLock = false ∧ (port u g).frameLock = false ∧ (port u g).st = .acquire ∧ ∀ h, h ≠ g → port u h = port s h))
    ∧ ((port s g).st = .offline →
      exec (.offlineRetryTimer g) s = .next (linkTo g .acquire 7 (atTime ((port s g).since + 10000 * msPs) s)))
    ∧ ((port s g).st = .mgmtOnly →
      exec (.mgmtOnlyRetryTimer g) s = .next (linkTo g .acquire 7 (atTime ((port s g).since + 60000 * msPs) s)))
    ∧ (∀ t, (port s g).st = .idle → (port s g).exitAt = some t → exec (.fastExitTimeout g) s = .next (linkTo g .acquire 7 (atTime t s)))
    ∧ (∀ eye, (port s g).st = .online →
      let p := port s g
      let u := windowRestart g (setPort g (fun p => { p with eye := eye }) (atTime (p.winStart + p.windowMs * msPs) s))
      let up := decide (p.retrainCorr < p.wUpCorr ∨ p.uncorrLimit ≤ p.wUpUnc)
      let dn := decide (p.retrainCorr < p.wDnCorr ∨ p.uncorrLimit ≤ p.wDnUnc)
      (up = false → dn = false → exec (.linkErrorWindow g eye) s = .next u)
      ∧ ((up = true ∨ dn = true) → 
          let v := raise 0x0603 g 0 (stationLine u (stOf g)) (b2n up + 2 * b2n dn) (p.wUpCorr + p.wDnCorr) (p.wUpUnc + p.wDnUnc) u
          exec (.linkErrorWindow g eye) s
            = .next (if gapHas v (.retrain g) then v else gapPend (.retrain g) (some (1 <<< stOf g)) none v)))
    ∧ (∀ bytes, (setOk 0xB7 bytes = true → (port s g).st = .idle → exec (.idleEnterRx { lane := g, bytes := bytes }) s = .next (setPort g (fun p => { p with idleRx := true }) s))
      ∧ ((setOk 0xB7 bytes = false ∨ (port s g).st ≠ .idle) → exec (.idleEnterRx { lane := g, bytes := bytes }) s = .next s))

/-- Each accepted with its fields legal. LINK.STATUS returns four words and changes nothing; LINK.ERRORS returns the window's seven
words and starts the window again. LINK.TRAIN of an ONLINE lane asks for a retrain of the named lanes and completes at once where
the station has no live page, and is deferred where it has. LINK.CONFIG changes, on the named lanes, each value whose field is not
0 and leaves the others; no other lane changes. LINK.ENABLE turns off the named lanes that are in ONLINE, IDLE, MGMT_ONLY, OFFLINE
or TEST (0), turns the OFF ones on (1), idles the ONLINE ones (2) and lets the IDLE ones exit (3), and returns the lanes acted on;
off and idle are refused with ST_PAGE_LOCKED where a named station has a live page. -/
def Obligations.LinkCommandsComplete : Prop :=
  ∀ (s : State) (n : Nat) (ws : List Word),
    (Accepts s 0x0601 [0x7F] n ws → par ws 2 < 96 → ∃ r, r.length = 4 ∧ exec .linkStatus s = .next (okReply n r (taken s)))
    ∧ (Accepts s 0x0602 [0x17F] n ws →
      let g := bits (par ws 2) 0 7
      let st := stOf g
      let tiles := if bitOf (par ws 2) 8 then (tilesOf st).filter (fun h => (port s h).st == .online || h == g) else [g]
      let named := maskOf (tiles.map (fun h => h % 16))
      let u := forList tiles (taken s) (fun h s =>
        if gapHas s (.retrain h) || (port s h).st == .retrain then s else gapPend (.retrain h) (some (1 <<< st)) none s)
      g < 96 → (port s g).st = .online →
      (stationLive s st = false → exec .linkTrain s = .next (okReply n [named] u))
      ∧ (stationLive s st = true → exec .linkTrain s = .next (deferredReply n ws s.host.nextOid { u with link := { u.link with
          trains := u.link.trains ++ [{ oid := u.host.nextOid, station := st, named := named, left := named }] } })))
    ∧ (Accepts s 0x0603 [0x17F, 0x1F0F1F, 7, 0xFFFFFF, 0xFFFFFF] n ws → linkConfigOk ws = true → bitOf (par ws 2) 8 = false →
      let g := bits (par ws 2) 0 7
      g < s.link.ports.length →
      ∃ u, exec .linkConfig s = .next (okReply n [] u) ∧ (∀ h, h ≠ g → port u h = port s h)
        ∧ (port u g).swingNext = orKeep (bits (par ws 3) 0 5) (port s g).swingNext
        ∧ (port u g).preNext = orKeep (bits (par ws 3) 8 4) (port s g).preNext
        ∧ (port u g).postNext = orKeep (bits (par ws 3) 16 5) (port s g).postNext
        ∧ (port u g).prbs = orKeep (bits (par ws 4) 0 3) (port s g).prbs
        ∧ (port u g).retrainCorr = orKeep (bits (par ws 5) 0 24) (port s g).retrainCorr
        ∧ (port u g).uncorrLimit = orKeep (bits (par ws 6) 0 8) (port s g).uncorrLimit
        ∧ (port u g).windowMs = orKeep (bits (par ws 6) 8 16) (port s g).windowMs ∧ (port u g).st = (port s g).st)
    ∧ (Accepts s 0x0604 [3, allBits, allBits, allBits] n ws →
      let lanes := maskLanes ws
      let sel (want : LinkSt → Bool) := lanes.filter (fun g => want (port s g).st)
      let live := lanes.any (fun g => stationLive s (stOf g))
      (par ws 2 % 4 = 0 → live = false →
        exec .linkEnable s = .next (okReply n (laneWords (sel offable)) (lanesOff (sel offable) (taken s))))
      ∧ (par ws 2 % 4 = 1 →
        exec .linkEnable s = .next (okReply n (laneWords (sel (· == .off))) (forList (sel (· == .off)) (taken s) laneOn)))
      ∧ (par ws 2 % 4 = 2 → live = false →
        exec .linkEnable s = .next (okReply n (laneWords (sel (· == .online))) (forList (sel (· == .online)) (taken s) laneIdle)))
      ∧ (par ws 2 % 4 = 3 → exec .linkEnable s = .next (okReply n (laneWords (sel (· == .idle)))
          (forList (sel (· == .idle)) (taken s) (fun g s => setPort g (fun p => { p with exitAt := some (s.now + 100 * usPs) }) s))))
      ∧ ((par ws 2 % 4 = 0 ∨ par ws 2 % 4 = 2) → live = true → exec .linkEnable s = .next (respond n stPageLocked [] (taken s))))
    ∧ (Accepts s 0x0605 [0x7F] n ws → par ws 2 < 96 →
      let p := port s (par ws 2)
      exec .linkErrors s = .next (okReply n ([p.wUpCorr, p.wDnCorr, fld p.wUpUnc 0 16 + fld p.wDnUnc 16 16] ++ two p.wBits
        ++ [p.wErrs, (s.now - p.winStart) / msPs]) (windowRestart (par ws 2) (taken s))))

/-- Each command accepted with its fields legal. TILE.INFO of a tile with a factory header returns eleven words and changes nothing.
TILE.THERMAL of one station whose new margins are in range stores them, sends the thresholds to its tiles of design generation 2
that are linked, and marks the others to get them when they are linked again. TILE.MEM of a linked standard tile sends the read or
write of the host area and keeps its slot ACTIVE. REC.DISCARD of a legal kind and place discards the record. TILE.POWER on drives
the sideband on and starts the delay; off, of a station with no live page, drives it off and turns the station's lanes off. When
the delay ends the station's 16 lanes are turned on. RECORD_WRITE of a changed record that may be written writes it, no sooner
than 10 s after it was last written. -/
def Obligations.TileCommandsAndRecords : Prop :=
  ∀ (s : State) (n : Nat) (ws : List Word),
    (Accepts s 0x0701 [0x7F] n ws → par ws 2 < 96 → (tileOf s (par ws 2)).hdr.isSome = true →
      ∃ r, r.length = 11 ∧ exec .tileInfo s = .next (okReply n r (taken s)))
    ∧ (Accepts s 0x0702 [0x3F, allBits, 0xFFFF] n ws → ∀ st, bitList 6 (par ws 2) = [st] →
      let m := newMargins s st (bits (par ws 3) 0 16) (bits (par ws 3) 16 16) (par ws 4)
      marginsOk m = true →
      let u := { taken s with tile := { s.tile with margins := s.tile.margins.set st m } }
      let tell := (tilesOf st).filter (fun g => ((tileOf u g).hdr.map (fun h => h.gen == 2)).getD false)
      let v := forList tell u (fun g s => if linkHeld (port s g).st then thresholdsOut g s else setTile g (fun t => { t with thrDue := true }) s)
      exec .tileThermal s = .next (okReply n [fld (marginsOf v st).1 0 16 + fld (marginsOf v st).2.1 16 16, (marginsOf v st).2.2] v))
    ∧ (Accepts s 0x0703 ([0x17F, 0x1FFF, 0xFF] ++ List.replicate 56 allBits) n ws →
      let g := bits (par ws 2) 0 7
      let wr := bitOf (par ws 2) 8
      g < 96 → 1 ≤ par ws 4 → par ws 4 ≤ 224 → par ws 3 + par ws 4 ≤ 8192 → (port s g).legacy = false → linkHeld (port s g).st = true →
      let u := { taken s with active := some { slot := 0, lane := g, write := wr } }
      let data := if wr then memData ws (par ws 4) else []
      let v := mgmtSend g (if wr then 2 else 1) (0xA000 + par ws 3) (par ws 4) data .hostMem u
      exec .tileMem s = .next { v with host := { v.host with slots := updAt v.host.slots n (fun q => { q with st := .active }) },
                                       active := v.active.map (fun c => { c with slot := n }) })
    ∧ (Accepts s 0x0704 [7, 0xFFFF] n ws → locOk (par ws 2) (par ws 3) = true →
      exec .recDiscard s = .next (okReply n [] (recDiscard (par ws 2) (par ws 3) (taken s))))
    ∧ (Accepts s 0x0705 [0x307, 0x3FF] n ws →
      let st := bits (par ws 2) 0 3
      let ms := if par ws 3 = 0 then 100 else par ws 3
      st < 6 → ms ≤ 1000 →
      (bitOf (par ws 2) 8 = true → exec .tilePower s = .next (okReply n [] (setTsb st (fun t => { t with
          driven := true, on := true, activeHigh := bitOf (par ws 2) 9, delayEnd := some (s.now + ms * msPs) }) (taken s))))
      ∧ (bitOf (par ws 2) 8 = false → stationLive s st = false → exec .tilePower s = .next (okReply n []
          (lanesOff ((tilesOf st).filter (fun g => (port s g).st != .off)) (setTsb st (fun t => { t with
            driven := true, on := false, activeHigh := bitOf (par ws 2) 9, delayEnd := none }) (taken s)))))
      ∧ (bitOf (par ws 2) 8 = false → stationLive s st = true → exec .tilePower s = .next (respond n stPageLocked [] (taken s))))
    ∧ (∀ st t, (s.tile.tsb[st]?).bind TileSideband.delayEnd = some t → exec (.tilePowerDelayExpiry st) s
        = .next (forList (tilesOf st) (setTsb st (fun x => { x with delayEnd := none }) (atTime t s)) laneOn))
    ∧ (∀ kind loc o, s.tile.dirty.contains { kind := kind, location := loc } = true → recMayWrite s kind loc = true →
      recObject s kind loc = some o →
      (mapGet s.tile.lastWrite (kind * 65536 + loc) = none →
          exec (.recordWrite kind loc) s = .next (recWrite kind loc o.1 o.2 s))
      ∧ (∀ t, mapGet s.tile.lastWrite (kind * 65536 + loc) = some t →
          exec (.recordWrite kind loc) s = .next (recWrite kind loc o.1 o.2 (atTime (t + 10000000000000) s))))

/-- Each command accepted with its fields legal. CTR.READ of 1 to 28 instances that include one the counter has returns the capture
time, the class and width, the SAT bits and two words for each instance (0 for an instance it does not have), and changes nothing.
CTR.CLEAR of a class S counter clears the values and SAT bits of the named instances and no other; of another class it answers
ST_STATE. TEST.PRBS starts (1) OFF lanes, stops (0), reads (2) and inserts an error on (3) lanes in raw test. INJ.ARM of a legal
injection arms it and returns what was left of the one before; an action of 0 disarms. SPINE_FRAME_RX with nothing armed counts a
corrected frame and a failed one. JTAG_INSTRUCTION gives the die IDCODE, SAMPLE/PRELOAD, EXTEST under TEST_MODE alone, and BYPASS
otherwise (the codes are the model's, log entry 63). PRBS_CHECKER_SYNC feeds the checker of a lane in raw test (which sends as
many bits of its own pattern, unless the near-end loopback keeps its balls idle) or of the spine, and counts. -/
def Obligations.CountersAndTestAccess : Prop :=
  ∀ (s : State) (n : Nat) (ws : List Word),
    (Accepts s 0x0F01 [0xFFFF, 0x1FFFFF] n ws →
      let id := bits (par ws 2) 0 16
      let first := bits (par ws 3) 0 16
      let k := bits (par ws 3) 16 5
      ∀ d, ctrDesc id = some d → 1 ≤ k → k ≤ 28 → (∃ i, i < k ∧ ctrInst d.per (first + i) = true) →
      exec .ctrRead s = .next (okReply n (two (captureTime s id) ++ [d.cls.code + 256 * d.width,
          maskOf ((List.range k).filter (fun i => ctrInst d.per (first + i) && s.ctr.sat.contains (ctrKey id (first + i))))]
        ++ ((List.range k).map (fun i => two (if ctrInst d.per (first + i) then ctrRead (taken s) id (first + i) else 0))).flatten) (taken s)))
    ∧ (Accepts s 0x0F02 [0xFFFF, 0xFFFF, 0xFFFF] n ws →
      let id := bits (par ws 2) 0 16
      let first := bits (par ws 3) 0 16
      let k := bits (par ws 4) 0 16
      ∀ d, ctrDesc id = some d → (∃ i, i < k ∧ ctrInst d.per (first + i) = true) →
      (d.cls = .s →
        let keep (x : Nat) : Bool := !(x / 65536 == id && decide (first ≤ x % 65536 ∧ x % 65536 < first + k))
        exec .ctrClear s = .next (okReply n [] { taken s with ctr := { s.ctr with
          vals := s.ctr.vals.filter (fun v => keep v.1), sat := s.ctr.sat.filter keep } }))
      ∧ (d.cls ≠ .s → exec .ctrClear s = .next (respond n stState [] (taken s))))
    ∧ (Accepts s 0x0F03 [0x7303, allBits, allBits, allBits] n ws →
      let lanes := maskLanes ws
      let pattern := bits (par ws 2) 12 3
      (bits (par ws 2) 0 2 = 0 → (∀ g, g ∈ lanes → (rawOf s g).isSome = true) →
        exec .testPrbs s = .next (okReply n (laneWords lanes) (lanesOff lanes (taken s))))
      ∧ (bits (par ws 2) 0 2 = 1 → 2 ≤ pattern → pattern ≤ 6 → (∀ g, g ∈ lanes → (port s g).st = .off) →
        exec .testPrbs s = .next (okReply n (laneWords lanes)
          (forList lanes (taken s) (rawStart pattern (bitOf (par ws 2) 9) (bitOf (par ws 2) 8)))))
      ∧ (∀ g t r, bits (par ws 2) 0 2 = 2 → lanes = g :: t → rawOf s g = some r → exec .testPrbs s
          = .next (okReply n ([b2n r.chk.inSync] ++ two (ctrVal s 0x0F01 g) ++ [ctrVal s 0x0F02 g, ctrVal s 0x0F03 g]) (taken s)))
      ∧ (bits (par ws 2) 0 2 = 3 → (∀ g, g ∈ lanes → (rawOf s g).isSome = true) →
        exec .testPrbs s = .next (okReply n (laneWords lanes)
          (forList lanes (taken s) (fun g s => setRaw g ((rawOf s g).map (fun r => { r with insert := r.insert + 1 })) s)))))
    ∧ (Accepts s 0x0F04 [0x1077F03, 0xFF, allBits, allBits, 0xFFFF, allBits, 0xFFFF] n ws →
      let kind := bits (par ws 2) 0 2
      let index := bits (par ws 2) 8 7
      let left := ((injOf s kind index).map Injection.remaining).getD 0
      injTarget kind index = true →
      (bits (par ws 2) 16 3 = 0 → exec .injArm s = .next (okReply n [left] (setInj kind index none (taken s))))
      ∧ (bits (par ws 2) 16 3 = 1 → 1 ≤ bits (par ws 5) 0 16 → 1 ≤ bits (par ws 5) 16 16 →
          (injLive s kind index = false ∨ bitOf (par ws 2) 24 = true) →
          exec .injArm s = .next (okReply n [left] (setInj kind index (some {
            kind := kind, index := index, action := .drop, live := bitOf (par ws 2) 24, ftype := bits (par ws 3) 0 8, line := par ws 4,
            remaining := bits (par ws 5) 0 16, interval := bits (par ws 5) 16 16, offset := bits (par ws 6) 0 16,
            mask := BitVec.ofNat 32 (par ws 7), delay := bits (par ws 8) 0 16 }) (taken s)))))
    ∧ (∀ toMachine corrected ok, engOn s = true → s.test.injections = [] →
      let i := 256 * (if toMachine then 0 else 1)
      let u := if corrected then tick 0x0F04 i s else s
      exec (.spineFrameRx toMachine corrected ok) s = .next (if ok then u else tick 0x0F05 i u))
    ∧ (∀ machine code, macOn s = true → engOn s = true →
      let j : JtagInstr := if code = 1 then .idcode else if code = 2 then .samplePreload
        else if code = 3 ∧ s.board.testMode = true then .extest else .bypass
      exec (.jtagInstruction machine code) s = .next { s with test := { s.test with jtag := s.test.jtag.set (if machine then 1 else 0) j } })
    ∧ (∀ i bs, engOn s = true →
      (∀ r, rawOf s i = some r →
        let q := rawLine r bs
        let c := q.2.foldl (prbsCheck r.pattern) { chk := r.chk }
        exec (.prbsCheckerSync false i bs) s = .next (bump 0x0F03 i c.resyncs (bump 0x0F02 i c.errs (bump 0x0F01 i c.bits
          (setRaw i (some { q.1 with chk := c.chk }) (if r.nearEnd = true then s else emit (.rawBits i (rawSent r bs.length)) s))))))
      ∧ (i < 2 → let c := bs.foldl (prbsCheck 6) { chk := s.test.spine.getD i {} }
        exec (.prbsCheckerSync true i bs) s
          = .next (bump 0x0F06 (256 * i) c.errs { s with test := { s.test with spine := s.test.spine.set i c.chk } })))

/-- CONS.STATUS returns the slot's words and changes nothing; CONS.BIND with a divider of 1 to 1,000,000,000 binds the slot and no
other, keeping its accumulator only if unit and divider stay; CONS.AUTH answers ST_PENDING and starts an authentication in each
named slot that is not EMPTY; CONS.OTP_KEY stores a root key on the curve in an empty place, and MASTER once. CONS_POLL with
firmware READY reads each slot's kind 4 record at its first poll since reset, polls all 32 slots and sets the next poll 250 ms
later. CONS_AUTH_TIMER of a slot that is neither EMPTY nor FAILED authenticates it again. CONS_INCREMENT of an AUTHENTICATED idle
slot with charges held sends an increment by them under a fresh nonce (a free value). CONS_CHIP_RESPONSE with a request under way:
STATUS 0xFF is read again 1 ms later, a bad CRC is read again at most twice, a good response ends a run of bus errors and is used,
a bus error is counted. CONS_BUSY_RETRY gives up after 50 reads. CONS_BUS_TIMEOUT is a bus error. -/
def Obligations.ConsumablesAreAuthenticated : Prop :=
  ∀ (s : State) (n : Nat) (ws : List Word) (i : Nat),
    (Accepts s 0x0710 [0x1F] n ws → let c := slotOf s (par ws 2)
      exec .consStatus s = .next (okReply n ([c.st.code + c.stations * 256] ++ two c.uid
        ++ [fld c.kind 0 8 + fld c.keyIdx 8 8, c.max, c.confirmed, c.pending]) (taken s)))
    ∧ (Accepts s 0x0711 [0x3F1F, 1, allBits] n ws → 1 ≤ par ws 4 → par ws 4 ≤ 1000000000 →
      exec .consBind s = .next (okReply n [] (setCons (bits (par ws 2) 0 5) (fun c => { c with
        stations := bits (par ws 2) 8 6, byLines := bitOf (par ws 3) 0, div := par ws 4,
        acc := if c.byLines = bitOf (par ws 3) 0 ∧ c.div = par ws 4 then c.acc else 0 }) (taken s))))
    ∧ (Accepts s 0x0712 [allBits] n ws →
      let u := { taken s with tile := { s.tile with auths := s.tile.auths ++ [{ oid := s.host.nextOid, left := par ws 2 }] } }
      exec .consAuth s = .next (authDone (pendingReply n ws s.host.nextOid
        (forList (bitList 32 (par ws 2)) u (fun n s => if (slotOf s n).st = .empty then authSettle n 0x0702 s else authStart n s)))))
    ∧ (Accepts s 0x0713 (7 :: List.replicate 16 allBits) n ws →
      let x := octets ws 3 8
      let y := octets ws 11 8
      (par ws 2 < 4 → onCurve (beNat x) (beNat y) = true → s.tile.roots.getD (par ws 2) none = none →
        exec .consOtpKey s = .next (okReply n [] { taken s with tile := { s.tile with
          roots := s.tile.roots.set (par ws 2) (some (beNat x, beNat y)) } }))
      ∧ (par ws 2 = 4 → y.all (· == 0) = true → s.tile.master = none →
        exec .consOtpKey s = .next (okReply n [] { taken s with tile := { s.tile with master := some x } })))
    ∧ (∀ acks, fwReady s = true →
      let u := atTime s.tile.nextPoll s
      exec (.consPoll acks) s = .next (authDone (forRange 32 { u with tile := { u.tile with nextPoll := u.now + 250 * msPs } }
        (fun n s => pollSlot n (bitOf acks n) (recordRead n s)))))
    ∧ (fwReady s = true → (slotOf s i).st ≠ .empty → (slotOf s i).st ≠ .failed →
      exec (.consAuthTimer i) s = .next (authStart i (atTime (slotOf s i).authAt s)))
    ∧ (fwReady s = true → (slotOf s i).st = .authenticated → (slotOf s i).pending ≠ 0 → (slotOf s i).req = .none →
      s.tile.master.isSome = true →
      exec (.consIncrement i) s = .next (consSend i (setCons i (fun c => { c with
        req := .increment ((drawNat s).2 % 2 ^ 128) c.pending }) (drawNat s).1)))
    ∧ (∀ data, (slotOf s i).req ≠ .none →
      let k := leAt data 1 2
      let good := leAt data (3 + k) 2 = crc16Ccitt (data.take (3 + k)) ∧ data.length = k + 5
      exec (.consChipResponse i data false) s = .next (authDone (busError i s))
      ∧ (leAt data 0 1 = 0xFF → exec (.consChipResponse i data true) s
          = .next (setCons i (fun c => { c with busy := c.busy + 1, retryAt := some (s.now + msPs) }) s))
      ∧ (leAt data 0 1 ≠ 0xFF → good → exec (.consChipResponse i data true) s
          = .next (authDone (consAnswer i (leAt data 0 1) (slice data 3 k) (setCons i (fun c => { c with busErrs := 0 }) s))))
      ∧ (leAt data 0 1 ≠ 0xFF → ¬ good → (slotOf s i).crcBad < 2 → exec (.consChipResponse i data true) s
          = .next (setCons i (fun c => { c with crcBad := c.crcBad + 1 }) s))
      ∧ (leAt data 0 1 ≠ 0xFF → ¬ good → 2 ≤ (slotOf s i).crcBad → exec (.consChipResponse i data true) s
          = .next (authDone (busError i s)))
      ∧ exec (.consBusTimeout i) s = .next (authDone (busError i s)))
    ∧ (∀ t, (slotOf s i).retryAt = some t → i < s.tile.slots.length →
      let u := setCons i (fun c => { c with retryAt := none }) (atTime t s)
      ((slotOf s i).busy < 50 → exec (.consBusyRetry i) s = .next u)
      ∧ (50 ≤ (slotOf s i).busy → exec (.consBusyRetry i) s = .next (authDone (busError i u))))

/-- CAM_FRAME_START of an enabled area port in RUN, with VSYNC going active, ends the line under way and starts a frame; going
inactive it only changes the level. CAM_LINE takes each clock in turn, as its balls stand at the selected edge; a line that ends
in an open frame short of its lines is taken by it, one beyond them makes it a long frame. CAM_PIPE_LINE_DONE adds the line to its
frame's rows, skips the frame on the streams that have fallen behind, and lets the free pipelines take the next ready lines.
CAM_TRIG_PERIOD of a mode 2 output pulses and falls due one PERIOD later. CAM.PORT, CAM.MOSAIC, CAM.STREAM and CAM.STATS with
every field in range write the port's shadow set, one generation up, and return the generation; CAM.PORT enables a disabled port
with its buffers empty. CAM.STATUS returns its words and starts the FIFO high-water mark again. CAM.TRIGGER in range sets the
output. CAM.I2C of an acknowledged transfer returns the bytes read; of a byte not acknowledged it answers 0x0801 with its index. -/
def Obligations.CameraPortsAndTriggers : Prop :=
  ∀ (s : State) (n : Nat) (ws : List Word) (p : Nat),
    let gen (p : Nat) : Nat := ((camPort s p).shadow.gen + 1) % 65536
    let set (p : Nat) (f : CamCfg → CamCfg) : State := setPortCam p (fun q =>
      let c := { f (camPort s p).shadow with gen := gen p }
      { q with shadow := c, cfg := if q.en then q.cfg else c }) (taken s)
    (∀ vs t, engOn s = true → s.fw.power = .run → p < 4 → (camPort s p).en = true →
      let u := setCamLine p (fun r => { r with vs := vs != (camPort s p).cfg.timing.vsLow }) (atTime t s)
      (vs = (camPort s p).cfg.timing.vsLow → exec (.camFrameStart p { level := vs, t := t }) s = .next u)
      ∧ (vs ≠ (camPort s p).cfg.timing.vsLow → (camPort s p).cfg.timing.linescan = false →
          exec (.camFrameStart p { level := vs, t := t }) s = .next (camStart p t (camLineEnd p u))))
    ∧ (∀ t rise fall, engOn s = true → s.fw.power = .run → p < 4 → (camPort s p).en = true →
      exec (.camLine p { t := t, rise := rise, fall := fall }) s
        = .next ((if (camPort s p).cfg.timing.falling = true then fall else rise).foldl (camClock p t) (atTime t s)))
    ∧ (∀ f, let r := (camPort s p).line
      let u := setCamLine p (fun r => { r with st := 0, px := [] }) s
      r.st = 2 → r.keep = true → openFrame (camPort u p) = some f →
      camLineEnd p s = if f.received < f.expect then camLineIn p f r.px.reverse u else camExcess p u)
    ∧ (∀ l lost late, (s.cam.pipes.getD p {}).cur = some l → exec (.camPipeLineDone p { lost := lost, late := late }) s
        = .next (pipesTake (camFlush l.1 (forList (bitList 4 late) (setFrame l.1 l.2.frame (fun f => { f with
            rows := f.rows ++ [camLostPixels lost l.2.pixels], statCut := f.statCut || bitOf late 4 })
            (camLost lost (setPipe p (fun q => { q with cur := none }) s))) (streamSkip l.1)))))
    ∧ (engOn s = true → (camTrig s p).mode = 2 → exec (.camTrigPeriod p) s
        = .next (camPulse p 0 (setTrig p (fun g => { g with nextAt := g.nextAt + g.period * 1000 }) (atTime (camTrig s p).nextAt s))))
    ∧ (Accepts s 0x0801 [0x1F3FF3, allBits, 0xFFFF7FFF, 0x7] n ws →
      let a := par ws 2
      let t : CamTiming := {
        pipeline := bits a 5 1, prio := bits a 6 2, linescan := bitOf a 8, useDe := bitOf a 9, falling := bitOf a 10, hsLow := bitOf a 11,
        vsLow := bitOf a 12, deLow := bitOf a 13, dbits := bits a 16 5, hStart := bits (par ws 3) 0 16, vStart := bits (par ws 3) 16 16,
        hWidth := bits (par ws 4) 0 15, vHeight := bits (par ws 4) 16 16, trig := bits (par ws 5) 0 2, triggered := bitOf (par ws 5) 2 }
      let c := (camPort s (bits a 0 2)).shadow
      8 ≤ t.dbits → t.dbits ≤ 16 → 16 ≤ t.hWidth → t.hWidth ≤ 16384 → 1 ≤ t.vHeight → (t.linescan = true → t.vHeight ≤ 4096) →
      (∀ x, x ∈ c.streams → x.en = true → streamOk t c.mosaic x = true) → (c.stats.en = true → statsOk t c.stats = true) →
      bitOf a 4 = true → (camLevel s.board.vddCam).isSome = true →
      ((camPort s (bits a 0 2)).en = true →
        exec .camPort s = .next (okReply n [gen (bits a 0 2)] (set (bits a 0 2) (fun c => { c with timing := t }))))
      ∧ ((camPort s (bits a 0 2)).en = false → exec .camPort s = .next (okReply n [gen (bits a 0 2)]
          (setPortCam (bits a 0 2) (fun q => { q with
            en := true, cfg := q.shadow, frameNo := 0, frames := [], open_ := false, fifo := [], armed := false, lost := 0, done := none, line := {} })
            (set (bits a 0 2) (fun c => { c with timing := t }))))))
    ∧ (Accepts s 0x0802 [0x03030303, 0x3FFFFFFF, 0x3FFFF] n ws →
      let q := bits (par ws 2) 0 2
      bits (par ws 2) 8 2 = 0 → (camPort s q).shadow.stats.en = false → (∀ x, x ∈ (camPort s q).shadow.streams → x.en = false) →
      ∃ m, m.size = 0 ∧ exec .camMosaic s = .next (okReply n [gen q] (set q (fun c => { c with mosaic := m }))))
    ∧ (Accepts s 0x0803 [0x17133, allBits, allBits, 0x1F1F, allBits, allBits, allBits, 0xFF, allBits, allBits, 0xFFFF] n ws →
      let a := par ws 2
      let c : StreamCfg := {
        en := bitOf a 8, chan := bits a 12 3, wide := bitOf a 16, x0 := bits (par ws 3) 0 16, y0 := bits (par ws 3) 16 16,
        cw := bits (par ws 4) 0 16, ch := bits (par ws 4) 16 16, fx := bits (par ws 5) 0 5, fy := bits (par ws 5) 8 5,
        base := par64 ws 6, bufSize := par ws 8, nbuf := bits (par ws 9) 0 8, consumer := par64 ws 10, evN := bits (par ws 12) 0 16 }
      let q := (camPort s (bits a 0 2)).shadow
      streamOk q.timing q.mosaic c = true → streamHas q.mosaic c = true →
      exec .camStream s = .next (okReply n [gen (bits a 0 2)]
        (set (bits a 0 2) (fun q => { q with streams := q.streams.set (bits a 4 2) c }))))
    ∧ (Accepts s 0x0804 ([0x1F17103, allBits, allBits, allBits, 0xFF, allBits, allBits, 0xFFFF] ++ (List.replicate 16 [allBits, 0x03FF03FF]).flatten) n ws →
      let a := par ws 2
      let k := bits a 20 5
      let c : StatsCfg := {
        en := bitOf a 8, chan := bits a 12 3, hist := bitOf a 16, zw := bits (par ws 3) 0 16, zh := bits (par ws 3) 16 16, base := par64 ws 4,
        nbuf := bits (par ws 6) 0 8, consumer := par64 ws 7, evN := bits (par ws 9) 0 16,
        wins := (List.range k).map (fun w => (bits (par ws (10 + 2 * w)) 0 16, bits (par ws (10 + 2 * w)) 16 16,
          bits (par ws (11 + 2 * w)) 0 10, bits (par ws (11 + 2 * w)) 16 10)) }
      let q := (camPort s (bits a 0 2)).shadow
      (∀ i, i < 32 → 2 * k ≤ i → par ws (10 + i) = 0) → bits a 12 3 ≤ 6 → statsOk q.timing c = true → statsHas q.mosaic c = true →
      exec .camStats s = .next (okReply n [gen (bits a 0 2)] (set (bits a 0 2) (fun q => { q with stats := c }))))
    ∧ (Accepts s 0x0805 [0x3] n ws → ∃ r, r.length = 12 ∧ exec .camStatus s
        = .next (okReply n r (setPortCam (bits (par ws 2) 0 2) (fun q => { q with fifoMax := q.fifo.length }) (taken s))))
    ∧ (Accepts s 0x0806 [0x7133, allBits, allBits, 0x1FFFF] n ws →
      let a := par ws 2
      let mode := bits a 4 2
      let w := bits (par ws 5) 0 17
      (mode = 2 → 1000 ≤ par ws 3) → (mode = 3 → 1 ≤ par ws 3 ∧ bits a 12 3 ≤ 5) → 1 ≤ w → w ≤ 100000 →
      exec .camTrigger s = .next (okReply n [] (setTrig (bits a 0 2) (fun g => { g with
        mode := mode, high := bitOf a 8, station := bits a 12 3, period := par ws 3, k0 := par ws 4, width := w, base := none,
        pulseEnd := if mode < 2 then 0 else g.pulseEnd,
        nextAt := s.now + par ws 3 * 1000 }) (taken s))))
    ∧ (Accepts s 0x0807 ([0x7F0303, 0xFFFF] ++ List.replicate 16 allBits) n ws →
      let b := bits (par ws 2) 0 2
      let nw := bits (par ws 3) 0 8
      let nr := bits (par ws 3) 8 8
      bits (par ws 2) 8 2 ≠ 3 → nw ≤ 64 → nr ≤ 64 → (1 ≤ nw ∨ 1 ≤ nr) →
      let out := ((List.range 16).map (fun i => leBytes 4 (par ws (4 + i)))).flatten.take nw
      let u := emit (.i2c b (BitVec.ofNat 8 (bits (par ws 2) 16 7) :: out)) (taken s)
      (∀ data, exec (.camI2c 256 data) s = .next (okReply n ((List.range ((nr + 3) / 4)).map (fun i =>
          leAt ((data ++ List.replicate nr 0).take nr) (4 * i) 4)) u))
      ∧ (∀ acks data, acks < 256 → exec (.camI2c acks data) s = .next (respond n 0x0801 [acks] (tick 0x0808 b u))))

/-- Each command accepted with its fields legal. CAL.VIEW without EN disables the view and keeps its settings; with EN, usable and
with no run of its stations collecting, it stores the view. CAL.CONFIG of a station with no run collecting takes each field that
is not 0, returns the values in force and changes no other station. CAL.START of an idle run that some view serves (kind 4 needs
none) begins it; CAL.STOP of a run that is not idle ends its collection without a result; CAL.RESULT returns five words and
changes nothing. CAL_WINDOW_TIMEOUT of a collecting run with an open window fails the tiles whose precondition is not met, for
cause 1, and goes on with the others. CAL_INTERVAL of a continuous run that has not been stopped begins its next run. -/
def Obligations.CalibrationRunsAndCommands : Prop :=
  ∀ (s : State) (n : Nat) (ws : List Word),
    (Accepts s 0x0901 [0x713, 0x3FFFF, allBits, allBits, allBits, 0xFFFF] n ws →
      let v := bits (par ws 2) 0 2
      let ref := bits (par ws 2) 8 3
      let ch := (List.range 6).map (fun st => bits (par ws 3) (3 * st) 3)
      let put (w : CalView) : State := { taken s with cal := { s.cal with views := s.cal.views.set v w } }
      (bitOf (par ws 2) 4 = false → exec .calView s = .next (okReply n [] (put { viewOf s v with en := false })))
      ∧ (bitOf (par ws 2) 4 = true → ref ≤ 5 → ¬ 7 ∈ ch → 16384 ≤ par ws 5 → par ws 5 ≤ 1048576 → par ws 6 < 2 ^ 31 →
          viewPortOk s v ref = true → (∀ r, r ∈ s.cal.runs → r.phase ≠ .collecting) →
          exec .calView s = .next (okReply n [] (put {
            en := true, ref := ref, chan := ch, dx0 := sint (par ws 4) 32, dxp := par ws 5, camLag := par ws 6, camLat := bits (par ws 7) 0 16 }))))
    ∧ (Accepts s 0x0902 [0x7, 0xFFFFFF07, 0xFFFF00FF, 0x0FFFFFFF, allBits, 0x0FFFF01F, 0x0FFF0FFF] n ws →
      let st := bits (par ws 2) 0 3
      let f (w lo len : Nat) : Nat := bits (par ws w) lo len
      let o := calCfg s st
      st ≤ 5 → f 3 0 3 ≤ 5 →
      (zeroOrIn 64 255 (f 3 8 8) && zeroOrIn 4 255 (f 3 16 16) && zeroOrIn 1 64 (f 4 0 8) && zeroOrIn 64 2048 (f 4 16 16)
        && zeroOrIn 16 1024 (f 5 0 16) && zeroOrIn 1 64 (f 5 16 8) && zeroOrIn 10 1000 (f 6 0 16) && zeroOrIn 1 3600 (f 6 16 16)
        && zeroOrIn 4 16 (f 7 0 5) && zeroOrIn 16 4096 (f 7 12 16) && zeroOrIn 1 1023 (f 8 0 12) && zeroOrIn 256 4095 (f 8 16 12)) = true →
      (∀ r, r ∈ s.cal.runs → r.phase ≠ .collecting) →
      let c : CalCfg := {
        g := if f 3 0 3 = 0 then o.g else 2 ^ (f 3 0 3 - 1), minSamples := orKeep (f 3 8 8) o.minSamples, tol := orKeep (f 3 16 16) o.tol,
        deadband := orKeep (f 4 0 8) o.deadband, layerMax := orKeep (f 4 16 16) o.layerMax, regTol := orKeep (f 5 0 16) o.regTol,
        stepMax := orKeep (f 5 16 8) o.stepMax, retries := orKeep (f 5 24 4) o.retries, timeTol := orKeep (f 6 0 16) o.timeTol,
        wmax := orKeep (f 6 16 16) o.wmax, span := orKeep (f 7 0 5) o.span, spacing := orKeep (f 7 12 16) o.spacing,
        iso := orKeep (f 8 0 12) o.iso, edge := orKeep (f 8 16 12) o.edge }
      exec .calConfig s = .next (okReply n (calCfgWords c) { taken s with cal := { s.cal with cfgs := s.cal.cfgs.set st c } }))
    ∧ (Accepts s 0x0903 [0x10707, 0xFFFF] n ws →
      let subj := bits (par ws 2) 0 3
      let kind := bits (par ws 2) 8 3
      kind ≤ 4 → (kind = 4 ∨ (subj ≤ 5 ∧ anyView s kind subj = true)) → (bitOf (par ws 2) 16 = true → bits (par ws 3) 0 16 ≠ 0) →
      (calOf s kind subj).phase = .idle → (calOf s kind subj).applying = false → (kind = 0 → neutralAt s subj = false) →
      exec .calStart s = .next (okReply n [] (calBegin kind subj (setCal kind subj (fun r => { r with
        continuous := bitOf (par ws 2) 16, interval := bits (par ws 3) 0 16, stopped := false }) (taken s)))))
    ∧ (Accepts s 0x0904 [0x707] n ws →
      let subj := bits (par ws 2) 0 3
      let kind := bits (par ws 2) 8 3
      kind ≤ 4 → (kind = 4 ∨ subj ≤ 5) → (calOf s kind subj).phase ≠ .idle →
      exec .calStop s = .next (okReply n [] (spanDrop subj (setCal kind subj (fun r => { r with
        phase := .idle, stopped := true, samples := [], first := none, plateau := none, openedAt := none, waits := false, banks := none,
        nextAt := none, cur := 0, left := 0 }) (taken s)))))
    ∧ (Accepts s 0x0905 [0x707] n ws → bits (par ws 2) 8 3 ≤ 4 → (bits (par ws 2) 8 3 = 4 ∨ bits (par ws 2) 0 3 ≤ 5) →
      ∃ r, r.length = 5 ∧ exec .calResult s = .next (okReply n r (taken s)))
    ∧ (∀ kind subj t, (calOf s kind subj).phase = .collecting → (calOf s kind subj).openedAt = some t →
      let r := calOf s kind subj
      let u := atTime (t + calWmax s kind subj) s
      let met := if kind = 4 then 0 else metTiles u r (r.plateau.getD []) r.samples
      let v := calFail kind subj (maskDiff r.cur (met &&& r.cur)) 1 u
      exec (.calWindowTimeout kind subj) s = .next (if (calOf v kind subj).cur = 0 then calNext kind subj false v
        else calCompare (calOf v kind subj) r.samples (r.plateau.getD []) v))
    ∧ (∀ kind subj t, (calOf s kind subj).nextAt = some t → (calOf s kind subj).continuous = true → (calOf s kind subj).stopped = false →
      exec (.calInterval kind subj) s = .next (calBegin kind subj (atTime t s)))

/-- LOOP_TICK takes the 24 channels' codes, counts the tick, samples each loop that is due in slot order, then the ramps of the axes,
the overruns and the sequencer. HV_ARC_EDGE of a channel counts the arc, sets its reference to 0, latches it when its arcs within
a second exceed the limit, raises EV_HV_ARC, and puts its loop in manual at 0 (cause 4 where it latches, else 3).
HV_ARC_HOLD_EXPIRY ends the hold; it returns to automatic a loop that was automatic, and to its own manual value one that was
manual (log entry 92). HV_COMPLIANCE_END ends the episode 1 ms after the current fell. THERMISTOR_SAMPLE steps the 16 thermistors;
FUS_ZC_EDGE notes the edge and runs the four zones. FUS_ZC_TIMEOUT stops the zones in zero-cross mode and raises EV_FUS_ZC_LOST.
FUSER_COMPARATOR_TRIP with its trip enabled trips for cause 3. PROG_STEP_TIMEOUT fails the instance for cause 1, and
PROG_INSTANCE_EXPIRY ends it. SEQ_IN_EDGE notes the level and the edge taken against the active level, and changes no other input. -/
def Obligations.LoopsFuserAndSequencerRun : Prop :=
  ∀ (s : State) (c : Nat),
    (∀ vmon imon overruns, macOn s = true →
      let j := s.loop.tick
      let t := atTime (j * 10000000) s
      let u := { t with loop := { t.loop with
        tick := j + 1
        hv := (List.range 24).map (fun c => { hvOf t c with vmon := vmon.getD c (hvOf t c).vmon % 4096, imon := imon.getD c (hvOf t c).imon % 4096 }) } }
      let v := if u.sup.loopsDue then loopsSafe (withSup (fun x => { x with loopsDue := false }) u) else u
      let w := forList transferSlots v (fun n s => if loopDue (loopOf s n) j then loopSample n s else s)
      exec (.loopTick vmon imon overruns) s = .next (progTick (forList (bitList 64 overruns) (forRange 8 w (fun a s => rampTick a s))
        (fun n s => overrun n s))))
    ∧ (macOn s = true → c < 24 → (hvOf s c).latched = false →
      let arcs := s.now :: (hvOf s c).arcs.filter (fun t => decide (s.now < t + 1000000000000))
      (arcs.length ≤ (hvOf s c).arcMax →
        let u := raise 0x0A03 c 0 0 arcs.length 0 0 (setHv c (fun h => { h with ref := 0, arcs := arcs, latched := h.latched || false }) (tick 0x0A05 c s))
        exec (.hvArcEdge c) s = .next (match loopOfHv u c with
          | none => u
          | some n => needSpoil n (askMode n { auto := false, man := some 0, cause := 3 } u)))
      ∧ ((hvOf s c).arcMax < arcs.length →
        let u := raise 0x0A03 c 0 0 arcs.length 1 0 (tick 0x0A06 c
          (setHv c (fun h => { h with ref := 0, arcs := arcs, latched := h.latched || true }) (tick 0x0A05 c s)))
        exec (.hvArcEdge c) s = .next (match loopOfHv u c with
          | none => u
          | some n => needSpoil n (askMode n { auto := false, man := some 0, cause := 4 } u))))
    ∧ (∀ n t, loopOfHv s c = some n → (loopOf s n).arcUntil = some t →
      let u := setLoop n (fun l => { l with arcUntil := none, arcAuto := false, arcMan := 0 }) (atTime t s)
      ((loopOf s n).arcAuto = false → exec (.hvArcHoldExpiry c) s
          = .next (askMode n { auto := false, man := some (loopOf s n).arcMan, cause := 0 } u))
      ∧ ((loopOf s n).arcAuto = true → exec (.hvArcHoldExpiry c) s
          = .next (askMode n { auto := true, man := none, cause := 3, arcRamp := some (hvOf u c).arcRamp } u)))
    ∧ (∀ t, (hvOf s c).episode = true → (hvOf s c).belowSince = some t → exec (.hvComplianceEnd c) s
        = .next (setHv c (fun h => { h with episode := false, belowSince := none }) (atTime (t + 1000000000) s)))
    ∧ (∀ codes, macOn s = true → exec (.thermistorSample codes) s
        = .next (forRange 16 s (fun i s => match codes[i]? with | none => s | some rho => thermStep i rho s)))
    ∧ (macOn s = true → exec .fusZcEdge s = .next (forRange 4 { s with loop := { s.loop with zcAt := s.now } } (fun z s => zoneCross z s)))
    ∧ (macOn s = true →
      let zs := (List.range 4).filter (fun z => (zoneOf s z).configured && (zoneOf s z).zeroCross && !(zoneOf s z).stopped)
      zs ≠ [] → exec .fusZcTimeout s = .next (raise 0x0A06 dev 0 0 (maskOf zs) 0 0
        (forList zs (atTime (s.loop.zcAt + 25000000000) s) (fun z s =>
          let s := setZone z (fun f => { f with stopped := true }) s
          forList (loopsOfZone s z) s (fun n s => askMode n { auto := false, man := some 0, cause := 6 } s)))))
    ∧ (macOn s = true → c < 4 → (zoneOf s c).tripEn = true → exec (.fuserComparatorTrip c) s
        = .next (trip 3 c (withSup (fun u => { u with fuser := updAt u.fuser c (fun x => { x with
            beyond := true, tripped := true, safeSince := s.now }) }) s)))
    ∧ (∀ i p, s.loop.instances[c]? = some i → i.steps[i.next]? = some p → stepTimeout p ≠ 0 →
      exec (.progStepTimeout c) s = .next (progFail i 1 (atTime (i.prevAt + stepTimeout p) s)))
    ∧ (∀ i t, s.loop.instances[c]? = some i → i.expiry = some t → exec (.progInstanceExpiry c) s = .next (progEnd i (atTime t s)))
    ∧ (∀ level, macOn s = true → c < s.loop.seqIn.length → ∃ u, exec (.seqInEdge c level) s = .next u
      ∧ (∀ x, x ≠ c → u.loop.seqIn[x]? = s.loop.seqIn[x]?)
      ∧ ∀ i, s.loop.seqIn[c]? = some i → ∃ k, u.loop.seqIn[c]? = some k ∧ k.level = level ∧ k.activeHigh = i.activeHigh
        ∧ k.rose = (i.rose || (level != i.level && level == i.activeHigh)) ∧ k.fell = (i.fell || (level != i.level && level != i.activeHigh)))

/-- LOOP.CONFIG with legal sources, divisor, phase and band configures a transfer loop that no page needs and that is not automatic,
notes whether its sources are valid, and answers ST_OK. LOOP.COEF with 1 to 16 legal writes that fit the queue appends them and
answers its length. LOOP.MODE queues automatic for a transfer loop with valid sources whose channel is not latched, and manual for
one that no page needs, with the given value or none. LOOP.SETPOINT queues the target and rate, whatever the slot. LOOP.STATUS
answers seven words and changes nothing. HV.CONFIG with legal times takes effect on its channel: a zero field keeps the setting,
clearing the latch forgets the arcs, and a disabled channel's reference is 0; disabling a channel whose loop no page needs puts
that loop in manual at 0. FUS.CONFIG with legal values and, where it changes the trip, every fuser loop off, sets the zone and its
thermistor. PROG.LOAD of a program that no admitted or active page has bound answers ST_PENDING with its load queued. PROG.STATUS
answers three words. SEQ.IO sets an output, or an input's level and debounce. -/
def Obligations.LoopCommandsComplete : Prop :=
  ∀ (s : State) (n : Nat) (ws : List Word),
    (Accepts s 0x0A01 [0x3F, allBits, 0xFFFF, allBits, allBits, allBits, 0xFFFF] n ws →
      let k := bits (par ws 2) 0 6
      let f (w lo len : Nat) : Nat := bits (par ws w) lo len
      8 ≤ k → sourcesOk (f 3 0 8) (f 3 8 8) (f 3 16 8) (f 3 24 8) (f 4 0 8) (f 4 8 8) (par ws 6) = true → 5 ≤ f 5 0 16 → f 5 16 16 < f 5 0 16 →
      1 ≤ f 8 0 16 → f 8 0 16 ≤ 32767 → loopProtected s k = false → (loopOf s k).auto = false →
      let u := setLoop k (fun l => { l with
        configured := true, fbKind := f 3 0 8, fbIdx := f 3 8 8, spKind := f 3 16 8, spIdx := f 3 24 8, outKind := f 4 0 8, outIdx := f 4 8 8
        div := f 5 0 16, phase := f 5 16 16, fs := par ws 6, pref := sint (par ws 7) 32, band := f 8 0 16, fresh := true, inBand := 0 }) (taken s)
      exec .loopConfig s = .next (okReply n [] (setLoop k (fun l => { l with fbInvalid := sourcesBad u l }) u)))
    ∧ (Accepts s 0x0A02 (0x1F3F :: List.replicate 16 0xFFFF0007) n ws →
      let k := bits (par ws 2) 0 6
      let m := bits (par ws 2) 8 5
      let cs := (List.range m).map (fun i => coefParam (par ws (3 + i)))
      1 ≤ m → m ≤ 16 → (∀ i, m ≤ i → i < 16 → par ws (3 + i) = 0) →
      coefsOk k cs ((loopOf s k).queue.foldl (fun (c : List Int) w => c.set w.1 w.2) (loopOf s k).coef) = true → (loopOf s k).queue.length + m ≤ 16 →
      exec .loopCoef s = .next (okReply n [(loopOf s k).queue.length + m] (setLoop k (fun l => { l with queue := l.queue ++ cs }) (taken s))))
    ∧ (Accepts s 0x0A03 [0x33F, 0xFFFF] n ws →
      let k := bits (par ws 2) 0 6
      let l := loopOf s k
      8 ≤ k →
      (bitOf (par ws 2) 8 = true → ¬ (l.outKind = 1 ∧ (hvOf s l.outIdx).latched = true) → sourcesBad s l = false →
          exec .loopMode s = .next (okReply n [] (askMode k { auto := true, man := none, cause := 0 } (taken s))))
      ∧ (bitOf (par ws 2) 8 = false → loopProtected s k = false →
          exec .loopMode s = .next (okReply n [] (askMode k {
            auto := false, man := if bitOf (par ws 2) 9 then some (sbits (par ws 3) 0 16) else none, cause := 0 } (taken s)))))
    ∧ (Accepts s 0x0A04 [0x3F, 0xFFFF, 0xFFFF] n ws → 
      exec .loopSetpoint s = .next (okReply n [] (askSetpoint (bits (par ws 2) 0 6) (sbits (par ws 3) 0 16) (bits (par ws 4) 0 16) (taken s))))
    ∧ (Accepts s 0x0A05 [0x3F] n ws → ∃ r, r.length = 7 ∧ exec .loopStatus s = .next (okReply n r (taken s)))
    ∧ (Accepts s 0x0A06 [0x71F, 0xFFFF, allBits, 0xFF] n ws →
      let c := bits (par ws 2) 0 5
      let en := bitOf (par ws 2) 8
      let clear := bitOf (par ws 2) 9
      c ≤ 23 → zeroOrIn 1 1000 (bits (par ws 4) 0 16) = true → zeroOrIn 1 32767 (bits (par ws 4) 16 16) = true →
      let off := (hvOf s c).en && !en
      (off = true → ∀ k, loopOfHv s c = some k → loopProtected s k = false) →
      let u := match loopOfHv s c with
        | some k => if off then askMode k { auto := false, man := some 0, cause := 0 } (taken s) else taken s
        | none => taken s
      exec .hvConfig s = .next (okReply n [] (setHv c (fun h => { h with
        configured := true, en := en, latched := h.latched && !clear, arcHigh := bitOf (par ws 2) 10, lim := sbits (par ws 3) 0 16
        arcHold := orKeep (bits (par ws 4) 0 16) h.arcHold, arcRamp := orKeep (bits (par ws 4) 16 16) h.arcRamp
        arcMax := orKeep (bits (par ws 5) 0 8) h.arcMax, arcs := if clear then [] else h.arcs, ref := if en then h.ref else 0
        episode := h.episode && bits (par ws 3) 0 16 != 0 }) u)))
    ∧ (Accepts s 0x0A07 [0x33, allBits, 0xFFFF, 0xFFFF000F, allBits, allBits, 0x73FF] n ws →
      let z := bits (par ws 2) 0 2
      let f (w lo len : Nat) : Nat := bits (par ws w) lo len
      let o := zoneOf s z
      100 ≤ f 3 0 16 → f 3 16 16 ≤ 5000 → 10 ≤ f 4 0 16 → f 4 0 16 ≤ 2000 → 1000 ≤ f 5 16 16 → f 5 16 16 ≤ 10000 →
      (fuserLoopsOff s = true ∨ (f 8 0 10 = o.tripThr ∧ bitOf (par ws 8) 12 = o.tripRising ∧ bitOf (par ws 8) 13 = o.tripOpen
        ∧ bitOf (par ws 8) 14 = o.tripEn)) →
      let u := setZone z (fun g => { g with
        configured := true, zeroCross := bitOf (par ws 2) 4, gateHigh := bitOf (par ws 2) 5, fper := f 3 0 16, zcDelay := f 3 16 16
        zcWidth := f 4 0 16, stopped := false, tripThr := f 8 0 10, tripRising := bitOf (par ws 8) 12, tripOpen := bitOf (par ws 8) 13
        tripEn := bitOf (par ws 8) 14 }) (taken s)
      exec .fusConfig s = .next (okReply n [] { u with loop := { u.loop with
        zcAt := if s.loop.zones.any (fun g => g.configured && g.zeroCross && !g.stopped) then s.loop.zcAt else s.now, therms := updAt s.loop.therms (f 5 0 4) (fun t => { t with beta := f 5 16 16, r25 := par ws 6, rbias := par ws 7 }) } }))
    ∧ (Accepts s 0x0A08 [0x1F, allBits, allBits, allBits] n ws → progBound s (bits (par ws 2) 0 5) = false →
      exec .progLoad s = .next (pendingReply n ws s.host.nextOid { taken s with loop := { s.loop with
        loads := s.loop.loads ++ [{ oid := s.host.nextOid, prog := bits (par ws 2) 0 5, addr := par64 ws 3, crc := par ws 5 }] } }))
    ∧ (Accepts s 0x0A09 [0x1F] n ws → ∃ r, r.length = 3 ∧ exec .progStatus s = .next (okReply n r (taken s)))
    ∧ (Accepts s 0x0A0A [0x707, 0xFFFFFF] n ws →
      let k := bits (par ws 2) 0 3
      let hi := bitOf (par ws 2) 10
      (bitOf (par ws 2) 8 = true → exec .seqIo s = .next (okReply n [] { taken s with loop := { s.loop with
        seqOut := updAt s.loop.seqOut k (fun o => { o with driven := bitOf (par ws 2) 9, activeHigh := hi }) } }))
      ∧ (bitOf (par ws 2) 8 = false → 1 ≤ par ws 3 → par ws 3 ≤ 10000 → exec .seqIo s = .next (okReply n [] { taken s with loop := { s.loop with
        seqIn := updAt s.loop.seqIn k (fun i => { i with activeHigh := hi, debounce := par ws 3 }) } })))

/-- AXIS.CONFIG with legal values, a speed slot that drives the axis, and an axis that is off, disabled or in fault, takes the
configuration; an axis that was off becomes disabled. AXIS.ADVANCE with a speed step of 31 or more keeps the table for the next
PWM period. AXIS.ALIGN of a disabled, standing axis without absolute position starts aligning and answers ST_PENDING. AXIS.ENABLE
disables a driving axis whose speed loop no page needs, runs a disabled axis that is aligned, or takes an axis out of fault to
disabled; none while its offsets are calibrated. AXIS.START with legal ramps of an axis that is disabled and aligned, or runs,
ends an AXIS.START of the axis that had not gone on yet, answers ST_PENDING and goes on. AXIS.BUS with legal thresholds takes
effect and answers the bus's newest sample; clearing the fault needs the bus below V_OFF and no axis of it moving. AXIS.STATUS
answers seven words and changes nothing. AXIS.START answers first and goes on afterwards, which is the model's reading (log entry
40). -/
def Obligations.DriveCommandsComplete : Prop :=
  ∀ (s : State) (n : Nat) (ws : List Word),
    let a := bits (par ws 2) 0 3
    let d := drv s a
    (Accepts s 0x0B01 [0x3F1F77, 0xFFFFFF, 0x7FFFFF, 0x3F07FFFF, allBits, allBits, allBits, 0xFFFF003F, 0xFFF] n ws →
      let c : DrvCfg := {
        input := bits (par ws 2) 4 3, bus := bits (par ws 2) 8 1, absolute := bitOf (par ws 2) 9, busComp := bitOf (par ws 2) 10
        gateHigh := bitOf (par ws 2) 11, fltHigh := bitOf (par ws 2) 12, pp := bits (par ws 2) 16 6, cpr := bits (par ws 3) 0 24
        fpwm := bits (par ws 4) 16 7, dt := bits (par ws 5) 0 8, twin := bits (par ws 5) 8 8, maxPred := bits (par ws 5) 16 3
        exp := sbits (par ws 5) 24 6, oc := bits (par ws 6) 0 16, idRef := sbits (par ws 6) 16 16, zeroSpd := par ws 7, ascSpd := par ws 8
        sslot := bits (par ws 9) 0 6, stopTo := bits (par ws 9) 16 16, vnom := bits (par ws 10) 0 12 }
      let p := s.pos.inputs.getD c.input {}
      let keep := d.st != .off && d.cfg.input == c.input
      let u := setDrv a (fun d => { d with
        cfg := c, angOff := bits (par ws 4) 0 16, aligned := c.absolute, xm := if c.absolute then p.raw % c.cpr else d.xm % c.cpr
        x := if keep then d.x else 0, xTime := if keep then d.xTime else s.now, xChanged := if keep then d.xChanged else s.now
        vel := if keep then d.vel else [], omegaValid := keep && d.omegaValid, pwmAt := if d.st = .off then s.now else d.pwmAt }) (taken s)
      1 ≤ c.pp → 1 ≤ c.cpr → 8 ≤ c.fpwm → c.fpwm ≤ 100 → 5 ≤ c.dt → 5 ≤ c.twin → c.twin ≤ 100 → 1 ≤ c.maxPred → c.maxPred ≤ 4 →
      1 ≤ c.oc → c.oc ≤ 32767 → 10 ≤ c.stopTo → sslotOk s c.sslot a c.input = true → (c.absolute = false ∨ p.mode = 3 ∨ p.mode = 4) →
      (d.st = .off → exec .axisConfig s = .next (okReply n [] (drvTo a .disabled 0 u)))
      ∧ ((d.st = .disabled ∨ d.st = .fault) → exec .axisConfig s = .next (okReply n [] u)))
    ∧ (Accepts s 0x0B02 ([7, allBits] ++ List.replicate 16 allBits) n ws → 31 ≤ par ws 3 →
      exec .axisAdvance s = .next (okReply n [] (setDrv a (fun d => { d with
        advNext := some (par ws 3, (List.range 32).map (fun i => sbits (par ws (4 + i / 2)) (16 * (i % 2)) 16)) }) (taken s))))
    ∧ (Accepts s 0x0B03 [7, allBits] n ws →
      let i := bits (par ws 3) 0 16
      let hold := bits (par ws 3) 16 16
      alignOk i hold = true → d.cfg.absolute = false → d.st = .disabled → standing d = true →
      exec .axisAlign s = .next (pendingReply n ws s.host.nextOid (setDrv a (fun d => { d with
        align := some { alignI := i, hold := hold, began := s.now, oid := some s.host.nextOid } }) (drvTo a .aligning 0 (taken s)))))
    ∧ (Accepts s 0x0B04 [0x307] n ws → offsetRuns s a = false →
      (bits (par ws 2) 8 2 = 0 → loopProtected s d.cfg.sslot = false →
        exec .axisEnable s = .next (okReply n [] (if d.st.driving then drvTo a .disabled 0 (taken s) else taken s)))
      ∧ (bits (par ws 2) 8 2 = 1 → d.st = .disabled → commAligned s d = true → exec .axisEnable s = .next (okReply n [] (axisEnable a 0 (taken s))))
      ∧ (bits (par ws 2) 8 2 = 2 → d.st = .fault → exec .axisEnable s = .next (okReply n [] (drvTo a .disabled 0 (taken s)))))
    ∧ (Accepts s 0x0B05 [7, allBits, allBits, allBits] n ws →
      let acc := bits (par ws 4) 0 16
      let dec := bits (par ws 4) 16 16
      let i := bits (par ws 5) 0 16
      let hold := bits (par ws 5) 16 16
      1 ≤ acc → acc ≤ 32767 → 1 ≤ dec → dec ≤ 32767 → offsetRuns s a = false →
      (d.st = .run ∨ (d.st = .disabled ∧ (commAligned s d = true ∨ (alignOk i hold = true ∧ standing d = true)))) →
      let u := alignDone a stOk [d.st.code] (taken s)
      exec .axisStart s = .next (startPending s.host.nextOid (pendingReply n ws s.host.nextOid (setDrv a (fun d => { d with
        align := some { alignI := i, hold := hold, began := u.now, oid := some u.host.nextOid, start := some (sint (par ws 3) 32, acc, dec) } }) u))))
    ∧ (Accepts s 0x0B06 [7] n ws → ∃ r, r.length = 7 ∧ exec .axisStatus s = .next (okReply n r (taken s)))
    ∧ (Accepts s 0x0B07 [0x301, 0x0FFF0FFF, 0x0FFF0FFF, allBits] n ws →
      let b := bits (par ws 2) 0 1
      let clear := bitOf (par ws 2) 8
      let x := busOf s b
      let tDet := bits (par ws 5) 0 16
      let tFault := bits (par ws 5) 16 16
      let vOn := orKeep (bits (par ws 3) 0 12) x.vOn
      let vOff := orKeep (bits (par ws 3) 16 12) x.vOff
      let vHard := orKeep (bits (par ws 4) 0 12) x.vHard
      zeroOrIn 5 1000 tDet = true → zeroOrIn 50 10000 tFault = true → (vOn ≠ 0 → vOff < vOn) → (vOn = 0 → vOff = 0) → vOn < vHard →
      (clear = true → x.vbus < vOff ∧ busQuiet s b = true) →
      let u := setBus b (fun x => { x with
        configured := decide (vOn ≠ 0), gateHigh := bitOf (par ws 2) 9, vOn := vOn, vOff := vOff, vHard := vHard
        iMin := orKeep (bits (par ws 4) 16 12) x.iMin, tDet := orKeep tDet x.tDet, tFault := orKeep tFault x.tFault
        fault := x.fault && !clear }) (taken s)
      exec .axisBus s = .next (okReply n [fld (busOf u b).vbus 0 12 + 65536 * b2n (busOf u b).on + 131072 * b2n (busOf u b).fault] u))

/-- STEP.CONFIG with legal values takes effect, and an axis that was off becomes disabled. STEP.MOVE of an axis that is not off, whose
bus's chopper has no fault and that has no active limit ahead starts from VSTART at standstill; while it moves, the new target and
ramps wait for the next microstep and a homing under way fails with result 4. STEP.HOME of such an axis with no homing under way
starts homing toward a target far ahead and answers ST_PENDING; the acceleration and, from standstill, VSTART are free values.
STEP.STOP hard stops at once; otherwise a homing is aborted with result 4, a moving axis ramps down with the deceleration in
force, and a standing one is de-energised where bit 9 says so. STEP.STATUS answers four words and changes at most the stream of
free values. That the command gives homing no acceleration is log entry 49. -/
def Obligations.StepperCommandsComplete : Prop :=
  ∀ (s : State) (n : Nat) (ws : List Word),
    let a := bits (par ws 2) 0 3
    let x := stp s a
    (Accepts s 0x0B10 [0x737107, allBits, allBits, allBits, 0xFF00FF, 0xFF3FFF, 0x3FF, allBits] n ws →
      let c : StepCfg := {
        bus := bits (par ws 2) 8 1, mres := bits (par ws 2) 12 3, rampP := bitOf (par ws 2) 16, rampN := bitOf (par ws 2) 17
        active := bits (par ws 2) 20 3, spdHi := bits (par ws 3) 0 16, spdLo := bits (par ws 3) 16 16
        ampQ := sbits (par ws 4) 0 16, ampS := sbits (par ws 4) 16 16, hold := sbits (par ws 5) 0 16, holdDelay := bits (par ws 5) 16 16
        toff := bits (par ws 6) 0 8, spwm := bits (par ws 6) 16 8, deb := bits (par ws 7) 0 14, chatEdges := bits (par ws 7) 16 8
        chatWin := bits (par ws 8) 0 10, decLim := par ws 9 }
      c.spdLo < c.spdHi → 1 ≤ c.toff → c.toff ≤ 100 → 20 ≤ c.spwm → c.spwm ≤ 100 → 1 ≤ c.deb → c.deb ≤ 10000 → 2 ≤ c.chatEdges →
      1 ≤ c.chatWin → c.chatWin ≤ 1000 →
      exec .stepConfig s = .next (okReply n [] (setStp a (fun x => { x with cfg := c, st := if x.st = .off then .disabled else x.st }) (taken s))))
    ∧ (Accepts s 0x0B11 [7, allBits, allBits, allBits, allBits, allBits] n ws → par ws 5 ≤ par ws 4 →
      moveRefused s a (posDiff (par ws 3) x.pos) = false →
      (x.st.moves = false → exec .stepMove s = .next (okReply n [] (setStp a (fun x => { x with
        st := .moving, target := par ws 3, vmax := par ws 4, vstart := par ws 5, acc := par ws 6, dec := par ws 7, v2 := 0, deEnergise := false
        holdAt := none, nextAt := some s.now }) (taken s))))
      ∧ (x.st.moves = true → exec .stepMove s = .next (okReply n [] (setStp a (fun x => { x with
        st := .moving, pend := some (par ws 3, par ws 4, par ws 6, par ws 7), deEnergise := false }) (homeFail a 4 (taken s))))))
    ∧ (Accepts s 0x0B12 [0x107, allBits, allBits, allBits, allBits, allBits, allBits] n ws →
      let h : Homing := {
        oid := s.host.nextOid, neg := bitOf (par ws 2) 8, fast := par ws 3, creep := par ws 4, backoff := par ws 5, max := par ws 6
        homePos := par ws 7, dec := par ws 8 }
      moveRefused s a (hdir h) = false → x.homing = none →
      let r := drawNat (taken s)
      let q := drawNat r.1
      exec .stepHome s = .next (pendingReply n ws s.host.nextOid (setStp a (fun x => { x with
        st := .homing, homing := some h, target := farTarget x.pos (hdir h), vmax := h.fast, acc := r.2, dec := h.dec
        vstart := if x.st.moves then x.vstart else q.2, pend := none, deEnergise := false, holdAt := none
        nextAt := some (x.nextAt.getD s.now) }) q.1)))
    ∧ (Accepts s 0x0B13 [0x307] n ws →
      let off := bitOf (par ws 2) 9
      (bitOf (par ws 2) 8 = true → exec .stepStop s = .next (okReply n [] (stepHard a off (taken s))))
      ∧ (bitOf (par ws 2) 8 = false → x.st.moves = false →
          exec .stepStop s = .next (okReply n [] (if off then stepRest a true (taken s) else taken s)))
      ∧ (bitOf (par ws 2) 8 = false → x.st.moves = true →
          let u := setStp a (fun x => { x with deEnergise := off }) (taken s)
          (x.homing.isSome = true → exec .stepStop s = .next (okReply n [] (homeAbort a 4 u)))
          ∧ (x.homing.isSome = false → exec .stepStop s = .next (okReply n [] (rampStop a ((x.pend.map (fun p => p.2.2.2)).getD x.dec) u)))))
    ∧ (Accepts s 0x0B14 [7] n ws → ∃ r u, r.length = 4 ∧ { u with free := s.free } = taken s ∧ exec .stepStatus s = .next (okReply n r u))

/-- On a machine die that runs: PWM_PERIOD of an axis that is not off advances time by a period, takes the next advance table,
evaluates velocity, alignment and the offsets, and then faults the axis for cause 2 on overcurrent, or runs the current law while
it drives. DRV_FAULT_INPUT faults an axis for cause 1 unless it is off, in ASC or in fault. AXIS_STOP_TIMEOUT makes the velocity
0. AXIS_ALIGN_DONE ends the alignment in disabled, aligned; the command completes or AXIS.START goes on. BUS_SAMPLE takes the
codes, switches the chopper with hysteresis, counts, and judges it; CHOPPER_DETECT_TIMEOUT judges it when due. VBUS_HARD_TRIP acts
for cause 3 and trips for cause 6. MICROSTEP plans the next microstep at its time. STEP_HOLD_TIMEOUT lets the amplitude fall to
HOLD. SWITCH_EDGE notes a raw edge; a level that has held is accepted, with its position, or forgotten if it is the level in
force. CHATTER_WINDOW_END ends a chatter episode. -/
def Obligations.AxesRunTheirTimers : Prop :=
  ∀ (s : State) (a : Nat), macOn s = true →
    (∀ su sv sw, a < 8 → (drv s a).st ≠ .off →
      let d := drv s a
      let t := atTime (d.pwmAt + 1000000000 / Nat.max 1 d.cfg.fpwm) s
      let u := alignTick a (ascEnd a (velStep a (setDrv a (fun d => { d with
        pwmAt := t.now, n := d.n + 1, advSpd := (d.advNext.map Prod.fst).getD d.advSpd
        adv := (d.advNext.map Prod.snd).getD d.adv, advNext := none }) t)))
      let e := drv u a
      let p := usable e.cfg e.duty.1
      let q := usable e.cfg e.duty.2.1
      let r := usable e.cfg e.duty.2.2
      let i := (su - e.trims.1, sv - e.trims.2.1, sw - e.trims.2.2)
      let v := offsetSample a (su, sv, sw) u
      (overCurrent e p q r i = true → exec (.pwmPeriod a su sv sw) s = .next (drvFault a 2 v))
      ∧ (overCurrent e p q r i = false → exec (.pwmPeriod a su sv sw) s
          = .next (if e.st.driving then currentSample a (phases p q r i) v else v)))
    ∧ (a < 8 → exec (.drvFaultInput a) s
        = .next (if (drv s a).st = .off ∨ (drv s a).st = .asc ∨ (drv s a).st = .fault then s else drvTo a .fault 1 s))
    ∧ (a < 8 → (drv s a).st ≠ .off → exec (.axisStopTimeout a) s
        = .next (ascEnd a (setDrv a (fun d => { d with omega := 0, omegaAt := (atTime ((drv s a).xChanged + (drv s a).cfg.stopTo * 1000000) s).now })
          (atTime ((drv s a).xChanged + (drv s a).cfg.stopTo * 1000000) s))))
    ∧ (∀ g, (drv s a).st = .aligning → (drv s a).align = some g →
      let u := drvTo a .disabled 0 (setDrv a (fun d => { d with angOff := if g.angSet then d.angOff else angZero d, aligned := true, align := none })
        (atTime (g.began + 100000000000 + g.hold * 1000000000) s))
      exec (.axisAlignDone a) s = .next (if g.start = none then completeOpt g.oid stOk [] u
        else startGo a (setDrv a (fun d => { d with align := some g }) u)))
    ∧ (∀ vbus isns, a < 2 →
      let x := busOf s a
      let t := atTime (x.sampledAt + 1000000) s
      let v := vbus % 4096
      let i := isns % 4096
      let on := x.configured && !x.fault && (if x.vOn ≤ v then true else if v ≤ x.vOff then false else x.on)
      let u := withSup (fun u => { u with busCmp := updAt u.busCmp a (fun c => { c with
          lowSince := if v < x.vOff then some (c.lowSince.getD t.now) else none }) })
        (setBus a (fun x => { x with
          sampledAt := t.now, vbus := v, isns := i, on := on, onSince := if on && !x.on then t.now else x.onSince
          lowSince := if on && decide (i < x.iMin) then some (x.lowSince.getD t.now) else none
          highSince := if on && decide (x.vOn < v) then some (x.highSince.getD (t.now, v)) else none }) t)
      exec (.busSample a vbus isns) s = .next (chopperJudge a (if on then tick 0x0B06 a u else u)))
    ∧ (∀ t, a < 2 → chopperDue (busOf s a) = some t → exec (.chopperDetectTimeout a) s = .next (chopperJudge a (atTime t s)))
    ∧ (a < 2 → exec (.vbusHardTrip a) s = .next (trip 6 a (chopperAct a 3 (freshOmega s.now)
        (withSup (fun u => { u with busCmp := updAt u.busCmp a (fun _ => { tripped := true, lowSince := none }) }) s))))
    ∧ (∀ t, (stp s a).nextAt = some t → (stp s a).st.moves = true → exec (.microstep a) s = .next (stepPlan a (atTime t s)))
    ∧ (∀ t, (stp s a).holdAt = some t → (stp s a).st = .idle → exec (.stepHoldTimeout a) s
        = .next (setStp a (fun x => { x with held := true, holdAt := none }) (atTime t s)))
    ∧ (∀ i level, a < 8 → i < 3 → (stp s a).st ≠ .off →
      let w := (stp s a).switches.getD i {}
      exec (.switchEdge a i level false) s = .next (rawEdge a i level s)
      ∧ ∀ t pos, w.raw = some (level, t, pos) →
        let u := atTime (t + (stp s a).cfg.deb * 1000000) s
        (level ≠ w.level → exec (.switchEdge a i level true) s = .next (acceptEdge a i level pos u))
        ∧ (level = w.level → exec (.switchEdge a i level true) s = .next (setSwitch a i (fun w => { w with raw := none }) u)))
    ∧ (∀ i, ((stp s a).switches.getD i {}).chatter = true → ∀ t, ((stp s a).switches.getD i {}).edges[(stp s a).cfg.chatEdges]? = t →
      exec (.chatterWindowEnd a i) s = .next (setSwitch a i (fun w => { w with chatter := false })
        (match t with | none => s | some t => atTime (t + 2 * ((stp s a).cfg.chatWin * 1000000000)) s)))

/-- Each command accepted. MEM.STATUS of a store or channel answers the eight words of Table 13.9 and changes nothing. MEM.CONFIG with
fields that are 0 or legal sets what is not 0, but changes the interleave grain only while no extent is in use (else ST_STATE).
MEM.FILL queues its fill over the healthy channels it names and answers ST_PENDING. MEM.TRAIN of a legal rate of a channel in use,
with no live page and no training under way, answers ST_PENDING with the training begun; with a live page it answers ST_STATE.
CHK.SCAN of host memory, of a region that can be read, or of a stream of a SPOOLED or later page answers ST_PENDING with the scan
queued and given an engine where one is free. -/
def Obligations.MemoryCommandsComplete : Prop :=
  ∀ (s : State) (n : Nat) (ws : List Word),
    let f (w lo len : Nat) : Nat := bits (par ws w) lo len
    (Accepts s 0x0C01 [0xF] n ws →
      (par ws 2 ≤ 4 → exec .memStatus s = .next (okReply n [1, ctrVal s 0x0C00 (par ws 2), ctrVal s 0x0C01 (par ws 2),
          fld (sram s (par ws 2)).spares 0 16 + fld (sram s (par ws 2)).pending.length 16 16, ctrVal s 0x0C04 (par ws 2),
          (s.now - (sram s (par ws 2)).scrub.started) / 1000000000000 % 2 ^ 32, 0, 0] (taken s)))
      ∧ (8 ≤ par ws 2 → par ws 2 ≤ 11 → let d := ddr s (par ws 2 - 8)
          exec .memStatus s = .next (okReply n [d.st.code + fld d.rate 8 3 + fld (b2n d.uncal) 16 1, ctrVal s 0x0C00 (par ws 2),
            ctrVal s 0x0C01 (par ws 2), 0, ctrVal s 0x0C04 (par ws 2), (s.now - d.scrub.started) / 1000000000000 % 2 ^ 32, d.sets,
            ctrVal s 0x0C06 (par ws 2)] (taken s))))
    ∧ (Accepts s 0x0C02 [0xFFFFFF, 0xFFFFFF0F, allBits] n ws →
      (zeroOrIn 1 3600 (f 2 0 16) && zeroOrIn 1 168 (f 2 16 8) && zeroOrIn 2 15 (f 3 0 4) && zeroOrIn 8 16 (f 3 8 8) && zeroOrIn 20 1000 (f 3 16 16)
        && zeroOrIn 100 0xFFFFFFFF (par ws 4)) = true →
      (f 3 8 8 = 0 ∨ f 3 8 8 = s.mem.log2Grain ∨ s.spool.extents.isEmpty = true →
      exec .memConfig s = .next (okReply n [] { taken s with mem := { s.mem with
        sramPeriod := orKeep (f 2 0 16) s.mem.sramPeriod, dramPeriod := orKeep (f 2 16 8) s.mem.dramPeriod, rowLimit := orKeep (f 3 0 4) s.mem.rowLimit
        log2Grain := orKeep (f 3 8 8) s.mem.log2Grain, idleClose := orKeep (f 3 16 16) s.mem.idleClose
        ceLimit := orKeep (par ws 4) s.mem.ceLimit } }))
      ∧ (f 3 8 8 ≠ 0 → f 3 8 8 ≠ s.mem.log2Grain → s.spool.extents.isEmpty = false → exec .memConfig s = .next (respond n stState [] (taken s))))
    ∧ (Accepts s 0x0C03 [allBits, allBits, 0xF] n ws →
      exec .memFill s = .next (pendingReply n ws s.host.nextOid { taken s with mem := { s.mem with
        fills := s.mem.fills ++ [{ oid := s.host.nextOid, pattern := BitVec.ofNat 64 (par64 ws 2), channels := par ws 4 &&& healthyMask s }] } }))
    ∧ (Accepts s 0x0C06 [0x703] n ws → f 2 8 3 ≤ 4 →
      (anyLive s = false → memRuns s (8 + f 2 0 2) = true → s.mem.train = none →
        exec .memTrain s = .next (pendingReply n ws s.host.nextOid { taken s with mem := { s.mem with
          train := some { oid := some s.host.nextOid, chan := f 2 0 2, rate := f 2 8 3 } } }))
      ∧ (anyLive s = true → exec .memTrain s = .next (respond n stState [] (taken s))))
    ∧ (Accepts s 0x0C08 [0x10303, allBits, allBits, allBits, allBits, 0xFFFF, allBits, allBits] n ws →
      let src := f 2 8 2
      let go (sid : Option Nat) : State := pendingReply n ws s.host.nextOid (scanAssign { taken s with mem := { s.mem with scans := s.mem.scans ++
        [{ oid := s.host.nextOid, words := (List.range 8).map (fun i => BitVec.ofNat 32 (par ws (i + 2))), sid := sid }] } })
      (src = 0 → par ws 5 ≠ 0 → exec .chkScan s = .next (go none))
      ∧ (src = 1 → par ws 5 ≠ 0 → par ws 7 % 16 < 4 → par64 ws 3 + par ws 5 ≤ (diagRegion (par ws 7 % 16)).1 → exec .chkScan s = .next (go none))
      ∧ (∀ p, src = 2 → f 7 0 8 ≤ 5 → f 7 8 8 ≤ 15 → findPage s (par ws 6) = some p → p.st ≠ .queued → bitOf p.planes (f 7 0 8) = true →
          exec .chkScan s = .next (go ((ingestOf s p.key).map Ingest.sid))))

/-- On an engine die that runs: SCRUB_READ of a running memory takes place when it is due; with no error it moves Hen to the next
word; a correctable error is recorded with its pass, and a write-back dropped in SRAM is counted; an uncorrectable one is recorded
with its action, and its line-store slot, correction-store word or control-core word is treated as Table 13.1 gives.
SCRUB_LATE_TIMEOUT at twice the period raises EV_SCRUB_LATE once for a pass. DDR_SWEEP_START starts a sweep, at once after a
change of 5 degrees of the channel or of the nearest die sensor and else 256 ms after the last. DDR_SWEEP_PAUSE reads one point at
the earliest pause; the last one ends the sweep. EXTENT_MIGRATE of an extent on a failing channel, its check passed, points the
directory to a new extent on the healthy channels and carries its marks over; with no extent free, or a failed check, the extent
stays. MEM_FILL_EXTENT_DONE marks the extent, and completes with the number filled after the last. MEM_TRAIN_DONE completes the
training, its set valid and to be recorded where one was found, and starts the next discarded set's training where it can run.
CHK_SCAN_DONE counts, gives the engine to the next scan, and answers the CRC of what it read. -/
def Obligations.MemoryIsScrubbedSweptAndMigrated : Prop :=
  ∀ (s : State), engOn s = true →
    (∀ store bit dropped, s.fw.power = .run → memRuns s store = true →
      let dram := decide (8 ≤ store)
      let i := if dram then store - 8 else store
      let t := atTime (scrubDue s dram i) s
      let c := scrubOf t dram i
      let w := scrubWord t dram i c.pos
      let a := ueAction dram i c.pos bit
      let ce := memCe dram i w bit (some c.pass) t
      let ue := memUe dram i w a t
      exec (.scrubRead store 0 bit dropped) s = .next (scrubStep dram i t)
      ∧ exec (.scrubRead store 1 bit dropped) s = .next (scrubStep dram i (if dropped && !dram then tick 0x0C02 i ce else ce))
      ∧ exec (.scrubRead store 2 bit dropped) s = .next (scrubStep dram i (if a = 1 ∧ (!dram) = true then lineWordLost w ue
          else if a = 2 ∧ (!dram) = true then corrWordLost w bit ue else if a = 6 ∧ (!dram) = true then fwFault .restart ue else ue)))
    ∧ (∀ store, memRuns s store = true →
      let dram := decide (8 ≤ store)
      let i := if dram then store - 8 else store
      let c := scrubOf s dram i
      let t := atTime (c.started + 2 * scrubPeriod s dram * 1000000000000) s
      exec (.scrubLateTimeout store) s = .next (if c.late then s else
        raise 0x0C04 store 0 0 ((t.now - c.started) / 1000000000000) (scrubPeriod s dram) 0 (setScrub dram i (fun c => { c with late := true }) t)))
    ∧ (∀ chan temp die, s.fw.power = .run → ((ddr s chan).st = .inUse ∨ (ddr s chan).st = .failing) → (ddr s chan).sweep = none →
      s.mem.train.map TrainJob.chan ≠ some chan →
      let t := if 80 ≤ (temp - (ddr s chan).lastTemp).natAbs ∨ 80 ≤ (die - (ddr s chan).lastDie).natAbs then s else atTime ((ddr s chan).lastSweep + 256000000000) s
      exec (.ddrSweepStart chan { mr4 := temp, die := die }) s = .next (tick 0x0C05 (8 + chan) (setDdr chan (fun d => { d with
        sweep := some {}, lastSweep := t.now, lastTemp := temp, lastDie := die }) t)))
    ∧ (∀ chan last found centre, (ddr s chan).sweep.isSome = true →
      let others := (List.range 4).foldl (fun a c => if c = chan then a else Nat.max a ((ddr s c).lastPause + 1500000)) 0
      let t := atTime (Nat.max ((ddr s chan).lastPause + 50000000) others) s
      let u := setDdr chan (fun d => { d with lastPause := t.now, sweep := d.sweep.map (fun w => { w with points := w.points + 1, lastPause := some t.now }) }) t
      exec (.ddrSweepPause chan last found centre) s = .next (if last then sweepEnd chan found centre u else u))
    ∧ (∀ e ok, migrateNext s = some e →
      let k := nextExtent s
      let mask := ((s.mem.marks.find? (fun m => m.extent == e.no)).map Marks.mask).getD 0
      let t := repoint e.no k s
      let u := { t with spool := { t.spool with
        extents := t.spool.extents.filter (fun x => x.no != e.no) ++ [{ no := k, channels := healthyMask t }] } }
      (extentsFree s = 0 → exec (.extentMigrate ok) s = .next (spoolLow s))
      ∧ (extentsFree s ≠ 0 → exec (.extentMigrate ok) s = .next (if ok then
          spoolLow (forRange 4 (markExtent k (healthyMask u) mask (tick 0x0C08 0 u)) retirePend) else s)))
    ∧ (∀ f t, s.mem.fills = f :: t →
      (fillAt s f = none → exec .memFillExtentDone s = .next (complete f.oid stOk [f.done] { s with mem := { s.mem with fills := t } }))
      ∧ ∀ k, fillAt s f = some k →
        let u := markExtent k f.channels 15 s
        let v := { u with mem := { u.mem with filled := (k, f.pattern) :: u.mem.filled.filter (fun p => p.1 != k) } }
        let g := { f with next := k + 1, done := f.done + 1 }
        (fillAt v g = none → exec .memFillExtentDone s = .next (complete f.oid stOk [f.done + 1] { v with mem := { v.mem with fills := t } }))
        ∧ (fillAt v g ≠ none → exec .memFillExtentDone s = .next { v with mem := { v.mem with fills := g :: t } }))
    ∧ (∀ ok j, s.mem.train = some j →
      let u := { s with mem := { s.mem with train := none } }
      exec (.memTrainDone ok) s = .next (trainNext (completeOpt j.oid stOk [] (if ok then recDirty 3 (16 * j.chan + j.rate)
        (setDdr j.chan (fun d => { d with sets := d.sets ||| (1 <<< j.rate) }) u) else u))))
    ∧ (∀ e err j, s.mem.scans.find? (fun j => j.engine == some e) = some j →
      let u := scanAssign (tick 0x0C09 e { s with mem := { s.mem with scans := s.mem.scans.filter (fun q => q.oid != j.oid) } })
      let seed := if bitOf (scanPar j 2) 16 then some (scanPar j 8 + 2 ^ 32 * scanPar j 9) else none
      (err = true → bits (scanPar j 2) 8 2 = 0 → exec (.chkScanDone e err) s = .next (complete j.oid stDmaFault [] u))
      ∧ (∀ bs, err = false → scanData s j = (0, some bs) →
          exec (.chkScanDone e err) s = .next (complete j.oid stOk (two (scanCrc (bits (scanPar j 2) 0 2) seed bs)) u)))

/-- On a machine die that runs: GOOSE_WATCHDOG_EXPIRY counts, raises EV_WDOG and trips for cause 9. CORE_WATCHDOG_EXPIRY of firmware
that is READY or in a handover restarts firmware and is logged for cause 7. SAFE_IN_EDGE of a closed chain notes the channel and
trips for cause 1; on an open chain it only notes the channel. SAFE_IN_HEALTHY notes the channel and the time.
SAFE_IN_DETAIL_TIMER fixes the detail 10 ms after the first edge: 1 where both channels went low, else 2. HV_INTERLOCK_CHANGE
takes the level: an interlock that opens holds its channels off, is counted and raised, and trips for cause 10; one that closes is
raised. DIE_TEMP_SAMPLE of a die reads its sensors and applies its thresholds; a die without a valid sensor applies none, and 135
degrees on the engine die shuts it down. -/
def Obligations.WatchdogsStopChainAndTemperature : Prop :=
  ∀ (s : State), macOn s = true →
    exec .gooseWatchdogExpiry s = .next (trip 9 0 (raise 0x0D07 dev 0 0 1 10 0 (tick 0x0D03 256 s)))
    ∧ (engOn s = true → (s.fw.st = .ready ∨ s.fw.st = .handover) →
      let t := atTime (s.sup.kick + s.sup.wdPeriod * 1000000000) s
      exec .coreWatchdogExpiry s = .next (tripLogged 7 0 (raise 0x0D07 dev 0 0 0 ((t.now - s.sup.kick) / 1000000000) 0 (fwFault .restart (tick 0x0D03 0 t)))))
    ∧ (∀ c x, s.sup.safeIn[c]? = some x → x.high = true →
      (s.sup.safeIn.all SafeChan.high = true → s.sup.safeLowAt = none →
        let low := updAt (s.sup.safeIn.map (fun c => { c with wentLow := false })) c (fun _ => { high := false, wentLow := true })
        exec (.safeInEdge c) s = .next (trip 1 0 { s with sup := { s.sup with
          safeIn := low, needBothLow := s.sup.needBothLow && low.any SafeChan.high, safeLowAt := some s.now } }))
      ∧ (s.sup.safeIn.all SafeChan.high = false →
        let low := updAt s.sup.safeIn c (fun _ => { high := false, wentLow := true })
        exec (.safeInEdge c) s = .next { s with sup := { s.sup with safeIn := low, needBothLow := s.sup.needBothLow && low.any SafeChan.high } }))
    ∧ (∀ c x, s.sup.safeIn[c]? = some x → x.high = false →
      exec (.safeInHealthy c) s = .next { s with sup := { s.sup with safeIn := updAt s.sup.safeIn c (fun y => { y with high := true }), bothHigh := s.now } })
    ∧ (∀ t, s.sup.safeLowAt = some t →
      let d := if s.sup.safeIn.all SafeChan.wentLow then 1 else 2
      exec .safeInDetailTimer s = .next (tripEvent (withSup (fun u => { u with
        safeLowAt := none, log := logDetail d u.log, firstDetail := if u.tripDue && u.firstCause == 1 then d else u.firstDetail
        needBothLow := u.needBothLow || (d == 2 && u.safeIn.any SafeChan.high) }) (atTime (t + 10000000000) s))))
    ∧ (∀ k i level, s.sup.ilks[k]? = some i →
      let u := withSup (fun u => { u with ilks := updAt u.ilks k (fun i => { i with level := level }) }) s
      (ilkOpen i = false → level ≠ i.closedHigh → exec (.hvInterlockChange k level) s
        = .next (trip 10 k (raise 0x0D04 k 0 0 0 i.mask 0 (tick 0x0D05 k (ilkHold i.mask u)))))
      ∧ (ilkOpen i = true → level = i.closedHigh → exec (.hvInterlockChange k level) s = .next (raise 0x0D04 k 0 0 1 i.mask 0 u))
      ∧ (ilkOpen i = false → level = i.closedHigh → exec (.hvInterlockChange k level) s = .next u))
    ∧ (∀ machine values, (machine = true ∨ engOn s = true) →
      let d := therm s machine
      let t := atTime (d.at_ + if fastSampling d then 250000000 else 10000000000) s
      let w := forRange d.sensors.length (setTherm machine (fun d => { d with at_ := t.now }) t) (fun i s =>
        sensorTake machine i (values.getD i (sensorOf s machine i).value) (tempValid machine d.sensors values i) s)
      let u := if machine then w else setTherm false (fun d => { d with manyRaised := d.manyRaised && sensorsLost w }) w
      (hottestAt (therm u machine) = none → exec (.dieTempSample machine values) s = .next u)
      ∧ (∀ hot i, hottestAt (therm u machine) = some (hot, i) →
        let v := critStep machine hot i (warnStep machine hot (if machine then u else throttle hot u))
        exec (.dieTempSample machine values) s = .next (if machine = false ∧ 2160 ≤ hot then engineLoss .shut i v else v)))

/-- VIN_SAMPLE takes the code 10 us after the last one and, outside the power-on reset, applies the warnings and the over-voltage
report. MACHINE_POR_ASSERT resets the machine die 5 us after the supply fell, MACHINE_POR_RELEASE releases it 2 ms after it rose,
and SYS_RST_N does both. ENG_WAKE powers an engine die up that is off, and wakes a parked boot ROM. POWER_SEQ_STEP of the rail
waited for marks it good and enables the next one, and after rail 6 releases the engine die. POWER_SEQ_TIMEOUT logs and counts the
rail and powers down. POWER_DOWN_STEP releases the next rail, and after rail 0 the die is off. PWR_PG_LOSS of a running die is a
loss; while powering up it clears the rail's bit. ENGINE_AUTO_RESTART after a loss, at most 3 times in an hour, powers up 1 s
after the power-down. -/
def Obligations.SupplyAndPowerSequence : Prop :=
  ∀ (s : State),
    let p := s.sup.power
    (∀ code,
      let t := atTime (s.sup.vinAt + 10000000) s
      let beyond := if p.por then vinOver code else vinUnder code
      let u := withSup (fun u => { u with
        vin := code, vinAt := t.now, power := { u.power with vinSince := if beyond then some (u.power.vinSince.getD t.now) else none } }) t
      exec (.vinSample code) s = .next (if p.por then u else vinOverStep (vinWarnStep u)))
    ∧ (∀ t, p.vinSince = some t → p.por = false → exec .machinePorAssert s = .next (porReset (atTime (t + 5000000) s)))
    ∧ (∀ t, p.vinSince = some t → p.por = true → exec .machinePorRelease s = .next (porRelease (atTime (t + 2000000000) s)))
    ∧ (macOn s = true → exec .sysRstN s = .next (porRelease (porReset s)))
    ∧ (macOn s = true → p.phase = .off → exec .engWake s = .next (powerUp s))
    ∧ (macOn s = true → p.phase ≠ .off → engOn s = true → s.fw.parked = true →
        exec .engWake s = .next { s with fw := { s.fw with parked := false, why := .cold } })
    ∧ (∀ rail, p.phase = .up rail →
      let good (d : Nat) (q : PowerState) : State :=
        { atTime (p.stepAt + d) s with sup := { s.sup with power := { q with pg := p.pg ||| (1#7 <<< rail) } } }
      (rail < 6 → exec (.powerSeqStep rail) s = .next (good 1000000000 { p with
          phase := .up (rail + 1), en := p.en ||| (1#7 <<< (rail + 1)), stepAt := (atTime (p.stepAt + 1000000000) s).now }))
      ∧ (rail = 6 → exec (.powerSeqStep rail) s = .next (engRelease (good 10000000000 p)))
      ∧ exec .powerSeqTimeout s = .next (powerDown .sequence (tick 0x0D02 rail (gooseLog (16 + rail) rail (atTime (p.stepAt + 10000000000) s)))))
    ∧ (∀ rail, p.phase = .down rail →
      let due := if rail = 6 then p.stepAt + 100000000 else if p.pg.getLsbD (rail + 1) then p.stepAt + 5000000000 else s.now
      let t := atTime due s
      let off := { p with en := p.en &&& ~~~(1#7 <<< rail), stepAt := t.now }
      exec .powerDownStep s = .next { t with sup := { s.sup with power :=
        if rail = 0 then { off with phase := .off, pg := 0, offAt := t.now } else { off with phase := .down (rail - 1) } } })
    ∧ (∀ rail, p.pg.getLsbD rail = true →
      let u := withPower (fun q => { q with pg := p.pg &&& ~~~(1#7 <<< rail) }) s
      exec (.pwrPgLoss rail) s = .next (if p.phase = .on then engineLoss .loss rail u else u))
    ∧ (let t := Nat.max s.now (p.offAt + 1000000000000)
       let recent := p.restarts.filter (fun x => decide (t < x + 3600000000000000))
       macOn s = true → s.sup.autoRestart = true → p.phase = .off → p.why = .loss → recent.length < 3 →
       exec .engineAutoRestart s = .next (powerUp (withPower (fun q => { q with restarts := t :: recent }) (atTime t s))))

/-- SUP.STATUS answers seven words and changes nothing. SUP.CONFIG with a warning level and a watchdog period that are 0 or legal
takes the enables where bit 16 of word 2 says so, the levels that are not 0, the automatic restart and the interlocks, and applies
the four interlocks in order. SUP.OUTPUT outside the safe state sets an existing output's safe action, or a whole group's, at most
to the group's greatest. SUP.TRIP trips for cause 11. SUP.CLEAR in the safe state with no latched cause present ends it, after the
loops have taken it, clears the latches and the trips, and raises EV_SUP_CLEAR. SUP.LOG answers the count and up to 20 records of
three words. THERM.STATUS of a die with a valid sensor answers three words and one word for every two sensors. THERM.CONFIG with
thresholds in their order and ranges, and no new critical one at or below its die's hottest reading, takes what is not 0. -/
def Obligations.SupervisorCommandsComplete : Prop :=
  ∀ (s : State) (n : Nat) (ws : List Word),
    (Accepts s 0x0D01 [] n ws → ∃ r, r.length = 7 ∧ exec .supStatus s = .next (okReply n r (taken s)))
    ∧ (Accepts s 0x0D02 [0x105E0, 0x0FFF0FFF, 0xF, 0xFFFFFF, 0xFFFFFF, 0xFFFFFF, 0xFFFFFF, 1] n ws →
      let old := s.sup.ilks
      let u := withSup (fun u => { u with
        enables := if bitOf (par ws 2) 16 then BitVec.ofNat 16 (par ws 2) else u.enables
        vinWarn := orKeep (bits (par ws 3) 0 12) u.vinWarn, wdPeriod := orKeep (bits (par ws 3) 16 12) u.wdPeriod, autoRestart := bitOf (par ws 9) 0
        ilks := (List.range 4).map (fun k => { level := (old.getD k {}).level, closedHigh := bitOf (par ws 4) k, mask := par ws (5 + k) }) }) (taken s)
      zeroOrIn 300 2400 (bits (par ws 3) 0 12) = true → zeroOrIn 10 1000 (bits (par ws 3) 16 12) = true →
      exec .supConfig s = .next (okReply n [] (forRange 4 u (fun k s => ilkApply k (ilkOpen (old.getD k {})) (old.getD k {}).mask s))))
    ∧ (Accepts s 0x0D03 [0x17F0F, 3] n ws →
      let g := bits (par ws 2) 0 4
      let i := bits (par ws 2) 8 7
      let all := bitOf (par ws 2) 16
      groupSize g ≠ 0 → (all = true ∨ i < groupSize g) → par ws 3 ≤ groupAction g → s.sup.safe = false →
      exec .supOutput s = .next (okReply n [] { taken s with sup := { s.sup with
        actions := (if all then List.range (groupSize g) else [i]).foldl (fun m i => natSet m (g * 128 + i) (par ws 3)) s.sup.actions } }))
    ∧ (Accepts s 0x0D04 [] n ws → exec .supTrip s = .next (okReply n [] (trip 11 0 (taken s))))
    ∧ (Accepts s 0x0D05 [] n ws → s.sup.safe = true → presentMask s = 0 →
      let u := if s.sup.loopsDue = true then loopsSafe (withSup (fun x => { x with loopsDue := false }) (taken s)) else taken s
      exec .supClear s = .next (okReply n [] (raise 0x0D02 dev 0 0 ((u.now - u.sup.tripAt.getD u.now) / 1000000000) u.sup.latched.toNat 0
        { u with sup := { u.sup with
          safe := false, latched := 0, fuser := u.sup.fuser.map (fun f => { f with tripped := false }), busCmp := u.sup.busCmp.map (fun _ => {}) } })))
    ∧ (Accepts s 0x0D06 [0x3F] n ws →
      let k := Nat.min 20 (s.sup.log.length - par ws 2)
      ∃ r, r.length = 1 + 3 * k ∧ r.head? = some k ∧ exec .supLog s = .next (okReply n r (taken s)))
    ∧ (Accepts s 0x0D07 [1] n ws → ∀ h, hottestAt (therm s (bitOf (par ws 2) 0)) = some h →
      ∃ r, r.length = 3 + (therm s (bitOf (par ws 2) 0)).sensors.length / 2 ∧ exec .thermStatus s = .next (okReply n r (taken s)))
    ∧ (Accepts s 0x0D08 [0xFFFFFF, 0xFFFFFF, 0xFFFF, allBits] n ws → thermOk (thermWanted ws s.sup) = true →
      zeroOrIn 2 30 (bits (par ws 3) 16 8) = true → zeroOrIn 50 2000 (par ws 4) = true →
      thermLow (bits (par ws 2) 16 8) s.sup.engine = false → thermLow (bits (par ws 3) 8 8) s.sup.machine = false →
      exec .thermConfig s = .next (okReply n [] { taken s with sup := thermWanted ws s.sup }))

/-- BOOT_ROM_START of an unparked boot ROM without a bank selects one and counts it. FW_READY of a cold start with DDR5 channel 0
populated makes firmware READY and the device RUN, sends the held events, brings the channels up, and raises its events; after a
restart it raises them and abandons the commands that were outstanding. HEARTBEAT_TICK counts, sets the next one 1 ms later kicks
Goose, and starts the training of a discarded set where it can run. CORE_RESTART 10 ms into a fault counts and selects a bank.
FW_LOAD_DONE fails where the image cannot be fetched or its CRC differs; else it writes the standby bank and answers whether the
image is valid. FW_PRELOAD_DONE of a valid standby image makes the hand-over gap work, else fails the activation.
HANDOVER_COMPLETE makes the new image READY on trial and ends the gap, or faults; TRIAL_FAILED faults. LIFECYCLE_POWER_DOWN writes
the records and powers the engine die down; WAKE_TIMER powers it up. -/
def Obligations.FirmwareStartsRestartsAndHandsOver : Prop :=
  ∀ (s : State),
    (engOn s = true → s.fw.st = .boot → s.fw.bank = none → s.fw.parked = false →
      exec .bootRomStart s = .next (match (bootSelect .cold s).fw.bank with
        | some b => tick 0x0E00 b (bootSelect .cold s)
        | none => bootSelect .cold s))
    ∧ (∀ b, engOn s = true → s.fw.st = .boot → s.fw.bank = some b → bitOf s.board.ddrMask.toNat 0 = true →
      let t (pw : PowerSt) : State := drain (withSup (fun u => { u with kick := s.now }) (withFw (fun f => { f with
        st := .ready, running := (s.fw.banks[b]?).bind FlashBank.hdr, machineOk := true, power := pw
        wakeAt := none, recover := false, beatAt := s.now + 1000000000 }) s))
      let life (u : State) : State := if s.fw.power != .run then raise 0x0E02 dev 0 0 0 s.fw.power.code 0 u else u
      let log (u : State) : State := if u.sup.logNew = 0 then u else raise 0x0D08 dev 0 0 u.sup.logNew 0 0 (withSup (fun x => { x with logNew := 0 }) u)
      let say (u : State) : State := tripEvent (log u)
      (s.fw.recover = false → exec .fwReady s = .next (say (life (fwEvent s.fw.why.code (forRange 4 (t .run) chanBringUp)))))
      ∧ (s.fw.recover = true → exec .fwReady s = .next (abandonCommands (say (fwEvent s.fw.why.code (t s.fw.power))))))
    ∧ (fwReady s = true →
      let t := atTime s.fw.beatAt s
      exec .heartbeatTick s = .next (trainNext (withSup (fun u => { u with kick := t.now }) (withFw (fun f => { f with beatAt := t.now + 1000000000 }) (tick 0x0100 0 t)))))
    ∧ (∀ t, engOn s = true → s.fw.st = .fault → s.fw.resetSince = some t →
      let u := atTime (t + 10000000000) s
      exec .coreRestart s = .next (bootSelect s.fw.why (tick 0x0E03 0 (withFw (fun f => { f with restarts := u.now :: f.restarts, resetSince := none }) u))))
    ∧ (∀ l k, fwReady s = true → s.fw.load = some l → standby s = some k →
      let u := withFw (fun f => { f with load := none }) s
      (hostRead u l.addr l.bytes = none → exec .fwLoadDone s = .next (complete l.oid stDmaFault [] u))
      ∧ ∀ b, hostRead u l.addr l.bytes = some b →
        let v := withFw (fun f => { f with banks := f.banks.set k { hdr := some (hdrOf b), sound := imageSound b } }) u
        (crc32c b ≠ l.crc → exec .fwLoadDone s = .next (complete l.oid stCheck [] u))
        ∧ (crc32c b = l.crc → exec .fwLoadDone s = .next (if bankOk v k then complete l.oid stOk [] v else complete l.oid 0x0E01 [] (tick 0x0E04 0 v))))
    ∧ (∀ a k ok, fwReady s = true → s.fw.activate = some a → standby s = some k → a.preloaded = false →
      exec (.fwPreloadDone ok) s = .next (if ok && bankOk s k then gapPend .handover (some (1 <<< leadStation s)) (some a.oid)
          { s with fw := { s.fw with preload := (s.fw.banks[k]?).bind FlashBank.hdr, activate := some { a with preloaded := true } } }
        else complete a.oid 0x0E01 [] (tick 0x0E04 0 { s with fw := { s.fw with activate := none } })))
    ∧ (∀ r, engOn s = true → s.fw.st = .handover → s.page.gapRunning.find? (fun r => r.item.work == .handover) = some r →
      exec (.handoverComplete false) s = .next (fwFault .trialFailed s)
      ∧ exec (.handoverComplete true) s = .next (gapFinish r (fwEvent 3 (drain (withSup (fun u => { u with kick := s.now }) (tick 0x0E02 0
          { s with fw := { s.fw with
            st := .ready, why := .handover, bank := if (standby s).isSome then standby s else s.fw.bank, running := s.fw.preload, trial := true
            preload := none, activate := none, beatAt := s.now + 1000000000 } }))))))
    ∧ (engOn s = true → s.fw.st = .handover → exec .trialFailed s = .next (fwFault .trialFailed s))
    ∧ (engOn s = true → s.fw.standbyDue = true →
      let u := powerTo .standby (writeRecords s)
      exec .lifecyclePowerDown s = .next (powerDown .standby (tick 0x0E05 0 (withFw (fun f => { f with
        standbyDue := false, wakeAt := if f.wakeTimer = 0 then none else some (u.now + f.wakeTimer * 1000000000000) }) u))))
    ∧ (∀ t, macOn s = true → s.fw.power = .standby → s.sup.power.phase = .off → s.fw.wakeAt = some t →
      exec .wakeTimer s = .next (powerUp (withFw (fun f => { f with wakeAt := none }) (atTime t s))))

/-- FW.STATUS answers six words and changes nothing. FW.LOAD of an image of at most 3,145,856 bytes, with a standby bank, no
activation and no other load under way, answers ST_PENDING. FW.ACTIVATE of a valid standby bank waits. FW.COMMIT of a running bank
that is not committed writes the boot record's other copy, ends the trial and, where bit 0 says so, raises the least security
version. LIFE.IDLE in RUN with no live page sends every online link to IDLE, stops the camera ports and changes the power state.
LIFE.STANDBY in RUN with no live page writes the records and asks for the power-down. LIFE.WAKE in IDLE lets the idle links exit,
makes a sweep due on every channel and changes the power state. -/
def Obligations.FirmwareCommandsComplete : Prop :=
  ∀ (s : State) (n : Nat) (ws : List Word),
    (Accepts s 0x0E01 [] n ws → ∃ r, r.length = 6 ∧ exec .fwStatus s = .next (okReply n r (taken s)))
    ∧ (Accepts s 0x0E02 [allBits, allBits, allBits, allBits] n ws → par ws 4 ≤ 3145856 → (standby s).isSome = true → s.fw.activate = none →
      s.fw.load = none →
      exec .fwLoad s = .next (pendingReply n ws s.host.nextOid { taken s with fw := { s.fw with
        load := some { oid := s.host.nextOid, addr := par64 ws 2, bytes := par ws 4, crc := par ws 5 } } }))
    ∧ (Accepts s 0x0E03 [] n ws → ∀ k, standby s = some k → bankOk s k = true → s.fw.load = none → s.fw.activate = none →
      exec .fwActivate s = .next (deferredReply n ws s.host.nextOid { taken s with fw := { s.fw with activate := some { oid := s.host.nextOid } } }))
    ∧ (Accepts s 0x0E04 [1] n ws → ∀ b, s.fw.bank = some b → b ≠ committed s →
      let svn := ((s.fw.running).map ImgHdr.svn).getD 0
      exec .fwCommit s = .next (okReply n [] (withFw (fun f => { f with
        trial := false, svnMin := if bitOf (par ws 2) 0 then Nat.max f.svnMin svn else f.svnMin }) (bootWrite b (taken s)))))
    ∧ (Accepts s 0x0E05 [] n ws → lifeMay s = true →
      exec .lifeIdle s = .next (okReply n [] (powerTo .idle
        (forRange 4 (forRange 96 (taken s) (fun g s => if (port s g).st = .online then laneIdle g s else s))
          (fun p s => if (camPort s p).en then camStop p s else s)))))
    ∧ (Accepts s 0x0E06 [allBits] n ws → lifeMay s = true →
      exec .lifeStandby s = .next (okReply n [] (writeRecords { taken s with fw := { s.fw with standbyDue := true, wakeTimer := par ws 2 } })))
    ∧ (Accepts s 0x0E07 [] n ws → s.fw.power = .idle →
      let exit := forRange 96 (taken s) (fun g s => if (port s g).st = .idle then setPort g (fun p => { p with exitAt := some (s.now + 100 * usPs) }) s else s)
      exec .lifeWake s = .next (okReply n [] (powerTo .run (forRange 4 exit (fun c s => setDdr c (fun d => { d with lastSweep := s.now - sweepPs }) s)))))

/-- At reset, and after SYS_RST_N of a machine die that runs: every transfer slot is unconfigured, in manual, with MAN 0, every
coefficient 0 except UMAX 32,767, and an empty queue; every HV channel is disabled with LIM 0, ARC_HOLD 100 (10 ms), ARC_RAMP 64
and ARC_MAX 8; every zone is in PWM mode with FPER 1,000 and its trip disabled; every program is invalid and no instance runs; no
SEQ_OUT is driven and every SEQ_IN has a debounce of 1; every counter with an ID from 0x0A00 to 0x0AFF is 0. -/
def Obligations.ResetLeavesTheLoopsUnconfigured : Prop :=
  ∀ (r : State), (r = State.reset ∨ ∃ s, macOn s = true ∧ exec .sysRstN s = .next r) →
    (r.loop.slots.length = 64 ∧ ∀ l, l ∈ r.loop.slots →
      l.configured = false ∧ l.auto = false ∧ l.man = 0 ∧ l.coef = [0, 0, 0, 0, 0, 0, 32767] ∧ l.queue = [])
    ∧ (r.loop.hv.length = 24 ∧ ∀ h, h ∈ r.loop.hv → h.en = false ∧ h.lim = 0 ∧ h.arcHold = 100 ∧ h.arcRamp = 64 ∧ h.arcMax = 8)
    ∧ (r.loop.zones.length = 4 ∧ ∀ z, z ∈ r.loop.zones → z.zeroCross = false ∧ z.fper = 1000 ∧ z.tripEn = false)
    ∧ (r.loop.programs.length = 32 ∧ ∀ p, p ∈ r.loop.programs → p.valid = false) ∧ r.loop.instances = []
    ∧ (r.loop.seqOut.length = 8 ∧ ∀ o, o ∈ r.loop.seqOut → o.driven = false) ∧ (r.loop.seqIn.length = 8 ∧ ∀ i, i ∈ r.loop.seqIn → i.debounce = 1)
    ∧ ∀ id inst, id / 256 = 0x0A → ctrVal r id inst = 0

/-- At reset, and after SYS_RST_N of a machine die that runs: every drive and stepper axis is OFF; no commutation is aligned, every
trim is 0, no velocity is valid, every phase-advance entry is 0 with SPD_FS 65,536; both choppers are unconfigured without fault
and with V_HARD 4,095; the safe state does not hold and no cause is latched; causes 5, 6, 7 and 10 are disabled and 8 is enabled;
VIN_WARN is 300 (6.0 V) and WD_PERIOD 100 ms; every interlock's closed level is high with mask 0; AUTO_RESTART is off, every safe
action 0, L 0; MARGIN_T is 10, K_th 350, P_BASE 140 and P_ST 100; Goose's log is empty, and every counter with an ID from 0x0B00
to 0x0BFF or from 0x0D00 to 0x0DFF is 0. -/
def Obligations.ResetLeavesTheMachineDie : Prop :=
  ∀ (r : State), (r = State.reset ∨ ∃ s, macOn s = true ∧ s.sup.ilks.length = 4 ∧ exec .sysRstN s = .next r) →
    (r.motion.drives.length = 8 ∧ ∀ d, d ∈ r.motion.drives → d.st = .off ∧ d.aligned = false ∧ d.trims = (0, 0, 0) ∧ d.omegaValid = false
      ∧ d.advSpd = 65536 ∧ d.adv = List.replicate 32 0)
    ∧ (r.motion.steppers.length = 8 ∧ ∀ x, x ∈ r.motion.steppers → x.st = .off)
    ∧ (r.motion.buses.length = 2 ∧ ∀ b, b ∈ r.motion.buses → b.configured = false ∧ b.on = false ∧ b.fault = false ∧ b.vHard = 4095)
    ∧ r.sup.safe = false ∧ r.sup.latched = 0
    ∧ (causeEnabled r 5 = false ∧ causeEnabled r 6 = false ∧ causeEnabled r 7 = false ∧ causeEnabled r 10 = false ∧ causeEnabled r 8 = true)
    ∧ r.sup.vinWarn = 300 ∧ r.sup.wdPeriod = 100
    ∧ (r.sup.ilks.length = 4 ∧ ∀ i, i ∈ r.sup.ilks → i.closedHigh = true ∧ i.mask = 0)
    ∧ r.sup.autoRestart = false ∧ (∀ g i, safeAction r g i = 0) ∧ r.sup.level = 0
    ∧ r.sup.marginT = 10 ∧ r.sup.kth = 350 ∧ r.sup.pBase = 140 ∧ r.sup.pSt = 100 ∧ r.sup.log = []
    ∧ ∀ id inst, id / 256 = 0x0B ∨ id / 256 = 0x0D → ctrVal r id inst = 0

/-- With BAR access, DOORBELL with bit n alone: a slot in IDLE or DONE becomes POSTED, its SLOT_DONE bit is 0 and no other one
changes, and it joins the ring order; a slot in POSTED or ACTIVE, and everything else, stays as it is, and the access is recorded
as DOORBELL_BUSY (bit 4). A slot in DONE that MAILBOX_SLOT_WRITE has rewritten is POSTED with its new words by the next DOORBELL. -/
def Obligations.DoorbellPostsASlot : Prop :=
  ∀ (s : State) (n : Nat) (q : Slot), barOn s = true → n < 16 → s.host.slots[n]? = some q →
    ((q.st = .idle ∨ q.st = .done) → ∃ t, exec (.doorbell (BitVec.ofNat 32 (2 ^ n))) s = .next t
      ∧ t.host.slots[n]? = some { q with st := .posted } ∧ t.host.slotDone.getLsbD n = false ∧ t.host.order = s.host.order ++ [n]
      ∧ ∀ m, m ≠ n → t.host.slots[m]? = s.host.slots[m]? ∧ t.host.slotDone.getLsbD m = s.host.slotDone.getLsbD m)
    ∧ ((q.st = .posted ∨ q.st = .active) → exec (.doorbell (BitVec.ofNat 32 (2 ^ n))) s = .next (accErr 4 0x2000 false s))
    ∧ (q.st = .done → q.words.length = 64 → ∀ ws t, ws.length = 64 → exec (.mailboxSlotWrite n 0 ws) s = .next t →
        ∃ u, exec (.doorbell (BitVec.ofNat 32 (2 ^ n))) t = .next u ∧ u.host.slots[n]? = some { words := ws, st := .posted })

/-- A product of two Q15 values fits the accumulator and is not changed by its saturation. A sum saturates at the least and the
greatest 40-bit value. An accumulator value a comes to Q15 as (a + 2^14) shifted right arithmetically by 15 and clamped to 16
bits. The error and the change of the feedback that a sample forms are the exact differences clamped to 16 bits. -/
def Obligations.LoopArithmeticSaturates : Prop :=
  (∀ a b : Int, -32768 ≤ a → a ≤ 32767 → -32768 ≤ b → b ≤ 32767 → sat40 (a * b) = a * b)
  ∧ (∀ x : Int, (x < -2 ^ 39 → sat40 x = -2 ^ 39) ∧ (2 ^ 39 - 1 < x → sat40 x = 2 ^ 39 - 1) ∧ (-2 ^ 39 ≤ x → x ≤ 2 ^ 39 - 1 → sat40 x = x))
  ∧ (∀ a : Int, toQ15 a = max (-32768) (min 32767 ((a + 2 ^ 14) >>> 15)))
  ∧ (∀ (l : LoopSlot) (sp fb prev : Int),
      (loopTerms l sp fb prev).e = max (-32768) (min 32767 (sp - fb))
      ∧ (loopTerms l sp fb prev).d = sat40 (coefOf l 2 * max (-32768) (min 32767 (prev - fb)) * 2 ^ (coefOf l 4).toNat))

/-- A sample of a transfer loop with waiting coefficient writes takes the oldest: it leaves the queue, its coefficient holds the
value, and the others are unchanged. With an empty queue the coefficients and the queue are unchanged. The queues and coefficients
of all other loops are unchanged, in manual and in automatic alike. -/
def Obligations.SamplesTakeOneCoefficientWrite : Prop :=
  ∀ (s : State) (n : Nat), n < s.loop.slots.length →
    (∀ i v t, (loopOf s n).queue = (i, v) :: t →
      (loopOf (loopSample n s) n).queue = t ∧ (loopOf (loopSample n s) n).coef = (loopOf s n).coef.set i v)
    ∧ ((loopOf s n).queue = [] → (loopOf (loopSample n s) n).queue = [] ∧ (loopOf (loopSample n s) n).coef = (loopOf s n).coef)
    ∧ ∀ m, m ≠ n → (loopOf (loopSample n s) m).queue = (loopOf s m).queue ∧ (loopOf (loopSample n s) m).coef = (loopOf s m).coef

/-- While the safe state holds, SUP.TRIP, and any other enabled cause that arises, is counted, logged and added to the mask of latched
causes, and raises no second EV_SUP_TRIP; a cause that is not enabled changes nothing. Causes 1 to 4, 9 and 11 are always enabled. -/
def Obligations.SafeStateLatchesCauses : Prop :=
  ∀ (s : State) (c detail : Nat),
    (causeEnabled s c = false → trip c detail s = s)
    ∧ (c = 1 ∨ c = 2 ∨ c = 3 ∨ c = 4 ∨ c = 9 ∨ c = 11 → causeEnabled s c = true)
    ∧ (s.sup.safe = true → causeEnabled s c = true →
      let t := gooseLog c detail (tick 0x0D00 c s)
      trip c detail s = { t with sup := { t.sup with latched := t.sup.latched ||| (1 <<< c) } })
    ∧ (∀ n ws, Accepts s 0x0D04 [] n ws → s.sup.safe = true →
      let t := gooseLog 11 0 (tick 0x0D00 11 (taken s))
      exec .supTrip s = .next (okReply n [] { t with sup := { t.sup with latched := t.sup.latched ||| 0x800 } }))

/-- While the machine die is in its power-on reset, every HV, fuser, sequencer, waste-gate, tile-sideband and brake output, every
drive gate, stepper bridge, PWR_EN and ENG_RST_OUT is high impedance. An output that is not configured is high impedance, also in
the safe state. In the safe state a configured HV_EN, HV_REF, FUS_GATE, SEQ_OUT, WG_OUT, tile sideband or stepper bridge drives
its safe action: released for 0, inactive (code 0 for HV_REF) for 1, active for 2. Otherwise a configured channel's HV_EN is
active exactly while the channel is enabled, not latched and under no open interlock, its HV_REF is the channel's code, or 0 under
an open interlock, and PWR_EN and ENG_RST_OUT are driven as Goose sets them. -/
def Obligations.OutputsInEveryState : Prop :=
  (∀ s n, macOn s = false → hvEnPin s n = .highZ ∧ hvRefPin s n = .highZ ∧ fusGatePin s n = .highZ ∧ seqOutPin s n = .highZ
    ∧ wgOutPin s n = .highZ ∧ tsbPin s n = .highZ ∧ brkGatePin s n = .highZ ∧ drivePins s n = List.replicate 6 .highZ
    ∧ stepPins s n = List.replicate 4 .highZ ∧ pwrEnPin s n = .highZ ∧ engRstPin s = .highZ)
  ∧ (∀ s n, ((hvOf s n).configured = false → hvEnPin s n = .highZ ∧ hvRefPin s n = .highZ)
    ∧ ((zoneOf s n).configured = false → fusGatePin s n = .highZ)
    ∧ ((s.loop.seqOut.getD n {}).driven = false → seqOutPin s n = .highZ)
    ∧ (s.page.wgOut.getD n .highZ = .highZ → wgOutPin s n = .highZ)
    ∧ ((s.tile.tsb.getD n {}).driven = false → tsbPin s n = .highZ)
    ∧ ((drv s n).st = .off → drivePins s n = List.replicate 6 .highZ)
    ∧ ((stp s n).st = .off → stepPins s n = List.replicate 4 .highZ))
  ∧ (∀ s n, macOn s = true → s.sup.safe = true →
      let pin := fun (a : Nat) => if a = 0 then Pin.highZ else if a = 1 then Pin.inactive else Pin.active
      ((hvOf s n).configured = true → hvEnPin s n = pin (safeAction s 3 n)
        ∧ (safeAction s 2 n = 0 → hvRefPin s n = .highZ) ∧ (safeAction s 2 n = 1 → hvRefPin s n = .code 0))
      ∧ ((zoneOf s n).configured = true → fusGatePin s n = pin (safeAction s 4 n))
      ∧ ((s.loop.seqOut.getD n {}).driven = true → seqOutPin s n = pin (safeAction s 5 n))
      ∧ (s.page.wgOut.getD n .highZ ≠ .highZ → wgOutPin s n = pin (safeAction s 6 n))
      ∧ ((s.tile.tsb.getD n {}).driven = true → tsbPin s n = pin (safeAction s 8 n))
      ∧ ((stp s n).st ≠ .off → stepPins s n = List.replicate 4 (pin (safeAction s 1 n))))
  ∧ (∀ s n, macOn s = true → s.sup.safe = false → (hvOf s n).configured = true →
      (hvEnPin s n = .active ↔ (hvOf s n).en = true ∧ (hvOf s n).latched = false ∧ hvOpen s n = false)
      ∧ hvRefPin s n = .code (if hvOpen s n then 0 else (hvOf s n).ref))
  ∧ (∀ s n, macOn s = true → pwrEnPin s n = (if s.sup.power.en.getLsbD n then .active else .inactive)
      ∧ engRstPin s = (if s.sup.power.engRst then .active else .inactive))

/-- Each command accepted. MEM.TEST of a memory in use, inside its test area, answers the word read and what was found, and counts it:
with no check bit inverted the word is clean; with one bit (or symbol) it is corrected and stored without the inverted bits; where
the code detects the error it is uncorrectable and reads 0; where the code's columns, which the spec does not give, decide, found
and read are free values, and the command still answers (log entry 55). MEM.RATE to a rate that every channel of the interleave
has trained answers ST_OK with the change made where its common gap is there at once, and ST_DEFERRED with the work pending
otherwise; a rate that some channel lacks answers ST_MEM_NO_SET. MEM.RETIRE of a channel in use that is not the last, and that no
MEM.RETIRE names yet, makes it FAILING; with no extent left on it and the gap there at once it answers ST_OK with the channel
retired, else ST_DEFERRED with its retirement to follow; of the last channel it answers ST_MEM_LAST. -/
def Obligations.MemoryTestRateAndRetire : Prop :=
  ∀ (s : State) (n : Nat) (ws : List Word),
    let f (w lo len : Nat) : Nat := bits (par ws w) lo len
    (Accepts s 0x0C04 [0xF, allBits, allBits, allBits, 0xFF, allBits, allBits, allBits, allBits] n ws →
      let m := par ws 2
      let dram := decide (8 ≤ m)
      let i := if dram then m - 8 else m
      let mask := if dram then par64 ws 7 + 2 ^ 64 * par64 ws 9 else f 6 0 8
      let r := codeRead dram (testHits dram mask) 0
      let put (read left : Nat) (u : State) : State := testWrite dram i { offset := par ws 3, data := BitVec.ofNat 64 read, mask := left } u
      memRuns s m = true → par ws 3 < (if dram then 131072 else 512) →
      (r.1 = 0 → exec .memTest s = .next (okReply n (two (par64 ws 4) ++ [0]) (put (par64 ws 4) 0 (taken s))))
      ∧ (r.1 = 1 → exec .memTest s = .next (okReply n (two (par64 ws 4) ++ [1 + fld r.2 8 8]) (tick 0x0C00 m (put (par64 ws 4) 0 (taken s)))))
      ∧ (r.1 = 2 → exec .memTest s = .next (okReply n (two 0 ++ [2]) (tick 0x0C01 m (put 0 mask (taken s)))))
      ∧ (r.1 = 3 → ∃ read bit u, exec .memTest s = .next (okReply n (two read ++ [1 + fld bit 8 8]) (tick 0x0C00 m (put read 0 u)))
          ∨ exec .memTest s = .next (okReply n (two 0 ++ [2]) (tick 0x0C01 m (put 0 mask u)))))
    ∧ (Accepts s 0x0C05 [7] n ws → par ws 2 ≤ 4 →
      ((∃ c, c ∈ bitList 4 (ddrMask s) ∧ bitOf (ddr s c).sets (par ws 2) = false) →
        exec .memRate s = .next (respond n 0x0C01 [] (taken s)))
      ∧ ((∀ c, c ∈ bitList 4 (ddrMask s) → bitOf (ddr s c).sets (par ws 2) = true) →
        (gapAtOnce (taken s) (.ddrRate (par ws 2)) = true → exec .memRate s = .next (okReply n [] (gapNow (.ddrRate (par ws 2)) (taken s)).st))
        ∧ (gapAtOnce (taken s) (.ddrRate (par ws 2)) = false → exec .memRate s
            = .next (deferredReply n ws s.host.nextOid (gapPend (.ddrRate (par ws 2)) none (some s.host.nextOid) (taken s))))))
    ∧ (Accepts s 0x0C07 [3] n ws →
      let c := par ws 2
      let v := if (ddr s c).st = .failing then taken s else chanFailing c 4 (taken s)
      let w := retirePend c (setDdr c (fun d => { d with oid := some v.host.nextOid }) v)
      memRuns s (8 + c) = true →
      (popCount 4 (ddrMask s) ≤ 1 → exec .memRetire s = .next (respond n 0x0C02 [] (taken s)))
      ∧ (2 ≤ popCount 4 (ddrMask s) → (ddr s c).oid = none →
        (extentsOn v c = 0 → gapAtOnce v (.retire c) = true → exec .memRetire s = .next (okReply n [] (gapNow (.retire c) v).st))
        ∧ (¬ (extentsOn v c = 0 ∧ gapAtOnce v (.retire c) = true) → exec .memRetire s = .next (deferredReply n ws s.host.nextOid { w with
            page := { w.page with gapPending := w.page.gapPending.map (fun g => if g.work = .retire c then { g with oid := some v.host.nextOid } else g) } }))))
end

