-- ==== Sys2Proof/Laws/State.lean ====
section
/-! SUPPORT. What the shared operations leave of the state: one lemma per operation and field, for rewriting. -/

namespace Sys2Proof.Machine

@[simp] theorem withSink_now (s : State) (k : Sink) : (withSink s k).now = s.now := rfl
@[simp] theorem withSink_pending (s : State) (k : Sink) : (withSink s k).pending = s.pending := rfl
@[simp] theorem withSink_test (s : State) (k : Sink) : (withSink s k).test = s.test := rfl
@[simp] theorem withSink_page (s : State) (k : Sink) : (withSink s k).page = s.page := rfl
@[simp] theorem withSink_spool (s : State) (k : Sink) : (withSink s k).spool = s.spool := rfl
@[simp] theorem withSink_exp (s : State) (k : Sink) : (withSink s k).exp = s.exp := rfl
@[simp] theorem withSink_pos (s : State) (k : Sink) : (withSink s k).pos = s.pos := rfl
@[simp] theorem withSink_link (s : State) (k : Sink) : (withSink s k).link = s.link := rfl
@[simp] theorem withSink_tile (s : State) (k : Sink) : (withSink s k).tile = s.tile := rfl
@[simp] theorem withSink_cam (s : State) (k : Sink) : (withSink s k).cam = s.cam := rfl
@[simp] theorem withSink_cal (s : State) (k : Sink) : (withSink s k).cal = s.cal := rfl
@[simp] theorem withSink_loop (s : State) (k : Sink) : (withSink s k).loop = s.loop := rfl
@[simp] theorem withSink_motion (s : State) (k : Sink) : (withSink s k).motion = s.motion := rfl
@[simp] theorem withSink_mem (s : State) (k : Sink) : (withSink s k).mem = s.mem := rfl
@[simp] theorem withSink_sup (s : State) (k : Sink) : (withSink s k).sup = s.sup := rfl
@[simp] theorem withSink_fw (s : State) (k : Sink) : (withSink s k).fw = s.fw := rfl
@[simp] theorem withSink_board (s : State) (k : Sink) : (withSink s k).board = s.board := rfl
@[simp] theorem withSink_active (s : State) (k : Sink) : (withSink s k).active = s.active := rfl
@[simp] theorem withSink_hostBad (s : State) (k : Sink) : (withSink s k).hostBad = s.hostBad := rfl
@[simp] theorem withSink_free (s : State) (k : Sink) : (withSink s k).free = s.free := rfl

@[simp] theorem atTime_pending (t : Nat) (s : State) : (atTime t s).pending = s.pending := rfl
@[simp] theorem atTime_host (t : Nat) (s : State) : (atTime t s).host = s.host := rfl
@[simp] theorem atTime_ctr (t : Nat) (s : State) : (atTime t s).ctr = s.ctr := rfl
@[simp] theorem atTime_test (t : Nat) (s : State) : (atTime t s).test = s.test := rfl
@[simp] theorem atTime_page (t : Nat) (s : State) : (atTime t s).page = s.page := rfl
@[simp] theorem atTime_spool (t : Nat) (s : State) : (atTime t s).spool = s.spool := rfl
@[simp] theorem atTime_exp (t : Nat) (s : State) : (atTime t s).exp = s.exp := rfl
@[simp] theorem atTime_pos (t : Nat) (s : State) : (atTime t s).pos = s.pos := rfl
@[simp] theorem atTime_link (t : Nat) (s : State) : (atTime t s).link = s.link := rfl
@[simp] theorem atTime_tile (t : Nat) (s : State) : (atTime t s).tile = s.tile := rfl
@[simp] theorem atTime_cam (t : Nat) (s : State) : (atTime t s).cam = s.cam := rfl
@[simp] theorem atTime_cal (t : Nat) (s : State) : (atTime t s).cal = s.cal := rfl
@[simp] theorem atTime_loop (t : Nat) (s : State) : (atTime t s).loop = s.loop := rfl
@[simp] theorem atTime_motion (t : Nat) (s : State) : (atTime t s).motion = s.motion := rfl
@[simp] theorem atTime_mem (t : Nat) (s : State) : (atTime t s).mem = s.mem := rfl
@[simp] theorem atTime_sup (t : Nat) (s : State) : (atTime t s).sup = s.sup := rfl
@[simp] theorem atTime_fw (t : Nat) (s : State) : (atTime t s).fw = s.fw := rfl
@[simp] theorem atTime_board (t : Nat) (s : State) : (atTime t s).board = s.board := rfl
@[simp] theorem atTime_active (t : Nat) (s : State) : (atTime t s).active = s.active := rfl
@[simp] theorem atTime_hostMem (t : Nat) (s : State) : (atTime t s).hostMem = s.hostMem := rfl
@[simp] theorem atTime_hostBad (t : Nat) (s : State) : (atTime t s).hostBad = s.hostBad := rfl
@[simp] theorem atTime_out (t : Nat) (s : State) : (atTime t s).out = s.out := rfl
@[simp] theorem atTime_free (t : Nat) (s : State) : (atTime t s).free = s.free := rfl

@[simp] theorem emit_now (o : Out) (s : State) : (emit o s).now = s.now := rfl
@[simp] theorem emit_pending (o : Out) (s : State) : (emit o s).pending = s.pending := rfl
@[simp] theorem emit_host (o : Out) (s : State) : (emit o s).host = s.host := rfl
@[simp] theorem emit_ctr (o : Out) (s : State) : (emit o s).ctr = s.ctr := rfl
@[simp] theorem emit_test (o : Out) (s : State) : (emit o s).test = s.test := rfl
@[simp] theorem emit_page (o : Out) (s : State) : (emit o s).page = s.page := rfl
@[simp] theorem emit_spool (o : Out) (s : State) : (emit o s).spool = s.spool := rfl
@[simp] theorem emit_exp (o : Out) (s : State) : (emit o s).exp = s.exp := rfl
@[simp] theorem emit_pos (o : Out) (s : State) : (emit o s).pos = s.pos := rfl
@[simp] theorem emit_link (o : Out) (s : State) : (emit o s).link = s.link := rfl
@[simp] theorem emit_tile (o : Out) (s : State) : (emit o s).tile = s.tile := rfl
@[simp] theorem emit_cam (o : Out) (s : State) : (emit o s).cam = s.cam := rfl
@[simp] theorem emit_cal (o : Out) (s : State) : (emit o s).cal = s.cal := rfl
@[simp] theorem emit_loop (o : Out) (s : State) : (emit o s).loop = s.loop := rfl
@[simp] theorem emit_motion (o : Out) (s : State) : (emit o s).motion = s.motion := rfl
@[simp] theorem emit_mem (o : Out) (s : State) : (emit o s).mem = s.mem := rfl
@[simp] theorem emit_sup (o : Out) (s : State) : (emit o s).sup = s.sup := rfl
@[simp] theorem emit_fw (o : Out) (s : State) : (emit o s).fw = s.fw := rfl
@[simp] theorem emit_board (o : Out) (s : State) : (emit o s).board = s.board := rfl
@[simp] theorem emit_active (o : Out) (s : State) : (emit o s).active = s.active := rfl
@[simp] theorem emit_hostMem (o : Out) (s : State) : (emit o s).hostMem = s.hostMem := rfl
@[simp] theorem emit_hostBad (o : Out) (s : State) : (emit o s).hostBad = s.hostBad := rfl
@[simp] theorem emit_free (o : Out) (s : State) : (emit o s).free = s.free := rfl

@[simp] theorem drawNat_now (s : State) : (drawNat s).1.now = s.now := rfl
@[simp] theorem drawNat_pending (s : State) : (drawNat s).1.pending = s.pending := rfl
@[simp] theorem drawNat_host (s : State) : (drawNat s).1.host = s.host := rfl
@[simp] theorem drawNat_ctr (s : State) : (drawNat s).1.ctr = s.ctr := rfl
@[simp] theorem drawNat_test (s : State) : (drawNat s).1.test = s.test := rfl
@[simp] theorem drawNat_page (s : State) : (drawNat s).1.page = s.page := rfl
@[simp] theorem drawNat_spool (s : State) : (drawNat s).1.spool = s.spool := rfl
@[simp] theorem drawNat_exp (s : State) : (drawNat s).1.exp = s.exp := rfl
@[simp] theorem drawNat_pos (s : State) : (drawNat s).1.pos = s.pos := rfl
@[simp] theorem drawNat_link (s : State) : (drawNat s).1.link = s.link := rfl
@[simp] theorem drawNat_tile (s : State) : (drawNat s).1.tile = s.tile := rfl
@[simp] theorem drawNat_cam (s : State) : (drawNat s).1.cam = s.cam := rfl
@[simp] theorem drawNat_cal (s : State) : (drawNat s).1.cal = s.cal := rfl
@[simp] theorem drawNat_loop (s : State) : (drawNat s).1.loop = s.loop := rfl
@[simp] theorem drawNat_motion (s : State) : (drawNat s).1.motion = s.motion := rfl
@[simp] theorem drawNat_mem (s : State) : (drawNat s).1.mem = s.mem := rfl
@[simp] theorem drawNat_sup (s : State) : (drawNat s).1.sup = s.sup := rfl
@[simp] theorem drawNat_fw (s : State) : (drawNat s).1.fw = s.fw := rfl
@[simp] theorem drawNat_board (s : State) : (drawNat s).1.board = s.board := rfl
@[simp] theorem drawNat_active (s : State) : (drawNat s).1.active = s.active := rfl
@[simp] theorem drawNat_hostMem (s : State) : (drawNat s).1.hostMem = s.hostMem := rfl
@[simp] theorem drawNat_hostBad (s : State) : (drawNat s).1.hostBad = s.hostBad := rfl
@[simp] theorem drawNat_out (s : State) : (drawNat s).1.out = s.out := rfl

@[simp] theorem drawInt_now (s : State) : (drawInt s).1.now = s.now := rfl
@[simp] theorem drawInt_pending (s : State) : (drawInt s).1.pending = s.pending := rfl
@[simp] theorem drawInt_host (s : State) : (drawInt s).1.host = s.host := rfl
@[simp] theorem drawInt_ctr (s : State) : (drawInt s).1.ctr = s.ctr := rfl
@[simp] theorem drawInt_test (s : State) : (drawInt s).1.test = s.test := rfl
@[simp] theorem drawInt_page (s : State) : (drawInt s).1.page = s.page := rfl
@[simp] theorem drawInt_spool (s : State) : (drawInt s).1.spool = s.spool := rfl
@[simp] theorem drawInt_exp (s : State) : (drawInt s).1.exp = s.exp := rfl
@[simp] theorem drawInt_pos (s : State) : (drawInt s).1.pos = s.pos := rfl
@[simp] theorem drawInt_link (s : State) : (drawInt s).1.link = s.link := rfl
@[simp] theorem drawInt_tile (s : State) : (drawInt s).1.tile = s.tile := rfl
@[simp] theorem drawInt_cam (s : State) : (drawInt s).1.cam = s.cam := rfl
@[simp] theorem drawInt_cal (s : State) : (drawInt s).1.cal = s.cal := rfl
@[simp] theorem drawInt_loop (s : State) : (drawInt s).1.loop = s.loop := rfl
@[simp] theorem drawInt_motion (s : State) : (drawInt s).1.motion = s.motion := rfl
@[simp] theorem drawInt_mem (s : State) : (drawInt s).1.mem = s.mem := rfl
@[simp] theorem drawInt_sup (s : State) : (drawInt s).1.sup = s.sup := rfl
@[simp] theorem drawInt_fw (s : State) : (drawInt s).1.fw = s.fw := rfl
@[simp] theorem drawInt_board (s : State) : (drawInt s).1.board = s.board := rfl
@[simp] theorem drawInt_active (s : State) : (drawInt s).1.active = s.active := rfl
@[simp] theorem drawInt_hostMem (s : State) : (drawInt s).1.hostMem = s.hostMem := rfl
@[simp] theorem drawInt_hostBad (s : State) : (drawInt s).1.hostBad = s.hostBad := rfl
@[simp] theorem drawInt_out (s : State) : (drawInt s).1.out = s.out := rfl

@[simp] theorem raiseAt_now (t c so p l d0 d1 d2 : Nat) (s : State) : (raiseAt t c so p l d0 d1 d2 s).now = s.now := rfl
@[simp] theorem raiseAt_pending (t c so p l d0 d1 d2 : Nat) (s : State) : (raiseAt t c so p l d0 d1 d2 s).pending = s.pending := rfl
@[simp] theorem raiseAt_test (t c so p l d0 d1 d2 : Nat) (s : State) : (raiseAt t c so p l d0 d1 d2 s).test = s.test := rfl
@[simp] theorem raiseAt_page (t c so p l d0 d1 d2 : Nat) (s : State) : (raiseAt t c so p l d0 d1 d2 s).page = s.page := rfl
@[simp] theorem raiseAt_spool (t c so p l d0 d1 d2 : Nat) (s : State) : (raiseAt t c so p l d0 d1 d2 s).spool = s.spool := rfl
@[simp] theorem raiseAt_exp (t c so p l d0 d1 d2 : Nat) (s : State) : (raiseAt t c so p l d0 d1 d2 s).exp = s.exp := rfl
@[simp] theorem raiseAt_pos (t c so p l d0 d1 d2 : Nat) (s : State) : (raiseAt t c so p l d0 d1 d2 s).pos = s.pos := rfl
@[simp] theorem raiseAt_link (t c so p l d0 d1 d2 : Nat) (s : State) : (raiseAt t c so p l d0 d1 d2 s).link = s.link := rfl
@[simp] theorem raiseAt_tile (t c so p l d0 d1 d2 : Nat) (s : State) : (raiseAt t c so p l d0 d1 d2 s).tile = s.tile := rfl
@[simp] theorem raiseAt_cam (t c so p l d0 d1 d2 : Nat) (s : State) : (raiseAt t c so p l d0 d1 d2 s).cam = s.cam := rfl
@[simp] theorem raiseAt_cal (t c so p l d0 d1 d2 : Nat) (s : State) : (raiseAt t c so p l d0 d1 d2 s).cal = s.cal := rfl
@[simp] theorem raiseAt_loop (t c so p l d0 d1 d2 : Nat) (s : State) : (raiseAt t c so p l d0 d1 d2 s).loop = s.loop := rfl
@[simp] theorem raiseAt_motion (t c so p l d0 d1 d2 : Nat) (s : State) : (raiseAt t c so p l d0 d1 d2 s).motion = s.motion := rfl
@[simp] theorem raiseAt_mem (t c so p l d0 d1 d2 : Nat) (s : State) : (raiseAt t c so p l d0 d1 d2 s).mem = s.mem := rfl
@[simp] theorem raiseAt_sup (t c so p l d0 d1 d2 : Nat) (s : State) : (raiseAt t c so p l d0 d1 d2 s).sup = s.sup := rfl
@[simp] theorem raiseAt_fw (t c so p l d0 d1 d2 : Nat) (s : State) : (raiseAt t c so p l d0 d1 d2 s).fw = s.fw := rfl
@[simp] theorem raiseAt_board (t c so p l d0 d1 d2 : Nat) (s : State) : (raiseAt t c so p l d0 d1 d2 s).board = s.board := rfl
@[simp] theorem raiseAt_active (t c so p l d0 d1 d2 : Nat) (s : State) : (raiseAt t c so p l d0 d1 d2 s).active = s.active := rfl
@[simp] theorem raiseAt_hostBad (t c so p l d0 d1 d2 : Nat) (s : State) : (raiseAt t c so p l d0 d1 d2 s).hostBad = s.hostBad := rfl
@[simp] theorem raiseAt_free (t c so p l d0 d1 d2 : Nat) (s : State) : (raiseAt t c so p l d0 d1 d2 s).free = s.free := rfl

@[simp] theorem raiseSince_now (t c so p l d0 d1 d2 : Nat) (s : State) : (raiseSince t c so p l d0 d1 d2 s).now = s.now := rfl
@[simp] theorem raiseSince_pending (t c so p l d0 d1 d2 : Nat) (s : State) : (raiseSince t c so p l d0 d1 d2 s).pending = s.pending := rfl
@[simp] theorem raiseSince_test (t c so p l d0 d1 d2 : Nat) (s : State) : (raiseSince t c so p l d0 d1 d2 s).test = s.test := rfl
@[simp] theorem raiseSince_page (t c so p l d0 d1 d2 : Nat) (s : State) : (raiseSince t c so p l d0 d1 d2 s).page = s.page := rfl
@[simp] theorem raiseSince_spool (t c so p l d0 d1 d2 : Nat) (s : State) : (raiseSince t c so p l d0 d1 d2 s).spool = s.spool := rfl
@[simp] theorem raiseSince_exp (t c so p l d0 d1 d2 : Nat) (s : State) : (raiseSince t c so p l d0 d1 d2 s).exp = s.exp := rfl
@[simp] theorem raiseSince_pos (t c so p l d0 d1 d2 : Nat) (s : State) : (raiseSince t c so p l d0 d1 d2 s).pos = s.pos := rfl
@[simp] theorem raiseSince_link (t c so p l d0 d1 d2 : Nat) (s : State) : (raiseSince t c so p l d0 d1 d2 s).link = s.link := rfl
@[simp] theorem raiseSince_tile (t c so p l d0 d1 d2 : Nat) (s : State) : (raiseSince t c so p l d0 d1 d2 s).tile = s.tile := rfl
@[simp] theorem raiseSince_cam (t c so p l d0 d1 d2 : Nat) (s : State) : (raiseSince t c so p l d0 d1 d2 s).cam = s.cam := rfl
@[simp] theorem raiseSince_cal (t c so p l d0 d1 d2 : Nat) (s : State) : (raiseSince t c so p l d0 d1 d2 s).cal = s.cal := rfl
@[simp] theorem raiseSince_loop (t c so p l d0 d1 d2 : Nat) (s : State) : (raiseSince t c so p l d0 d1 d2 s).loop = s.loop := rfl
@[simp] theorem raiseSince_motion (t c so p l d0 d1 d2 : Nat) (s : State) : (raiseSince t c so p l d0 d1 d2 s).motion = s.motion := rfl
@[simp] theorem raiseSince_mem (t c so p l d0 d1 d2 : Nat) (s : State) : (raiseSince t c so p l d0 d1 d2 s).mem = s.mem := rfl
@[simp] theorem raiseSince_sup (t c so p l d0 d1 d2 : Nat) (s : State) : (raiseSince t c so p l d0 d1 d2 s).sup = s.sup := rfl
@[simp] theorem raiseSince_fw (t c so p l d0 d1 d2 : Nat) (s : State) : (raiseSince t c so p l d0 d1 d2 s).fw = s.fw := rfl
@[simp] theorem raiseSince_board (t c so p l d0 d1 d2 : Nat) (s : State) : (raiseSince t c so p l d0 d1 d2 s).board = s.board := rfl
@[simp] theorem raiseSince_active (t c so p l d0 d1 d2 : Nat) (s : State) : (raiseSince t c so p l d0 d1 d2 s).active = s.active := rfl
@[simp] theorem raiseSince_hostBad (t c so p l d0 d1 d2 : Nat) (s : State) : (raiseSince t c so p l d0 d1 d2 s).hostBad = s.hostBad := rfl
@[simp] theorem raiseSince_free (t c so p l d0 d1 d2 : Nat) (s : State) : (raiseSince t c so p l d0 d1 d2 s).free = s.free := rfl

@[simp] theorem raise_now (c so p l d0 d1 d2 : Nat) (s : State) : (raise c so p l d0 d1 d2 s).now = s.now := rfl
@[simp] theorem raise_pending (c so p l d0 d1 d2 : Nat) (s : State) : (raise c so p l d0 d1 d2 s).pending = s.pending := rfl
@[simp] theorem raise_test (c so p l d0 d1 d2 : Nat) (s : State) : (raise c so p l d0 d1 d2 s).test = s.test := rfl
@[simp] theorem raise_page (c so p l d0 d1 d2 : Nat) (s : State) : (raise c so p l d0 d1 d2 s).page = s.page := rfl
@[simp] theorem raise_spool (c so p l d0 d1 d2 : Nat) (s : State) : (raise c so p l d0 d1 d2 s).spool = s.spool := rfl
@[simp] theorem raise_exp (c so p l d0 d1 d2 : Nat) (s : State) : (raise c so p l d0 d1 d2 s).exp = s.exp := rfl
@[simp] theorem raise_pos (c so p l d0 d1 d2 : Nat) (s : State) : (raise c so p l d0 d1 d2 s).pos = s.pos := rfl
@[simp] theorem raise_link (c so p l d0 d1 d2 : Nat) (s : State) : (raise c so p l d0 d1 d2 s).link = s.link := rfl
@[simp] theorem raise_tile (c so p l d0 d1 d2 : Nat) (s : State) : (raise c so p l d0 d1 d2 s).tile = s.tile := rfl
@[simp] theorem raise_cam (c so p l d0 d1 d2 : Nat) (s : State) : (raise c so p l d0 d1 d2 s).cam = s.cam := rfl
@[simp] theorem raise_cal (c so p l d0 d1 d2 : Nat) (s : State) : (raise c so p l d0 d1 d2 s).cal = s.cal := rfl
@[simp] theorem raise_loop (c so p l d0 d1 d2 : Nat) (s : State) : (raise c so p l d0 d1 d2 s).loop = s.loop := rfl
@[simp] theorem raise_motion (c so p l d0 d1 d2 : Nat) (s : State) : (raise c so p l d0 d1 d2 s).motion = s.motion := rfl
@[simp] theorem raise_mem (c so p l d0 d1 d2 : Nat) (s : State) : (raise c so p l d0 d1 d2 s).mem = s.mem := rfl
@[simp] theorem raise_sup (c so p l d0 d1 d2 : Nat) (s : State) : (raise c so p l d0 d1 d2 s).sup = s.sup := rfl
@[simp] theorem raise_fw (c so p l d0 d1 d2 : Nat) (s : State) : (raise c so p l d0 d1 d2 s).fw = s.fw := rfl
@[simp] theorem raise_board (c so p l d0 d1 d2 : Nat) (s : State) : (raise c so p l d0 d1 d2 s).board = s.board := rfl
@[simp] theorem raise_active (c so p l d0 d1 d2 : Nat) (s : State) : (raise c so p l d0 d1 d2 s).active = s.active := rfl
@[simp] theorem raise_hostBad (c so p l d0 d1 d2 : Nat) (s : State) : (raise c so p l d0 d1 d2 s).hostBad = s.hostBad := rfl
@[simp] theorem raise_free (c so p l d0 d1 d2 : Nat) (s : State) : (raise c so p l d0 d1 d2 s).free = s.free := rfl

@[simp] theorem msix_now (v : Nat) (s : State) : (msix v s).now = s.now := rfl
@[simp] theorem msix_pending (v : Nat) (s : State) : (msix v s).pending = s.pending := rfl
@[simp] theorem msix_test (v : Nat) (s : State) : (msix v s).test = s.test := rfl
@[simp] theorem msix_page (v : Nat) (s : State) : (msix v s).page = s.page := rfl
@[simp] theorem msix_spool (v : Nat) (s : State) : (msix v s).spool = s.spool := rfl
@[simp] theorem msix_exp (v : Nat) (s : State) : (msix v s).exp = s.exp := rfl
@[simp] theorem msix_pos (v : Nat) (s : State) : (msix v s).pos = s.pos := rfl
@[simp] theorem msix_link (v : Nat) (s : State) : (msix v s).link = s.link := rfl
@[simp] theorem msix_tile (v : Nat) (s : State) : (msix v s).tile = s.tile := rfl
@[simp] theorem msix_cam (v : Nat) (s : State) : (msix v s).cam = s.cam := rfl
@[simp] theorem msix_cal (v : Nat) (s : State) : (msix v s).cal = s.cal := rfl
@[simp] theorem msix_loop (v : Nat) (s : State) : (msix v s).loop = s.loop := rfl
@[simp] theorem msix_motion (v : Nat) (s : State) : (msix v s).motion = s.motion := rfl
@[simp] theorem msix_mem (v : Nat) (s : State) : (msix v s).mem = s.mem := rfl
@[simp] theorem msix_sup (v : Nat) (s : State) : (msix v s).sup = s.sup := rfl
@[simp] theorem msix_fw (v : Nat) (s : State) : (msix v s).fw = s.fw := rfl
@[simp] theorem msix_board (v : Nat) (s : State) : (msix v s).board = s.board := rfl
@[simp] theorem msix_active (v : Nat) (s : State) : (msix v s).active = s.active := rfl
@[simp] theorem msix_hostBad (v : Nat) (s : State) : (msix v s).hostBad = s.hostBad := rfl
@[simp] theorem msix_free (v : Nat) (s : State) : (msix v s).free = s.free := rfl

@[simp] theorem drain_now (s : State) : (drain s).now = s.now := rfl
@[simp] theorem drain_pending (s : State) : (drain s).pending = s.pending := rfl
@[simp] theorem drain_test (s : State) : (drain s).test = s.test := rfl
@[simp] theorem drain_page (s : State) : (drain s).page = s.page := rfl
@[simp] theorem drain_spool (s : State) : (drain s).spool = s.spool := rfl
@[simp] theorem drain_exp (s : State) : (drain s).exp = s.exp := rfl
@[simp] theorem drain_pos (s : State) : (drain s).pos = s.pos := rfl
@[simp] theorem drain_link (s : State) : (drain s).link = s.link := rfl
@[simp] theorem drain_tile (s : State) : (drain s).tile = s.tile := rfl
@[simp] theorem drain_cam (s : State) : (drain s).cam = s.cam := rfl
@[simp] theorem drain_cal (s : State) : (drain s).cal = s.cal := rfl
@[simp] theorem drain_loop (s : State) : (drain s).loop = s.loop := rfl
@[simp] theorem drain_motion (s : State) : (drain s).motion = s.motion := rfl
@[simp] theorem drain_mem (s : State) : (drain s).mem = s.mem := rfl
@[simp] theorem drain_sup (s : State) : (drain s).sup = s.sup := rfl
@[simp] theorem drain_fw (s : State) : (drain s).fw = s.fw := rfl
@[simp] theorem drain_board (s : State) : (drain s).board = s.board := rfl
@[simp] theorem drain_active (s : State) : (drain s).active = s.active := rfl
@[simp] theorem drain_hostBad (s : State) : (drain s).hostBad = s.hostBad := rfl
@[simp] theorem drain_free (s : State) : (drain s).free = s.free := rfl

@[simp] theorem bump_now (id i n : Nat) (s : State) : (bump id i n s).now = s.now := by
  unfold bump; dsimp only; split
  · split <;> rfl
  · rfl
@[simp] theorem bump_pending (id i n : Nat) (s : State) : (bump id i n s).pending = s.pending := by
  unfold bump; dsimp only; split
  · split <;> rfl
  · rfl
@[simp] theorem bump_test (id i n : Nat) (s : State) : (bump id i n s).test = s.test := by
  unfold bump; dsimp only; split
  · split <;> rfl
  · rfl
@[simp] theorem bump_page (id i n : Nat) (s : State) : (bump id i n s).page = s.page := by
  unfold bump; dsimp only; split
  · split <;> rfl
  · rfl
@[simp] theorem bump_spool (id i n : Nat) (s : State) : (bump id i n s).spool = s.spool := by
  unfold bump; dsimp only; split
  · split <;> rfl
  · rfl
@[simp] theorem bump_exp (id i n : Nat) (s : State) : (bump id i n s).exp = s.exp := by
  unfold bump; dsimp only; split
  · split <;> rfl
  · rfl
@[simp] theorem bump_pos (id i n : Nat) (s : State) : (bump id i n s).pos = s.pos := by
  unfold bump; dsimp only; split
  · split <;> rfl
  · rfl
@[simp] theorem bump_link (id i n : Nat) (s : State) : (bump id i n s).link = s.link := by
  unfold bump; dsimp only; split
  · split <;> rfl
  · rfl
@[simp] theorem bump_tile (id i n : Nat) (s : State) : (bump id i n s).tile = s.tile := by
  unfold bump; dsimp only; split
  · split <;> rfl
  · rfl
@[simp] theorem bump_cam (id i n : Nat) (s : State) : (bump id i n s).cam = s.cam := by
  unfold bump; dsimp only; split
  · split <;> rfl
  · rfl
@[simp] theorem bump_cal (id i n : Nat) (s : State) : (bump id i n s).cal = s.cal := by
  unfold bump; dsimp only; split
  · split <;> rfl
  · rfl
@[simp] theorem bump_loop (id i n : Nat) (s : State) : (bump id i n s).loop = s.loop := by
  unfold bump; dsimp only; split
  · split <;> rfl
  · rfl
@[simp] theorem bump_motion (id i n : Nat) (s : State) : (bump id i n s).motion = s.motion := by
  unfold bump; dsimp only; split
  · split <;> rfl
  · rfl
@[simp] theorem bump_mem (id i n : Nat) (s : State) : (bump id i n s).mem = s.mem := by
  unfold bump; dsimp only; split
  · split <;> rfl
  · rfl
@[simp] theorem bump_sup (id i n : Nat) (s : State) : (bump id i n s).sup = s.sup := by
  unfold bump; dsimp only; split
  · split <;> rfl
  · rfl
@[simp] theorem bump_fw (id i n : Nat) (s : State) : (bump id i n s).fw = s.fw := by
  unfold bump; dsimp only; split
  · split <;> rfl
  · rfl
@[simp] theorem bump_board (id i n : Nat) (s : State) : (bump id i n s).board = s.board := by
  unfold bump; dsimp only; split
  · split <;> rfl
  · rfl
@[simp] theorem bump_active (id i n : Nat) (s : State) : (bump id i n s).active = s.active := by
  unfold bump; dsimp only; split
  · split <;> rfl
  · rfl
@[simp] theorem bump_hostBad (id i n : Nat) (s : State) : (bump id i n s).hostBad = s.hostBad := by
  unfold bump; dsimp only; split
  · split <;> rfl
  · rfl
@[simp] theorem bump_free (id i n : Nat) (s : State) : (bump id i n s).free = s.free := by
  unfold bump; dsimp only; split
  · split <;> rfl
  · rfl

@[simp] theorem tick_now (id i : Nat) (s : State) : (tick id i s).now = s.now := by
  simp [tick]
@[simp] theorem tick_pending (id i : Nat) (s : State) : (tick id i s).pending = s.pending := by
  simp [tick]
@[simp] theorem tick_test (id i : Nat) (s : State) : (tick id i s).test = s.test := by
  simp [tick]
@[simp] theorem tick_page (id i : Nat) (s : State) : (tick id i s).page = s.page := by
  simp [tick]
@[simp] theorem tick_spool (id i : Nat) (s : State) : (tick id i s).spool = s.spool := by
  simp [tick]
@[simp] theorem tick_exp (id i : Nat) (s : State) : (tick id i s).exp = s.exp := by
  simp [tick]
@[simp] theorem tick_pos (id i : Nat) (s : State) : (tick id i s).pos = s.pos := by
  simp [tick]
@[simp] theorem tick_link (id i : Nat) (s : State) : (tick id i s).link = s.link := by
  simp [tick]
@[simp] theorem tick_tile (id i : Nat) (s : State) : (tick id i s).tile = s.tile := by
  simp [tick]
@[simp] theorem tick_cam (id i : Nat) (s : State) : (tick id i s).cam = s.cam := by
  simp [tick]
@[simp] theorem tick_cal (id i : Nat) (s : State) : (tick id i s).cal = s.cal := by
  simp [tick]
@[simp] theorem tick_loop (id i : Nat) (s : State) : (tick id i s).loop = s.loop := by
  simp [tick]
@[simp] theorem tick_motion (id i : Nat) (s : State) : (tick id i s).motion = s.motion := by
  simp [tick]
@[simp] theorem tick_mem (id i : Nat) (s : State) : (tick id i s).mem = s.mem := by
  simp [tick]
@[simp] theorem tick_sup (id i : Nat) (s : State) : (tick id i s).sup = s.sup := by
  simp [tick]
@[simp] theorem tick_fw (id i : Nat) (s : State) : (tick id i s).fw = s.fw := by
  simp [tick]
@[simp] theorem tick_board (id i : Nat) (s : State) : (tick id i s).board = s.board := by
  simp [tick]
@[simp] theorem tick_active (id i : Nat) (s : State) : (tick id i s).active = s.active := by
  simp [tick]
@[simp] theorem tick_hostBad (id i : Nat) (s : State) : (tick id i s).hostBad = s.hostBad := by
  simp [tick]
@[simp] theorem tick_free (id i : Nat) (s : State) : (tick id i s).free = s.free := by
  simp [tick]

@[simp] theorem respond_now (n st : Nat) (r : List Nat) (s : State) : (respond n st r s).now = s.now := by
  unfold respond; dsimp only; split <;> rfl
@[simp] theorem respond_pending (n st : Nat) (r : List Nat) (s : State) : (respond n st r s).pending = s.pending := by
  unfold respond; dsimp only; split <;> rfl
@[simp] theorem respond_test (n st : Nat) (r : List Nat) (s : State) : (respond n st r s).test = s.test := by
  unfold respond; dsimp only; split <;> rfl
@[simp] theorem respond_page (n st : Nat) (r : List Nat) (s : State) : (respond n st r s).page = s.page := by
  unfold respond; dsimp only; split <;> rfl
@[simp] theorem respond_spool (n st : Nat) (r : List Nat) (s : State) : (respond n st r s).spool = s.spool := by
  unfold respond; dsimp only; split <;> rfl
@[simp] theorem respond_exp (n st : Nat) (r : List Nat) (s : State) : (respond n st r s).exp = s.exp := by
  unfold respond; dsimp only; split <;> rfl
@[simp] theorem respond_pos (n st : Nat) (r : List Nat) (s : State) : (respond n st r s).pos = s.pos := by
  unfold respond; dsimp only; split <;> rfl
@[simp] theorem respond_link (n st : Nat) (r : List Nat) (s : State) : (respond n st r s).link = s.link := by
  unfold respond; dsimp only; split <;> rfl
@[simp] theorem respond_tile (n st : Nat) (r : List Nat) (s : State) : (respond n st r s).tile = s.tile := by
  unfold respond; dsimp only; split <;> rfl
@[simp] theorem respond_cam (n st : Nat) (r : List Nat) (s : State) : (respond n st r s).cam = s.cam := by
  unfold respond; dsimp only; split <;> rfl
@[simp] theorem respond_cal (n st : Nat) (r : List Nat) (s : State) : (respond n st r s).cal = s.cal := by
  unfold respond; dsimp only; split <;> rfl
@[simp] theorem respond_loop (n st : Nat) (r : List Nat) (s : State) : (respond n st r s).loop = s.loop := by
  unfold respond; dsimp only; split <;> rfl
@[simp] theorem respond_motion (n st : Nat) (r : List Nat) (s : State) : (respond n st r s).motion = s.motion := by
  unfold respond; dsimp only; split <;> rfl
@[simp] theorem respond_mem (n st : Nat) (r : List Nat) (s : State) : (respond n st r s).mem = s.mem := by
  unfold respond; dsimp only; split <;> rfl
@[simp] theorem respond_sup (n st : Nat) (r : List Nat) (s : State) : (respond n st r s).sup = s.sup := by
  unfold respond; dsimp only; split <;> rfl
@[simp] theorem respond_fw (n st : Nat) (r : List Nat) (s : State) : (respond n st r s).fw = s.fw := by
  unfold respond; dsimp only; split <;> rfl
@[simp] theorem respond_board (n st : Nat) (r : List Nat) (s : State) : (respond n st r s).board = s.board := by
  unfold respond; dsimp only; split <;> rfl
@[simp] theorem respond_active (n st : Nat) (r : List Nat) (s : State) : (respond n st r s).active = s.active := by
  unfold respond; dsimp only; split <;> rfl
@[simp] theorem respond_hostBad (n st : Nat) (r : List Nat) (s : State) : (respond n st r s).hostBad = s.hostBad := by
  unfold respond; dsimp only; split <;> rfl
@[simp] theorem respond_free (n st : Nat) (r : List Nat) (s : State) : (respond n st r s).free = s.free := by
  unfold respond; dsimp only; split <;> rfl

@[simp] theorem pushOutst_now (n : Nat) (ws : List Word) (st o : Nat) (s : State) : (pushOutst n ws st o s).now = s.now := rfl
@[simp] theorem pushOutst_pending (n : Nat) (ws : List Word) (st o : Nat) (s : State) : (pushOutst n ws st o s).pending = s.pending := rfl
@[simp] theorem pushOutst_ctr (n : Nat) (ws : List Word) (st o : Nat) (s : State) : (pushOutst n ws st o s).ctr = s.ctr := rfl
@[simp] theorem pushOutst_test (n : Nat) (ws : List Word) (st o : Nat) (s : State) : (pushOutst n ws st o s).test = s.test := rfl
@[simp] theorem pushOutst_page (n : Nat) (ws : List Word) (st o : Nat) (s : State) : (pushOutst n ws st o s).page = s.page := rfl
@[simp] theorem pushOutst_spool (n : Nat) (ws : List Word) (st o : Nat) (s : State) : (pushOutst n ws st o s).spool = s.spool := rfl
@[simp] theorem pushOutst_exp (n : Nat) (ws : List Word) (st o : Nat) (s : State) : (pushOutst n ws st o s).exp = s.exp := rfl
@[simp] theorem pushOutst_pos (n : Nat) (ws : List Word) (st o : Nat) (s : State) : (pushOutst n ws st o s).pos = s.pos := rfl
@[simp] theorem pushOutst_link (n : Nat) (ws : List Word) (st o : Nat) (s : State) : (pushOutst n ws st o s).link = s.link := rfl
@[simp] theorem pushOutst_tile (n : Nat) (ws : List Word) (st o : Nat) (s : State) : (pushOutst n ws st o s).tile = s.tile := rfl
@[simp] theorem pushOutst_cam (n : Nat) (ws : List Word) (st o : Nat) (s : State) : (pushOutst n ws st o s).cam = s.cam := rfl
@[simp] theorem pushOutst_cal (n : Nat) (ws : List Word) (st o : Nat) (s : State) : (pushOutst n ws st o s).cal = s.cal := rfl
@[simp] theorem pushOutst_loop (n : Nat) (ws : List Word) (st o : Nat) (s : State) : (pushOutst n ws st o s).loop = s.loop := rfl
@[simp] theorem pushOutst_motion (n : Nat) (ws : List Word) (st o : Nat) (s : State) : (pushOutst n ws st o s).motion = s.motion := rfl
@[simp] theorem pushOutst_mem (n : Nat) (ws : List Word) (st o : Nat) (s : State) : (pushOutst n ws st o s).mem = s.mem := rfl
@[simp] theorem pushOutst_sup (n : Nat) (ws : List Word) (st o : Nat) (s : State) : (pushOutst n ws st o s).sup = s.sup := rfl
@[simp] theorem pushOutst_fw (n : Nat) (ws : List Word) (st o : Nat) (s : State) : (pushOutst n ws st o s).fw = s.fw := rfl
@[simp] theorem pushOutst_board (n : Nat) (ws : List Word) (st o : Nat) (s : State) : (pushOutst n ws st o s).board = s.board := rfl
@[simp] theorem pushOutst_active (n : Nat) (ws : List Word) (st o : Nat) (s : State) : (pushOutst n ws st o s).active = s.active := rfl
@[simp] theorem pushOutst_hostMem (n : Nat) (ws : List Word) (st o : Nat) (s : State) : (pushOutst n ws st o s).hostMem = s.hostMem := rfl
@[simp] theorem pushOutst_hostBad (n : Nat) (ws : List Word) (st o : Nat) (s : State) : (pushOutst n ws st o s).hostBad = s.hostBad := rfl
@[simp] theorem pushOutst_out (n : Nat) (ws : List Word) (st o : Nat) (s : State) : (pushOutst n ws st o s).out = s.out := rfl
@[simp] theorem pushOutst_free (n : Nat) (ws : List Word) (st o : Nat) (s : State) : (pushOutst n ws st o s).free = s.free := rfl

@[simp] theorem complete_now (o st : Nat) (r : List Nat) (s : State) : (complete o st r s).now = s.now := by
  unfold complete; split <;> rfl
@[simp] theorem complete_pending (o st : Nat) (r : List Nat) (s : State) : (complete o st r s).pending = s.pending := by
  unfold complete; split <;> rfl
@[simp] theorem complete_test (o st : Nat) (r : List Nat) (s : State) : (complete o st r s).test = s.test := by
  unfold complete; split <;> rfl
@[simp] theorem complete_page (o st : Nat) (r : List Nat) (s : State) : (complete o st r s).page = s.page := by
  unfold complete; split <;> rfl
@[simp] theorem complete_spool (o st : Nat) (r : List Nat) (s : State) : (complete o st r s).spool = s.spool := by
  unfold complete; split <;> rfl
@[simp] theorem complete_exp (o st : Nat) (r : List Nat) (s : State) : (complete o st r s).exp = s.exp := by
  unfold complete; split <;> rfl
@[simp] theorem complete_pos (o st : Nat) (r : List Nat) (s : State) : (complete o st r s).pos = s.pos := by
  unfold complete; split <;> rfl
@[simp] theorem complete_link (o st : Nat) (r : List Nat) (s : State) : (complete o st r s).link = s.link := by
  unfold complete; split <;> rfl
@[simp] theorem complete_tile (o st : Nat) (r : List Nat) (s : State) : (complete o st r s).tile = s.tile := by
  unfold complete; split <;> rfl
@[simp] theorem complete_cam (o st : Nat) (r : List Nat) (s : State) : (complete o st r s).cam = s.cam := by
  unfold complete; split <;> rfl
@[simp] theorem complete_cal (o st : Nat) (r : List Nat) (s : State) : (complete o st r s).cal = s.cal := by
  unfold complete; split <;> rfl
@[simp] theorem complete_loop (o st : Nat) (r : List Nat) (s : State) : (complete o st r s).loop = s.loop := by
  unfold complete; split <;> rfl
@[simp] theorem complete_motion (o st : Nat) (r : List Nat) (s : State) : (complete o st r s).motion = s.motion := by
  unfold complete; split <;> rfl
@[simp] theorem complete_mem (o st : Nat) (r : List Nat) (s : State) : (complete o st r s).mem = s.mem := by
  unfold complete; split <;> rfl
@[simp] theorem complete_sup (o st : Nat) (r : List Nat) (s : State) : (complete o st r s).sup = s.sup := by
  unfold complete; split <;> rfl
@[simp] theorem complete_fw (o st : Nat) (r : List Nat) (s : State) : (complete o st r s).fw = s.fw := by
  unfold complete; split <;> rfl
@[simp] theorem complete_board (o st : Nat) (r : List Nat) (s : State) : (complete o st r s).board = s.board := by
  unfold complete; split <;> rfl
@[simp] theorem complete_active (o st : Nat) (r : List Nat) (s : State) : (complete o st r s).active = s.active := by
  unfold complete; split <;> rfl
@[simp] theorem complete_hostBad (o st : Nat) (r : List Nat) (s : State) : (complete o st r s).hostBad = s.hostBad := by
  unfold complete; split <;> rfl
@[simp] theorem complete_free (o st : Nat) (r : List Nat) (s : State) : (complete o st r s).free = s.free := by
  unfold complete; split <;> rfl

@[simp] theorem completeOpt_now (o : Option Nat) (st : Nat) (r : List Nat) (s : State) : (completeOpt o st r s).now = s.now := by
  cases o <;> simp [completeOpt]
@[simp] theorem completeOpt_pending (o : Option Nat) (st : Nat) (r : List Nat) (s : State) : (completeOpt o st r s).pending = s.pending := by
  cases o <;> simp [completeOpt]
@[simp] theorem completeOpt_test (o : Option Nat) (st : Nat) (r : List Nat) (s : State) : (completeOpt o st r s).test = s.test := by
  cases o <;> simp [completeOpt]
@[simp] theorem completeOpt_page (o : Option Nat) (st : Nat) (r : List Nat) (s : State) : (completeOpt o st r s).page = s.page := by
  cases o <;> simp [completeOpt]
@[simp] theorem completeOpt_spool (o : Option Nat) (st : Nat) (r : List Nat) (s : State) : (completeOpt o st r s).spool = s.spool := by
  cases o <;> simp [completeOpt]
@[simp] theorem completeOpt_exp (o : Option Nat) (st : Nat) (r : List Nat) (s : State) : (completeOpt o st r s).exp = s.exp := by
  cases o <;> simp [completeOpt]
@[simp] theorem completeOpt_pos (o : Option Nat) (st : Nat) (r : List Nat) (s : State) : (completeOpt o st r s).pos = s.pos := by
  cases o <;> simp [completeOpt]
@[simp] theorem completeOpt_link (o : Option Nat) (st : Nat) (r : List Nat) (s : State) : (completeOpt o st r s).link = s.link := by
  cases o <;> simp [completeOpt]
@[simp] theorem completeOpt_tile (o : Option Nat) (st : Nat) (r : List Nat) (s : State) : (completeOpt o st r s).tile = s.tile := by
  cases o <;> simp [completeOpt]
@[simp] theorem completeOpt_cam (o : Option Nat) (st : Nat) (r : List Nat) (s : State) : (completeOpt o st r s).cam = s.cam := by
  cases o <;> simp [completeOpt]
@[simp] theorem completeOpt_cal (o : Option Nat) (st : Nat) (r : List Nat) (s : State) : (completeOpt o st r s).cal = s.cal := by
  cases o <;> simp [completeOpt]
@[simp] theorem completeOpt_loop (o : Option Nat) (st : Nat) (r : List Nat) (s : State) : (completeOpt o st r s).loop = s.loop := by
  cases o <;> simp [completeOpt]
@[simp] theorem completeOpt_motion (o : Option Nat) (st : Nat) (r : List Nat) (s : State) : (completeOpt o st r s).motion = s.motion := by
  cases o <;> simp [completeOpt]
@[simp] theorem completeOpt_mem (o : Option Nat) (st : Nat) (r : List Nat) (s : State) : (completeOpt o st r s).mem = s.mem := by
  cases o <;> simp [completeOpt]
@[simp] theorem completeOpt_sup (o : Option Nat) (st : Nat) (r : List Nat) (s : State) : (completeOpt o st r s).sup = s.sup := by
  cases o <;> simp [completeOpt]
@[simp] theorem completeOpt_fw (o : Option Nat) (st : Nat) (r : List Nat) (s : State) : (completeOpt o st r s).fw = s.fw := by
  cases o <;> simp [completeOpt]
@[simp] theorem completeOpt_board (o : Option Nat) (st : Nat) (r : List Nat) (s : State) : (completeOpt o st r s).board = s.board := by
  cases o <;> simp [completeOpt]
@[simp] theorem completeOpt_active (o : Option Nat) (st : Nat) (r : List Nat) (s : State) : (completeOpt o st r s).active = s.active := by
  cases o <;> simp [completeOpt]
@[simp] theorem completeOpt_hostBad (o : Option Nat) (st : Nat) (r : List Nat) (s : State) : (completeOpt o st r s).hostBad = s.hostBad := by
  cases o <;> simp [completeOpt]
@[simp] theorem completeOpt_free (o : Option Nat) (st : Nat) (r : List Nat) (s : State) : (completeOpt o st r s).free = s.free := by
  cases o <;> simp [completeOpt]

/-- A conditional operation leaves what its operation leaves. -/
theorem when_eq {α : Type} (g : State → α) (c : Bool) (f : State → State) (s : State) (h : g (f s) = g s) : g (when c f s) = g s := by
  unfold when; split <;> simp [h]

@[simp] theorem when_true (f : State → State) (s : State) : when true f s = f s := rfl
@[simp] theorem when_false (f : State → State) (s : State) : when false f s = s := rfl

theorem when_pos (c : Bool) (f : State → State) (s : State) (h : c = true) : when c f s = f s := by simp [h]

theorem when_neg (c : Bool) (f : State → State) (s : State) (h : c = false) : when c f s = s := by simp [h]

/-- The index of free values after a draw. -/
@[simp] theorem drawNat_free (s : State) : (drawNat s).1.free = s.free + 1 := rfl
@[simp] theorem drawInt_free (s : State) : (drawInt s).1.free = s.free + 1 := rfl
@[simp] theorem emit_out (o : Out) (s : State) : (emit o s).out = o :: s.out := rfl
@[simp] theorem atTime_now (t : Nat) (s : State) : (atTime t s).now = Nat.max s.now t := rfl

end Sys2Proof.Machine
end

