-- ==== Sys2Proof/Laws/Bounds.lean ====
section
/-! SUPPORT. The memory operations keep the canonical form, and the shared operations keep the bounds of the host interface. -/

namespace Sys2Proof.Machine

/-! Sparse maps and byte memory. -/

theorem keysAbove_mono {α : Type} {lo lo' : Nat} (h : lo' ≤ lo) (m : List (Nat × α)) (k : keysAbove lo m = true) :
    keysAbove lo' m = true := by
  cases m with
  | nil => rfl
  | cons p t => simp [keysAbove] at k ⊢; exact ⟨Nat.le_trans h k.1, k.2⟩

theorem keysAbove_mapSet {α : Type} (k : Nat) (v : α) (m : List (Nat × α)) :
    ∀ lo, lo ≤ k → keysAbove lo m = true → keysAbove lo (mapSet m k v) = true := by
  induction m with
  | nil => intro lo h _; simp [mapSet, keysAbove, h]
  | cons p t ih =>
    intro lo h w
    obtain ⟨k', v'⟩ := p
    simp [keysAbove] at w
    unfold mapSet
    split
    · next c => simp [keysAbove, h, w.2]; omega
    · split
      · next c => subst c; simp [keysAbove, h, w.2]
      · next c d =>
        simp [keysAbove, w.1]
        exact ih (k' + 1) (by omega) w.2

theorem keysAbove_mapErase {α : Type} (k : Nat) (m : List (Nat × α)) :
    ∀ lo, keysAbove lo m = true → keysAbove lo (mapErase m k) = true := by
  induction m with
  | nil => intro lo h; exact h
  | cons p t ih =>
    intro lo w
    obtain ⟨k', v'⟩ := p
    simp [keysAbove] at w
    have r := ih (k' + 1) w.2
    unfold mapErase at r ⊢
    by_cases c : k' = k
    · simp [c]; subst c; exact keysAbove_mono (by omega) _ r
    · simp [c, keysAbove, w.1, r]

theorem mapErase_all {α : Type} (p : Nat × α → Bool) (k : Nat) (m : List (Nat × α)) (h : m.all p = true) : (mapErase m k).all p = true := by
  simp [mapErase, List.all_filter] at *
  intro a b hm; exact Or.inr (h a b hm)

theorem mapSet_all {α : Type} (p : Nat × α → Bool) (k : Nat) (v : α) (m : List (Nat × α)) (hv : p (k, v) = true) (h : m.all p = true) :
    (mapSet m k v).all p = true := by
  induction m with
  | nil => simp [mapSet, hv]
  | cons q t ih =>
    obtain ⟨k', v'⟩ := q
    simp only [List.all_cons, Bool.and_eq_true] at h
    unfold mapSet
    split
    · simp [hv, h.1, h.2]
    · split
      · simp [hv, h.2]
      · simp only [List.all_cons, h.1, ih h.2, Bool.and_self]

/-- A byte write keeps the canonical form. -/
theorem memWf_memSet (m : Bytes) (a : Nat) (b : Byte) (h : memWf m = true) : memWf (memSet m a b) = true := by
  simp only [memWf, Bool.and_eq_true] at *
  unfold memSet
  split
  · exact ⟨keysAbove_mapErase a m 0 h.1, mapErase_all _ a m h.2⟩
  · next c => exact ⟨keysAbove_mapSet a b m 0 (Nat.zero_le _) h.1, mapSet_all _ a b m (by simpa using c) h.2⟩

/-- A write of bytes keeps the canonical form. -/
theorem memWf_memWrite (bs : List Byte) : ∀ (m : Bytes) (a : Nat), memWf m = true → memWf (memWrite m a bs) = true := by
  induction bs with
  | nil => intro m a h; exact h
  | cons b t ih => intro m a h; exact ih _ _ (memWf_memSet m a b h)

theorem mapGet_mapSet_same {α : Type} (m : List (Nat × α)) (k : Nat) (v : α) : mapGet (mapSet m k v) k = some v := by
  induction m with
  | nil => simp [mapSet, mapGet]
  | cons p t ih =>
    obtain ⟨k', v'⟩ := p
    unfold mapSet
    split
    · simp [mapGet]
    · split
      · simp [mapGet]
      · next d => simp [mapGet, Ne.symm d, ih]

theorem mapGet_mapSet_ne {α : Type} (m : List (Nat × α)) (k a : Nat) (v : α) (h : a ≠ k) : mapGet (mapSet m k v) a = mapGet m a := by
  induction m with
  | nil => simp [mapSet, mapGet, Ne.symm h]
  | cons p t ih =>
    obtain ⟨k', v'⟩ := p
    unfold mapSet
    split
    · simp [mapGet, Ne.symm h]
    · split
      · next d => subst d; simp [mapGet, Ne.symm h]
      · simp [mapGet, ih]

theorem mapGet_mapErase_ne {α : Type} (m : List (Nat × α)) (k a : Nat) (h : a ≠ k) : mapGet (mapErase m k) a = mapGet m a := by
  induction m with
  | nil => rfl
  | cons p t ih =>
    obtain ⟨k', v'⟩ := p
    unfold mapErase at ih ⊢
    by_cases c : k' = k
    · subst c; simp [mapGet, ih, Ne.symm h]
    · simp [c, mapGet, ih]

theorem mapGet_mapErase_same {α : Type} (m : List (Nat × α)) (k : Nat) : mapGet (mapErase m k) k = none := by
  induction m with
  | nil => rfl
  | cons p t ih =>
    obtain ⟨k', v'⟩ := p
    unfold mapErase at ih ⊢
    by_cases c : k' = k
    · simp [c, ih]
    · simp [c, mapGet, ih]

/-- A byte written reads back. -/
@[simp] theorem memGet_memSet_same (m : Bytes) (a : Nat) (b : Byte) : memGet (memSet m a b) a = b := by
  unfold memGet memSet
  split
  · next h => simp [mapGet_mapErase_same, h]
  · simp [mapGet_mapSet_same]

/-- A byte write leaves every other byte. -/
theorem memGet_memSet_ne (m : Bytes) (a k : Nat) (b : Byte) (h : a ≠ k) : memGet (memSet m k b) a = memGet m a := by
  unfold memGet memSet
  split
  · rw [mapGet_mapErase_ne m k a h]
  · rw [mapGet_mapSet_ne m k a b h]

/-- A write of bytes leaves every byte outside them. -/
theorem memGet_memWrite_out (bs : List Byte) : ∀ (m : Bytes) (a k : Nat), (k < a ∨ a + bs.length ≤ k) → memGet (memWrite m a bs) k = memGet m k := by
  induction bs with
  | nil => intro m a k _; rfl
  | cons b t ih =>
    intro m a k h
    simp only [List.length_cons] at h
    rw [memWrite, ih _ _ _ (by omega), memGet_memSet_ne _ _ _ _ (by omega)]

/-- A sparse natural written reads back. -/
theorem natGet_natSet_same (m : List (Nat × Nat)) (k v : Nat) : natGet (natSet m k v) k = v := by
  unfold natGet natSet
  split
  · next h => simp [mapGet_mapErase_same, h]
  · simp [mapGet_mapSet_same]

theorem natGet_natSet_ne (m : List (Nat × Nat)) (k a v : Nat) (h : a ≠ k) : natGet (natSet m k v) a = natGet m a := by
  unfold natGet natSet
  split
  · rw [mapGet_mapErase_ne m k a h]
  · rw [mapGet_mapSet_ne m k a v h]

/-! The parts that events and interrupts write. -/

variable {N : Nat}

theorem boundsOk_congr {h h' : HostState} {m : Bytes} (b : boundsOk N h m) (e : h'.evrEn = h.evrEn) (w : h'.evrWrite = h.evrWrite)
    (r : h'.evrRead = h.evrRead) (n : h'.log2Size = h.log2Size) (q : h'.backlog = h.backlog) (o : h'.outstanding = h.outstanding) :
    boundsOk N h' m := by
  unfold boundsOk ringUsed ringSize at *
  rw [e, w, r, n, q, o]; exact b

/-- What an operation on the sink may do to the fields that the bounds speak of: nothing. -/
theorem sinkMsix_bounds (e : SinkEnv) (v : Nat) (k : Sink) (b : boundsOk N k.host k.mem) :
    boundsOk N (sinkMsix e v k).host (sinkMsix e v k).mem := by
  unfold sinkMsix
  split
  · exact b
  · split
    · exact b
    · exact boundsOk_congr b rfl rfl rfl rfl rfl rfl

theorem sinkMsix_backlog (e : SinkEnv) (v : Nat) (k : Sink) : (sinkMsix e v k).host.backlog = k.host.backlog := by
  unfold sinkMsix
  split
  · rfl
  · split <;> rfl

theorem sinkInt_bounds (e : SinkEnv) (n : Nat) (k : Sink) (b : boundsOk N k.host k.mem) :
    boundsOk N (sinkInt e n k).host (sinkInt e n k).mem := by
  unfold sinkInt
  dsimp only
  split
  · exact sinkMsix_bounds _ _ _ (boundsOk_congr b rfl rfl rfl rfl rfl rfl)
  · exact boundsOk_congr b rfl rfl rfl rfl rfl rfl

theorem sinkInt_backlog (e : SinkEnv) (n : Nat) (k : Sink) : (sinkInt e n k).host.backlog = k.host.backlog := by
  unfold sinkInt
  dsimp only
  split
  · exact sinkMsix_backlog _ _ _
  · rfl

theorem moderate_bounds (e : SinkEnv) (k : Sink) (b : boundsOk N k.host k.mem) : boundsOk N (moderate e k).host (moderate e k).mem := by
  unfold moderate
  dsimp only
  split
  · exact sinkInt_bounds _ _ _ (boundsOk_congr b rfl rfl rfl rfl rfl rfl)
  · exact boundsOk_congr b rfl rfl rfl rfl rfl rfl

theorem moderate_backlog (e : SinkEnv) (k : Sink) : (moderate e k).host.backlog = k.host.backlog := by
  unfold moderate
  dsimp only
  split
  · exact sinkInt_backlog _ _ _
  · rfl

/-- One more record fits where there was room. -/
theorem ringUsed_succ (h : HostState) (r : ringUsed h < ringSize h) :
    (h.evrWrite + 1 - h.evrRead).toNat ≤ ringSize h := by
  have lim : ringSize h ≤ 2 ^ 16 := by
    unfold ringSize
    dsimp only
    split
    · next c => exact Nat.pow_le_pow_right (by omega) c.2
    · omega
  unfold ringUsed at r
  bv_omega

theorem ringWrite_bounds (e : SinkEnv) (r : EventRec) (k : Sink) (b : boundsOk N k.host k.mem) (room : ringUsed k.host < ringSize k.host) :
    boundsOk N (ringWrite e r k).host (ringWrite e r k).mem := by
  unfold ringWrite
  dsimp only
  apply moderate_bounds
  have c : ∀ m, memWf m = true → boundsOk N { k.host with evrWrite := k.host.evrWrite + 1 } m := by
    intro m w
    exact ⟨fun _ => ringUsed_succ k.host room, b.2.1, b.2.2.1, w⟩
  have d : ∀ m, memWf m = true → memWf (if k.host.shadowEn = true then
      memWrite m (k.host.shadowHi.toNat * 2 ^ 32 + k.host.shadowLo.toNat) (leBytes 4 (k.host.evrWrite + 1).toNat) else m) = true := by
    intro m w
    split
    · exact memWf_memWrite _ _ _ w
    · exact w
  have f := c _ (d _ (memWf_memWrite (eventBytes r) _ (ringAddr k.host) b.2.2.2))
  split
  · exact sinkInt_bounds _ _ _ f
  · exact f

theorem ringWrite_backlog (e : SinkEnv) (r : EventRec) (k : Sink) : (ringWrite e r k).host.backlog = k.host.backlog := by
  unfold ringWrite
  dsimp only
  rw [moderate_backlog]
  split
  · rw [sinkInt_backlog]
  · rfl

theorem backlogPush_bounds (e : SinkEnv) (r : EventRec) (k : Sink) (b : boundsOk N k.host k.mem) :
    boundsOk N (backlogPush e r k).host (backlogPush e r k).mem := by
  unfold backlogPush
  dsimp only
  apply sinkInt_bounds
  split
  · next c => exact ⟨b.1, by simp; omega, b.2.2.1, b.2.2.2⟩
  · exact boundsOk_congr b rfl rfl rfl rfl rfl rfl

theorem ringOpen_room {e : SinkEnv} {h : HostState} (o : ringOpen e h = true) : ringUsed h < ringSize h := by
  simp [ringOpen] at o; exact o.2

/-- Raising an event keeps the bounds. -/
theorem sinkRaise_bounds (e : SinkEnv) (r : EventRec) (k : Sink) (b : boundsOk N k.host k.mem) :
    boundsOk N (sinkRaise e r k).host (sinkRaise e r k).mem := by
  unfold sinkRaise
  split
  · exact b
  · have b' : boundsOk N { k.host with lastTime := Nat.max k.host.lastTime r.time.toNat } k.mem := boundsOk_congr b rfl rfl rfl rfl rfl rfl
    dsimp only
    split
    · next c =>
      simp only [Bool.and_eq_true] at c
      exact ringWrite_bounds e r { k with host := _ } b' (ringOpen_room c.1)
    · exact backlogPush_bounds e r { k with host := _ } b'

theorem drainOne_bounds (e : SinkEnv) (k t : Sink) (h : drainOne e k = some t) (b : boundsOk N k.host k.mem) : boundsOk N t.host t.mem := by
  unfold drainOne at h
  split at h
  · cases h
  · next r l q =>
    split at h
    · next o =>
      dsimp only at h
      have b' : boundsOk N { k.host with backlog := l } k.mem := by
        refine ⟨b.1, ?_, b.2.2.1, b.2.2.2⟩
        have := b.2.1; rw [q] at this; simp at this ⊢; omega
      have room : ringUsed { k.host with backlog := l } < ringSize { k.host with backlog := l } := ringOpen_room (e := e) (h := k.host) o
      have g := ringWrite_bounds e r { k with host := { k.host with backlog := l } } b' room
      have bl := ringWrite_backlog e r { k with host := { k.host with backlog := l } }
      split at h
      · cases h; exact g
      · cases h
        refine ⟨g.1, ?_, g.2.2.1, g.2.2.2⟩
        simp only [bl, List.length_append, List.length_singleton]
        have := b.2.1; rw [q] at this; simpa using this
    · cases h

theorem iterate_keeps {σ : Type} (P : σ → Prop) (f : σ → Option σ) (h : ∀ s t, f s = some t → P s → P t) : ∀ n s, P s → P (iterate f n s) := by
  intro n
  induction n with
  | zero => intro s p; exact p
  | succ n ih =>
    intro s p
    unfold iterate
    split
    · exact p
    · next t q => exact ih t (h s t q p)

theorem sinkDrain_bounds (e : SinkEnv) (k : Sink) (b : boundsOk N k.host k.mem) : boundsOk N (sinkDrain e k).host (sinkDrain e k).mem :=
  iterate_keeps (fun k => boundsOk N k.host k.mem) (drainOne e) (fun s t h p => drainOne_bounds e s t h p) _ k b

/-! Folds. -/

theorem foldl_keeps {α σ : Type} (P : σ → Prop) (f : σ → α → σ) (h : ∀ s a, P s → P (f s a)) : ∀ (l : List α) (s : σ), P s → P (l.foldl f s) := by
  intro l
  induction l with
  | nil => intro s p; exact p
  | cons a t ih => intro s p; exact ih _ (h s a p)

theorem forRange_keeps {σ : Type} (P : σ → Prop) (n : Nat) (f : Nat → σ → σ) (s : σ) (p : P s) (h : ∀ i s, P s → P (f i s)) : P (forRange n s f) :=
  foldl_keeps P _ (fun s i q => h i s q) _ s p

theorem forList_keeps {α σ : Type} (P : σ → Prop) (l : List α) (f : α → σ → σ) (s : σ) (p : P s) (h : ∀ a s, P s → P (f a s)) : P (forList l s f) :=
  foldl_keeps P _ (fun s i q => h i s q) _ s p

/-! The operations on a state. -/

theorem BoundedBy_congr {s t : State} (b : BoundedBy N s) (h : t.host = s.host) (m : t.hostMem = s.hostMem) : BoundedBy N t := by
  unfold BoundedBy at *; rw [h, m]; exact b

theorem when_BoundedBy (c : Bool) (f : State → State) (s : State) (h : BoundedBy N s) (k : BoundedBy N (f s)) : BoundedBy N (when c f s) := by
  unfold when; split
  · exact k
  · exact h

theorem msix_BoundedBy (v : Nat) (s : State) (h : BoundedBy N s) : BoundedBy N (msix v s) := sinkMsix_bounds _ _ _ h

/-- A host interface as reset leaves it is within the bounds. -/
theorem boundsOk_reset (oid time : Nat) (m : Bytes) (w : memWf m = true) : boundsOk N { nextOid := oid, lastTime := time } m :=
  ⟨fun e => by simp at e, by simp, by simp, w⟩

/-- Signalling an interrupt of the state keeps the bounds. -/
theorem int_BoundedBy (e : SinkEnv) (n : Nat) (s : State) (h : BoundedBy N s) : BoundedBy N (withSink s (sinkInt e n (sinkOf s))) :=
  sinkInt_bounds _ _ _ h

theorem drain_BoundedBy (s : State) (h : BoundedBy N s) : BoundedBy N (drain s) := sinkDrain_bounds _ _ h

theorem raiseAt_BoundedBy (t c so p l d0 d1 d2 : Nat) (s : State) (h : BoundedBy N s) : BoundedBy N (raiseAt t c so p l d0 d1 d2 s) :=
  sinkRaise_bounds _ _ _ h

theorem emit_BoundedBy (o : Out) (s : State) (h : BoundedBy N s) : BoundedBy N (emit o s) := h

theorem atTime_BoundedBy (t : Nat) (s : State) (h : BoundedBy N s) : BoundedBy N (atTime t s) := h

theorem drawNat_BoundedBy (s : State) (h : BoundedBy N s) : BoundedBy N (drawNat s).1 := h

theorem drawInt_BoundedBy (s : State) (h : BoundedBy N s) : BoundedBy N (drawInt s).1 := h

theorem raise_BoundedBy (c so p l d0 d1 d2 : Nat) (s : State) (h : BoundedBy N s) : BoundedBy N (raise c so p l d0 d1 d2 s) :=
  raiseAt_BoundedBy _ _ _ _ _ _ _ _ s h

theorem raiseSince_BoundedBy (t c so p l d0 d1 d2 : Nat) (s : State) (h : BoundedBy N s) : BoundedBy N (raiseSince t c so p l d0 d1 d2 s) :=
  raiseAt_BoundedBy _ _ _ _ _ _ _ _ s h

theorem foldl_BoundedBy {α : Type} (f : State → α → State) (l : List α) (s : State) (b : BoundedBy N s)
    (h : ∀ s a, BoundedBy N s → BoundedBy N (f s a)) : BoundedBy N (l.foldl f s) :=
  foldl_keeps _ f h l s b

theorem hostWrite_BoundedBy (a : Nat) (bs : List Byte) (s : State) (h : BoundedBy N s) : BoundedBy N (hostWrite a bs s).1 := by
  unfold hostWrite; split
  · exact ⟨h.1, h.2.1, h.2.2.1, memWf_memWrite _ _ _ h.2.2.2⟩
  · exact h

theorem bump_BoundedBy (id i n : Nat) (s : State) (h : BoundedBy N s) : BoundedBy N (bump id i n s) := by
  unfold bump
  dsimp only
  split
  · split
    · exact raise_BoundedBy _ _ _ _ _ _ _ _ (raise_BoundedBy _ _ _ _ _ _ _ _ (BoundedBy_congr h rfl rfl))
    · exact raise_BoundedBy _ _ _ _ _ _ _ _ (BoundedBy_congr h rfl rfl)
  · exact BoundedBy_congr h rfl rfl

theorem tick_BoundedBy (id i : Nat) (s : State) (h : BoundedBy N s) : BoundedBy N (tick id i s) := bump_BoundedBy id i 1 s h

theorem respond_BoundedBy (n st : Nat) (r : List Nat) (s : State) (h : BoundedBy N s) : BoundedBy N (respond n st r s) := by
  have b : ∀ (q : List Slot) (d : BitVec 16), boundsOk N { s.host with slots := q, slotDone := d } s.hostMem :=
    fun q d => boundsOk_congr h rfl rfl rfl rfl rfl rfl
  unfold respond
  dsimp only
  split
  · exact sinkInt_bounds _ _ _ (b _ _)
  · exact b _ _

theorem complete_BoundedBy (o st : Nat) (r : List Nat) (s : State) (h : BoundedBy N s) : BoundedBy N (complete o st r s) := by
  unfold complete
  split
  · exact h
  · apply raise_BoundedBy
    exact ⟨h.1, h.2.1, Nat.le_trans (List.length_filter_le _ _) h.2.2.1, h.2.2.2⟩

theorem completeOpt_BoundedBy (o : Option Nat) (st : Nat) (r : List Nat) (s : State) (h : BoundedBy N s) : BoundedBy N (completeOpt o st r s) := by
  cases o
  · exact h
  · exact complete_BoundedBy _ _ _ _ h

theorem forRange_BoundedBy (n : Nat) (f : Nat → State → State) (s : State) (p : BoundedBy N s)
    (h : ∀ i s, BoundedBy N s → BoundedBy N (f i s)) : BoundedBy N (forRange n s f) := forRange_keeps (BoundedBy N) n f s p h

theorem forList_BoundedBy {α : Type} (l : List α) (f : α → State → State) (s : State) (p : BoundedBy N s)
    (h : ∀ a s, BoundedBy N s → BoundedBy N (f a s)) : BoundedBy N (forList l s f) := forList_keeps (BoundedBy N) l f s p h

theorem forRange_fst_BoundedBy {β : Type} (n : Nat) (f : Nat → State × β → State × β) (a : State × β) (p : BoundedBy N a.1)
    (h : ∀ i a, BoundedBy N a.1 → BoundedBy N (f i a).1) : BoundedBy N (forRange n a f).1 :=
  forRange_keeps (fun a : State × β => BoundedBy N a.1) n f a p h

theorem forList_fst_BoundedBy {α β : Type} (l : List α) (f : α → State × β → State × β) (a : State × β) (p : BoundedBy N a.1)
    (h : ∀ i a, BoundedBy N a.1 → BoundedBy N (f i a).1) : BoundedBy N (forList l a f).1 :=
  forList_keeps (fun a : State × β => BoundedBy N a.1) l f a p h

/-- The bounds of an answer, where there is one. -/
structure OptBounded (N : Nat) (o : Option State) : Prop where
  all : ∀ t, o = some t → BoundedBy N t

theorem OptBounded_none : OptBounded N none := ⟨by intro t e; cases e⟩

theorem OptBounded_some (s : State) (p : BoundedBy N s) : OptBounded N (some s) := ⟨by intro t e; cases e; exact p⟩

/-- The bounds of the state beside an answer, where there is one. -/
structure OptSndBounded {β : Type} (N : Nat) (o : Option (β × State)) : Prop where
  all : ∀ a t, o = some (a, t) → BoundedBy N t

theorem OptSndBounded_none {β : Type} : OptSndBounded N (none : Option (β × State)) := ⟨by intro a t e; cases e⟩

theorem OptSndBounded_some {β : Type} (a : β) (s : State) (p : BoundedBy N s) : OptSndBounded N (some (a, s)) :=
  ⟨by intro b t e; cases e; exact p⟩

theorem iterate_BoundedBy (n : Nat) (f : State → Option State) (s : State) (p : BoundedBy N s)
    (h : ∀ s, BoundedBy N s → OptBounded N (f s)) : BoundedBy N (iterate f n s) :=
  iterate_keeps (BoundedBy N) f (fun s t e q => (h s q).all t e) n s p

/-- The command completes in a state with the bounds. -/
structure NextBounded (o : Host.Outcome State Fault Refusal) : Prop where
  all : ∃ t, o = .next t ∧ Bounded t

theorem NextBounded_next (s : State) (p : BoundedBy outstMax s) : NextBounded (.next s) := ⟨s, rfl, p⟩

/-- The bounds of a state written out. -/
theorem BoundedBy_mk (x0 : Nat) (x1 : List Instr) (h : HostState) (x3 : CtrState) (x4 : TestState) (x5 : PageState) (x6 : SpoolState)
    (x7 : ExpState) (x8 : PosState) (x9 : LinkState) (x10 : TileState) (x11 : CamState) (x12 : CalState) (x13 : LoopState) (x14 :
    MotionState) (x15 : MemState) (x16 : SupState) (x17 : FwState) (x18 : Board) (x19 : Option ActiveCmd) (m : Bytes) (x21 : List (Nat ×
    Nat)) (x22 : List Out) (x23 : Nat) : BoundedBy N (State.mk x0 x1 h x3 x4 x5 x6 x7 x8 x9 x10 x11 x12 x13 x14 x15 x16 x17 x18 x19 m x21
    x22 x23) = boundsOk N h m := rfl

/-- The bounds of a state are those of its host interface and memory. -/
theorem BoundedBy_fold (s : State) (p : BoundedBy N s) : boundsOk N s.host s.hostMem := p

@[simp] theorem refuse_st (s : State) (status : Nat) : (Ans.refuse s status).st = s := rfl

theorem answer_BoundedBy (slot : Nat) (ws : List Word) (oid : Nat) (a : Ans) (n : Nat) (b : BoundedBy n a.st)
    (le : n ≤ outstMax) (lim : (a.status = stDeferred ∨ a.status = stPending) → n < outstMax) :
    BoundedBy outstMax (answer slot ws oid a) := by
  have w : BoundedBy outstMax a.st := ⟨b.1, b.2.1, Nat.le_trans b.2.2.1 le, b.2.2.2⟩
  unfold answer
  split
  · exact boundsOk_congr w rfl rfl rfl rfl rfl rfl
  · split
    · next c =>
      apply respond_BoundedBy
      refine ⟨b.1, b.2.1, ?_, b.2.2.2⟩
      have := b.2.2.1
      have := lim c
      simp [pushOutst]
      omega
    · exact respond_BoundedBy _ _ _ _ w

/-- Serving a command keeps the bounds where the command's own work does. -/
theorem serve_BoundedBy (code : Nat) (cls : CmdClass) (masks : List Nat) (body : List Word → State → Ans) (s : State)
    (b : BoundedBy outstMax s) (h : ∀ n ws s, BoundedBy n s → BoundedBy n (body ws s).st) :
    BoundedBy outstMax (serve code cls masks body s) := by
  have tk : ∀ n, BoundedBy n s → BoundedBy n { s with host := { s.host with order := s.host.order.tail } } :=
    fun n q => boundsOk_congr q rfl rfl rfl rfl rfl rfl
  unfold serve
  split
  · exact b
  · dsimp only
    split
    · exact respond_BoundedBy _ _ _ _ (tk _ b)
    · split
      · exact b
      · split
        · exact respond_BoundedBy _ _ _ _ (tk _ b)
        · split
          · exact respond_BoundedBy _ _ _ _ (tk _ b)
          · split
            · exact respond_BoundedBy _ _ _ _ (tk _ b)
            · next c =>
              apply answer_BoundedBy (n := s.host.outstanding.length)
              · exact h _ _ _ (tk _ ⟨b.1, b.2.1, Nat.le_refl _, b.2.2.2⟩)
              · exact b.2.2.1
              · intro d
                exact Nat.lt_of_not_le (fun e => c ⟨d, e⟩)

end Sys2Proof.Machine
end

