-- ==== Sys2Proof/Laws/BoundsTrack.lean ====
section
/-! SUPPORT. The operations of Machine/Track.lean keep the bounds of the host interface (Safety.lean). -/

namespace Sys2Proof.Machine

theorem setTrk_BoundedBy {N : Nat} (st : Nat) (f : Tracker → Tracker) (s : State) (hb : BoundedBy N s) : BoundedBy N (setTrk st f s) := by
  unfold setTrk
  repeat' first
    | with_reducible assumption
    | with_reducible apply BoundedBy_fold
    | with_reducible apply OptBounded_none
    | with_reducible apply OptBounded_some
    | with_reducible apply OptSndBounded_none
    | with_reducible apply OptSndBounded_some
    | intro _
    | dsimp only [BoundedBy_mk, refuse_st]
    | split

theorem setDly_BoundedBy {N : Nat} (g : Nat) (f : TileDelay → TileDelay) (s : State) (hb : BoundedBy N s) : BoundedBy N (setDly g f s) := by
  unfold setDly
  repeat' first
    | with_reducible assumption
    | with_reducible apply BoundedBy_fold
    | with_reducible apply OptBounded_none
    | with_reducible apply OptBounded_some
    | with_reducible apply OptSndBounded_none
    | with_reducible apply OptSndBounded_some
    | intro _
    | dsimp only [BoundedBy_mk, refuse_st]
    | split

end Sys2Proof.Machine
end

