-- ==== Sys2Proof/Laws/BoundsPages.lean ====
section
/-! SUPPORT. The operations of Machine/Pages.lean keep the bounds of the host interface (Safety.lean). -/

namespace Sys2Proof.Machine

theorem setPage_BoundedBy {N : Nat} (key : Nat) (f : Page → Page) (s : State) (hb : BoundedBy N s) : BoundedBy N (setPage key f s) := by
  unfold setPage
  repeat' first
    | with_reducible assumption
    | with_reducible apply BoundedBy_fold
    | with_reducible apply OptBounded_none
    | with_reducible apply OptBounded_some
    | with_reducible apply OptSndBounded_none
    | with_reducible apply OptSndBounded_some
    | intro _
    | dsimp only [BoundedBy_mk, refuse_st]
    | split

theorem trimPages_BoundedBy {N : Nat} (s : State) (hb : BoundedBy N s) : BoundedBy N (trimPages s) := by
  unfold trimPages
  repeat' first
    | with_reducible assumption
    | with_reducible apply BoundedBy_fold
    | with_reducible apply OptBounded_none
    | with_reducible apply OptBounded_some
    | with_reducible apply OptSndBounded_none
    | with_reducible apply OptSndBounded_some
    | intro _
    | dsimp only [BoundedBy_mk, refuse_st]
    | split

theorem pageTo_BoundedBy {N : Nat} (key : Nat) (st : PageSt) (source line : Nat) (s : State) (hb : BoundedBy N s) : BoundedBy N (pageTo key st source line s) := by
  unfold pageTo
  repeat' first
    | with_reducible assumption
    | with_reducible apply raise_BoundedBy
    | with_reducible apply setPage_BoundedBy
    | with_reducible apply BoundedBy_fold
    | with_reducible apply OptBounded_none
    | with_reducible apply OptBounded_some
    | with_reducible apply OptSndBounded_none
    | with_reducible apply OptSndBounded_some
    | intro _
    | dsimp only [BoundedBy_mk, refuse_st]
    | split

theorem wgDrive_BoundedBy {N : Nat} (st : Nat) (s : State) (hb : BoundedBy N s) : BoundedBy N (wgDrive st s) := by
  unfold wgDrive
  repeat' first
    | with_reducible assumption
    | with_reducible apply BoundedBy_fold
    | with_reducible apply OptBounded_none
    | with_reducible apply OptBounded_some
    | with_reducible apply OptSndBounded_none
    | with_reducible apply OptSndBounded_some
    | intro _
    | dsimp only [BoundedBy_mk, refuse_st]
    | split

theorem wgAdd_BoundedBy {N : Nat} (st : Nat) (w : Int × Int) (s : State) (hb : BoundedBy N s) : BoundedBy N (wgAdd st w s) := by
  unfold wgAdd
  repeat' first
    | with_reducible assumption
    | with_reducible apply wgDrive_BoundedBy
    | with_reducible apply BoundedBy_fold
    | with_reducible apply OptBounded_none
    | with_reducible apply OptBounded_some
    | with_reducible apply OptSndBounded_none
    | with_reducible apply OptSndBounded_some
    | intro _
    | dsimp only [BoundedBy_mk, refuse_st]
    | split

theorem wgPage_BoundedBy {N : Nat} (p : Page) (s : State) (hb : BoundedBy N s) : BoundedBy N (wgPage p s) := by
  unfold wgPage
  repeat' first
    | with_reducible assumption
    | with_reducible apply wgAdd_BoundedBy
    | with_reducible apply forList_BoundedBy
    | with_reducible apply forList_fst_BoundedBy
    | with_reducible apply BoundedBy_fold
    | with_reducible apply OptBounded_none
    | with_reducible apply OptBounded_some
    | with_reducible apply OptSndBounded_none
    | with_reducible apply OptSndBounded_some
    | intro _
    | dsimp only [BoundedBy_mk, refuse_st]
    | split

theorem spoilNow_BoundedBy {N : Nat} (key reason station line : Nat) (s : State) (hb : BoundedBy N s) : BoundedBy N (spoilNow key reason station line s) := by
  unfold spoilNow
  repeat' first
    | with_reducible assumption
    | with_reducible apply raise_BoundedBy
    | with_reducible apply setPage_BoundedBy
    | with_reducible apply tick_BoundedBy
    | with_reducible apply wgPage_BoundedBy
    | with_reducible apply BoundedBy_fold
    | with_reducible apply OptBounded_none
    | with_reducible apply OptBounded_some
    | with_reducible apply OptSndBounded_none
    | with_reducible apply OptSndBounded_some
    | intro _
    | dsimp only [BoundedBy_mk, refuse_st]
    | split

theorem spoil_BoundedBy {N : Nat} (key reason station line : Nat) (s : State) (hb : BoundedBy N s) : BoundedBy N (spoil key reason station line s) := by
  unfold spoil
  repeat' first
    | with_reducible assumption
    | with_reducible apply setPage_BoundedBy
    | with_reducible apply spoilNow_BoundedBy
    | with_reducible apply BoundedBy_fold
    | with_reducible apply OptBounded_none
    | with_reducible apply OptBounded_some
    | with_reducible apply OptSndBounded_none
    | with_reducible apply OptSndBounded_some
    | intro _
    | dsimp only [BoundedBy_mk, refuse_st]
    | split

theorem spoilWhere_BoundedBy {N : Nat} (pick : Page → Bool) (reason station line : Nat) (s : State) (hb : BoundedBy N s) : BoundedBy N (spoilWhere pick reason station line s) := by
  unfold spoilWhere
  repeat' first
    | with_reducible assumption
    | with_reducible apply spoilNow_BoundedBy
    | with_reducible apply forList_BoundedBy
    | with_reducible apply forList_fst_BoundedBy
    | with_reducible apply BoundedBy_fold
    | with_reducible apply OptBounded_none
    | with_reducible apply OptBounded_some
    | with_reducible apply OptSndBounded_none
    | with_reducible apply OptSndBounded_some
    | intro _
    | dsimp only [BoundedBy_mk, refuse_st]
    | split

theorem gapWanted_BoundedBy {N : Nat} (g : GapItem) (s : State) (hb : BoundedBy N s) : BoundedBy N (gapWanted g s) := by
  unfold gapWanted
  repeat' first
    | with_reducible assumption
    | with_reducible apply raise_BoundedBy
    | with_reducible apply BoundedBy_fold
    | with_reducible apply OptBounded_none
    | with_reducible apply OptBounded_some
    | with_reducible apply OptSndBounded_none
    | with_reducible apply OptSndBounded_some
    | intro _
    | dsimp only [BoundedBy_mk, refuse_st]
    | split

theorem gapPend_BoundedBy {N : Nat} (work : GapWork) (scope oid : Option Nat) (s : State) (hb : BoundedBy N s) : BoundedBy N (gapPend work scope oid s) := by
  unfold gapPend
  repeat' first
    | with_reducible assumption
    | with_reducible apply gapWanted_BoundedBy
    | with_reducible apply BoundedBy_fold
    | with_reducible apply OptBounded_none
    | with_reducible apply OptBounded_some
    | with_reducible apply OptSndBounded_none
    | with_reducible apply OptSndBounded_some
    | intro _
    | dsimp only [BoundedBy_mk, refuse_st]
    | split

end Sys2Proof.Machine
end

