-- ==== Sys2Proof/Laws/BoundsSpool.lean ====
section
/-! SUPPORT. The operations of Machine/Spool.lean keep the bounds of the host interface (Safety.lean). -/

namespace Sys2Proof.Machine

theorem spoolLow_BoundedBy {N : Nat} (s : State) (hb : BoundedBy N s) : BoundedBy N (spoolLow s) := by
  unfold spoolLow
  repeat' first
    | with_reducible assumption
    | with_reducible apply raise_BoundedBy
    | with_reducible apply BoundedBy_fold
    | with_reducible apply OptBounded_none
    | with_reducible apply OptBounded_some
    | with_reducible apply OptSndBounded_none
    | with_reducible apply OptSndBounded_some
    | intro _
    | dsimp only [BoundedBy_mk, refuse_st]
    | split

theorem setObj_BoundedBy {N : Nat} (sid : Nat) (f : SpoolObj → SpoolObj) (s : State) (hb : BoundedBy N s) : BoundedBy N (setObj sid f s) := by
  unfold setObj
  repeat' first
    | with_reducible assumption
    | with_reducible apply BoundedBy_fold
    | with_reducible apply OptBounded_none
    | with_reducible apply OptBounded_some
    | with_reducible apply OptSndBounded_none
    | with_reducible apply OptSndBounded_some
    | intro _
    | dsimp only [BoundedBy_mk, refuse_st]
    | split

theorem setIngest_BoundedBy {N : Nat} (key : Nat) (f : Ingest → Ingest) (s : State) (hb : BoundedBy N s) : BoundedBy N (setIngest key f s) := by
  unfold setIngest
  repeat' first
    | with_reducible assumption
    | with_reducible apply BoundedBy_fold
    | with_reducible apply OptBounded_none
    | with_reducible apply OptBounded_some
    | with_reducible apply OptSndBounded_none
    | with_reducible apply OptSndBounded_some
    | intro _
    | dsimp only [BoundedBy_mk, refuse_st]
    | split

theorem retirePend_BoundedBy {N : Nat} (c : Nat) (s : State) (hb : BoundedBy N s) : BoundedBy N (retirePend c s) := by
  unfold retirePend
  repeat' first
    | with_reducible assumption
    | with_reducible apply gapPend_BoundedBy
    | with_reducible apply BoundedBy_fold
    | with_reducible apply OptBounded_none
    | with_reducible apply OptBounded_some
    | with_reducible apply OptSndBounded_none
    | with_reducible apply OptSndBounded_some
    | intro _
    | dsimp only [BoundedBy_mk, refuse_st]
    | split

theorem freeObj_BoundedBy {N : Nat} (sid : Nat) (s : State) (hb : BoundedBy N s) : BoundedBy N (freeObj sid s) := by
  unfold freeObj
  repeat' first
    | with_reducible assumption
    | with_reducible apply retirePend_BoundedBy
    | with_reducible apply spoolLow_BoundedBy
    | with_reducible apply forRange_BoundedBy
    | with_reducible apply forRange_fst_BoundedBy
    | with_reducible apply BoundedBy_fold
    | with_reducible apply OptBounded_none
    | with_reducible apply OptBounded_some
    | with_reducible apply OptSndBounded_none
    | with_reducible apply OptSndBounded_some
    | intro _
    | dsimp only [BoundedBy_mk, refuse_st]
    | split

theorem endIngest_BoundedBy {N : Nat} (key : Nat) (s : State) (hb : BoundedBy N s) : BoundedBy N (endIngest key s) := by
  unfold endIngest
  repeat' first
    | with_reducible assumption
    | with_reducible apply freeObj_BoundedBy
    | with_reducible apply BoundedBy_fold
    | with_reducible apply OptBounded_none
    | with_reducible apply OptBounded_some
    | with_reducible apply OptSndBounded_none
    | with_reducible apply OptSndBounded_some
    | intro _
    | dsimp only [BoundedBy_mk, refuse_st]
    | split

theorem setChan_BoundedBy {N : Nat} (ch : Nat) (f : MuleChan → MuleChan) (s : State) (hb : BoundedBy N s) : BoundedBy N (setChan ch f s) := by
  unfold setChan
  repeat' first
    | with_reducible assumption
    | with_reducible apply BoundedBy_fold
    | with_reducible apply OptBounded_none
    | with_reducible apply OptBounded_some
    | with_reducible apply OptSndBounded_none
    | with_reducible apply OptSndBounded_some
    | intro _
    | dsimp only [BoundedBy_mk, refuse_st]
    | split

theorem muleInt_BoundedBy {N : Nat} (ch : Nat) (mask : BitVec 4) (s : State) (hb : BoundedBy N s) : BoundedBy N (muleInt ch mask s) := by
  unfold muleInt
  repeat' first
    | with_reducible assumption
    | with_reducible apply msix_BoundedBy
    | with_reducible apply setChan_BoundedBy
    | with_reducible apply BoundedBy_fold
    | with_reducible apply OptBounded_none
    | with_reducible apply OptBounded_some
    | with_reducible apply OptSndBounded_none
    | with_reducible apply OptSndBounded_some
    | intro _
    | dsimp only [BoundedBy_mk, refuse_st]
    | split

theorem descDone_BoundedBy {N : Nat} (ch done status check cause : Nat) (irq : Bool) (s : State) (hb : BoundedBy N s) : BoundedBy N (descDone ch done status check cause irq s) := by
  unfold descDone
  repeat' first
    | with_reducible assumption
    | with_reducible apply muleInt_BoundedBy
    | with_reducible apply setChan_BoundedBy
    | with_reducible apply hostWrite_BoundedBy
    | with_reducible apply BoundedBy_fold
    | with_reducible apply OptBounded_none
    | with_reducible apply OptBounded_some
    | with_reducible apply OptSndBounded_none
    | with_reducible apply OptSndBounded_some
    | intro _
    | dsimp only [BoundedBy_mk, refuse_st]
    | split

theorem muleStop_BoundedBy {N : Nat} (ch cause : Nat) (s : State) (hb : BoundedBy N s) : BoundedBy N (muleStop ch cause s) := by
  unfold muleStop
  repeat' first
    | with_reducible assumption
    | with_reducible apply muleInt_BoundedBy
    | with_reducible apply raise_BoundedBy
    | with_reducible apply setChan_BoundedBy
    | with_reducible apply tick_BoundedBy
    | with_reducible apply BoundedBy_fold
    | with_reducible apply OptBounded_none
    | with_reducible apply OptBounded_some
    | with_reducible apply OptSndBounded_none
    | with_reducible apply OptSndBounded_some
    | intro _
    | dsimp only [BoundedBy_mk, refuse_st]
    | split

theorem muleEnd_BoundedBy {N : Nat} (ch status check cause : Nat) (s : State) (hb : BoundedBy N s) : BoundedBy N (muleEnd ch status check cause s) := by
  unfold muleEnd
  repeat' first
    | with_reducible assumption
    | with_reducible apply descDone_BoundedBy
    | with_reducible apply muleStop_BoundedBy
    | with_reducible apply BoundedBy_fold
    | with_reducible apply OptBounded_none
    | with_reducible apply OptBounded_some
    | with_reducible apply OptSndBounded_none
    | with_reducible apply OptSndBounded_some
    | intro _
    | dsimp only [BoundedBy_mk, refuse_st]
    | split

theorem sendReads_BoundedBy {N : Nat} (ch : Nat) (d : DescRun) (s : State) (hb : BoundedBy N s) : BoundedBy N (sendReads ch d s) := by
  unfold sendReads
  repeat' first
    | with_reducible assumption
    | with_reducible apply emit_BoundedBy
    | with_reducible apply setChan_BoundedBy
    | with_reducible apply forList_BoundedBy
    | with_reducible apply forList_fst_BoundedBy
    | with_reducible apply BoundedBy_fold
    | with_reducible apply OptBounded_none
    | with_reducible apply OptBounded_some
    | with_reducible apply OptSndBounded_none
    | with_reducible apply OptSndBounded_some
    | intro _
    | dsimp only [BoundedBy_mk, refuse_st]
    | split

theorem descEnd_BoundedBy {N : Nat} (ch : Nat) (s : State) (hb : BoundedBy N s) : BoundedBy N (descEnd ch s) := by
  unfold descEnd
  repeat' first
    | with_reducible assumption
    | with_reducible apply descDone_BoundedBy
    | with_reducible apply muleStop_BoundedBy
    | with_reducible apply BoundedBy_fold
    | with_reducible apply OptBounded_none
    | with_reducible apply OptBounded_some
    | with_reducible apply OptSndBounded_none
    | with_reducible apply OptSndBounded_some
    | intro _
    | dsimp only [BoundedBy_mk, refuse_st]
    | split

end Sys2Proof.Machine
end

