-- ==== Sys2Proof/Laws/BoundsMemErr.lean ====
section
/-! SUPPORT. The operations of Machine/MemErr.lean keep the bounds of the host interface (Safety.lean). -/

namespace Sys2Proof.Machine

theorem setSram_BoundedBy {N : Nat} (m : Nat) (f : SramStore → SramStore) (s : State) (hb : BoundedBy N s) : BoundedBy N (setSram m f s) := by
  unfold setSram
  repeat' first
    | with_reducible assumption
    | with_reducible apply BoundedBy_fold
    | with_reducible apply OptBounded_none
    | with_reducible apply OptBounded_some
    | with_reducible apply OptSndBounded_none
    | with_reducible apply OptSndBounded_some
    | intro _
    | dsimp only [BoundedBy_mk, refuse_st]
    | split

theorem setDdr_BoundedBy {N : Nat} (c : Nat) (f : DdrChan → DdrChan) (s : State) (hb : BoundedBy N s) : BoundedBy N (setDdr c f s) := by
  unfold setDdr
  repeat' first
    | with_reducible assumption
    | with_reducible apply BoundedBy_fold
    | with_reducible apply OptBounded_none
    | with_reducible apply OptBounded_some
    | with_reducible apply OptSndBounded_none
    | with_reducible apply OptSndBounded_some
    | intro _
    | dsimp only [BoundedBy_mk, refuse_st]
    | split

theorem remapPend_BoundedBy {N : Nat} (store row : Nat) (s : State) (hb : BoundedBy N s) : BoundedBy N (remapPend store row s) := by
  unfold remapPend
  repeat' first
    | with_reducible assumption
    | with_reducible apply gapPend_BoundedBy
    | with_reducible apply setSram_BoundedBy
    | with_reducible apply BoundedBy_fold
    | with_reducible apply OptBounded_none
    | with_reducible apply OptBounded_some
    | with_reducible apply OptSndBounded_none
    | with_reducible apply OptSndBounded_some
    | intro _
    | dsimp only [BoundedBy_mk, refuse_st]
    | split

theorem chanFailing_BoundedBy {N : Nat} (c cause : Nat) (s : State) (hb : BoundedBy N s) : BoundedBy N (chanFailing c cause s) := by
  unfold chanFailing
  repeat' first
    | with_reducible assumption
    | with_reducible apply raise_BoundedBy
    | with_reducible apply setDdr_BoundedBy
    | with_reducible apply spoolLow_BoundedBy
    | with_reducible apply BoundedBy_fold
    | with_reducible apply OptBounded_none
    | with_reducible apply OptBounded_some
    | with_reducible apply OptSndBounded_none
    | with_reducible apply OptSndBounded_some
    | intro _
    | dsimp only [BoundedBy_mk, refuse_st]
    | split

theorem chanFail_BoundedBy {N : Nat} (c cause : Nat) (s : State) (hb : BoundedBy N s) : BoundedBy N (chanFail c cause s) := by
  unfold chanFail
  repeat' first
    | with_reducible assumption
    | with_reducible apply chanFailing_BoundedBy
    | with_reducible apply raise_BoundedBy
    | with_reducible apply retirePend_BoundedBy
    | with_reducible apply BoundedBy_fold
    | with_reducible apply OptBounded_none
    | with_reducible apply OptBounded_some
    | with_reducible apply OptSndBounded_none
    | with_reducible apply OptSndBounded_some
    | intro _
    | dsimp only [BoundedBy_mk, refuse_st]
    | split

theorem noteErr_BoundedBy {N : Nat} (dram : Bool) (i word cls : Nat) (s : State) (hb : BoundedBy N s) : BoundedBy N (noteErr dram i word cls s) := by
  unfold noteErr
  repeat' first
    | with_reducible assumption
    | with_reducible apply setDdr_BoundedBy
    | with_reducible apply setSram_BoundedBy
    | with_reducible apply BoundedBy_fold
    | with_reducible apply OptBounded_none
    | with_reducible apply OptBounded_some
    | with_reducible apply OptSndBounded_none
    | with_reducible apply OptSndBounded_some
    | intro _
    | dsimp only [BoundedBy_mk, refuse_st]
    | split

theorem memCe_BoundedBy {N : Nat} (dram : Bool) (i word bit : Nat) (pass : Option Nat) (s : State) (hb : BoundedBy N s) : BoundedBy N (memCe dram i word bit pass s) := by
  unfold memCe
  repeat' first
    | with_reducible assumption
    | with_reducible apply chanFail_BoundedBy
    | with_reducible apply noteErr_BoundedBy
    | with_reducible apply raise_BoundedBy
    | with_reducible apply remapPend_BoundedBy
    | with_reducible apply setDdr_BoundedBy
    | with_reducible apply setSram_BoundedBy
    | with_reducible apply tick_BoundedBy
    | with_reducible apply BoundedBy_fold
    | with_reducible apply OptBounded_none
    | with_reducible apply OptBounded_some
    | with_reducible apply OptSndBounded_none
    | with_reducible apply OptSndBounded_some
    | intro _
    | dsimp only [BoundedBy_mk, refuse_st]
    | split

theorem memUe_BoundedBy {N : Nat} (dram : Bool) (i word action : Nat) (s : State) (hb : BoundedBy N s) : BoundedBy N (memUe dram i word action s) := by
  unfold memUe
  repeat' first
    | with_reducible assumption
    | with_reducible apply chanFail_BoundedBy
    | with_reducible apply noteErr_BoundedBy
    | with_reducible apply raise_BoundedBy
    | with_reducible apply remapPend_BoundedBy
    | with_reducible apply setDdr_BoundedBy
    | with_reducible apply tick_BoundedBy
    | with_reducible apply BoundedBy_fold
    | with_reducible apply OptBounded_none
    | with_reducible apply OptBounded_some
    | with_reducible apply OptSndBounded_none
    | with_reducible apply OptSndBounded_some
    | intro _
    | dsimp only [BoundedBy_mk, refuse_st]
    | split

theorem trainNext_BoundedBy {N : Nat} (s : State) (hb : BoundedBy N s) : BoundedBy N (trainNext s) := by
  unfold trainNext
  repeat' first
    | with_reducible assumption
    | with_reducible apply BoundedBy_fold
    | with_reducible apply OptBounded_none
    | with_reducible apply OptBounded_some
    | with_reducible apply OptSndBounded_none
    | with_reducible apply OptSndBounded_some
    | intro _
    | dsimp only [BoundedBy_mk, refuse_st]
    | split

end Sys2Proof.Machine
end

