-- ==== Sys2Proof/Laws/BoundsStore.lean ====
section
/-! SUPPORT. The operations of Machine/Store.lean keep the bounds of the host interface (Safety.lean). -/

namespace Sys2Proof.Machine

theorem setSlotHdr_BoundedBy {N : Nat} (h : SlotTile) (s : State) (hb : BoundedBy N s) : BoundedBy N (setSlotHdr h s) := by
  unfold setSlotHdr
  repeat' first
    | with_reducible assumption
    | with_reducible apply BoundedBy_fold
    | with_reducible apply OptBounded_none
    | with_reducible apply OptBounded_some
    | with_reducible apply OptSndBounded_none
    | with_reducible apply OptSndBounded_some
    | intro _
    | dsimp only [BoundedBy_mk, refuse_st]
    | split

theorem suppressSlot_BoundedBy {N : Nat} (g : Nat) (line : Int) (s : State) (hb : BoundedBy N s) : BoundedBy N (suppressSlot g line s) := by
  unfold suppressSlot
  repeat' first
    | with_reducible assumption
    | with_reducible apply setSlotHdr_BoundedBy
    | with_reducible apply BoundedBy_fold
    | with_reducible apply OptBounded_none
    | with_reducible apply OptBounded_some
    | with_reducible apply OptSndBounded_none
    | with_reducible apply OptSndBounded_some
    | intro _
    | dsimp only [BoundedBy_mk, refuse_st]
    | split

theorem writeSlot_BoundedBy {N : Nat} (g : Nat) (line : Int) (cols : List (Nat × Byte × Byte)) (s : State) (hb : BoundedBy N s) : BoundedBy N (writeSlot g line cols s) := by
  unfold writeSlot
  repeat' first
    | with_reducible assumption
    | with_reducible apply setSlotHdr_BoundedBy
    | with_reducible apply tick_BoundedBy
    | with_reducible apply foldl_BoundedBy
    | with_reducible apply BoundedBy_fold
    | with_reducible apply OptBounded_none
    | with_reducible apply OptBounded_some
    | with_reducible apply OptSndBounded_none
    | with_reducible apply OptSndBounded_some
    | intro _
    | dsimp only [BoundedBy_mk, refuse_st]
    | split

theorem clearSlot_BoundedBy {N : Nat} (g : Nat) (line : Int) (s : State) (hb : BoundedBy N s) : BoundedBy N (clearSlot g line s) := by
  unfold clearSlot
  repeat' first
    | with_reducible assumption
    | with_reducible apply BoundedBy_fold
    | with_reducible apply OptBounded_none
    | with_reducible apply OptBounded_some
    | with_reducible apply OptSndBounded_none
    | with_reducible apply OptSndBounded_some
    | intro _
    | dsimp only [BoundedBy_mk, refuse_st]
    | split

theorem writeBandLine_BoundedBy {N : Nat} (s : State) (p : Page) (g n : Nat) (pt : PipeTile) (bad : Option Nat) (hb : BoundedBy N s) : BoundedBy N (writeBandLine s p g n pt bad) := by
  unfold writeBandLine
  repeat' first
    | with_reducible assumption
    | with_reducible apply writeSlot_BoundedBy
    | with_reducible apply forList_BoundedBy
    | with_reducible apply forList_fst_BoundedBy
    | with_reducible apply BoundedBy_fold
    | with_reducible apply OptBounded_none
    | with_reducible apply OptBounded_some
    | with_reducible apply OptSndBounded_none
    | with_reducible apply OptSndBounded_some
    | intro _
    | dsimp only [BoundedBy_mk, refuse_st]
    | split

end Sys2Proof.Machine
end

