-- ==== Sys2Proof/Laws/BoundsEngines.lean ====
section
/-! SUPPORT. The operations of Machine/Engines.lean keep the bounds of the host interface (Safety.lean). -/

namespace Sys2Proof.Machine

theorem setEng_BoundedBy {N : Nat} (e : Nat) (f : Engine → Engine) (s : State) (hb : BoundedBy N s) : BoundedBy N (setEng e f s) := by
  unfold setEng
  repeat' first
    | with_reducible assumption
    | with_reducible apply BoundedBy_fold
    | with_reducible apply OptBounded_none
    | with_reducible apply OptBounded_some
    | with_reducible apply OptSndBounded_none
    | with_reducible apply OptSndBounded_some
    | intro _
    | dsimp only [BoundedBy_mk, refuse_st]
    | split

theorem engSettle_BoundedBy {N : Nat} (e : Nat) (s : State) (hb : BoundedBy N s) : BoundedBy N (engSettle e s) := by
  unfold engSettle
  repeat' first
    | with_reducible assumption
    | with_reducible apply complete_BoundedBy
    | with_reducible apply setEng_BoundedBy
    | with_reducible apply forList_BoundedBy
    | with_reducible apply forList_fst_BoundedBy
    | with_reducible apply BoundedBy_fold
    | with_reducible apply OptBounded_none
    | with_reducible apply OptBounded_some
    | with_reducible apply OptSndBounded_none
    | with_reducible apply OptSndBounded_some
    | intro _
    | dsimp only [BoundedBy_mk, refuse_st]
    | split

theorem startTest_BoundedBy {N : Nat} (e : Nat) (s : State) (hb : BoundedBy N s) : BoundedBy N (startTest e s) := by
  unfold startTest
  repeat' first
    | with_reducible assumption
    | with_reducible apply setEng_BoundedBy
    | with_reducible apply BoundedBy_fold
    | with_reducible apply OptBounded_none
    | with_reducible apply OptBounded_some
    | with_reducible apply OptSndBounded_none
    | with_reducible apply OptSndBounded_some
    | intro _
    | dsimp only [BoundedBy_mk, refuse_st]
    | split

theorem noteFence_BoundedBy {N : Nat} (e : Nat) (s : State) (hb : BoundedBy N s) : BoundedBy N (noteFence e s) := by
  unfold noteFence
  repeat' first
    | with_reducible assumption
    | with_reducible apply setEng_BoundedBy
    | with_reducible apply tick_BoundedBy
    | with_reducible apply BoundedBy_fold
    | with_reducible apply OptBounded_none
    | with_reducible apply OptBounded_some
    | with_reducible apply OptSndBounded_none
    | with_reducible apply OptSndBounded_some
    | intro _
    | dsimp only [BoundedBy_mk, refuse_st]
    | split

theorem fenceNow_BoundedBy {N : Nat} (e cause : Nat) (s : State) (hb : BoundedBy N s) : BoundedBy N (fenceNow e cause s) := by
  unfold fenceNow
  repeat' first
    | with_reducible assumption
    | with_reducible apply noteFence_BoundedBy
    | with_reducible apply raise_BoundedBy
    | with_reducible apply setEng_BoundedBy
    | with_reducible apply startTest_BoundedBy
    | with_reducible apply BoundedBy_fold
    | with_reducible apply OptBounded_none
    | with_reducible apply OptBounded_some
    | with_reducible apply OptSndBounded_none
    | with_reducible apply OptSndBounded_some
    | intro _
    | dsimp only [BoundedBy_mk, refuse_st]
    | split

theorem testNow_BoundedBy {N : Nat} (e : Nat) (s : State) (hb : BoundedBy N s) : BoundedBy N (testNow e s) := by
  unfold testNow
  repeat' first
    | with_reducible assumption
    | with_reducible apply setEng_BoundedBy
    | with_reducible apply startTest_BoundedBy
    | with_reducible apply BoundedBy_fold
    | with_reducible apply OptBounded_none
    | with_reducible apply OptBounded_some
    | with_reducible apply OptSndBounded_none
    | with_reducible apply OptSndBounded_some
    | intro _
    | dsimp only [BoundedBy_mk, refuse_st]
    | split

theorem setRun_BoundedBy {N : Nat} (page tile : Nat) (f : TileRun → TileRun) (s : State) (hb : BoundedBy N s) : BoundedBy N (setRun page tile f s) := by
  unfold setRun
  repeat' first
    | with_reducible assumption
    | with_reducible apply BoundedBy_fold
    | with_reducible apply OptBounded_none
    | with_reducible apply OptBounded_some
    | with_reducible apply OptSndBounded_none
    | with_reducible apply OptSndBounded_some
    | intro _
    | dsimp only [BoundedBy_mk, refuse_st]
    | split

theorem setLane_BoundedBy {N : Nat} (engine page tile : Nat) (f : Lane → Lane) (s : State) (hb : BoundedBy N s) : BoundedBy N (setLane engine page tile f s) := by
  unfold setLane
  repeat' first
    | with_reducible assumption
    | with_reducible apply BoundedBy_fold
    | with_reducible apply OptBounded_none
    | with_reducible apply OptBounded_some
    | with_reducible apply OptSndBounded_none
    | with_reducible apply OptSndBounded_some
    | intro _
    | dsimp only [BoundedBy_mk, refuse_st]
    | split

theorem dropLanes_BoundedBy {N : Nat} (e : Nat) (s : State) (hb : BoundedBy N s) : BoundedBy N (dropLanes e s) := by
  unfold dropLanes
  repeat' first
    | with_reducible assumption
    | with_reducible apply BoundedBy_fold
    | with_reducible apply OptBounded_none
    | with_reducible apply OptBounded_some
    | with_reducible apply OptSndBounded_none
    | with_reducible apply OptSndBounded_some
    | intro _
    | dsimp only [BoundedBy_mk, refuse_st]
    | split

theorem takeLanes_BoundedBy {N : Nat} (q e : Nat) (s : State) (hb : BoundedBy N s) : BoundedBy N (takeLanes q e s) := by
  unfold takeLanes
  repeat' first
    | with_reducible assumption
    | with_reducible apply BoundedBy_fold
    | with_reducible apply OptBounded_none
    | with_reducible apply OptBounded_some
    | with_reducible apply OptSndBounded_none
    | with_reducible apply OptSndBounded_some
    | intro _
    | dsimp only [BoundedBy_mk, refuse_st]
    | split

theorem engTake_BoundedBy {N : Nat} (e : Nat) (st : EngSt) (q : Option Nat) (s : State) (hb : BoundedBy N s) : BoundedBy N (engTake e st q s) := by
  unfold engTake
  repeat' first
    | with_reducible assumption
    | with_reducible apply setEng_BoundedBy
    | with_reducible apply BoundedBy_fold
    | with_reducible apply OptBounded_none
    | with_reducible apply OptBounded_some
    | with_reducible apply OptSndBounded_none
    | with_reducible apply OptSndBounded_some
    | intro _
    | dsimp only [BoundedBy_mk, refuse_st]
    | split

theorem replaysTo_BoundedBy {N : Nat} (q e : Nat) (s : State) (hb : BoundedBy N s) : BoundedBy N (replaysTo q e s) := by
  unfold replaysTo
  repeat' first
    | with_reducible assumption
    | with_reducible apply BoundedBy_fold
    | with_reducible apply OptBounded_none
    | with_reducible apply OptBounded_some
    | with_reducible apply OptSndBounded_none
    | with_reducible apply OptSndBounded_some
    | intro _
    | dsimp only [BoundedBy_mk, refuse_st]
    | split

theorem warm_BoundedBy {N : Nat} (q e : Nat) (s : State) (hb : BoundedBy N s) : BoundedBy N (warm q e s) := by
  unfold warm
  repeat' first
    | with_reducible assumption
    | with_reducible apply engTake_BoundedBy
    | with_reducible apply replaysTo_BoundedBy
    | with_reducible apply takeLanes_BoundedBy
    | with_reducible apply BoundedBy_fold
    | with_reducible apply OptBounded_none
    | with_reducible apply OptBounded_some
    | with_reducible apply OptSndBounded_none
    | with_reducible apply OptSndBounded_some
    | intro _
    | dsimp only [BoundedBy_mk, refuse_st]
    | split

theorem giveUnserved_BoundedBy {N : Nat} (s : State) (hb : BoundedBy N s) : BoundedBy N (giveUnserved s) := by
  unfold giveUnserved
  repeat' first
    | with_reducible assumption
    | with_reducible apply warm_BoundedBy
    | with_reducible apply iterate_BoundedBy
    | with_reducible apply BoundedBy_fold
    | with_reducible apply OptBounded_none
    | with_reducible apply OptBounded_some
    | with_reducible apply OptSndBounded_none
    | with_reducible apply OptSndBounded_some
    | intro _
    | dsimp only [BoundedBy_mk, refuse_st]
    | split

theorem toSpare_BoundedBy {N : Nat} (e : Nat) (s : State) (hb : BoundedBy N s) : BoundedBy N (toSpare e s) := by
  unfold toSpare
  repeat' first
    | with_reducible assumption
    | with_reducible apply dropLanes_BoundedBy
    | with_reducible apply engSettle_BoundedBy
    | with_reducible apply giveUnserved_BoundedBy
    | with_reducible apply setEng_BoundedBy
    | with_reducible apply BoundedBy_fold
    | with_reducible apply OptBounded_none
    | with_reducible apply OptBounded_some
    | with_reducible apply OptSndBounded_none
    | with_reducible apply OptSndBounded_some
    | intro _
    | dsimp only [BoundedBy_mk, refuse_st]
    | split

theorem assignQuartet_BoundedBy {N : Nat} (p : Page) (q : Nat) (s : State) (hb : BoundedBy N s) : BoundedBy N (assignQuartet p q s) := by
  unfold assignQuartet
  repeat' first
    | with_reducible assumption
    | with_reducible apply engSettle_BoundedBy
    | with_reducible apply engTake_BoundedBy
    | with_reducible apply BoundedBy_fold
    | with_reducible apply OptBounded_none
    | with_reducible apply OptBounded_some
    | with_reducible apply OptSndBounded_none
    | with_reducible apply OptSndBounded_some
    | intro _
    | dsimp only [BoundedBy_mk, refuse_st]
    | split

theorem assignPage_BoundedBy {N : Nat} (p : Page) (s : State) (hb : BoundedBy N s) : BoundedBy N (assignPage p s) := by
  unfold assignPage
  repeat' first
    | with_reducible assumption
    | with_reducible apply assignQuartet_BoundedBy
    | with_reducible apply forRange_BoundedBy
    | with_reducible apply forList_BoundedBy
    | with_reducible apply forRange_fst_BoundedBy
    | with_reducible apply forList_fst_BoundedBy
    | with_reducible apply BoundedBy_fold
    | with_reducible apply OptBounded_none
    | with_reducible apply OptBounded_some
    | with_reducible apply OptSndBounded_none
    | with_reducible apply OptSndBounded_some
    | intro _
    | dsimp only [BoundedBy_mk, refuse_st]
    | split

theorem rotateCancel_BoundedBy {N : Nat} (keep : Nat) (s : State) (hb : BoundedBy N s) : BoundedBy N (rotateCancel keep s) := by
  unfold rotateCancel
  repeat' first
    | with_reducible assumption
    | with_reducible apply dropLanes_BoundedBy
    | with_reducible apply takeLanes_BoundedBy
    | with_reducible apply BoundedBy_fold
    | with_reducible apply OptBounded_none
    | with_reducible apply OptBounded_some
    | with_reducible apply OptSndBounded_none
    | with_reducible apply OptSndBounded_some
    | intro _
    | dsimp only [BoundedBy_mk, refuse_st]
    | split

theorem countReplay_BoundedBy {N : Nat} (st cause : Nat) (s : State) (hb : BoundedBy N s) : BoundedBy N (countReplay st cause s) := by
  unfold countReplay
  repeat' first
    | with_reducible assumption
    | with_reducible apply tick_BoundedBy
    | with_reducible apply BoundedBy_fold
    | with_reducible apply OptBounded_none
    | with_reducible apply OptBounded_some
    | with_reducible apply OptSndBounded_none
    | with_reducible apply OptSndBounded_some
    | intro _
    | dsimp only [BoundedBy_mk, refuse_st]
    | split

theorem addReplay_BoundedBy {N : Nat} (cause : Nat) (failing : Option Nat) (page tile : Nat) (block : Option Nat) (lines : List Nat) (engine : Option Nat) (seen : Option FailSeen) (s : State) (hb : BoundedBy N s) : BoundedBy N (addReplay cause failing page tile block lines engine seen s) := by
  unfold addReplay
  repeat' first
    | with_reducible assumption
    | with_reducible apply countReplay_BoundedBy
    | with_reducible apply BoundedBy_fold
    | with_reducible apply OptBounded_none
    | with_reducible apply OptBounded_some
    | with_reducible apply OptSndBounded_none
    | with_reducible apply OptSndBounded_some
    | intro _
    | dsimp only [BoundedBy_mk, refuse_st]
    | split

theorem engineReplays_BoundedBy {N : Nat} (e cause : Nat) (s : State) (hb : BoundedBy N s) : BoundedBy N (engineReplays e cause s) := by
  unfold engineReplays
  repeat' first
    | with_reducible assumption
    | with_reducible apply addReplay_BoundedBy
    | with_reducible apply forList_BoundedBy
    | with_reducible apply forList_fst_BoundedBy
    | with_reducible apply BoundedBy_fold
    | with_reducible apply OptBounded_none
    | with_reducible apply OptBounded_some
    | with_reducible apply OptSndBounded_none
    | with_reducible apply OptSndBounded_some
    | intro _
    | dsimp only [BoundedBy_mk, refuse_st]
    | split

theorem badLines_BoundedBy {N : Nat} (page tile cause : Nat) (lines : List Nat) (s : State) (hb : BoundedBy N s) : BoundedBy N (badLines page tile cause lines s) := by
  unfold badLines
  repeat' first
    | with_reducible assumption
    | with_reducible apply setRun_BoundedBy
    | with_reducible apply BoundedBy_fold
    | with_reducible apply OptBounded_none
    | with_reducible apply OptBounded_some
    | with_reducible apply OptSndBounded_none
    | with_reducible apply OptSndBounded_some
    | intro _
    | dsimp only [BoundedBy_mk, refuse_st]
    | split

theorem replaysFrom_BoundedBy {N : Nat} (e : Nat) (s : State) (hb : BoundedBy N s) : BoundedBy N (replaysFrom e s) := by
  unfold replaysFrom
  repeat' first
    | with_reducible assumption
    | with_reducible apply badLines_BoundedBy
    | with_reducible apply forList_BoundedBy
    | with_reducible apply forList_fst_BoundedBy
    | with_reducible apply BoundedBy_fold
    | with_reducible apply OptBounded_none
    | with_reducible apply OptBounded_some
    | with_reducible apply OptSndBounded_none
    | with_reducible apply OptSndBounded_some
    | intro _
    | dsimp only [BoundedBy_mk, refuse_st]
    | split

theorem dropReplayEngine_BoundedBy {N : Nat} (e : Nat) (s : State) (hb : BoundedBy N s) : BoundedBy N (dropReplayEngine e s) := by
  unfold dropReplayEngine
  repeat' first
    | with_reducible assumption
    | with_reducible apply BoundedBy_fold
    | with_reducible apply OptBounded_none
    | with_reducible apply OptBounded_some
    | with_reducible apply OptSndBounded_none
    | with_reducible apply OptSndBounded_some
    | intro _
    | dsimp only [BoundedBy_mk, refuse_st]
    | split

theorem engFail_BoundedBy {N : Nat} (e cause : Nat) (fence : Bool) (s : State) (hb : BoundedBy N s) : BoundedBy N (engFail e cause fence s) := by
  unfold engFail
  repeat' first
    | with_reducible assumption
    | with_reducible apply dropLanes_BoundedBy
    | with_reducible apply dropReplayEngine_BoundedBy
    | with_reducible apply engineReplays_BoundedBy
    | with_reducible apply fenceNow_BoundedBy
    | with_reducible apply raise_BoundedBy
    | with_reducible apply replaysFrom_BoundedBy
    | with_reducible apply replaysTo_BoundedBy
    | with_reducible apply rotateCancel_BoundedBy
    | with_reducible apply setEng_BoundedBy
    | with_reducible apply testNow_BoundedBy
    | with_reducible apply warm_BoundedBy
    | with_reducible apply BoundedBy_fold
    | with_reducible apply OptBounded_none
    | with_reducible apply OptBounded_some
    | with_reducible apply OptSndBounded_none
    | with_reducible apply OptSndBounded_some
    | intro _
    | dsimp only [BoundedBy_mk, refuse_st]
    | split

theorem moveApply_BoundedBy {N : Nat} (e : Nat) (s : State) (hb : BoundedBy N s) : BoundedBy N (moveApply e s) := by
  unfold moveApply
  repeat' first
    | with_reducible assumption
    | with_reducible apply fenceNow_BoundedBy
    | with_reducible apply testNow_BoundedBy
    | with_reducible apply BoundedBy_fold
    | with_reducible apply OptBounded_none
    | with_reducible apply OptBounded_some
    | with_reducible apply OptSndBounded_none
    | with_reducible apply OptSndBounded_some
    | intro _
    | dsimp only [BoundedBy_mk, refuse_st]
    | split

theorem movesNow_BoundedBy {N : Nat} (s : State) (hb : BoundedBy N s) : BoundedBy N (movesNow s) := by
  unfold movesNow
  repeat' first
    | with_reducible assumption
    | with_reducible apply giveUnserved_BoundedBy
    | with_reducible apply moveApply_BoundedBy
    | with_reducible apply forList_BoundedBy
    | with_reducible apply forList_fst_BoundedBy
    | with_reducible apply BoundedBy_fold
    | with_reducible apply OptBounded_none
    | with_reducible apply OptBounded_some
    | with_reducible apply OptSndBounded_none
    | with_reducible apply OptSndBounded_some
    | intro _
    | dsimp only [BoundedBy_mk, refuse_st]
    | split

theorem replayEnd_BoundedBy {N : Nat} (r : Replay) (outcome : Nat) (s : State) (hb : BoundedBy N s) : BoundedBy N (replayEnd r outcome s) := by
  unfold replayEnd
  repeat' first
    | with_reducible assumption
    | with_reducible apply giveUnserved_BoundedBy
    | with_reducible apply raise_BoundedBy
    | with_reducible apply setEng_BoundedBy
    | with_reducible apply startTest_BoundedBy
    | with_reducible apply BoundedBy_fold
    | with_reducible apply OptBounded_none
    | with_reducible apply OptBounded_some
    | with_reducible apply OptSndBounded_none
    | with_reducible apply OptSndBounded_some
    | intro _
    | dsimp only [BoundedBy_mk, refuse_st]
    | split

theorem lineGone_BoundedBy {N : Nat} (page tile n outcome : Nat) (s : State) (hb : BoundedBy N s) : BoundedBy N (lineGone page tile n outcome s) := by
  unfold lineGone
  repeat' first
    | with_reducible assumption
    | with_reducible apply replayEnd_BoundedBy
    | with_reducible apply forList_BoundedBy
    | with_reducible apply forList_fst_BoundedBy
    | with_reducible apply BoundedBy_fold
    | with_reducible apply OptBounded_none
    | with_reducible apply OptBounded_some
    | with_reducible apply OptSndBounded_none
    | with_reducible apply OptSndBounded_some
    | intro _
    | dsimp only [BoundedBy_mk, refuse_st]
    | split

theorem slackNote_BoundedBy {N : Nat} (st e : Nat) (slack : Int) (id line : Nat) (s : State) (hb : BoundedBy N s) : BoundedBy N (slackNote st e slack id line s) := by
  unfold slackNote
  repeat' first
    | with_reducible assumption
    | with_reducible apply raise_BoundedBy
    | with_reducible apply BoundedBy_fold
    | with_reducible apply OptBounded_none
    | with_reducible apply OptBounded_some
    | with_reducible apply OptSndBounded_none
    | with_reducible apply OptSndBounded_some
    | intro _
    | dsimp only [BoundedBy_mk, refuse_st]
    | split

theorem releaseLine_BoundedBy {N : Nat} (p : Page) (tile n e : Nat) (s : State) (hb : BoundedBy N s) : BoundedBy N (releaseLine p tile n e s) := by
  unfold releaseLine
  repeat' first
    | with_reducible assumption
    | with_reducible apply lineGone_BoundedBy
    | with_reducible apply setRun_BoundedBy
    | with_reducible apply slackNote_BoundedBy
    | with_reducible apply tick_BoundedBy
    | with_reducible apply BoundedBy_fold
    | with_reducible apply OptBounded_none
    | with_reducible apply OptBounded_some
    | with_reducible apply OptSndBounded_none
    | with_reducible apply OptSndBounded_some
    | intro _
    | dsimp only [BoundedBy_mk, refuse_st]
    | split

theorem suppressLine_BoundedBy {N : Nat} (p : Page) (tile n : Nat) (s : State) (hb : BoundedBy N s) : BoundedBy N (suppressLine p tile n s) := by
  unfold suppressLine
  repeat' first
    | with_reducible assumption
    | with_reducible apply lineGone_BoundedBy
    | with_reducible apply raise_BoundedBy
    | with_reducible apply setRun_BoundedBy
    | with_reducible apply spoil_BoundedBy
    | with_reducible apply suppressSlot_BoundedBy
    | with_reducible apply tick_BoundedBy
    | with_reducible apply forList_BoundedBy
    | with_reducible apply forList_fst_BoundedBy
    | with_reducible apply BoundedBy_fold
    | with_reducible apply OptBounded_none
    | with_reducible apply OptBounded_some
    | with_reducible apply OptSndBounded_none
    | with_reducible apply OptSndBounded_some
    | intro _
    | dsimp only [BoundedBy_mk, refuse_st]
    | split

theorem blockFail_BoundedBy {N : Nat} (l : Lane) (p : Page) (block cause : Nat) (seen : Option FailSeen) (s : State) (hb : BoundedBy N s) : BoundedBy N (blockFail l p block cause seen s) := by
  unfold blockFail
  repeat' first
    | with_reducible assumption
    | with_reducible apply addReplay_BoundedBy
    | with_reducible apply setLane_BoundedBy
    | with_reducible apply BoundedBy_fold
    | with_reducible apply OptBounded_none
    | with_reducible apply OptBounded_some
    | with_reducible apply OptSndBounded_none
    | with_reducible apply OptSndBounded_some
    | intro _
    | dsimp only [BoundedBy_mk, refuse_st]
    | split

theorem expBoundary_BoundedBy {N : Nat} (st : Nat) (k : Int) (s : State) (hb : BoundedBy N s) : BoundedBy N (expBoundary st k s) := by
  unfold expBoundary
  repeat' first
    | with_reducible assumption
    | with_reducible apply engFail_BoundedBy
    | with_reducible apply giveUnserved_BoundedBy
    | with_reducible apply moveApply_BoundedBy
    | with_reducible apply suppressLine_BoundedBy
    | with_reducible apply forList_BoundedBy
    | with_reducible apply forList_fst_BoundedBy
    | with_reducible apply BoundedBy_fold
    | with_reducible apply OptBounded_none
    | with_reducible apply OptBounded_some
    | with_reducible apply OptSndBounded_none
    | with_reducible apply OptSndBounded_some
    | intro _
    | dsimp only [BoundedBy_mk, refuse_st]
    | split

theorem releaseQuartet_BoundedBy {N : Nat} (q : Nat) (s : State) (hb : BoundedBy N s) : BoundedBy N (releaseQuartet q s) := by
  unfold releaseQuartet
  repeat' first
    | with_reducible assumption
    | with_reducible apply dropLanes_BoundedBy
    | with_reducible apply setEng_BoundedBy
    | with_reducible apply toSpare_BoundedBy
    | with_reducible apply forList_BoundedBy
    | with_reducible apply forList_fst_BoundedBy
    | with_reducible apply BoundedBy_fold
    | with_reducible apply OptBounded_none
    | with_reducible apply OptBounded_some
    | with_reducible apply OptSndBounded_none
    | with_reducible apply OptSndBounded_some
    | intro _
    | dsimp only [BoundedBy_mk, refuse_st]
    | split

theorem releaseStation_BoundedBy {N : Nat} (st : Nat) (s : State) (hb : BoundedBy N s) : BoundedBy N (releaseStation st s) := by
  unfold releaseStation
  repeat' first
    | with_reducible assumption
    | with_reducible apply releaseQuartet_BoundedBy
    | with_reducible apply forRange_BoundedBy
    | with_reducible apply forRange_fst_BoundedBy
    | with_reducible apply BoundedBy_fold
    | with_reducible apply OptBounded_none
    | with_reducible apply OptBounded_some
    | with_reducible apply OptSndBounded_none
    | with_reducible apply OptSndBounded_some
    | intro _
    | dsimp only [BoundedBy_mk, refuse_st]
    | split

theorem rotateHandover_BoundedBy {N : Nat} (st : Nat) (s : State) (hb : BoundedBy N s) : BoundedBy N (rotateHandover st s) := by
  unfold rotateHandover
  repeat' first
    | with_reducible assumption
    | with_reducible apply dropLanes_BoundedBy
    | with_reducible apply giveUnserved_BoundedBy
    | with_reducible apply testNow_BoundedBy
    | with_reducible apply tick_BoundedBy
    | with_reducible apply BoundedBy_fold
    | with_reducible apply OptBounded_none
    | with_reducible apply OptBounded_some
    | with_reducible apply OptSndBounded_none
    | with_reducible apply OptSndBounded_some
    | intro _
    | dsimp only [BoundedBy_mk, refuse_st]
    | split

theorem expForget_BoundedBy {N : Nat} (page : Nat) (s : State) (hb : BoundedBy N s) : BoundedBy N (expForget page s) := by
  unfold expForget
  repeat' first
    | with_reducible assumption
    | with_reducible apply BoundedBy_fold
    | with_reducible apply OptBounded_none
    | with_reducible apply OptBounded_some
    | with_reducible apply OptSndBounded_none
    | with_reducible apply OptSndBounded_some
    | intro _
    | dsimp only [BoundedBy_mk, refuse_st]
    | split

end Sys2Proof.Machine
end

