-- ==== Sys2Proof/Laws/BoundsCalSpan.lean ====
section
/-! SUPPORT. The operations of Machine/CalSpan.lean keep the bounds of the host interface (Safety.lean). -/

namespace Sys2Proof.Machine

theorem pageArrived_BoundedBy {N : Nat} (st : Nat) (s : State) (hb : BoundedBy N s) : BoundedBy N (pageArrived st s) := by
  unfold pageArrived
  repeat' first
    | with_reducible assumption
    | with_reducible apply BoundedBy_fold
    | with_reducible apply OptBounded_none
    | with_reducible apply OptBounded_some
    | with_reducible apply OptSndBounded_none
    | with_reducible apply OptSndBounded_some
    | intro _
    | dsimp only [BoundedBy_mk, refuse_st]
    | split

theorem spanPlan_BoundedBy {N : Nat} (st : Nat) (p : Page) (tile n : Nat) (s : State) (hb : BoundedBy N s) : BoundedBy N (spanPlan st p tile n s) := by
  unfold spanPlan
  repeat' first
    | with_reducible assumption
    | with_reducible apply pageArrived_BoundedBy
    | with_reducible apply tick_BoundedBy
    | with_reducible apply BoundedBy_fold
    | with_reducible apply OptBounded_none
    | with_reducible apply OptBounded_some
    | with_reducible apply OptSndBounded_none
    | with_reducible apply OptSndBounded_some
    | intro _
    | dsimp only [BoundedBy_mk, refuse_st]
    | split

theorem spanNote_BoundedBy {N : Nat} (p : Page) (tile n : Nat) (tones : Unit → List Nat) (s : State) (hb : BoundedBy N s) : BoundedBy N (spanNote p tile n tones s) := by
  unfold spanNote
  repeat' first
    | with_reducible assumption
    | with_reducible apply spanPlan_BoundedBy
    | with_reducible apply forList_BoundedBy
    | with_reducible apply forList_fst_BoundedBy
    | with_reducible apply BoundedBy_fold
    | with_reducible apply OptBounded_none
    | with_reducible apply OptBounded_some
    | with_reducible apply OptSndBounded_none
    | with_reducible apply OptSndBounded_some
    | intro _
    | dsimp only [BoundedBy_mk, refuse_st]
    | split

end Sys2Proof.Machine
end

