-- ==== Sys2Proof/Laws/BoundsCalCore.lean ====
section
/-! SUPPORT. The operations of Machine/CalCore.lean keep the bounds of the host interface (Safety.lean). -/

namespace Sys2Proof.Machine

theorem setCal_BoundedBy {N : Nat} (kind subj : Nat) (f : CalRun → CalRun) (s : State) (hb : BoundedBy N s) : BoundedBy N (setCal kind subj f s) := by
  unfold setCal
  repeat' first
    | with_reducible assumption
    | with_reducible apply BoundedBy_fold
    | with_reducible apply OptBounded_none
    | with_reducible apply OptBounded_some
    | with_reducible apply OptSndBounded_none
    | with_reducible apply OptSndBounded_some
    | intro _
    | dsimp only [BoundedBy_mk, refuse_st]
    | split

theorem spanDrop_BoundedBy {N : Nat} (st : Nat) (s : State) (hb : BoundedBy N s) : BoundedBy N (spanDrop st s) := by
  unfold spanDrop
  repeat' first
    | with_reducible assumption
    | with_reducible apply BoundedBy_fold
    | with_reducible apply OptBounded_none
    | with_reducible apply OptBounded_some
    | with_reducible apply OptSndBounded_none
    | with_reducible apply OptSndBounded_some
    | intro _
    | dsimp only [BoundedBy_mk, refuse_st]
    | split

theorem calEnd_BoundedBy {N : Nat} (kind subj : Nat) (s : State) (hb : BoundedBy N s) : BoundedBy N (calEnd kind subj s) := by
  unfold calEnd
  repeat' first
    | with_reducible assumption
    | with_reducible apply raise_BoundedBy
    | with_reducible apply setCal_BoundedBy
    | with_reducible apply spanDrop_BoundedBy
    | with_reducible apply tick_BoundedBy
    | with_reducible apply BoundedBy_fold
    | with_reducible apply OptBounded_none
    | with_reducible apply OptBounded_some
    | with_reducible apply OptSndBounded_none
    | with_reducible apply OptSndBounded_some
    | intro _
    | dsimp only [BoundedBy_mk, refuse_st]
    | split

theorem calQuit_BoundedBy {N : Nat} (kind subj : Nat) (s : State) (hb : BoundedBy N s) : BoundedBy N (calQuit kind subj s) := by
  unfold calQuit
  repeat' first
    | with_reducible assumption
    | with_reducible apply setCal_BoundedBy
    | with_reducible apply spanDrop_BoundedBy
    | with_reducible apply BoundedBy_fold
    | with_reducible apply OptBounded_none
    | with_reducible apply OptBounded_some
    | with_reducible apply OptSndBounded_none
    | with_reducible apply OptSndBounded_some
    | intro _
    | dsimp only [BoundedBy_mk, refuse_st]
    | split

theorem axisWindow_BoundedBy {N : Nat} (a : Nat) (keepFirst : Bool) (s : State) (hb : BoundedBy N s) : BoundedBy N (axisWindow a keepFirst s) := by
  unfold axisWindow
  repeat' first
    | with_reducible assumption
    | with_reducible apply BoundedBy_fold
    | with_reducible apply OptBounded_none
    | with_reducible apply OptBounded_some
    | with_reducible apply OptSndBounded_none
    | with_reducible apply OptSndBounded_some
    | intro _
    | dsimp only [BoundedBy_mk, refuse_st]
    | split

theorem calNext_BoundedBy {N : Nat} (kind subj : Nat) (keepFirst : Bool) (s : State) (hb : BoundedBy N s) : BoundedBy N (calNext kind subj keepFirst s) := by
  unfold calNext
  repeat' first
    | with_reducible assumption
    | with_reducible apply axisWindow_BoundedBy
    | with_reducible apply calEnd_BoundedBy
    | with_reducible apply setCal_BoundedBy
    | with_reducible apply BoundedBy_fold
    | with_reducible apply OptBounded_none
    | with_reducible apply OptBounded_some
    | with_reducible apply OptSndBounded_none
    | with_reducible apply OptSndBounded_some
    | intro _
    | dsimp only [BoundedBy_mk, refuse_st]
    | split

theorem calFail_BoundedBy {N : Nat} (kind subj mask cause : Nat) (s : State) (hb : BoundedBy N s) : BoundedBy N (calFail kind subj mask cause s) := by
  unfold calFail
  repeat' first
    | with_reducible assumption
    | with_reducible apply raise_BoundedBy
    | with_reducible apply setCal_BoundedBy
    | with_reducible apply tick_BoundedBy
    | with_reducible apply BoundedBy_fold
    | with_reducible apply OptBounded_none
    | with_reducible apply OptBounded_some
    | with_reducible apply OptSndBounded_none
    | with_reducible apply OptSndBounded_some
    | intro _
    | dsimp only [BoundedBy_mk, refuse_st]
    | split

theorem calReset_BoundedBy {N : Nat} (st mask : Nat) (kinds : Nat → Bool) (s : State) (hb : BoundedBy N s) : BoundedBy N (calReset st mask kinds s) := by
  unfold calReset
  repeat' first
    | with_reducible assumption
    | with_reducible apply calFail_BoundedBy
    | with_reducible apply calNext_BoundedBy
    | with_reducible apply forRange_BoundedBy
    | with_reducible apply forRange_fst_BoundedBy
    | with_reducible apply BoundedBy_fold
    | with_reducible apply OptBounded_none
    | with_reducible apply OptBounded_some
    | with_reducible apply OptSndBounded_none
    | with_reducible apply OptSndBounded_some
    | intro _
    | dsimp only [BoundedBy_mk, refuse_st]
    | split

theorem calResetTile_BoundedBy {N : Nat} (g : Nat) (s : State) (hb : BoundedBy N s) : BoundedBy N (calResetTile g s) := by
  unfold calResetTile
  repeat' first
    | with_reducible assumption
    | with_reducible apply calReset_BoundedBy
    | with_reducible apply BoundedBy_fold
    | with_reducible apply OptBounded_none
    | with_reducible apply OptBounded_some
    | with_reducible apply OptSndBounded_none
    | with_reducible apply OptSndBounded_some
    | intro _
    | dsimp only [BoundedBy_mk, refuse_st]
    | split

end Sys2Proof.Machine
end

