-- ==== Sys2Proof/Laws/BoundsReadout.lean ====
section
/-! SUPPORT. The operations of Machine/Readout.lean keep the bounds of the host interface (Safety.lean). -/

namespace Sys2Proof.Machine

theorem spoilRow_BoundedBy {N : Nat} (g : Nat) (q : Int) (reason : Nat) (s : State) (hb : BoundedBy N s) : BoundedBy N (spoilRow g q reason s) := by
  unfold spoilRow
  repeat' first
    | with_reducible assumption
    | with_reducible apply spoil_BoundedBy
    | with_reducible apply forList_BoundedBy
    | with_reducible apply forList_fst_BoundedBy
    | with_reducible apply BoundedBy_fold
    | with_reducible apply OptBounded_none
    | with_reducible apply OptBounded_some
    | with_reducible apply OptSndBounded_none
    | with_reducible apply OptSndBounded_some
    | intro _
    | dsimp only [BoundedBy_mk, refuse_st]
    | split

theorem readSlot_BoundedBy {N : Nat} (g : Nat) (q : Int) (rowB : Bool) (s : State) (hb : BoundedBy N s) : BoundedBy N (readSlot g q rowB s) := by
  unfold readSlot
  repeat' first
    | with_reducible assumption
    | with_reducible apply raise_BoundedBy
    | with_reducible apply spoilRow_BoundedBy
    | with_reducible apply suppressSlot_BoundedBy
    | with_reducible apply tick_BoundedBy
    | with_reducible apply BoundedBy_fold
    | with_reducible apply OptBounded_none
    | with_reducible apply OptBounded_some
    | with_reducible apply OptSndBounded_none
    | with_reducible apply OptSndBounded_some
    | intro _
    | dsimp only [BoundedBy_mk, refuse_st]
    | split

theorem delayUpdate_BoundedBy {N : Nat} (st : Nat) (s : State) (hb : BoundedBy N s) : BoundedBy N (delayUpdate st s) := by
  unfold delayUpdate
  repeat' first
    | with_reducible assumption
    | with_reducible apply calNext_BoundedBy
    | with_reducible apply raise_BoundedBy
    | with_reducible apply setDly_BoundedBy
    | with_reducible apply tick_BoundedBy
    | with_reducible apply BoundedBy_fold
    | with_reducible apply OptBounded_none
    | with_reducible apply OptBounded_some
    | with_reducible apply OptSndBounded_none
    | with_reducible apply OptSndBounded_some
    | intro _
    | dsimp only [BoundedBy_mk, refuse_st]
    | split

theorem overrideUpdate_BoundedBy {N : Nat} (st : Nat) (k : Int) (s : State) (hb : BoundedBy N s) : BoundedBy N (overrideUpdate st k s) := by
  unfold overrideUpdate
  repeat' first
    | with_reducible assumption
    | with_reducible apply BoundedBy_fold
    | with_reducible apply OptBounded_none
    | with_reducible apply OptBounded_some
    | with_reducible apply OptSndBounded_none
    | with_reducible apply OptSndBounded_some
    | intro _
    | dsimp only [BoundedBy_mk, refuse_st]
    | split

theorem recDirty_BoundedBy {N : Nat} (kind loc : Nat) (s : State) (hb : BoundedBy N s) : BoundedBy N (recDirty kind loc s) := by
  unfold recDirty
  repeat' first
    | with_reducible assumption
    | with_reducible apply BoundedBy_fold
    | with_reducible apply OptBounded_none
    | with_reducible apply OptBounded_some
    | with_reducible apply OptSndBounded_none
    | with_reducible apply OptSndBounded_some
    | intro _
    | dsimp only [BoundedBy_mk, refuse_st]
    | split

theorem toneStep_BoundedBy {N : Nat} (st col : Nat) (want : List Nat) (k : Int) (s : State) (hb : BoundedBy N s) : BoundedBy N (toneStep st col want k s) := by
  unfold toneStep
  repeat' first
    | with_reducible assumption
    | with_reducible apply recDirty_BoundedBy
    | with_reducible apply tick_BoundedBy
    | with_reducible apply BoundedBy_fold
    | with_reducible apply OptBounded_none
    | with_reducible apply OptBounded_some
    | with_reducible apply OptSndBounded_none
    | with_reducible apply OptSndBounded_some
    | intro _
    | dsimp only [BoundedBy_mk, refuse_st]
    | split

theorem neutralEnd_BoundedBy {N : Nat} (s : State) (hb : BoundedBy N s) : BoundedBy N (neutralEnd s) := by
  unfold neutralEnd
  repeat' first
    | with_reducible assumption
    | with_reducible apply complete_BoundedBy
    | with_reducible apply forList_BoundedBy
    | with_reducible apply forList_fst_BoundedBy
    | with_reducible apply BoundedBy_fold
    | with_reducible apply OptBounded_none
    | with_reducible apply OptBounded_some
    | with_reducible apply OptSndBounded_none
    | with_reducible apply OptSndBounded_some
    | intro _
    | dsimp only [BoundedBy_mk, refuse_st]
    | split

theorem setTonePtr_BoundedBy {N : Nat} (st c : Nat) (s : State) (hb : BoundedBy N s) : BoundedBy N (setTonePtr st c s) := by
  unfold setTonePtr
  repeat' first
    | with_reducible assumption
    | with_reducible apply BoundedBy_fold
    | with_reducible apply OptBounded_none
    | with_reducible apply OptBounded_some
    | with_reducible apply OptSndBounded_none
    | with_reducible apply OptSndBounded_some
    | intro _
    | dsimp only [BoundedBy_mk, refuse_st]
    | split

theorem tonePass_BoundedBy {N : Nat} (st : Nat) (s : State) (hb : BoundedBy N s) : BoundedBy N (tonePass st s) := by
  unfold tonePass
  repeat' first
    | with_reducible assumption
    | with_reducible apply setTonePtr_BoundedBy
    | with_reducible apply BoundedBy_fold
    | with_reducible apply OptBounded_none
    | with_reducible apply OptBounded_some
    | with_reducible apply OptSndBounded_none
    | with_reducible apply OptSndBounded_some
    | intro _
    | dsimp only [BoundedBy_mk, refuse_st]
    | split

theorem toneUpdate_BoundedBy {N : Nat} (st : Nat) (k : Int) (s : State) (hb : BoundedBy N s) : BoundedBy N (toneUpdate st k s) := by
  unfold toneUpdate
  repeat' first
    | with_reducible assumption
    | with_reducible apply neutralEnd_BoundedBy
    | with_reducible apply setCal_BoundedBy
    | with_reducible apply setTonePtr_BoundedBy
    | with_reducible apply toneStep_BoundedBy
    | with_reducible apply BoundedBy_fold
    | with_reducible apply OptBounded_none
    | with_reducible apply OptBounded_some
    | with_reducible apply OptSndBounded_none
    | with_reducible apply OptSndBounded_some
    | intro _
    | dsimp only [BoundedBy_mk, refuse_st]
    | split

end Sys2Proof.Machine
end

