-- ==== Sys2Proof/Laws/BoundsTiles.lean ====
section
/-! SUPPORT. The operations of Machine/Tiles.lean keep the bounds of the host interface (Safety.lean). -/

namespace Sys2Proof.Machine

theorem setTile_BoundedBy {N : Nat} (g : Nat) (f : Tile → Tile) (s : State) (hb : BoundedBy N s) : BoundedBy N (setTile g f s) := by
  unfold setTile
  repeat' first
    | with_reducible assumption
    | with_reducible apply BoundedBy_fold
    | with_reducible apply OptBounded_none
    | with_reducible apply OptBounded_some
    | with_reducible apply OptSndBounded_none
    | with_reducible apply OptSndBounded_some
    | intro _
    | dsimp only [BoundedBy_mk, refuse_st]
    | split

theorem queueCodes_BoundedBy {N : Nat} (g : Nat) (entries : List Nat) (fresh : Bool) (s : State) (hb : BoundedBy N s) : BoundedBy N (queueCodes g entries fresh s) := by
  unfold queueCodes
  repeat' first
    | with_reducible assumption
    | with_reducible apply setTile_BoundedBy
    | with_reducible apply BoundedBy_fold
    | with_reducible apply OptBounded_none
    | with_reducible apply OptBounded_some
    | with_reducible apply OptSndBounded_none
    | with_reducible apply OptSndBounded_some
    | intro _
    | dsimp only [BoundedBy_mk, refuse_st]
    | split

theorem recStale_BoundedBy {N : Nat} (kind loc serial gen : Nat) (host : Bool) (s : State) (hb : BoundedBy N s) : BoundedBy N (recStale kind loc serial gen host s) := by
  unfold recStale
  repeat' first
    | with_reducible assumption
    | with_reducible apply raise_BoundedBy
    | with_reducible apply tick_BoundedBy
    | with_reducible apply BoundedBy_fold
    | with_reducible apply OptBounded_none
    | with_reducible apply OptBounded_some
    | with_reducible apply OptSndBounded_none
    | with_reducible apply OptSndBounded_some
    | intro _
    | dsimp only [BoundedBy_mk, refuse_st]
    | split

theorem toneAtOnce_BoundedBy {N : Nat} (st col : Nat) (knots : List Nat) (s : State) (hb : BoundedBy N s) : BoundedBy N (toneAtOnce st col knots s) := by
  unfold toneAtOnce
  repeat' first
    | with_reducible assumption
    | with_reducible apply BoundedBy_fold
    | with_reducible apply OptBounded_none
    | with_reducible apply OptBounded_some
    | with_reducible apply OptSndBounded_none
    | with_reducible apply OptSndBounded_some
    | intro _
    | dsimp only [BoundedBy_mk, refuse_st]
    | split

theorem moveCurves_BoundedBy {N : Nat} (g : Nat) (curves : List (Nat × List Nat)) (fresh : Bool) (s : State) (hb : BoundedBy N s) : BoundedBy N (moveCurves g curves fresh s) := by
  unfold moveCurves
  repeat' first
    | with_reducible assumption
    | with_reducible apply toneAtOnce_BoundedBy
    | with_reducible apply forList_BoundedBy
    | with_reducible apply forList_fst_BoundedBy
    | with_reducible apply BoundedBy_fold
    | with_reducible apply OptBounded_none
    | with_reducible apply OptBounded_some
    | with_reducible apply OptSndBounded_none
    | with_reducible apply OptSndBounded_some
    | intro _
    | dsimp only [BoundedBy_mk, refuse_st]
    | split

theorem recordLost_BoundedBy {N : Nat} (g copy : Nat) (s : State) (hb : BoundedBy N s) : BoundedBy N (recordLost g copy s) := by
  unfold recordLost
  repeat' first
    | with_reducible assumption
    | with_reducible apply recDirty_BoundedBy
    | with_reducible apply BoundedBy_fold
    | with_reducible apply OptBounded_none
    | with_reducible apply OptBounded_some
    | with_reducible apply OptSndBounded_none
    | with_reducible apply OptSndBounded_some
    | intro _
    | dsimp only [BoundedBy_mk, refuse_st]
    | split

theorem newIdentity_BoundedBy {N : Nat} (g : Nat) (h : FactoryHdr) (dw : List Nat) (s : State) (hb : BoundedBy N s) : BoundedBy N (newIdentity g h dw s) := by
  unfold newIdentity
  repeat' first
    | with_reducible assumption
    | with_reducible apply calResetTile_BoundedBy
    | with_reducible apply moveCurves_BoundedBy
    | with_reducible apply queueCodes_BoundedBy
    | with_reducible apply recStale_BoundedBy
    | with_reducible apply setDly_BoundedBy
    | with_reducible apply setTile_BoundedBy
    | with_reducible apply tick_BoundedBy
    | with_reducible apply BoundedBy_fold
    | with_reducible apply OptBounded_none
    | with_reducible apply OptBounded_some
    | with_reducible apply OptSndBounded_none
    | with_reducible apply OptSndBounded_some
    | intro _
    | dsimp only [BoundedBy_mk, refuse_st]
    | split

theorem identified_BoundedBy {N : Nat} (g : Nat) (b : List Byte) (ok : Bool) (s : State) (hb : BoundedBy N s) : BoundedBy N (identified g b ok s) := by
  unfold identified
  repeat' first
    | with_reducible assumption
    | with_reducible apply newIdentity_BoundedBy
    | with_reducible apply raise_BoundedBy
    | with_reducible apply setDly_BoundedBy
    | with_reducible apply setTile_BoundedBy
    | with_reducible apply BoundedBy_fold
    | with_reducible apply OptBounded_none
    | with_reducible apply OptBounded_some
    | with_reducible apply OptSndBounded_none
    | with_reducible apply OptSndBounded_some
    | intro _
    | dsimp only [BoundedBy_mk, refuse_st]
    | split

theorem tempLevel_BoundedBy {N : Nat} (g : Nat) (in_ out : Nat) (held : Bool) (temp tempMax thr hyst : Int) (s : State) (hb : BoundedBy N s) : BoundedBy N (tempLevel g in_ out held temp tempMax thr hyst s).2 := by
  unfold tempLevel
  repeat' first
    | with_reducible assumption
    | with_reducible apply raise_BoundedBy
    | with_reducible apply BoundedBy_fold
    | with_reducible apply OptBounded_none
    | with_reducible apply OptBounded_some
    | with_reducible apply OptSndBounded_none
    | with_reducible apply OptSndBounded_some
    | intro _
    | dsimp only [BoundedBy_mk, refuse_st]
    | split

theorem tempLevels_BoundedBy {N : Nat} (g : Nat) (f : Status) (h : FactoryHdr) (s : State) (hb : BoundedBy N s) : BoundedBy N (tempLevels g f h s) := by
  unfold tempLevels
  repeat' first
    | with_reducible assumption
    | with_reducible apply setTile_BoundedBy
    | with_reducible apply tempLevel_BoundedBy
    | with_reducible apply BoundedBy_fold
    | with_reducible apply OptBounded_none
    | with_reducible apply OptBounded_some
    | with_reducible apply OptSndBounded_none
    | with_reducible apply OptSndBounded_some
    | intro _
    | dsimp only [BoundedBy_mk, refuse_st]
    | split

theorem tileTemp_BoundedBy {N : Nat} (g : Nat) (f : Status) (cut : Bool) (s : State) (hb : BoundedBy N s) : BoundedBy N (tileTemp g f cut s) := by
  unfold tileTemp
  repeat' first
    | with_reducible assumption
    | with_reducible apply raise_BoundedBy
    | with_reducible apply setTile_BoundedBy
    | with_reducible apply tempLevels_BoundedBy
    | with_reducible apply tick_BoundedBy
    | with_reducible apply BoundedBy_fold
    | with_reducible apply OptBounded_none
    | with_reducible apply OptBounded_some
    | with_reducible apply OptSndBounded_none
    | with_reducible apply OptSndBounded_some
    | intro _
    | dsimp only [BoundedBy_mk, refuse_st]
    | split

theorem holdBoundary_BoundedBy {N : Nat} (g : Nat) (s : State) (hb : BoundedBy N s) : BoundedBy N (holdBoundary g s) := by
  unfold holdBoundary
  repeat' first
    | with_reducible assumption
    | with_reducible apply setTile_BoundedBy
    | with_reducible apply BoundedBy_fold
    | with_reducible apply OptBounded_none
    | with_reducible apply OptBounded_some
    | with_reducible apply OptSndBounded_none
    | with_reducible apply OptSndBounded_some
    | intro _
    | dsimp only [BoundedBy_mk, refuse_st]
    | split

end Sys2Proof.Machine
end

