-- ==== Sys2Proof/Laws/BoundsInject.lean ====
section
/-! SUPPORT. The operations of Machine/Inject.lean keep the bounds of the host interface (Safety.lean). -/

namespace Sys2Proof.Machine

theorem setInj_BoundedBy {N : Nat} (kind index : Nat) (j : Option Injection) (s : State) (hb : BoundedBy N s) : BoundedBy N (setInj kind index j s) := by
  unfold setInj
  repeat' first
    | with_reducible assumption
    | with_reducible apply BoundedBy_fold
    | with_reducible apply OptBounded_none
    | with_reducible apply OptBounded_some
    | with_reducible apply OptSndBounded_none
    | with_reducible apply OptSndBounded_some
    | intro _
    | dsimp only [BoundedBy_mk, refuse_st]
    | split

theorem injOffer_BoundedBy {N : Nat} (kind index ftype : Nat) (line : Option Nat) (len pageId : Nat) (s : State) (hb : BoundedBy N s) : BoundedBy N (injOffer kind index ftype line len pageId s).1 := by
  unfold injOffer
  repeat' first
    | with_reducible assumption
    | with_reducible apply raise_BoundedBy
    | with_reducible apply setInj_BoundedBy
    | with_reducible apply tick_BoundedBy
    | with_reducible apply BoundedBy_fold
    | with_reducible apply OptBounded_none
    | with_reducible apply OptBounded_some
    | with_reducible apply OptSndBounded_none
    | with_reducible apply OptSndBounded_some
    | intro _
    | dsimp only [BoundedBy_mk, refuse_st]
    | split

end Sys2Proof.Machine
end

