-- ==== Sys2Proof/Laws/BoundsTransmit.lean ====
section
/-! SUPPORT. The operations of Machine/Transmit.lean keep the bounds of the host interface (Safety.lean). -/

namespace Sys2Proof.Machine

theorem setPort_BoundedBy {N : Nat} (g : Nat) (f : Port → Port) (s : State) (hb : BoundedBy N s) : BoundedBy N (setPort g f s) := by
  unfold setPort
  repeat' first
    | with_reducible assumption
    | with_reducible apply BoundedBy_fold
    | with_reducible apply OptBounded_none
    | with_reducible apply OptBounded_some
    | with_reducible apply OptSndBounded_none
    | with_reducible apply OptSndBounded_some
    | intro _
    | dsimp only [BoundedBy_mk, refuse_st]
    | split

theorem txPutBlock_BoundedBy {N : Nat} (g : Nat) (ordered : Bool) (b : List (Bool × Bool)) (s : State) (hb : BoundedBy N s) : BoundedBy N (txPutBlock g ordered b s) := by
  unfold txPutBlock
  repeat' first
    | with_reducible assumption
    | with_reducible apply emit_BoundedBy
    | with_reducible apply setPort_BoundedBy
    | with_reducible apply BoundedBy_fold
    | with_reducible apply OptBounded_none
    | with_reducible apply OptBounded_some
    | with_reducible apply OptSndBounded_none
    | with_reducible apply OptSndBounded_some
    | intro _
    | dsimp only [BoundedBy_mk, refuse_st]
    | split

theorem txStep_BoundedBy {N : Nat} (g limit : Nat) (s : State) (hb : BoundedBy N s) : OptBounded N (txStep g limit s) := by
  unfold txStep
  repeat' first
    | with_reducible assumption
    | with_reducible apply setPort_BoundedBy
    | with_reducible apply txPutBlock_BoundedBy
    | with_reducible apply foldl_BoundedBy
    | with_reducible apply BoundedBy_fold
    | with_reducible apply OptBounded_none
    | with_reducible apply OptBounded_some
    | with_reducible apply OptSndBounded_none
    | with_reducible apply OptSndBounded_some
    | intro _
    | dsimp only [BoundedBy_mk, refuse_st]
    | split

theorem txAdvance_BoundedBy {N : Nat} (g limit : Nat) (s : State) (hb : BoundedBy N s) : BoundedBy N (txAdvance g limit s) := by
  unfold txAdvance
  repeat' first
    | with_reducible assumption
    | with_reducible apply txStep_BoundedBy
    | refine (txStep_BoundedBy _ _ _ ?_).all _ (by with_reducible assumption)
    | with_reducible apply iterate_BoundedBy
    | with_reducible apply BoundedBy_fold
    | with_reducible apply OptBounded_none
    | with_reducible apply OptBounded_some
    | with_reducible apply OptSndBounded_none
    | with_reducible apply OptSndBounded_some
    | intro _
    | dsimp only [BoundedBy_mk, refuse_st]
    | split

theorem txSet_BoundedBy {N : Nat} (g block : Nat) (strobe : Bool) (bs : List Byte) (s : State) (hb : BoundedBy N s) : BoundedBy N (txSet g block strobe bs s) := by
  unfold txSet
  repeat' first
    | with_reducible assumption
    | with_reducible apply setPort_BoundedBy
    | with_reducible apply txAdvance_BoundedBy
    | with_reducible apply BoundedBy_fold
    | with_reducible apply OptBounded_none
    | with_reducible apply OptBounded_some
    | with_reducible apply OptSndBounded_none
    | with_reducible apply OptSndBounded_some
    | intro _
    | dsimp only [BoundedBy_mk, refuse_st]
    | split

theorem txSend_BoundedBy {N : Nat} (g : Nat) (bs : List Byte) (flips : List Nat) (at_ extra : Nat) (s : State) (hb : BoundedBy N s) : BoundedBy N (txSend g bs flips at_ extra s) := by
  unfold txSend
  repeat' first
    | with_reducible assumption
    | with_reducible apply emit_BoundedBy
    | with_reducible apply setPort_BoundedBy
    | with_reducible apply txAdvance_BoundedBy
    | with_reducible apply BoundedBy_fold
    | with_reducible apply OptBounded_none
    | with_reducible apply OptBounded_some
    | with_reducible apply OptSndBounded_none
    | with_reducible apply OptSndBounded_some
    | intro _
    | dsimp only [BoundedBy_mk, refuse_st]
    | split

theorem txFrame_BoundedBy {N : Nat} (g : Nat) (bs : List Byte) (line : Option Nat) (pageId at_ : Nat) (s : State) (hb : BoundedBy N s) : BoundedBy N (txFrame g bs line pageId at_ s) := by
  unfold txFrame
  repeat' first
    | with_reducible assumption
    | with_reducible apply injOffer_BoundedBy
    | with_reducible apply setPort_BoundedBy
    | with_reducible apply txSend_BoundedBy
    | with_reducible apply BoundedBy_fold
    | with_reducible apply OptBounded_none
    | with_reducible apply OptBounded_some
    | with_reducible apply OptSndBounded_none
    | with_reducible apply OptSndBounded_some
    | intro _
    | dsimp only [BoundedBy_mk, refuse_st]
    | split

theorem txDrain_BoundedBy {N : Nat} (g : Nat) (s : State) (hb : BoundedBy N s) : BoundedBy N (txDrain g s) := by
  unfold txDrain
  repeat' first
    | with_reducible assumption
    | with_reducible apply setPort_BoundedBy
    | with_reducible apply txFrame_BoundedBy
    | with_reducible apply iterate_BoundedBy
    | with_reducible apply BoundedBy_fold
    | with_reducible apply OptBounded_none
    | with_reducible apply OptBounded_some
    | with_reducible apply OptSndBounded_none
    | with_reducible apply OptSndBounded_some
    | intro _
    | dsimp only [BoundedBy_mk, refuse_st]
    | split

theorem txOther_BoundedBy {N : Nat} (g : Nat) (bs : List Byte) (s : State) (hb : BoundedBy N s) : BoundedBy N (txOther g bs s) := by
  unfold txOther
  repeat' first
    | with_reducible assumption
    | with_reducible apply setPort_BoundedBy
    | with_reducible apply txDrain_BoundedBy
    | with_reducible apply txFrame_BoundedBy
    | with_reducible apply BoundedBy_fold
    | with_reducible apply OptBounded_none
    | with_reducible apply OptBounded_some
    | with_reducible apply OptSndBounded_none
    | with_reducible apply OptSndBounded_some
    | intro _
    | dsimp only [BoundedBy_mk, refuse_st]
    | split

theorem probeSend_BoundedBy {N : Nat} (g at_ : Nat) (s : State) (hb : BoundedBy N s) : BoundedBy N (probeSend g at_ s) := by
  unfold probeSend
  repeat' first
    | with_reducible assumption
    | with_reducible apply emit_BoundedBy
    | with_reducible apply setPort_BoundedBy
    | with_reducible apply txSet_BoundedBy
    | with_reducible apply BoundedBy_fold
    | with_reducible apply OptBounded_none
    | with_reducible apply OptBounded_some
    | with_reducible apply OptSndBounded_none
    | with_reducible apply OptSndBounded_some
    | intro _
    | dsimp only [BoundedBy_mk, refuse_st]
    | split

end Sys2Proof.Machine
end

