-- ==== Sys2Proof/Laws/BoundsLinks.lean ====
section
/-! SUPPORT. The operations of Machine/Links.lean keep the bounds of the host interface (Safety.lean). -/

namespace Sys2Proof.Machine

theorem trainSettle_BoundedBy {N : Nat} (g : Nat) (ok : Bool) (s : State) (hb : BoundedBy N s) : BoundedBy N (trainSettle g ok s) := by
  unfold trainSettle
  repeat' first
    | with_reducible assumption
    | with_reducible apply complete_BoundedBy
    | with_reducible apply forList_BoundedBy
    | with_reducible apply forList_fst_BoundedBy
    | with_reducible apply BoundedBy_fold
    | with_reducible apply OptBounded_none
    | with_reducible apply OptBounded_some
    | with_reducible apply OptSndBounded_none
    | with_reducible apply OptSndBounded_some
    | intro _
    | dsimp only [BoundedBy_mk, refuse_st]
    | split

theorem retrainDrop_BoundedBy {N : Nat} (g : Nat) (s : State) (hb : BoundedBy N s) : BoundedBy N (retrainDrop g s) := by
  unfold retrainDrop
  repeat' first
    | with_reducible assumption
    | with_reducible apply trainSettle_BoundedBy
    | with_reducible apply BoundedBy_fold
    | with_reducible apply OptBounded_none
    | with_reducible apply OptBounded_some
    | with_reducible apply OptSndBounded_none
    | with_reducible apply OptSndBounded_some
    | intro _
    | dsimp only [BoundedBy_mk, refuse_st]
    | split

theorem mgmtSend_BoundedBy {N : Nat} (g op addr count : Nat) (data : List Byte) (use : MgmtUse) (s : State) (hb : BoundedBy N s) : BoundedBy N (mgmtSend g op addr count data use s) := by
  unfold mgmtSend
  repeat' first
    | with_reducible assumption
    | with_reducible apply setPort_BoundedBy
    | with_reducible apply txOther_BoundedBy
    | with_reducible apply BoundedBy_fold
    | with_reducible apply OptBounded_none
    | with_reducible apply OptBounded_some
    | with_reducible apply OptSndBounded_none
    | with_reducible apply OptSndBounded_some
    | intro _
    | dsimp only [BoundedBy_mk, refuse_st]
    | split

theorem mgmtNext_BoundedBy {N : Nat} (g : Nat) (s : State) (hb : BoundedBy N s) : BoundedBy N (mgmtNext g s) := by
  unfold mgmtNext
  repeat' first
    | with_reducible assumption
    | with_reducible apply setPort_BoundedBy
    | with_reducible apply txOther_BoundedBy
    | with_reducible apply BoundedBy_fold
    | with_reducible apply OptBounded_none
    | with_reducible apply OptBounded_some
    | with_reducible apply OptSndBounded_none
    | with_reducible apply OptSndBounded_some
    | intro _
    | dsimp only [BoundedBy_mk, refuse_st]
    | split

theorem memAnswer_BoundedBy {N : Nat} (status : Nat) (results : List Nat) (s : State) (hb : BoundedBy N s) : BoundedBy N (memAnswer status results s) := by
  unfold memAnswer
  repeat' first
    | with_reducible assumption
    | with_reducible apply respond_BoundedBy
    | with_reducible apply BoundedBy_fold
    | with_reducible apply OptBounded_none
    | with_reducible apply OptBounded_some
    | with_reducible apply OptSndBounded_none
    | with_reducible apply OptSndBounded_some
    | intro _
    | dsimp only [BoundedBy_mk, refuse_st]
    | split

theorem mgmtDrop_BoundedBy {N : Nat} (g : Nat) (s : State) (hb : BoundedBy N s) : BoundedBy N (mgmtDrop g s) := by
  unfold mgmtDrop
  repeat' first
    | with_reducible assumption
    | with_reducible apply memAnswer_BoundedBy
    | with_reducible apply recordLost_BoundedBy
    | with_reducible apply setPort_BoundedBy
    | with_reducible apply BoundedBy_fold
    | with_reducible apply OptBounded_none
    | with_reducible apply OptBounded_some
    | with_reducible apply OptSndBounded_none
    | with_reducible apply OptSndBounded_some
    | intro _
    | dsimp only [BoundedBy_mk, refuse_st]
    | split

theorem thresholdsOut_BoundedBy {N : Nat} (g : Nat) (s : State) (hb : BoundedBy N s) : BoundedBy N (thresholdsOut g s) := by
  unfold thresholdsOut
  repeat' first
    | with_reducible assumption
    | with_reducible apply mgmtSend_BoundedBy
    | with_reducible apply setTile_BoundedBy
    | with_reducible apply BoundedBy_fold
    | with_reducible apply OptBounded_none
    | with_reducible apply OptBounded_some
    | with_reducible apply OptSndBounded_none
    | with_reducible apply OptSndBounded_some
    | intro _
    | dsimp only [BoundedBy_mk, refuse_st]
    | split

theorem linkEnter_BoundedBy {N : Nat} (g : Nat) (new : LinkSt) (s : State) (hb : BoundedBy N s) : BoundedBy N (linkEnter g new s) := by
  unfold linkEnter
  repeat' first
    | with_reducible assumption
    | with_reducible apply mgmtDrop_BoundedBy
    | with_reducible apply mgmtSend_BoundedBy
    | with_reducible apply probeSend_BoundedBy
    | with_reducible apply setPort_BoundedBy
    | with_reducible apply thresholdsOut_BoundedBy
    | with_reducible apply tick_BoundedBy
    | with_reducible apply forRange_BoundedBy
    | with_reducible apply forRange_fst_BoundedBy
    | with_reducible apply when_BoundedBy
    | with_reducible apply BoundedBy_fold
    | with_reducible apply OptBounded_none
    | with_reducible apply OptBounded_some
    | with_reducible apply OptSndBounded_none
    | with_reducible apply OptSndBounded_some
    | intro _
    | dsimp only [BoundedBy_mk, refuse_st]
    | split

theorem linkMove_BoundedBy {N : Nat} (g : Nat) (new : LinkSt) (cause : Nat) (s : State) (hb : BoundedBy N s) : BoundedBy N (linkMove g new cause s) := by
  unfold linkMove
  repeat' first
    | with_reducible assumption
    | with_reducible apply linkEnter_BoundedBy
    | with_reducible apply raise_BoundedBy
    | with_reducible apply retrainDrop_BoundedBy
    | with_reducible apply setPort_BoundedBy
    | with_reducible apply trainSettle_BoundedBy
    | with_reducible apply BoundedBy_fold
    | with_reducible apply OptBounded_none
    | with_reducible apply OptBounded_some
    | with_reducible apply OptSndBounded_none
    | with_reducible apply OptSndBounded_some
    | intro _
    | dsimp only [BoundedBy_mk, refuse_st]
    | split

theorem linkTo_BoundedBy {N : Nat} (g : Nat) (new : LinkSt) (cause : Nat) (s : State) (hb : BoundedBy N s) : BoundedBy N (linkTo g new cause s) := by
  unfold linkTo
  repeat' first
    | with_reducible assumption
    | with_reducible apply calResetTile_BoundedBy
    | with_reducible apply linkMove_BoundedBy
    | with_reducible apply BoundedBy_fold
    | with_reducible apply OptBounded_none
    | with_reducible apply OptBounded_some
    | with_reducible apply OptSndBounded_none
    | with_reducible apply OptSndBounded_some
    | intro _
    | dsimp only [BoundedBy_mk, refuse_st]
    | split

theorem lockLost_BoundedBy {N : Nat} (g cause : Nat) (s : State) (hb : BoundedBy N s) : BoundedBy N (lockLost g cause s) := by
  unfold lockLost
  repeat' first
    | with_reducible assumption
    | with_reducible apply linkTo_BoundedBy
    | with_reducible apply BoundedBy_fold
    | with_reducible apply OptBounded_none
    | with_reducible apply OptBounded_some
    | with_reducible apply OptSndBounded_none
    | with_reducible apply OptSndBounded_some
    | intro _
    | dsimp only [BoundedBy_mk, refuse_st]
    | split

theorem acquired_BoundedBy {N : Nat} (g : Nat) (s : State) (hb : BoundedBy N s) : BoundedBy N (acquired g s) := by
  unfold acquired
  repeat' first
    | with_reducible assumption
    | with_reducible apply linkTo_BoundedBy
    | with_reducible apply BoundedBy_fold
    | with_reducible apply OptBounded_none
    | with_reducible apply OptBounded_some
    | with_reducible apply OptSndBounded_none
    | with_reducible apply OptSndBounded_some
    | intro _
    | dsimp only [BoundedBy_mk, refuse_st]
    | split

theorem resplit_BoundedBy {N : Nat} (g : Nat) (s : State) (hb : BoundedBy N s) : BoundedBy N (resplit g s) := by
  unfold resplit
  repeat' first
    | with_reducible assumption
    | with_reducible apply setDly_BoundedBy
    | with_reducible apply BoundedBy_fold
    | with_reducible apply OptBounded_none
    | with_reducible apply OptBounded_some
    | with_reducible apply OptSndBounded_none
    | with_reducible apply OptSndBounded_some
    | intro _
    | dsimp only [BoundedBy_mk, refuse_st]
    | split

theorem measured_BoundedBy {N : Nat} (g : Nat) (s : State) (hb : BoundedBy N s) : BoundedBy N (measured g s) := by
  unfold measured
  repeat' first
    | with_reducible assumption
    | with_reducible apply linkTo_BoundedBy
    | with_reducible apply resplit_BoundedBy
    | with_reducible apply setDly_BoundedBy
    | with_reducible apply BoundedBy_fold
    | with_reducible apply OptBounded_none
    | with_reducible apply OptBounded_some
    | with_reducible apply OptSndBounded_none
    | with_reducible apply OptSndBounded_some
    | intro _
    | dsimp only [BoundedBy_mk, refuse_st]
    | split

theorem latencyNew_BoundedBy {N : Nat} (g rtt : Nat) (s : State) (hb : BoundedBy N s) : BoundedBy N (latencyNew g rtt s) := by
  unfold latencyNew
  repeat' first
    | with_reducible assumption
    | with_reducible apply raise_BoundedBy
    | with_reducible apply setDly_BoundedBy
    | with_reducible apply BoundedBy_fold
    | with_reducible apply OptBounded_none
    | with_reducible apply OptBounded_some
    | with_reducible apply OptSndBounded_none
    | with_reducible apply OptSndBounded_some
    | intro _
    | dsimp only [BoundedBy_mk, refuse_st]
    | split

theorem latencyLine_BoundedBy {N : Nat} (g : Nat) (s : State) (hb : BoundedBy N s) : BoundedBy N (latencyLine g s) := by
  unfold latencyLine
  repeat' first
    | with_reducible assumption
    | with_reducible apply setDly_BoundedBy
    | with_reducible apply BoundedBy_fold
    | with_reducible apply OptBounded_none
    | with_reducible apply OptBounded_some
    | with_reducible apply OptSndBounded_none
    | with_reducible apply OptSndBounded_some
    | intro _
    | dsimp only [BoundedBy_mk, refuse_st]
    | split

theorem rowFault_BoundedBy {N : Nat} (g : Nat) (a : Await) (q : Int) (c ra rb : Nat) (s : State) (hb : BoundedBy N s) : BoundedBy N (rowFault g a q c ra rb s) := by
  unfold rowFault
  repeat' first
    | with_reducible assumption
    | with_reducible apply raise_BoundedBy
    | with_reducible apply setPort_BoundedBy
    | with_reducible apply spoilRow_BoundedBy
    | with_reducible apply tick_BoundedBy
    | with_reducible apply forList_BoundedBy
    | with_reducible apply forList_fst_BoundedBy
    | with_reducible apply BoundedBy_fold
    | with_reducible apply OptBounded_none
    | with_reducible apply OptBounded_some
    | with_reducible apply OptSndBounded_none
    | with_reducible apply OptSndBounded_some
    | intro _
    | dsimp only [BoundedBy_mk, refuse_st]
    | split

theorem rowResults_BoundedBy {N : Nat} (g : Nat) (k : Int) (ra rb : Nat) (s : State) (hb : BoundedBy N s) : BoundedBy N (rowResults g k ra rb s) := by
  unfold rowResults
  repeat' first
    | with_reducible assumption
    | with_reducible apply rowFault_BoundedBy
    | with_reducible apply setPort_BoundedBy
    | with_reducible apply BoundedBy_fold
    | with_reducible apply OptBounded_none
    | with_reducible apply OptBounded_some
    | with_reducible apply OptSndBounded_none
    | with_reducible apply OptSndBounded_some
    | intro _
    | dsimp only [BoundedBy_mk, refuse_st]
    | split

theorem statusGaps_BoundedBy {N : Nat} (g : Nat) (k : Int) (s : State) (hb : BoundedBy N s) : BoundedBy N (statusGaps g k s) := by
  unfold statusGaps
  repeat' first
    | with_reducible assumption
    | with_reducible apply lockLost_BoundedBy
    | with_reducible apply rowResults_BoundedBy
    | with_reducible apply setPort_BoundedBy
    | with_reducible apply tick_BoundedBy
    | with_reducible apply forList_BoundedBy
    | with_reducible apply forList_fst_BoundedBy
    | with_reducible apply BoundedBy_fold
    | with_reducible apply OptBounded_none
    | with_reducible apply OptBounded_some
    | with_reducible apply OptSndBounded_none
    | with_reducible apply OptSndBounded_some
    | intro _
    | dsimp only [BoundedBy_mk, refuse_st]
    | split

theorem supNote_BoundedBy {N : Nat} (g : Nat) (q : Int) (s : State) (hb : BoundedBy N s) : BoundedBy N (supNote g q s) := by
  unfold supNote
  repeat' first
    | with_reducible assumption
    | with_reducible apply forList_BoundedBy
    | with_reducible apply forList_fst_BoundedBy
    | with_reducible apply BoundedBy_fold
    | with_reducible apply OptBounded_none
    | with_reducible apply OptBounded_some
    | with_reducible apply OptSndBounded_none
    | with_reducible apply OptSndBounded_some
    | intro _
    | dsimp only [BoundedBy_mk, refuse_st]
    | split

theorem buildFrame_BoundedBy {N : Nat} (g : Nat) (k : Int) (s : State) (hb : BoundedBy N s) : BoundedBy N (buildFrame g k s) := by
  unfold buildFrame
  repeat' first
    | with_reducible assumption
    | with_reducible apply clearSlot_BoundedBy
    | with_reducible apply readSlot_BoundedBy
    | with_reducible apply setDly_BoundedBy
    | with_reducible apply setPort_BoundedBy
    | with_reducible apply spoilRow_BoundedBy
    | with_reducible apply supNote_BoundedBy
    | with_reducible apply txDrain_BoundedBy
    | with_reducible apply when_BoundedBy
    | with_reducible apply BoundedBy_fold
    | with_reducible apply OptBounded_none
    | with_reducible apply OptBounded_some
    | with_reducible apply OptSndBounded_none
    | with_reducible apply OptSndBounded_some
    | intro _
    | dsimp only [BoundedBy_mk, refuse_st]
    | split

theorem strobeLost_BoundedBy {N : Nat} (g : Nat) (k : Int) (s : State) (hb : BoundedBy N s) : BoundedBy N (strobeLost g k s) := by
  unfold strobeLost
  repeat' first
    | with_reducible assumption
    | with_reducible apply setPort_BoundedBy
    | with_reducible apply BoundedBy_fold
    | with_reducible apply OptBounded_none
    | with_reducible apply OptBounded_some
    | with_reducible apply OptSndBounded_none
    | with_reducible apply OptSndBounded_some
    | intro _
    | dsimp only [BoundedBy_mk, refuse_st]
    | split

end Sys2Proof.Machine
end

