-- ==== Sys2Proof/Laws/BoundsCalib.lean ====
section
/-! SUPPORT. The operations of Machine/Calib.lean keep the bounds of the host interface (Safety.lean). -/

namespace Sys2Proof.Machine

theorem applyBegin_BoundedBy {N : Nat} (kind subj tiles updates : Nat) (s : State) (hb : BoundedBy N s) : BoundedBy N (applyBegin kind subj tiles updates s) := by
  unfold applyBegin
  repeat' first
    | with_reducible assumption
    | with_reducible apply setCal_BoundedBy
    | with_reducible apply BoundedBy_fold
    | with_reducible apply OptBounded_none
    | with_reducible apply OptBounded_some
    | with_reducible apply OptSndBounded_none
    | with_reducible apply OptSndBounded_some
    | intro _
    | dsimp only [BoundedBy_mk, refuse_st]
    | split

theorem applyUniform_BoundedBy {N : Nat} (st t : Nat) (w1 w2 : List CalSample) (s : State) (hb : BoundedBy N s) : BoundedBy N (applyUniform st t w1 w2 s) := by
  unfold applyUniform
  repeat' first
    | with_reducible assumption
    | with_reducible apply applyBegin_BoundedBy
    | with_reducible apply raise_BoundedBy
    | with_reducible apply tick_BoundedBy
    | with_reducible apply toneAtOnce_BoundedBy
    | with_reducible apply tonePass_BoundedBy
    | with_reducible apply forRange_BoundedBy
    | with_reducible apply forList_BoundedBy
    | with_reducible apply forRange_fst_BoundedBy
    | with_reducible apply forList_fst_BoundedBy
    | with_reducible apply when_BoundedBy
    | with_reducible apply BoundedBy_fold
    | with_reducible apply OptBounded_none
    | with_reducible apply OptBounded_some
    | with_reducible apply OptSndBounded_none
    | with_reducible apply OptSndBounded_some
    | intro _
    | dsimp only [BoundedBy_mk, refuse_st]
    | split

theorem applyTaps_BoundedBy {N : Nat} (g : Nat) (taps : Int) (s : State) (hb : BoundedBy N s) : BoundedBy N (applyTaps g taps s) := by
  unfold applyTaps
  repeat' first
    | with_reducible assumption
    | with_reducible apply recDirty_BoundedBy
    | with_reducible apply resplit_BoundedBy
    | with_reducible apply setDly_BoundedBy
    | with_reducible apply BoundedBy_fold
    | with_reducible apply OptBounded_none
    | with_reducible apply OptBounded_some
    | with_reducible apply OptSndBounded_none
    | with_reducible apply OptSndBounded_some
    | intro _
    | dsimp only [BoundedBy_mk, refuse_st]
    | split

theorem applyAll_BoundedBy {N : Nat} (kind st : Nat) (taps : List (Nat × Int)) (s : State) (hb : BoundedBy N s) : BoundedBy N (applyAll kind st taps s) := by
  unfold applyAll
  repeat' first
    | with_reducible assumption
    | with_reducible apply applyBegin_BoundedBy
    | with_reducible apply applyTaps_BoundedBy
    | with_reducible apply forList_BoundedBy
    | with_reducible apply forList_fst_BoundedBy
    | with_reducible apply BoundedBy_fold
    | with_reducible apply OptBounded_none
    | with_reducible apply OptBounded_some
    | with_reducible apply OptSndBounded_none
    | with_reducible apply OptSndBounded_some
    | intro _
    | dsimp only [BoundedBy_mk, refuse_st]
    | split

theorem timingTaps_BoundedBy {N : Nat} (st t : Nat) (delta : Int) (s : State) (hb : BoundedBy N s) : BoundedBy N (timingTaps st t delta s).1 := by
  unfold timingTaps
  repeat' first
    | with_reducible assumption
    | with_reducible apply setDly_BoundedBy
    | with_reducible apply BoundedBy_fold
    | with_reducible apply OptBounded_none
    | with_reducible apply OptBounded_some
    | with_reducible apply OptSndBounded_none
    | with_reducible apply OptSndBounded_some
    | intro _
    | dsimp only [BoundedBy_mk, refuse_st]
    | split

theorem calApply_BoundedBy {N : Nat} (r : CalRun) (w1 w2 p1 p2 : List CalSample) (tiles : List Nat) (s : State) (hb : BoundedBy N s) : BoundedBy N (calApply r w1 w2 p1 p2 tiles s) := by
  unfold calApply
  repeat' first
    | with_reducible assumption
    | with_reducible apply applyAll_BoundedBy
    | with_reducible apply applyUniform_BoundedBy
    | with_reducible apply timingTaps_BoundedBy
    | with_reducible apply forList_BoundedBy
    | with_reducible apply forList_fst_BoundedBy
    | with_reducible apply BoundedBy_fold
    | with_reducible apply OptBounded_none
    | with_reducible apply OptBounded_some
    | with_reducible apply OptSndBounded_none
    | with_reducible apply OptSndBounded_some
    | intro _
    | dsimp only [BoundedBy_mk, refuse_st]
    | split

theorem calPassed_BoundedBy {N : Nat} (kind st mask : Nat) (s : State) (hb : BoundedBy N s) : BoundedBy N (calPassed kind st mask s) := by
  unfold calPassed
  repeat' first
    | with_reducible assumption
    | with_reducible apply setCal_BoundedBy
    | with_reducible apply setTile_BoundedBy
    | with_reducible apply forList_BoundedBy
    | with_reducible apply forList_fst_BoundedBy
    | with_reducible apply BoundedBy_fold
    | with_reducible apply OptBounded_none
    | with_reducible apply OptBounded_some
    | with_reducible apply OptSndBounded_none
    | with_reducible apply OptSndBounded_some
    | intro _
    | dsimp only [BoundedBy_mk, refuse_st]
    | split

theorem applyEnd_BoundedBy {N : Nat} (kind st : Nat) (s : State) (hb : BoundedBy N s) : BoundedBy N (applyEnd kind st s) := by
  unfold applyEnd
  repeat' first
    | with_reducible assumption
    | with_reducible apply raise_BoundedBy
    | with_reducible apply recDirty_BoundedBy
    | with_reducible apply setCal_BoundedBy
    | with_reducible apply forList_BoundedBy
    | with_reducible apply forList_fst_BoundedBy
    | with_reducible apply BoundedBy_fold
    | with_reducible apply OptBounded_none
    | with_reducible apply OptBounded_some
    | with_reducible apply OptSndBounded_none
    | with_reducible apply OptSndBounded_some
    | intro _
    | dsimp only [BoundedBy_mk, refuse_st]
    | split

theorem calCompare_BoundedBy {N : Nat} (r : CalRun) (w p : List CalSample) (s : State) (hb : BoundedBy N s) : BoundedBy N (calCompare r w p s) := by
  unfold calCompare
  repeat' first
    | with_reducible assumption
    | with_reducible apply applyEnd_BoundedBy
    | with_reducible apply calApply_BoundedBy
    | with_reducible apply calFail_BoundedBy
    | with_reducible apply calNext_BoundedBy
    | with_reducible apply calPassed_BoundedBy
    | with_reducible apply setCal_BoundedBy
    | with_reducible apply BoundedBy_fold
    | with_reducible apply OptBounded_none
    | with_reducible apply OptBounded_some
    | with_reducible apply OptSndBounded_none
    | with_reducible apply OptSndBounded_some
    | intro _
    | dsimp only [BoundedBy_mk, refuse_st]
    | split

theorem calTake_BoundedBy {N : Nat} (kind st : Nat) (l : List CalSample) (s : State) (hb : BoundedBy N s) : BoundedBy N (calTake kind st l s) := by
  unfold calTake
  repeat' first
    | with_reducible assumption
    | with_reducible apply calCompare_BoundedBy
    | with_reducible apply setCal_BoundedBy
    | with_reducible apply BoundedBy_fold
    | with_reducible apply OptBounded_none
    | with_reducible apply OptBounded_some
    | with_reducible apply OptSndBounded_none
    | with_reducible apply OptSndBounded_some
    | intro _
    | dsimp only [BoundedBy_mk, refuse_st]
    | split

theorem calDiscard_BoundedBy {N : Nat} (kind st : Nat) (s : State) (hb : BoundedBy N s) : BoundedBy N (calDiscard kind st s) := by
  unfold calDiscard
  repeat' first
    | with_reducible assumption
    | with_reducible apply setCal_BoundedBy
    | with_reducible apply tick_BoundedBy
    | with_reducible apply BoundedBy_fold
    | with_reducible apply OptBounded_none
    | with_reducible apply OptBounded_some
    | with_reducible apply OptSndBounded_none
    | with_reducible apply OptSndBounded_some
    | intro _
    | dsimp only [BoundedBy_mk, refuse_st]
    | split

theorem spanDone_BoundedBy {N : Nat} (x : Span) (p : Page) (s : State) (hb : BoundedBy N s) : BoundedBy N (spanDone x p s) := by
  unfold spanDone
  repeat' first
    | with_reducible assumption
    | with_reducible apply calDiscard_BoundedBy
    | with_reducible apply calTake_BoundedBy
    | with_reducible apply setCal_BoundedBy
    | with_reducible apply forRange_BoundedBy
    | with_reducible apply forRange_fst_BoundedBy
    | with_reducible apply BoundedBy_fold
    | with_reducible apply OptBounded_none
    | with_reducible apply OptBounded_some
    | with_reducible apply OptSndBounded_none
    | with_reducible apply OptSndBounded_some
    | intro _
    | dsimp only [BoundedBy_mk, refuse_st]
    | split

theorem spanPass_BoundedBy {N : Nat} (v : Nat) (x : Span) (s : State) (hb : BoundedBy N s) : BoundedBy N (spanPass v x s) := by
  unfold spanPass
  repeat' first
    | with_reducible assumption
    | with_reducible apply spanDone_BoundedBy
    | with_reducible apply BoundedBy_fold
    | with_reducible apply OptBounded_none
    | with_reducible apply OptBounded_some
    | with_reducible apply OptSndBounded_none
    | with_reducible apply OptSndBounded_some
    | intro _
    | dsimp only [BoundedBy_mk, refuse_st]
    | split

theorem calLineIn_BoundedBy {N : Nat} (v : Nat) (grids : List (Nat × Grid)) (width : Nat) (y : Nat) (k : Int) (s : State) (hb : BoundedBy N s) : BoundedBy N (calLineIn v grids width y k s) := by
  unfold calLineIn
  repeat' first
    | with_reducible assumption
    | with_reducible apply spanPass_BoundedBy
    | with_reducible apply forList_BoundedBy
    | with_reducible apply forList_fst_BoundedBy
    | with_reducible apply BoundedBy_fold
    | with_reducible apply OptBounded_none
    | with_reducible apply OptBounded_some
    | with_reducible apply OptSndBounded_none
    | with_reducible apply OptSndBounded_some
    | intro _
    | dsimp only [BoundedBy_mk, refuse_st]
    | split

theorem calFrame_BoundedBy {N : Nat} (v : Nat) (f : CamFrame) (grid : Grid) (s : State) (hb : BoundedBy N s) : BoundedBy N (calFrame v f grid s) := by
  unfold calFrame
  repeat' first
    | with_reducible assumption
    | with_reducible apply calLineIn_BoundedBy
    | with_reducible apply forRange_BoundedBy
    | with_reducible apply forRange_fst_BoundedBy
    | with_reducible apply BoundedBy_fold
    | with_reducible apply OptBounded_none
    | with_reducible apply OptBounded_some
    | with_reducible apply OptSndBounded_none
    | with_reducible apply OptSndBounded_some
    | intro _
    | dsimp only [BoundedBy_mk, refuse_st]
    | split

theorem calStep_BoundedBy {N : Nat} (kind st : Nat) (s : State) (hb : BoundedBy N s) : BoundedBy N (calStep kind st s) := by
  unfold calStep
  repeat' first
    | with_reducible assumption
    | with_reducible apply applyEnd_BoundedBy
    | with_reducible apply calDiscard_BoundedBy
    | with_reducible apply calFail_BoundedBy
    | with_reducible apply calNext_BoundedBy
    | with_reducible apply setCal_BoundedBy
    | with_reducible apply BoundedBy_fold
    | with_reducible apply OptBounded_none
    | with_reducible apply OptBounded_some
    | with_reducible apply OptSndBounded_none
    | with_reducible apply OptSndBounded_some
    | intro _
    | dsimp only [BoundedBy_mk, refuse_st]
    | split

theorem calBoundary_BoundedBy {N : Nat} (st : Nat) (s : State) (hb : BoundedBy N s) : BoundedBy N (calBoundary st s) := by
  unfold calBoundary
  repeat' first
    | with_reducible assumption
    | with_reducible apply calStep_BoundedBy
    | with_reducible apply forRange_BoundedBy
    | with_reducible apply forRange_fst_BoundedBy
    | with_reducible apply BoundedBy_fold
    | with_reducible apply OptBounded_none
    | with_reducible apply OptBounded_some
    | with_reducible apply OptSndBounded_none
    | with_reducible apply OptSndBounded_some
    | intro _
    | dsimp only [BoundedBy_mk, refuse_st]
    | split

theorem calBegin_BoundedBy {N : Nat} (kind subj : Nat) (s : State) (hb : BoundedBy N s) : BoundedBy N (calBegin kind subj s) := by
  unfold calBegin
  repeat' first
    | with_reducible assumption
    | with_reducible apply axisWindow_BoundedBy
    | with_reducible apply calEnd_BoundedBy
    | with_reducible apply calStep_BoundedBy
    | with_reducible apply setCal_BoundedBy
    | with_reducible apply tick_BoundedBy
    | with_reducible apply BoundedBy_fold
    | with_reducible apply OptBounded_none
    | with_reducible apply OptBounded_some
    | with_reducible apply OptSndBounded_none
    | with_reducible apply OptSndBounded_some
    | intro _
    | dsimp only [BoundedBy_mk, refuse_st]
    | split

theorem execCalView_Bounded (s : State) (hb : Bounded s) : NextBounded (execCalView s) := by
  unfold execCalView
  unfold Bounded at hb
  repeat' first
    | with_reducible apply NextBounded_next
    | with_reducible assumption
    | with_reducible apply serve_BoundedBy
    | with_reducible apply BoundedBy_fold
    | with_reducible apply OptBounded_none
    | with_reducible apply OptBounded_some
    | with_reducible apply OptSndBounded_none
    | with_reducible apply OptSndBounded_some
    | intro _
    | dsimp only [BoundedBy_mk, refuse_st]
    | split

theorem execCalConfig_Bounded (s : State) (hb : Bounded s) : NextBounded (execCalConfig s) := by
  unfold execCalConfig
  unfold Bounded at hb
  repeat' first
    | with_reducible apply NextBounded_next
    | with_reducible assumption
    | with_reducible apply serve_BoundedBy
    | with_reducible apply BoundedBy_fold
    | with_reducible apply OptBounded_none
    | with_reducible apply OptBounded_some
    | with_reducible apply OptSndBounded_none
    | with_reducible apply OptSndBounded_some
    | intro _
    | dsimp only [BoundedBy_mk, refuse_st]
    | split

theorem execCalStart_Bounded (s : State) (hb : Bounded s) : NextBounded (execCalStart s) := by
  unfold execCalStart
  unfold Bounded at hb
  repeat' first
    | with_reducible apply NextBounded_next
    | with_reducible assumption
    | with_reducible apply serve_BoundedBy
    | with_reducible apply calBegin_BoundedBy
    | with_reducible apply setCal_BoundedBy
    | with_reducible apply BoundedBy_fold
    | with_reducible apply OptBounded_none
    | with_reducible apply OptBounded_some
    | with_reducible apply OptSndBounded_none
    | with_reducible apply OptSndBounded_some
    | intro _
    | dsimp only [BoundedBy_mk, refuse_st]
    | split

theorem execCalStop_Bounded (s : State) (hb : Bounded s) : NextBounded (execCalStop s) := by
  unfold execCalStop
  unfold Bounded at hb
  repeat' first
    | with_reducible apply NextBounded_next
    | with_reducible assumption
    | with_reducible apply serve_BoundedBy
    | with_reducible apply calQuit_BoundedBy
    | with_reducible apply BoundedBy_fold
    | with_reducible apply OptBounded_none
    | with_reducible apply OptBounded_some
    | with_reducible apply OptSndBounded_none
    | with_reducible apply OptSndBounded_some
    | intro _
    | dsimp only [BoundedBy_mk, refuse_st]
    | split

theorem execCalResult_Bounded (s : State) (hb : Bounded s) : NextBounded (execCalResult s) := by
  unfold execCalResult
  unfold Bounded at hb
  repeat' first
    | with_reducible apply NextBounded_next
    | with_reducible assumption
    | with_reducible apply serve_BoundedBy
    | with_reducible apply BoundedBy_fold
    | with_reducible apply OptBounded_none
    | with_reducible apply OptBounded_some
    | with_reducible apply OptSndBounded_none
    | with_reducible apply OptSndBounded_some
    | intro _
    | dsimp only [BoundedBy_mk, refuse_st]
    | split

theorem execCalWindowTimeout_Bounded (kind subject : Nat) (s : State) (hb : Bounded s) : NextBounded (execCalWindowTimeout kind subject s) := by
  unfold execCalWindowTimeout
  unfold Bounded at hb
  repeat' first
    | with_reducible apply NextBounded_next
    | with_reducible assumption
    | with_reducible apply atTime_BoundedBy
    | with_reducible apply calCompare_BoundedBy
    | with_reducible apply calFail_BoundedBy
    | with_reducible apply calNext_BoundedBy
    | with_reducible apply BoundedBy_fold
    | with_reducible apply OptBounded_none
    | with_reducible apply OptBounded_some
    | with_reducible apply OptSndBounded_none
    | with_reducible apply OptSndBounded_some
    | intro _
    | dsimp only [BoundedBy_mk, refuse_st]
    | split

theorem execCalInterval_Bounded (kind subject : Nat) (s : State) (hb : Bounded s) : NextBounded (execCalInterval kind subject s) := by
  unfold execCalInterval
  unfold Bounded at hb
  repeat' first
    | with_reducible apply NextBounded_next
    | with_reducible assumption
    | with_reducible apply atTime_BoundedBy
    | with_reducible apply calBegin_BoundedBy
    | with_reducible apply BoundedBy_fold
    | with_reducible apply OptBounded_none
    | with_reducible apply OptBounded_some
    | with_reducible apply OptSndBounded_none
    | with_reducible apply OptSndBounded_some
    | intro _
    | dsimp only [BoundedBy_mk, refuse_st]
    | split

end Sys2Proof.Machine
end

