-- ==== Sys2Proof/Laws/BoundsCamera.lean ====
section
/-! SUPPORT. The operations of Machine/Camera.lean keep the bounds of the host interface (Safety.lean). -/

namespace Sys2Proof.Machine

theorem setPortCam_BoundedBy {N : Nat} (p : Nat) (f : CamPort → CamPort) (s : State) (hb : BoundedBy N s) : BoundedBy N (setPortCam p f s) := by
  unfold setPortCam
  repeat' first
    | with_reducible assumption
    | with_reducible apply BoundedBy_fold
    | with_reducible apply OptBounded_none
    | with_reducible apply OptBounded_some
    | with_reducible apply OptSndBounded_none
    | with_reducible apply OptSndBounded_some
    | intro _
    | dsimp only [BoundedBy_mk, refuse_st]
    | split

theorem setTrig_BoundedBy {N : Nat} (t : Nat) (f : CamTrig → CamTrig) (s : State) (hb : BoundedBy N s) : BoundedBy N (setTrig t f s) := by
  unfold setTrig
  repeat' first
    | with_reducible assumption
    | with_reducible apply BoundedBy_fold
    | with_reducible apply OptBounded_none
    | with_reducible apply OptBounded_some
    | with_reducible apply OptSndBounded_none
    | with_reducible apply OptSndBounded_some
    | intro _
    | dsimp only [BoundedBy_mk, refuse_st]
    | split

theorem setPipe_BoundedBy {N : Nat} (n : Nat) (f : CamPipe → CamPipe) (s : State) (hb : BoundedBy N s) : BoundedBy N (setPipe n f s) := by
  unfold setPipe
  repeat' first
    | with_reducible assumption
    | with_reducible apply BoundedBy_fold
    | with_reducible apply OptBounded_none
    | with_reducible apply OptBounded_some
    | with_reducible apply OptSndBounded_none
    | with_reducible apply OptSndBounded_some
    | intro _
    | dsimp only [BoundedBy_mk, refuse_st]
    | split

theorem setFrame_BoundedBy {N : Nat} (p no : Nat) (f : CamFrame → CamFrame) (s : State) (hb : BoundedBy N s) : BoundedBy N (setFrame p no f s) := by
  unfold setFrame
  repeat' first
    | with_reducible assumption
    | with_reducible apply setPortCam_BoundedBy
    | with_reducible apply BoundedBy_fold
    | with_reducible apply OptBounded_none
    | with_reducible apply OptBounded_some
    | with_reducible apply OptSndBounded_none
    | with_reducible apply OptSndBounded_some
    | intro _
    | dsimp only [BoundedBy_mk, refuse_st]
    | split

theorem camSkip_BoundedBy {N : Nat} (p : Nat) (s : State) (hb : BoundedBy N s) : BoundedBy N (camSkip p s) := by
  unfold camSkip
  repeat' first
    | with_reducible assumption
    | with_reducible apply tick_BoundedBy
    | with_reducible apply BoundedBy_fold
    | with_reducible apply OptBounded_none
    | with_reducible apply OptBounded_some
    | with_reducible apply OptSndBounded_none
    | with_reducible apply OptSndBounded_some
    | intro _
    | dsimp only [BoundedBy_mk, refuse_st]
    | split

theorem camWrite_BoundedBy {N : Nat} (p base : Nat) (bodyOff : Nat) (body record : List Byte) (s : State) (hb : BoundedBy N s) : BoundedBy N (camWrite p base bodyOff body record s).1 := by
  unfold camWrite
  repeat' first
    | with_reducible assumption
    | with_reducible apply camSkip_BoundedBy
    | with_reducible apply hostWrite_BoundedBy
    | with_reducible apply BoundedBy_fold
    | with_reducible apply OptBounded_none
    | with_reducible apply OptBounded_some
    | with_reducible apply OptSndBounded_none
    | with_reducible apply OptSndBounded_some
    | intro _
    | dsimp only [BoundedBy_mk, refuse_st]
    | split

theorem camFrameEvent_BoundedBy {N : Nat} (p unit since evN flags seq : Nat) (f : CamFrame) (s : State) (hb : BoundedBy N s) : BoundedBy N (camFrameEvent p unit since evN flags seq f s).1 := by
  unfold camFrameEvent
  repeat' first
    | with_reducible assumption
    | with_reducible apply raise_BoundedBy
    | with_reducible apply BoundedBy_fold
    | with_reducible apply OptBounded_none
    | with_reducible apply OptBounded_some
    | with_reducible apply OptSndBounded_none
    | with_reducible apply OptSndBounded_some
    | intro _
    | dsimp only [BoundedBy_mk, refuse_st]
    | split

theorem streamSkip_BoundedBy {N : Nat} (p i : Nat) (s : State) (hb : BoundedBy N s) : BoundedBy N (streamSkip p i s) := by
  unfold streamSkip
  repeat' first
    | with_reducible assumption
    | with_reducible apply bump_BoundedBy
    | with_reducible apply setPortCam_BoundedBy
    | with_reducible apply BoundedBy_fold
    | with_reducible apply OptBounded_none
    | with_reducible apply OptBounded_some
    | with_reducible apply OptSndBounded_none
    | with_reducible apply OptSndBounded_some
    | intro _
    | dsimp only [BoundedBy_mk, refuse_st]
    | split

theorem camOutput_BoundedBy {N : Nat} (p : Nat) (f : CamFrame) (grid : Grid) (s : State) (hb : BoundedBy N s) : BoundedBy N (camOutput p f grid s) := by
  unfold camOutput
  repeat' first
    | with_reducible assumption
    | with_reducible apply camFrameEvent_BoundedBy
    | with_reducible apply camWrite_BoundedBy
    | with_reducible apply setPortCam_BoundedBy
    | with_reducible apply streamSkip_BoundedBy
    | with_reducible apply forRange_BoundedBy
    | with_reducible apply forRange_fst_BoundedBy
    | with_reducible apply BoundedBy_fold
    | with_reducible apply OptBounded_none
    | with_reducible apply OptBounded_some
    | with_reducible apply OptSndBounded_none
    | with_reducible apply OptSndBounded_some
    | intro _
    | dsimp only [BoundedBy_mk, refuse_st]
    | split

theorem shapeNote_BoundedBy {N : Nat} (p : Nat) (hit : Bool) (flags nShort nLong pad line : Nat) (s : State) (hb : BoundedBy N s) : BoundedBy N (shapeNote p hit flags nShort nLong pad line s) := by
  unfold shapeNote
  repeat' first
    | with_reducible assumption
    | with_reducible apply raise_BoundedBy
    | with_reducible apply setPortCam_BoundedBy
    | with_reducible apply BoundedBy_fold
    | with_reducible apply OptBounded_none
    | with_reducible apply OptBounded_some
    | with_reducible apply OptSndBounded_none
    | with_reducible apply OptSndBounded_some
    | intro _
    | dsimp only [BoundedBy_mk, refuse_st]
    | split

theorem dropNote_BoundedBy {N : Nat} (p : Nat) (cause no lines line : Nat) (s : State) (hb : BoundedBy N s) : BoundedBy N (dropNote p cause no lines line s) := by
  unfold dropNote
  repeat' first
    | with_reducible assumption
    | with_reducible apply raise_BoundedBy
    | with_reducible apply setPortCam_BoundedBy
    | with_reducible apply BoundedBy_fold
    | with_reducible apply OptBounded_none
    | with_reducible apply OptBounded_some
    | with_reducible apply OptSndBounded_none
    | with_reducible apply OptSndBounded_some
    | intro _
    | dsimp only [BoundedBy_mk, refuse_st]
    | split

theorem camFinish_BoundedBy {N : Nat} (p : Nat) (f : CamFrame) (s : State) (hb : BoundedBy N s) : BoundedBy N (camFinish p f s) := by
  unfold camFinish
  repeat' first
    | with_reducible assumption
    | with_reducible apply calFrame_BoundedBy
    | with_reducible apply camOutput_BoundedBy
    | with_reducible apply setPortCam_BoundedBy
    | with_reducible apply shapeNote_BoundedBy
    | with_reducible apply tick_BoundedBy
    | with_reducible apply BoundedBy_fold
    | with_reducible apply OptBounded_none
    | with_reducible apply OptBounded_some
    | with_reducible apply OptSndBounded_none
    | with_reducible apply OptSndBounded_some
    | intro _
    | dsimp only [BoundedBy_mk, refuse_st]
    | split

theorem camFlush_BoundedBy {N : Nat} (p : Nat) (s : State) (hb : BoundedBy N s) : BoundedBy N (camFlush p s) := by
  unfold camFlush
  repeat' first
    | with_reducible assumption
    | with_reducible apply camFinish_BoundedBy
    | with_reducible apply iterate_BoundedBy
    | with_reducible apply BoundedBy_fold
    | with_reducible apply OptBounded_none
    | with_reducible apply OptBounded_some
    | with_reducible apply OptSndBounded_none
    | with_reducible apply OptSndBounded_some
    | intro _
    | dsimp only [BoundedBy_mk, refuse_st]
    | split

theorem camAllot_BoundedBy {N : Nat} (p : Nat) (c : CamCfg) (s : State) (hb : BoundedBy N s) : BoundedBy N (camAllot p c s).1 := by
  unfold camAllot
  repeat' first
    | with_reducible assumption
    | with_reducible apply camSkip_BoundedBy
    | with_reducible apply setPortCam_BoundedBy
    | with_reducible apply forRange_BoundedBy
    | with_reducible apply forRange_fst_BoundedBy
    | with_reducible apply BoundedBy_fold
    | with_reducible apply OptBounded_none
    | with_reducible apply OptBounded_some
    | with_reducible apply OptSndBounded_none
    | with_reducible apply OptSndBounded_some
    | intro _
    | dsimp only [BoundedBy_mk, refuse_st]
    | split

theorem camShort_BoundedBy {N : Nat} (p : Nat) (s : State) (hb : BoundedBy N s) : BoundedBy N (camShort p s) := by
  unfold camShort
  repeat' first
    | with_reducible assumption
    | with_reducible apply camFlush_BoundedBy
    | with_reducible apply setFrame_BoundedBy
    | with_reducible apply setPortCam_BoundedBy
    | with_reducible apply BoundedBy_fold
    | with_reducible apply OptBounded_none
    | with_reducible apply OptBounded_some
    | with_reducible apply OptSndBounded_none
    | with_reducible apply OptSndBounded_some
    | intro _
    | dsimp only [BoundedBy_mk, refuse_st]
    | split

theorem camStart_BoundedBy {N : Nat} (p t : Nat) (s : State) (hb : BoundedBy N s) : BoundedBy N (camStart p t s) := by
  unfold camStart
  repeat' first
    | with_reducible assumption
    | with_reducible apply camAllot_BoundedBy
    | with_reducible apply camShort_BoundedBy
    | with_reducible apply setPortCam_BoundedBy
    | with_reducible apply tick_BoundedBy
    | with_reducible apply BoundedBy_fold
    | with_reducible apply OptBounded_none
    | with_reducible apply OptBounded_some
    | with_reducible apply OptSndBounded_none
    | with_reducible apply OptSndBounded_some
    | intro _
    | dsimp only [BoundedBy_mk, refuse_st]
    | split

theorem camDrop_BoundedBy {N : Nat} (p : Nat) (f : CamFrame) (cause : Nat) (s : State) (hb : BoundedBy N s) : BoundedBy N (camDrop p f cause s) := by
  unfold camDrop
  repeat' first
    | with_reducible assumption
    | with_reducible apply camFrameEvent_BoundedBy
    | with_reducible apply camWrite_BoundedBy
    | with_reducible apply dropNote_BoundedBy
    | with_reducible apply setPortCam_BoundedBy
    | with_reducible apply tick_BoundedBy
    | with_reducible apply forRange_BoundedBy
    | with_reducible apply forRange_fst_BoundedBy
    | with_reducible apply BoundedBy_fold
    | with_reducible apply OptBounded_none
    | with_reducible apply OptBounded_some
    | with_reducible apply OptSndBounded_none
    | with_reducible apply OptSndBounded_some
    | intro _
    | dsimp only [BoundedBy_mk, refuse_st]
    | split

theorem pipeTake_BoundedBy {N : Nat} (n : Nat) (s : State) (hb : BoundedBy N s) : BoundedBy N (pipeTake n s) := by
  unfold pipeTake
  repeat' first
    | with_reducible assumption
    | with_reducible apply setPipe_BoundedBy
    | with_reducible apply setPortCam_BoundedBy
    | with_reducible apply BoundedBy_fold
    | with_reducible apply OptBounded_none
    | with_reducible apply OptBounded_some
    | with_reducible apply OptSndBounded_none
    | with_reducible apply OptSndBounded_some
    | intro _
    | dsimp only [BoundedBy_mk, refuse_st]
    | split

theorem pipesTake_BoundedBy {N : Nat} (s : State) (hb : BoundedBy N s) : BoundedBy N (pipesTake s) := by
  unfold pipesTake
  repeat' first
    | with_reducible assumption
    | with_reducible apply pipeTake_BoundedBy
    | with_reducible apply BoundedBy_fold
    | with_reducible apply OptBounded_none
    | with_reducible apply OptBounded_some
    | with_reducible apply OptSndBounded_none
    | with_reducible apply OptSndBounded_some
    | intro _
    | dsimp only [BoundedBy_mk, refuse_st]
    | split

theorem camLineIn_BoundedBy {N : Nat} (p : Nat) (f : CamFrame) (pixels : List Nat) (s : State) (hb : BoundedBy N s) : BoundedBy N (camLineIn p f pixels s) := by
  unfold camLineIn
  repeat' first
    | with_reducible assumption
    | with_reducible apply pipesTake_BoundedBy
    | with_reducible apply setFrame_BoundedBy
    | with_reducible apply setPortCam_BoundedBy
    | with_reducible apply tick_BoundedBy
    | with_reducible apply BoundedBy_fold
    | with_reducible apply OptBounded_none
    | with_reducible apply OptBounded_some
    | with_reducible apply OptSndBounded_none
    | with_reducible apply OptSndBounded_some
    | intro _
    | dsimp only [BoundedBy_mk, refuse_st]
    | split

theorem camExcess_BoundedBy {N : Nat} (p : Nat) (s : State) (hb : BoundedBy N s) : BoundedBy N (camExcess p s) := by
  unfold camExcess
  repeat' first
    | with_reducible assumption
    | with_reducible apply setFrame_BoundedBy
    | with_reducible apply setPortCam_BoundedBy
    | with_reducible apply shapeNote_BoundedBy
    | with_reducible apply tick_BoundedBy
    | with_reducible apply BoundedBy_fold
    | with_reducible apply OptBounded_none
    | with_reducible apply OptBounded_some
    | with_reducible apply OptSndBounded_none
    | with_reducible apply OptSndBounded_some
    | intro _
    | dsimp only [BoundedBy_mk, refuse_st]
    | split

theorem setCamLine_BoundedBy {N : Nat} (p : Nat) (f : LineRun → LineRun) (s : State) (hb : BoundedBy N s) : BoundedBy N (setCamLine p f s) := by
  unfold setCamLine
  repeat' first
    | with_reducible assumption
    | with_reducible apply setPortCam_BoundedBy
    | with_reducible apply BoundedBy_fold
    | with_reducible apply OptBounded_none
    | with_reducible apply OptBounded_some
    | with_reducible apply OptSndBounded_none
    | with_reducible apply OptSndBounded_some
    | intro _
    | dsimp only [BoundedBy_mk, refuse_st]
    | split

theorem camLineEnd_BoundedBy {N : Nat} (p : Nat) (s : State) (hb : BoundedBy N s) : BoundedBy N (camLineEnd p s) := by
  unfold camLineEnd
  repeat' first
    | with_reducible assumption
    | with_reducible apply camExcess_BoundedBy
    | with_reducible apply camLineIn_BoundedBy
    | with_reducible apply setCamLine_BoundedBy
    | with_reducible apply BoundedBy_fold
    | with_reducible apply OptBounded_none
    | with_reducible apply OptBounded_some
    | with_reducible apply OptSndBounded_none
    | with_reducible apply OptSndBounded_some
    | intro _
    | dsimp only [BoundedBy_mk, refuse_st]
    | split

theorem camLineStart_BoundedBy {N : Nat} (p t : Nat) (s : State) (hb : BoundedBy N s) : BoundedBy N (camLineStart p t s) := by
  unfold camLineStart
  repeat' first
    | with_reducible assumption
    | with_reducible apply camDrop_BoundedBy
    | with_reducible apply camStart_BoundedBy
    | with_reducible apply setPortCam_BoundedBy
    | with_reducible apply BoundedBy_fold
    | with_reducible apply OptBounded_none
    | with_reducible apply OptBounded_some
    | with_reducible apply OptSndBounded_none
    | with_reducible apply OptSndBounded_some
    | intro _
    | dsimp only [BoundedBy_mk, refuse_st]
    | split

theorem camLinePixel_BoundedBy {N : Nat} (p v : Nat) (s : State) (hb : BoundedBy N s) : BoundedBy N (camLinePixel p v s) := by
  unfold camLinePixel
  repeat' first
    | with_reducible assumption
    | with_reducible apply camLineEnd_BoundedBy
    | with_reducible apply setCamLine_BoundedBy
    | with_reducible apply BoundedBy_fold
    | with_reducible apply OptBounded_none
    | with_reducible apply OptBounded_some
    | with_reducible apply OptSndBounded_none
    | with_reducible apply OptSndBounded_some
    | intro _
    | dsimp only [BoundedBy_mk, refuse_st]
    | split

theorem camClock_BoundedBy {N : Nat} (p t : Nat) (s : State) (v : Nat) (hb : BoundedBy N s) : BoundedBy N (camClock p t s v) := by
  unfold camClock
  repeat' first
    | with_reducible assumption
    | with_reducible apply camLineEnd_BoundedBy
    | with_reducible apply camLinePixel_BoundedBy
    | with_reducible apply camLineStart_BoundedBy
    | with_reducible apply setCamLine_BoundedBy
    | with_reducible apply when_BoundedBy
    | with_reducible apply BoundedBy_fold
    | with_reducible apply OptBounded_none
    | with_reducible apply OptBounded_some
    | with_reducible apply OptSndBounded_none
    | with_reducible apply OptSndBounded_some
    | intro _
    | dsimp only [BoundedBy_mk, refuse_st]
    | split

theorem execCamFrameStart_Bounded (port : Nat) (vs : VsyncEdge) (s : State) (hb : Bounded s) : NextBounded (execCamFrameStart port vs s) := by
  unfold execCamFrameStart
  unfold Bounded at hb
  repeat' first
    | with_reducible apply NextBounded_next
    | with_reducible assumption
    | with_reducible apply atTime_BoundedBy
    | with_reducible apply camLineEnd_BoundedBy
    | with_reducible apply camStart_BoundedBy
    | with_reducible apply setCamLine_BoundedBy
    | with_reducible apply BoundedBy_fold
    | with_reducible apply OptBounded_none
    | with_reducible apply OptBounded_some
    | with_reducible apply OptSndBounded_none
    | with_reducible apply OptSndBounded_some
    | intro _
    | dsimp only [BoundedBy_mk, refuse_st]
    | split

theorem execCamLine_Bounded (port : Nat) (clocks : CamClocks) (s : State) (hb : Bounded s) : NextBounded (execCamLine port clocks s) := by
  unfold execCamLine
  unfold Bounded at hb
  repeat' first
    | with_reducible apply NextBounded_next
    | with_reducible assumption
    | with_reducible apply atTime_BoundedBy
    | with_reducible apply camClock_BoundedBy
    | with_reducible apply foldl_BoundedBy
    | with_reducible apply BoundedBy_fold
    | with_reducible apply OptBounded_none
    | with_reducible apply OptBounded_some
    | with_reducible apply OptSndBounded_none
    | with_reducible apply OptSndBounded_some
    | intro _
    | dsimp only [BoundedBy_mk, refuse_st]
    | split

theorem camLost_BoundedBy {N : Nat} (lost : List Nat) (s : State) (hb : BoundedBy N s) : BoundedBy N (camLost lost s) :=
  foldl_keeps (BoundedBy N) _ (fun _ _ h => memUe_BoundedBy _ _ _ _ _ (drawNat_BoundedBy _ h)) _ _ hb

theorem execCamPipeLineDone_Bounded (pipe : Nat) (line : PipeEnd) (s : State) (hb : Bounded s) : NextBounded (execCamPipeLineDone pipe line s) := by
  unfold execCamPipeLineDone
  unfold Bounded at hb
  repeat' first
    | with_reducible apply NextBounded_next
    | with_reducible assumption
    | with_reducible apply camFlush_BoundedBy
    | with_reducible apply camLost_BoundedBy
    | with_reducible apply pipesTake_BoundedBy
    | with_reducible apply setFrame_BoundedBy
    | with_reducible apply setPipe_BoundedBy
    | with_reducible apply streamSkip_BoundedBy
    | with_reducible apply forList_BoundedBy
    | with_reducible apply forList_fst_BoundedBy
    | with_reducible apply BoundedBy_fold
    | with_reducible apply OptBounded_none
    | with_reducible apply OptBounded_some
    | with_reducible apply OptSndBounded_none
    | with_reducible apply OptSndBounded_some
    | intro _
    | dsimp only [BoundedBy_mk, refuse_st]
    | split

theorem camPulse_BoundedBy {N : Nat} (t line : Nat) (s : State) (hb : BoundedBy N s) : BoundedBy N (camPulse t line s) := by
  unfold camPulse
  repeat' first
    | with_reducible assumption
    | with_reducible apply camShort_BoundedBy
    | with_reducible apply emit_BoundedBy
    | with_reducible apply setPortCam_BoundedBy
    | with_reducible apply setTrig_BoundedBy
    | with_reducible apply tick_BoundedBy
    | with_reducible apply forRange_BoundedBy
    | with_reducible apply forRange_fst_BoundedBy
    | with_reducible apply BoundedBy_fold
    | with_reducible apply OptBounded_none
    | with_reducible apply OptBounded_some
    | with_reducible apply OptSndBounded_none
    | with_reducible apply OptSndBounded_some
    | intro _
    | dsimp only [BoundedBy_mk, refuse_st]
    | split

theorem camBoundary_BoundedBy {N : Nat} (st : Nat) (k : Int) (s : State) (hb : BoundedBy N s) : BoundedBy N (camBoundary st k s) := by
  unfold camBoundary
  repeat' first
    | with_reducible assumption
    | with_reducible apply camPulse_BoundedBy
    | with_reducible apply setTrig_BoundedBy
    | with_reducible apply forRange_BoundedBy
    | with_reducible apply forRange_fst_BoundedBy
    | with_reducible apply BoundedBy_fold
    | with_reducible apply OptBounded_none
    | with_reducible apply OptBounded_some
    | with_reducible apply OptSndBounded_none
    | with_reducible apply OptSndBounded_some
    | intro _
    | dsimp only [BoundedBy_mk, refuse_st]
    | split

theorem execCamTrigPeriod_Bounded (trig : Nat) (s : State) (hb : Bounded s) : NextBounded (execCamTrigPeriod trig s) := by
  unfold execCamTrigPeriod
  unfold Bounded at hb
  repeat' first
    | with_reducible apply NextBounded_next
    | with_reducible assumption
    | with_reducible apply atTime_BoundedBy
    | with_reducible apply camPulse_BoundedBy
    | with_reducible apply setTrig_BoundedBy
    | with_reducible apply BoundedBy_fold
    | with_reducible apply OptBounded_none
    | with_reducible apply OptBounded_some
    | with_reducible apply OptSndBounded_none
    | with_reducible apply OptSndBounded_some
    | intro _
    | dsimp only [BoundedBy_mk, refuse_st]
    | split

theorem camShadow_BoundedBy {N : Nat} (p : Nat) (f : CamCfg → CamCfg) (s : State) (hb : BoundedBy N s) : BoundedBy N (camShadow p f s).st := by
  unfold camShadow
  repeat' first
    | with_reducible assumption
    | with_reducible apply setPortCam_BoundedBy
    | with_reducible apply BoundedBy_fold
    | with_reducible apply OptBounded_none
    | with_reducible apply OptBounded_some
    | with_reducible apply OptSndBounded_none
    | with_reducible apply OptSndBounded_some
    | intro _
    | dsimp only [BoundedBy_mk, refuse_st]
    | split

theorem camStop_BoundedBy {N : Nat} (p : Nat) (s : State) (hb : BoundedBy N s) : BoundedBy N (camStop p s) := by
  unfold camStop
  repeat' first
    | with_reducible assumption
    | with_reducible apply camDrop_BoundedBy
    | with_reducible apply setPipe_BoundedBy
    | with_reducible apply setPortCam_BoundedBy
    | with_reducible apply forRange_BoundedBy
    | with_reducible apply forList_BoundedBy
    | with_reducible apply forRange_fst_BoundedBy
    | with_reducible apply forList_fst_BoundedBy
    | with_reducible apply BoundedBy_fold
    | with_reducible apply OptBounded_none
    | with_reducible apply OptBounded_some
    | with_reducible apply OptSndBounded_none
    | with_reducible apply OptSndBounded_some
    | intro _
    | dsimp only [BoundedBy_mk, refuse_st]
    | split

theorem execCamPort_Bounded (s : State) (hb : Bounded s) : NextBounded (execCamPort s) := by
  unfold execCamPort
  unfold Bounded at hb
  repeat' first
    | with_reducible apply NextBounded_next
    | with_reducible assumption
    | with_reducible apply serve_BoundedBy
    | with_reducible apply camShadow_BoundedBy
    | with_reducible apply camStop_BoundedBy
    | with_reducible apply setPortCam_BoundedBy
    | with_reducible apply BoundedBy_fold
    | with_reducible apply OptBounded_none
    | with_reducible apply OptBounded_some
    | with_reducible apply OptSndBounded_none
    | with_reducible apply OptSndBounded_some
    | intro _
    | dsimp only [BoundedBy_mk, refuse_st]
    | split

theorem execCamMosaic_Bounded (s : State) (hb : Bounded s) : NextBounded (execCamMosaic s) := by
  unfold execCamMosaic
  unfold Bounded at hb
  repeat' first
    | with_reducible apply NextBounded_next
    | with_reducible assumption
    | with_reducible apply serve_BoundedBy
    | with_reducible apply camShadow_BoundedBy
    | with_reducible apply BoundedBy_fold
    | with_reducible apply OptBounded_none
    | with_reducible apply OptBounded_some
    | with_reducible apply OptSndBounded_none
    | with_reducible apply OptSndBounded_some
    | intro _
    | dsimp only [BoundedBy_mk, refuse_st]
    | split

theorem execCamStream_Bounded (s : State) (hb : Bounded s) : NextBounded (execCamStream s) := by
  unfold execCamStream
  unfold Bounded at hb
  repeat' first
    | with_reducible apply NextBounded_next
    | with_reducible assumption
    | with_reducible apply serve_BoundedBy
    | with_reducible apply camShadow_BoundedBy
    | with_reducible apply BoundedBy_fold
    | with_reducible apply OptBounded_none
    | with_reducible apply OptBounded_some
    | with_reducible apply OptSndBounded_none
    | with_reducible apply OptSndBounded_some
    | intro _
    | dsimp only [BoundedBy_mk, refuse_st]
    | split

theorem execCamStats_Bounded (s : State) (hb : Bounded s) : NextBounded (execCamStats s) := by
  unfold execCamStats
  unfold Bounded at hb
  repeat' first
    | with_reducible apply NextBounded_next
    | with_reducible assumption
    | with_reducible apply serve_BoundedBy
    | with_reducible apply camShadow_BoundedBy
    | with_reducible apply BoundedBy_fold
    | with_reducible apply OptBounded_none
    | with_reducible apply OptBounded_some
    | with_reducible apply OptSndBounded_none
    | with_reducible apply OptSndBounded_some
    | intro _
    | dsimp only [BoundedBy_mk, refuse_st]
    | split

theorem execCamStatus_Bounded (s : State) (hb : Bounded s) : NextBounded (execCamStatus s) := by
  unfold execCamStatus
  unfold Bounded at hb
  repeat' first
    | with_reducible apply NextBounded_next
    | with_reducible assumption
    | with_reducible apply serve_BoundedBy
    | with_reducible apply setPortCam_BoundedBy
    | with_reducible apply BoundedBy_fold
    | with_reducible apply OptBounded_none
    | with_reducible apply OptBounded_some
    | with_reducible apply OptSndBounded_none
    | with_reducible apply OptSndBounded_some
    | intro _
    | dsimp only [BoundedBy_mk, refuse_st]
    | split

theorem execCamTrigger_Bounded (s : State) (hb : Bounded s) : NextBounded (execCamTrigger s) := by
  unfold execCamTrigger
  unfold Bounded at hb
  repeat' first
    | with_reducible apply NextBounded_next
    | with_reducible assumption
    | with_reducible apply serve_BoundedBy
    | with_reducible apply setTrig_BoundedBy
    | with_reducible apply BoundedBy_fold
    | with_reducible apply OptBounded_none
    | with_reducible apply OptBounded_some
    | with_reducible apply OptSndBounded_none
    | with_reducible apply OptSndBounded_some
    | intro _
    | dsimp only [BoundedBy_mk, refuse_st]
    | split

theorem execCamI2c_Bounded (acks : Nat) (data : List Byte) (s : State) (hb : Bounded s) : NextBounded (execCamI2c acks data s) := by
  unfold execCamI2c
  unfold Bounded at hb
  repeat' first
    | with_reducible apply NextBounded_next
    | with_reducible assumption
    | with_reducible apply serve_BoundedBy
    | with_reducible apply emit_BoundedBy
    | with_reducible apply tick_BoundedBy
    | with_reducible apply BoundedBy_fold
    | with_reducible apply OptBounded_none
    | with_reducible apply OptBounded_some
    | with_reducible apply OptSndBounded_none
    | with_reducible apply OptSndBounded_some
    | intro _
    | dsimp only [BoundedBy_mk, refuse_st]
    | split

end Sys2Proof.Machine
end

