-- ==== Sys2Proof/Laws/BoundsLoopCore.lean ====
section
/-! SUPPORT. The operations of Machine/LoopCore.lean keep the bounds of the host interface (Safety.lean). -/

namespace Sys2Proof.Machine

theorem setLoop_BoundedBy {N : Nat} (n : Nat) (f : LoopSlot → LoopSlot) (s : State) (hb : BoundedBy N s) : BoundedBy N (setLoop n f s) := by
  unfold setLoop
  repeat' first
    | with_reducible assumption
    | with_reducible apply BoundedBy_fold
    | with_reducible apply OptBounded_none
    | with_reducible apply OptBounded_some
    | with_reducible apply OptSndBounded_none
    | with_reducible apply OptSndBounded_some
    | intro _
    | dsimp only [BoundedBy_mk, refuse_st]
    | split

theorem setHv_BoundedBy {N : Nat} (c : Nat) (f : HvChan → HvChan) (s : State) (hb : BoundedBy N s) : BoundedBy N (setHv c f s) := by
  unfold setHv
  repeat' first
    | with_reducible assumption
    | with_reducible apply BoundedBy_fold
    | with_reducible apply OptBounded_none
    | with_reducible apply OptBounded_some
    | with_reducible apply OptSndBounded_none
    | with_reducible apply OptSndBounded_some
    | intro _
    | dsimp only [BoundedBy_mk, refuse_st]
    | split

theorem setZone_BoundedBy {N : Nat} (z : Nat) (f : FuserZone → FuserZone) (s : State) (hb : BoundedBy N s) : BoundedBy N (setZone z f s) := by
  unfold setZone
  repeat' first
    | with_reducible assumption
    | with_reducible apply BoundedBy_fold
    | with_reducible apply OptBounded_none
    | with_reducible apply OptBounded_some
    | with_reducible apply OptSndBounded_none
    | with_reducible apply OptSndBounded_some
    | intro _
    | dsimp only [BoundedBy_mk, refuse_st]
    | split

theorem setDrv_BoundedBy {N : Nat} (a : Nat) (f : Drive → Drive) (s : State) (hb : BoundedBy N s) : BoundedBy N (setDrv a f s) := by
  unfold setDrv
  repeat' first
    | with_reducible assumption
    | with_reducible apply BoundedBy_fold
    | with_reducible apply OptBounded_none
    | with_reducible apply OptBounded_some
    | with_reducible apply OptSndBounded_none
    | with_reducible apply OptSndBounded_some
    | intro _
    | dsimp only [BoundedBy_mk, refuse_st]
    | split

theorem feedback_BoundedBy {N : Nat} (s : State) (l : LoopSlot) (hb : BoundedBy N s) : BoundedBy N (feedback s l).1 := by
  unfold feedback
  repeat' first
    | with_reducible assumption
    | with_reducible apply drawInt_BoundedBy
    | with_reducible apply BoundedBy_fold
    | with_reducible apply OptBounded_none
    | with_reducible apply OptBounded_some
    | with_reducible apply OptSndBounded_none
    | with_reducible apply OptSndBounded_some
    | intro _
    | dsimp only [BoundedBy_mk, refuse_st]
    | split

theorem spoilHere_BoundedBy {N : Nat} (key reason : Nat) (s : State) (hb : BoundedBy N s) : BoundedBy N (spoilHere key reason s) := by
  unfold spoilHere
  repeat' first
    | with_reducible assumption
    | with_reducible apply spoil_BoundedBy
    | with_reducible apply BoundedBy_fold
    | with_reducible apply OptBounded_none
    | with_reducible apply OptBounded_some
    | with_reducible apply OptSndBounded_none
    | with_reducible apply OptSndBounded_some
    | intro _
    | dsimp only [BoundedBy_mk, refuse_st]
    | split

theorem needSpoil_BoundedBy {N : Nat} (n : Nat) (s : State) (hb : BoundedBy N s) : BoundedBy N (needSpoil n s) := by
  unfold needSpoil
  repeat' first
    | with_reducible assumption
    | with_reducible apply spoilHere_BoundedBy
    | with_reducible apply forList_BoundedBy
    | with_reducible apply forList_fst_BoundedBy
    | with_reducible apply BoundedBy_fold
    | with_reducible apply OptBounded_none
    | with_reducible apply OptBounded_some
    | with_reducible apply OptSndBounded_none
    | with_reducible apply OptSndBounded_some
    | intro _
    | dsimp only [BoundedBy_mk, refuse_st]
    | split

theorem loopModeEvent_BoundedBy {N : Nat} (n : Nat) (auto : Bool) (cause : Nat) (man : Int) (s : State) (hb : BoundedBy N s) : BoundedBy N (loopModeEvent n auto cause man s) := by
  unfold loopModeEvent
  repeat' first
    | with_reducible assumption
    | with_reducible apply raise_BoundedBy
    | with_reducible apply BoundedBy_fold
    | with_reducible apply OptBounded_none
    | with_reducible apply OptBounded_some
    | with_reducible apply OptSndBounded_none
    | with_reducible apply OptSndBounded_some
    | intro _
    | dsimp only [BoundedBy_mk, refuse_st]
    | split

theorem loopManual_BoundedBy {N : Nat} (n : Nat) (man : Int) (cause : Nat) (clearI : Bool) (s : State) (hb : BoundedBy N s) : BoundedBy N (loopManual n man cause clearI s) := by
  unfold loopManual
  repeat' first
    | with_reducible assumption
    | with_reducible apply loopModeEvent_BoundedBy
    | with_reducible apply needSpoil_BoundedBy
    | with_reducible apply setLoop_BoundedBy
    | with_reducible apply BoundedBy_fold
    | with_reducible apply OptBounded_none
    | with_reducible apply OptBounded_some
    | with_reducible apply OptSndBounded_none
    | with_reducible apply OptSndBounded_some
    | intro _
    | dsimp only [BoundedBy_mk, refuse_st]
    | split

theorem askMode_BoundedBy {N : Nat} (n : Nat) (r : ModeReq) (s : State) (hb : BoundedBy N s) : BoundedBy N (askMode n r s) := by
  unfold askMode
  repeat' first
    | with_reducible assumption
    | with_reducible apply setLoop_BoundedBy
    | with_reducible apply BoundedBy_fold
    | with_reducible apply OptBounded_none
    | with_reducible apply OptBounded_some
    | with_reducible apply OptSndBounded_none
    | with_reducible apply OptSndBounded_some
    | intro _
    | dsimp only [BoundedBy_mk, refuse_st]
    | split

theorem askSetpoint_BoundedBy {N : Nat} (n : Nat) (target : Int) (rate : Nat) (s : State) (hb : BoundedBy N s) : BoundedBy N (askSetpoint n target rate s) := by
  unfold askSetpoint
  repeat' first
    | with_reducible assumption
    | with_reducible apply setLoop_BoundedBy
    | with_reducible apply BoundedBy_fold
    | with_reducible apply OptBounded_none
    | with_reducible apply OptBounded_some
    | with_reducible apply OptSndBounded_none
    | with_reducible apply OptSndBounded_some
    | intro _
    | dsimp only [BoundedBy_mk, refuse_st]
    | split

theorem modeStep_BoundedBy {N : Nat} (s : State) (n : Nat) (fb : Int) (r : ModeReq) (go : Bool) (hb : BoundedBy N s) : BoundedBy N (modeStep s n fb r go).1 := by
  unfold modeStep
  repeat' first
    | with_reducible assumption
    | with_reducible apply loopManual_BoundedBy
    | with_reducible apply loopModeEvent_BoundedBy
    | with_reducible apply needSpoil_BoundedBy
    | with_reducible apply setLoop_BoundedBy
    | with_reducible apply BoundedBy_fold
    | with_reducible apply OptBounded_none
    | with_reducible apply OptBounded_some
    | with_reducible apply OptSndBounded_none
    | with_reducible apply OptSndBounded_some
    | intro _
    | dsimp only [BoundedBy_mk, refuse_st]
    | split

theorem complianceStep_BoundedBy {N : Nat} (n : Nat) (s : State) (hb : BoundedBy N s) : BoundedBy N (complianceStep n s) := by
  unfold complianceStep
  repeat' first
    | with_reducible assumption
    | with_reducible apply raise_BoundedBy
    | with_reducible apply setHv_BoundedBy
    | with_reducible apply setLoop_BoundedBy
    | with_reducible apply tick_BoundedBy
    | with_reducible apply BoundedBy_fold
    | with_reducible apply OptBounded_none
    | with_reducible apply OptBounded_some
    | with_reducible apply OptSndBounded_none
    | with_reducible apply OptSndBounded_some
    | intro _
    | dsimp only [BoundedBy_mk, refuse_st]
    | split

theorem loopDrive_BoundedBy {N : Nat} (n : Nat) (s : State) (hb : BoundedBy N s) : BoundedBy N (loopDrive n s) := by
  unfold loopDrive
  repeat' first
    | with_reducible assumption
    | with_reducible apply setDrv_BoundedBy
    | with_reducible apply setHv_BoundedBy
    | with_reducible apply setZone_BoundedBy
    | with_reducible apply BoundedBy_fold
    | with_reducible apply OptBounded_none
    | with_reducible apply OptBounded_some
    | with_reducible apply OptSndBounded_none
    | with_reducible apply OptSndBounded_some
    | intro _
    | dsimp only [BoundedBy_mk, refuse_st]
    | split

theorem loopQueue_BoundedBy {N : Nat} (n : Nat) (s : State) (hb : BoundedBy N s) : BoundedBy N (loopQueue n s) := by
  unfold loopQueue
  repeat' first
    | with_reducible assumption
    | with_reducible apply setLoop_BoundedBy
    | with_reducible apply tick_BoundedBy
    | with_reducible apply BoundedBy_fold
    | with_reducible apply OptBounded_none
    | with_reducible apply OptBounded_some
    | with_reducible apply OptSndBounded_none
    | with_reducible apply OptSndBounded_some
    | intro _
    | dsimp only [BoundedBy_mk, refuse_st]
    | split

theorem loopNote_BoundedBy {N : Nat} (n : Nat) (ok : Bool) (fb : Int) (s : State) (hb : BoundedBy N s) : BoundedBy N (loopNote n ok fb s) := by
  unfold loopNote
  repeat' first
    | with_reducible assumption
    | with_reducible apply setLoop_BoundedBy
    | with_reducible apply BoundedBy_fold
    | with_reducible apply OptBounded_none
    | with_reducible apply OptBounded_some
    | with_reducible apply OptSndBounded_none
    | with_reducible apply OptSndBounded_some
    | intro _
    | dsimp only [BoundedBy_mk, refuse_st]
    | split

theorem loopFallback_BoundedBy {N : Nat} (n : Nat) (ok : Bool) (s : State) (hb : BoundedBy N s) : BoundedBy N (loopFallback n ok s) := by
  unfold loopFallback
  repeat' first
    | with_reducible assumption
    | with_reducible apply loopManual_BoundedBy
    | with_reducible apply BoundedBy_fold
    | with_reducible apply OptBounded_none
    | with_reducible apply OptBounded_some
    | with_reducible apply OptSndBounded_none
    | with_reducible apply OptSndBounded_some
    | intro _
    | dsimp only [BoundedBy_mk, refuse_st]
    | split

theorem loopArcHold_BoundedBy {N : Nat} (n : Nat) (s : State) (hb : BoundedBy N s) : BoundedBy N (loopArcHold n s) := by
  unfold loopArcHold
  repeat' first
    | with_reducible assumption
    | with_reducible apply loopManual_BoundedBy
    | with_reducible apply setLoop_BoundedBy
    | with_reducible apply BoundedBy_fold
    | with_reducible apply OptBounded_none
    | with_reducible apply OptBounded_some
    | with_reducible apply OptSndBounded_none
    | with_reducible apply OptSndBounded_some
    | intro _
    | dsimp only [BoundedBy_mk, refuse_st]
    | split

theorem loopModes_BoundedBy {N : Nat} (n : Nat) (fb : Int) (s : State) (hb : BoundedBy N s) : BoundedBy N (loopModes n fb s).1 := by
  unfold loopModes
  repeat' first
    | with_reducible assumption
    | with_reducible apply modeStep_BoundedBy
    | with_reducible apply setLoop_BoundedBy
    | with_reducible apply forList_BoundedBy
    | with_reducible apply forList_fst_BoundedBy
    | with_reducible apply BoundedBy_fold
    | with_reducible apply OptBounded_none
    | with_reducible apply OptBounded_some
    | with_reducible apply OptSndBounded_none
    | with_reducible apply OptSndBounded_some
    | intro _
    | dsimp only [BoundedBy_mk, refuse_st]
    | split

theorem loopCompute_BoundedBy {N : Nat} (n : Nat) (fb : Int) (preset : Bool) (s : State) (hb : BoundedBy N s) : BoundedBy N (loopCompute n fb preset s) := by
  unfold loopCompute
  repeat' first
    | with_reducible assumption
    | with_reducible apply raise_BoundedBy
    | with_reducible apply setLoop_BoundedBy
    | with_reducible apply tick_BoundedBy
    | with_reducible apply BoundedBy_fold
    | with_reducible apply OptBounded_none
    | with_reducible apply OptBounded_some
    | with_reducible apply OptSndBounded_none
    | with_reducible apply OptSndBounded_some
    | intro _
    | dsimp only [BoundedBy_mk, refuse_st]
    | split

theorem loopSetpoints_BoundedBy {N : Nat} (n : Nat) (s : State) (hb : BoundedBy N s) : BoundedBy N (loopSetpoints n s) := by
  unfold loopSetpoints
  repeat' first
    | with_reducible assumption
    | with_reducible apply setLoop_BoundedBy
    | with_reducible apply foldl_BoundedBy
    | with_reducible apply BoundedBy_fold
    | with_reducible apply OptBounded_none
    | with_reducible apply OptBounded_some
    | with_reducible apply OptSndBounded_none
    | with_reducible apply OptSndBounded_some
    | intro _
    | dsimp only [BoundedBy_mk, refuse_st]
    | split

theorem loopSample_BoundedBy {N : Nat} (n : Nat) (s : State) (hb : BoundedBy N s) : BoundedBy N (loopSample n s) := by
  unfold loopSample
  repeat' first
    | with_reducible assumption
    | with_reducible apply complianceStep_BoundedBy
    | with_reducible apply feedback_BoundedBy
    | with_reducible apply loopArcHold_BoundedBy
    | with_reducible apply loopCompute_BoundedBy
    | with_reducible apply loopDrive_BoundedBy
    | with_reducible apply loopFallback_BoundedBy
    | with_reducible apply loopModes_BoundedBy
    | with_reducible apply loopNote_BoundedBy
    | with_reducible apply loopQueue_BoundedBy
    | with_reducible apply loopSetpoints_BoundedBy
    | with_reducible apply tick_BoundedBy
    | with_reducible apply BoundedBy_fold
    | with_reducible apply OptBounded_none
    | with_reducible apply OptBounded_some
    | with_reducible apply OptSndBounded_none
    | with_reducible apply OptSndBounded_some
    | intro _
    | dsimp only [BoundedBy_mk, refuse_st]
    | split

theorem loopForce_BoundedBy {N : Nat} (n : Nat) (clearI : Bool) (s : State) (hb : BoundedBy N s) : BoundedBy N (loopForce n clearI s) := by
  unfold loopForce
  repeat' first
    | with_reducible assumption
    | with_reducible apply loopDrive_BoundedBy
    | with_reducible apply loopManual_BoundedBy
    | with_reducible apply setLoop_BoundedBy
    | with_reducible apply BoundedBy_fold
    | with_reducible apply OptBounded_none
    | with_reducible apply OptBounded_some
    | with_reducible apply OptSndBounded_none
    | with_reducible apply OptSndBounded_some
    | intro _
    | dsimp only [BoundedBy_mk, refuse_st]
    | split

theorem loopsSafe_BoundedBy {N : Nat} (s : State) (hb : BoundedBy N s) : BoundedBy N (loopsSafe s) := by
  unfold loopsSafe
  repeat' first
    | with_reducible assumption
    | with_reducible apply loopForce_BoundedBy
    | with_reducible apply forList_BoundedBy
    | with_reducible apply forList_fst_BoundedBy
    | with_reducible apply BoundedBy_fold
    | with_reducible apply OptBounded_none
    | with_reducible apply OptBounded_some
    | with_reducible apply OptSndBounded_none
    | with_reducible apply OptSndBounded_some
    | intro _
    | dsimp only [BoundedBy_mk, refuse_st]
    | split

end Sys2Proof.Machine
end

