-- ==== Sys2Proof/Laws/BoundsMotionCore.lean ====
section
/-! SUPPORT. The operations of Machine/MotionCore.lean keep the bounds of the host interface (Safety.lean). -/

namespace Sys2Proof.Machine

theorem setBus_BoundedBy {N : Nat} (b : Nat) (f : MotorBus → MotorBus) (s : State) (hb : BoundedBy N s) : BoundedBy N (setBus b f s) := by
  unfold setBus
  repeat' first
    | with_reducible assumption
    | with_reducible apply BoundedBy_fold
    | with_reducible apply OptBounded_none
    | with_reducible apply OptBounded_some
    | with_reducible apply OptSndBounded_none
    | with_reducible apply OptSndBounded_some
    | intro _
    | dsimp only [BoundedBy_mk, refuse_st]
    | split

theorem setStp_BoundedBy {N : Nat} (a : Nat) (f : Stepper → Stepper) (s : State) (hb : BoundedBy N s) : BoundedBy N (setStp a f s) := by
  unfold setStp
  repeat' first
    | with_reducible assumption
    | with_reducible apply BoundedBy_fold
    | with_reducible apply OptBounded_none
    | with_reducible apply OptBounded_some
    | with_reducible apply OptSndBounded_none
    | with_reducible apply OptSndBounded_some
    | intro _
    | dsimp only [BoundedBy_mk, refuse_st]
    | split

theorem alignDone_BoundedBy {N : Nat} (a status : Nat) (results : List Nat) (s : State) (hb : BoundedBy N s) : BoundedBy N (alignDone a status results s) := by
  unfold alignDone
  repeat' first
    | with_reducible assumption
    | with_reducible apply completeOpt_BoundedBy
    | with_reducible apply setDrv_BoundedBy
    | with_reducible apply BoundedBy_fold
    | with_reducible apply OptBounded_none
    | with_reducible apply OptBounded_some
    | with_reducible apply OptSndBounded_none
    | with_reducible apply OptSndBounded_some
    | intro _
    | dsimp only [BoundedBy_mk, refuse_st]
    | split

theorem drvTo_BoundedBy {N : Nat} (a : Nat) (st : DrvSt) (cause : Nat) (s : State) (hb : BoundedBy N s) : BoundedBy N (drvTo a st cause s) := by
  unfold drvTo
  repeat' first
    | with_reducible assumption
    | with_reducible apply alignDone_BoundedBy
    | with_reducible apply askMode_BoundedBy
    | with_reducible apply measured_BoundedBy
    | with_reducible apply raise_BoundedBy
    | with_reducible apply setDrv_BoundedBy
    | with_reducible apply tick_BoundedBy
    | with_reducible apply BoundedBy_fold
    | with_reducible apply OptBounded_none
    | with_reducible apply OptBounded_some
    | with_reducible apply OptSndBounded_none
    | with_reducible apply OptSndBounded_some
    | intro _
    | dsimp only [BoundedBy_mk, refuse_st]
    | split

theorem drvFault_BoundedBy {N : Nat} (a cause : Nat) (s : State) (hb : BoundedBy N s) : BoundedBy N (drvFault a cause s) := by
  unfold drvFault
  repeat' first
    | with_reducible assumption
    | with_reducible apply drvTo_BoundedBy
    | with_reducible apply BoundedBy_fold
    | with_reducible apply OptBounded_none
    | with_reducible apply OptBounded_some
    | with_reducible apply OptSndBounded_none
    | with_reducible apply OptSndBounded_some
    | intro _
    | dsimp only [BoundedBy_mk, refuse_st]
    | split

theorem drvProtect_BoundedBy {N : Nat} (a cause : Nat) (valid : Bool) (s : State) (hb : BoundedBy N s) : BoundedBy N (drvProtect a cause valid s) := by
  unfold drvProtect
  repeat' first
    | with_reducible assumption
    | with_reducible apply drvTo_BoundedBy
    | with_reducible apply BoundedBy_fold
    | with_reducible apply OptBounded_none
    | with_reducible apply OptBounded_some
    | with_reducible apply OptSndBounded_none
    | with_reducible apply OptSndBounded_some
    | intro _
    | dsimp only [BoundedBy_mk, refuse_st]
    | split

theorem drvSample_BoundedBy {N : Nat} (input : Nat) (d : Int) (t : Nat) (s : State) (hb : BoundedBy N s) : BoundedBy N (drvSample input d t s) := by
  unfold drvSample
  repeat' first
    | with_reducible assumption
    | with_reducible apply BoundedBy_fold
    | with_reducible apply OptBounded_none
    | with_reducible apply OptBounded_some
    | with_reducible apply OptSndBounded_none
    | with_reducible apply OptSndBounded_some
    | intro _
    | dsimp only [BoundedBy_mk, refuse_st]
    | split

theorem drvUnalign_BoundedBy {N : Nat} (input : Nat) (s : State) (hb : BoundedBy N s) : BoundedBy N (drvUnalign input s) := by
  unfold drvUnalign
  repeat' first
    | with_reducible assumption
    | with_reducible apply BoundedBy_fold
    | with_reducible apply OptBounded_none
    | with_reducible apply OptBounded_some
    | with_reducible apply OptSndBounded_none
    | with_reducible apply OptSndBounded_some
    | intro _
    | dsimp only [BoundedBy_mk, refuse_st]
    | split

theorem drvInputFault_BoundedBy {N : Nat} (input : Nat) (s : State) (hb : BoundedBy N s) : BoundedBy N (drvInputFault input s) := by
  unfold drvInputFault
  repeat' first
    | with_reducible assumption
    | with_reducible apply drvFault_BoundedBy
    | with_reducible apply drvUnalign_BoundedBy
    | with_reducible apply forRange_BoundedBy
    | with_reducible apply forRange_fst_BoundedBy
    | with_reducible apply BoundedBy_fold
    | with_reducible apply OptBounded_none
    | with_reducible apply OptBounded_some
    | with_reducible apply OptSndBounded_none
    | with_reducible apply OptSndBounded_some
    | intro _
    | dsimp only [BoundedBy_mk, refuse_st]
    | split

theorem homeFail_BoundedBy {N : Nat} (a result : Nat) (s : State) (hb : BoundedBy N s) : BoundedBy N (homeFail a result s) := by
  unfold homeFail
  repeat' first
    | with_reducible assumption
    | with_reducible apply complete_BoundedBy
    | with_reducible apply raise_BoundedBy
    | with_reducible apply setStp_BoundedBy
    | with_reducible apply tick_BoundedBy
    | with_reducible apply BoundedBy_fold
    | with_reducible apply OptBounded_none
    | with_reducible apply OptBounded_some
    | with_reducible apply OptSndBounded_none
    | with_reducible apply OptSndBounded_some
    | intro _
    | dsimp only [BoundedBy_mk, refuse_st]
    | split

theorem stepRest_BoundedBy {N : Nat} (a : Nat) (off : Bool) (s : State) (hb : BoundedBy N s) : BoundedBy N (stepRest a off s) := by
  unfold stepRest
  repeat' first
    | with_reducible assumption
    | with_reducible apply setStp_BoundedBy
    | with_reducible apply BoundedBy_fold
    | with_reducible apply OptBounded_none
    | with_reducible apply OptBounded_some
    | with_reducible apply OptSndBounded_none
    | with_reducible apply OptSndBounded_some
    | intro _
    | dsimp only [BoundedBy_mk, refuse_st]
    | split

theorem stepHard_BoundedBy {N : Nat} (a : Nat) (off : Bool) (s : State) (hb : BoundedBy N s) : BoundedBy N (stepHard a off s) := by
  unfold stepHard
  repeat' first
    | with_reducible assumption
    | with_reducible apply homeFail_BoundedBy
    | with_reducible apply stepRest_BoundedBy
    | with_reducible apply BoundedBy_fold
    | with_reducible apply OptBounded_none
    | with_reducible apply OptBounded_some
    | with_reducible apply OptSndBounded_none
    | with_reducible apply OptSndBounded_some
    | intro _
    | dsimp only [BoundedBy_mk, refuse_st]
    | split

theorem chopperAct_BoundedBy {N : Nat} (b cause : Nat) (fresh : Drive → Bool) (s : State) (hb : BoundedBy N s) : BoundedBy N (chopperAct b cause fresh s) := by
  unfold chopperAct
  repeat' first
    | with_reducible assumption
    | with_reducible apply drvProtect_BoundedBy
    | with_reducible apply raise_BoundedBy
    | with_reducible apply setBus_BoundedBy
    | with_reducible apply spoilHere_BoundedBy
    | with_reducible apply stepHard_BoundedBy
    | with_reducible apply tick_BoundedBy
    | with_reducible apply forList_BoundedBy
    | with_reducible apply forList_fst_BoundedBy
    | with_reducible apply BoundedBy_fold
    | with_reducible apply OptBounded_none
    | with_reducible apply OptBounded_some
    | with_reducible apply OptSndBounded_none
    | with_reducible apply OptSndBounded_some
    | intro _
    | dsimp only [BoundedBy_mk, refuse_st]
    | split

end Sys2Proof.Machine
end

