-- ==== Sys2Proof/Laws/BoundsSupCore.lean ====
section
/-! SUPPORT. The operations of Machine/SupCore.lean keep the bounds of the host interface (Safety.lean). -/

namespace Sys2Proof.Machine

theorem withSup_BoundedBy {N : Nat} (f : SupState → SupState) (s : State) (hb : BoundedBy N s) : BoundedBy N (withSup f s) := by
  unfold withSup
  repeat' first
    | with_reducible assumption
    | with_reducible apply BoundedBy_fold
    | with_reducible apply OptBounded_none
    | with_reducible apply OptBounded_some
    | with_reducible apply OptSndBounded_none
    | with_reducible apply OptSndBounded_some
    | intro _
    | dsimp only [BoundedBy_mk, refuse_st]
    | split

theorem gooseLog_BoundedBy {N : Nat} (code detail : Nat) (s : State) (hb : BoundedBy N s) : BoundedBy N (gooseLog code detail s) := by
  unfold gooseLog
  repeat' first
    | with_reducible assumption
    | with_reducible apply withSup_BoundedBy
    | with_reducible apply BoundedBy_fold
    | with_reducible apply OptBounded_none
    | with_reducible apply OptBounded_some
    | with_reducible apply OptSndBounded_none
    | with_reducible apply OptSndBounded_some
    | intro _
    | dsimp only [BoundedBy_mk, refuse_st]
    | split

theorem tripEvent_BoundedBy {N : Nat} (s : State) (hb : BoundedBy N s) : BoundedBy N (tripEvent s) := by
  unfold tripEvent
  repeat' first
    | with_reducible assumption
    | with_reducible apply raiseSince_BoundedBy
    | with_reducible apply withSup_BoundedBy
    | with_reducible apply BoundedBy_fold
    | with_reducible apply OptBounded_none
    | with_reducible apply OptBounded_some
    | with_reducible apply OptSndBounded_none
    | with_reducible apply OptSndBounded_some
    | intro _
    | dsimp only [BoundedBy_mk, refuse_st]
    | split

theorem driveSafe_BoundedBy {N : Nat} (a : Nat) (s : State) (hb : BoundedBy N s) : BoundedBy N (driveSafe a s) := by
  unfold driveSafe
  repeat' first
    | with_reducible assumption
    | with_reducible apply drawNat_BoundedBy
    | with_reducible apply drvFault_BoundedBy
    | with_reducible apply drvProtect_BoundedBy
    | with_reducible apply BoundedBy_fold
    | with_reducible apply OptBounded_none
    | with_reducible apply OptBounded_some
    | with_reducible apply OptSndBounded_none
    | with_reducible apply OptSndBounded_some
    | intro _
    | dsimp only [BoundedBy_mk, refuse_st]
    | split

theorem safeEnter_BoundedBy {N : Nat} (cause detail : Nat) (s : State) (hb : BoundedBy N s) : BoundedBy N (safeEnter cause detail s) := by
  unfold safeEnter
  repeat' first
    | with_reducible assumption
    | with_reducible apply driveSafe_BoundedBy
    | with_reducible apply spoilHere_BoundedBy
    | with_reducible apply stepHard_BoundedBy
    | with_reducible apply tripEvent_BoundedBy
    | with_reducible apply withSup_BoundedBy
    | with_reducible apply forRange_BoundedBy
    | with_reducible apply forList_BoundedBy
    | with_reducible apply forRange_fst_BoundedBy
    | with_reducible apply forList_fst_BoundedBy
    | with_reducible apply BoundedBy_fold
    | with_reducible apply OptBounded_none
    | with_reducible apply OptBounded_some
    | with_reducible apply OptSndBounded_none
    | with_reducible apply OptSndBounded_some
    | intro _
    | dsimp only [BoundedBy_mk, refuse_st]
    | split

theorem trip_BoundedBy {N : Nat} (cause detail : Nat) (s : State) (hb : BoundedBy N s) : BoundedBy N (trip cause detail s) := by
  unfold trip
  repeat' first
    | with_reducible assumption
    | with_reducible apply gooseLog_BoundedBy
    | with_reducible apply safeEnter_BoundedBy
    | with_reducible apply tick_BoundedBy
    | with_reducible apply withSup_BoundedBy
    | with_reducible apply BoundedBy_fold
    | with_reducible apply OptBounded_none
    | with_reducible apply OptBounded_some
    | with_reducible apply OptSndBounded_none
    | with_reducible apply OptSndBounded_some
    | intro _
    | dsimp only [BoundedBy_mk, refuse_st]
    | split

theorem tripLogged_BoundedBy {N : Nat} (cause detail : Nat) (s : State) (hb : BoundedBy N s) : BoundedBy N (tripLogged cause detail s) := by
  unfold tripLogged
  repeat' first
    | with_reducible assumption
    | with_reducible apply gooseLog_BoundedBy
    | with_reducible apply trip_BoundedBy
    | with_reducible apply BoundedBy_fold
    | with_reducible apply OptBounded_none
    | with_reducible apply OptBounded_some
    | with_reducible apply OptSndBounded_none
    | with_reducible apply OptSndBounded_some
    | intro _
    | dsimp only [BoundedBy_mk, refuse_st]
    | split

end Sys2Proof.Machine
end

