-- ==== Sys2Proof/Laws/BoundsBoundary.lean ====
section
/-! SUPPORT. The operations of Machine/Boundary.lean keep the bounds of the host interface (Safety.lean). -/

namespace Sys2Proof.Machine

theorem positionLoss_BoundedBy {N : Nat} (st : Nat) (s : State) (hb : BoundedBy N s) : BoundedBy N (positionLoss st s) := by
  unfold positionLoss
  repeat' first
    | with_reducible assumption
    | with_reducible apply spoilNow_BoundedBy
    | with_reducible apply tick_BoundedBy
    | with_reducible apply forList_BoundedBy
    | with_reducible apply forList_fst_BoundedBy
    | with_reducible apply BoundedBy_fold
    | with_reducible apply OptBounded_none
    | with_reducible apply OptBounded_some
    | with_reducible apply OptSndBounded_none
    | with_reducible apply OptSndBounded_some
    | intro _
    | dsimp only [BoundedBy_mk, refuse_st]
    | split

theorem pageActive_BoundedBy {N : Nat} (p : Page) (st : Nat) (s : State) (hb : BoundedBy N s) : BoundedBy N (pageActive p st s) := by
  unfold pageActive
  repeat' first
    | with_reducible assumption
    | with_reducible apply pageTo_BoundedBy
    | with_reducible apply setPage_BoundedBy
    | with_reducible apply spoilNow_BoundedBy
    | with_reducible apply forList_BoundedBy
    | with_reducible apply forList_fst_BoundedBy
    | with_reducible apply BoundedBy_fold
    | with_reducible apply OptBounded_none
    | with_reducible apply OptBounded_some
    | with_reducible apply OptSndBounded_none
    | with_reducible apply OptSndBounded_some
    | intro _
    | dsimp only [BoundedBy_mk, refuse_st]
    | split

theorem activate_BoundedBy {N : Nat} (s : State) (hb : BoundedBy N s) : BoundedBy N (activate s) := by
  unfold activate
  repeat' first
    | with_reducible assumption
    | with_reducible apply pageActive_BoundedBy
    | with_reducible apply forRange_BoundedBy
    | with_reducible apply forRange_fst_BoundedBy
    | with_reducible apply BoundedBy_fold
    | with_reducible apply OptBounded_none
    | with_reducible apply OptBounded_some
    | with_reducible apply OptSndBounded_none
    | with_reducible apply OptSndBounded_some
    | intro _
    | dsimp only [BoundedBy_mk, refuse_st]
    | split

theorem pageExposed_BoundedBy {N : Nat} (p : Page) (s : State) (hb : BoundedBy N s) : BoundedBy N (pageExposed p s) := by
  unfold pageExposed
  repeat' first
    | with_reducible assumption
    | with_reducible apply pageTo_BoundedBy
    | with_reducible apply BoundedBy_fold
    | with_reducible apply OptBounded_none
    | with_reducible apply OptBounded_some
    | with_reducible apply OptSndBounded_none
    | with_reducible apply OptSndBounded_some
    | intro _
    | dsimp only [BoundedBy_mk, refuse_st]
    | split

theorem tooSoon_BoundedBy {N : Nat} (st : Nat) (k : Int) (s : State) (hb : BoundedBy N s) : BoundedBy N (tooSoon st k s) := by
  unfold tooSoon
  repeat' first
    | with_reducible assumption
    | with_reducible apply positionLoss_BoundedBy
    | with_reducible apply raise_BoundedBy
    | with_reducible apply strobeLost_BoundedBy
    | with_reducible apply forList_BoundedBy
    | with_reducible apply forList_fst_BoundedBy
    | with_reducible apply BoundedBy_fold
    | with_reducible apply OptBounded_none
    | with_reducible apply OptBounded_some
    | with_reducible apply OptSndBounded_none
    | with_reducible apply OptSndBounded_some
    | intro _
    | dsimp only [BoundedBy_mk, refuse_st]
    | split

theorem safeSpoil_BoundedBy {N : Nat} (st : Nat) (s : State) (hb : BoundedBy N s) : BoundedBy N (safeSpoil st s) := by
  unfold safeSpoil
  repeat' first
    | with_reducible assumption
    | with_reducible apply spoilWhere_BoundedBy
    | with_reducible apply withSup_BoundedBy
    | with_reducible apply BoundedBy_fold
    | with_reducible apply OptBounded_none
    | with_reducible apply OptBounded_some
    | with_reducible apply OptSndBounded_none
    | with_reducible apply OptSndBounded_some
    | intro _
    | dsimp only [BoundedBy_mk, refuse_st]
    | split

theorem toneSettle_BoundedBy {N : Nat} (st : Nat) (s : State) (hb : BoundedBy N s) : BoundedBy N (toneSettle st s) := by
  unfold toneSettle
  repeat' first
    | with_reducible assumption
    | with_reducible apply setCal_BoundedBy
    | with_reducible apply toneAtOnce_BoundedBy
    | with_reducible apply forList_BoundedBy
    | with_reducible apply forList_fst_BoundedBy
    | with_reducible apply BoundedBy_fold
    | with_reducible apply OptBounded_none
    | with_reducible apply OptBounded_some
    | with_reducible apply OptSndBounded_none
    | with_reducible apply OptSndBounded_some
    | intro _
    | dsimp only [BoundedBy_mk, refuse_st]
    | split

theorem splitIdle_BoundedBy {N : Nat} (st : Nat) (s : State) (hb : BoundedBy N s) : BoundedBy N (splitIdle st s) := by
  unfold splitIdle
  repeat' first
    | with_reducible assumption
    | with_reducible apply resplit_BoundedBy
    | with_reducible apply toneSettle_BoundedBy
    | with_reducible apply forList_BoundedBy
    | with_reducible apply forList_fst_BoundedBy
    | with_reducible apply BoundedBy_fold
    | with_reducible apply OptBounded_none
    | with_reducible apply OptBounded_some
    | with_reducible apply OptSndBounded_none
    | with_reducible apply OptSndBounded_some
    | intro _
    | dsimp only [BoundedBy_mk, refuse_st]
    | split

theorem fireBoundary_BoundedBy {N : Nat} (st t : Nat) (s : State) (hb : BoundedBy N s) : BoundedBy N (fireBoundary st t s) := by
  unfold fireBoundary
  repeat' first
    | with_reducible assumption
    | with_reducible apply activate_BoundedBy
    | with_reducible apply buildFrame_BoundedBy
    | with_reducible apply calBoundary_BoundedBy
    | with_reducible apply camBoundary_BoundedBy
    | with_reducible apply delayUpdate_BoundedBy
    | with_reducible apply expBoundary_BoundedBy
    | with_reducible apply holdBoundary_BoundedBy
    | with_reducible apply latencyLine_BoundedBy
    | with_reducible apply overrideUpdate_BoundedBy
    | with_reducible apply pageExposed_BoundedBy
    | with_reducible apply releaseStation_BoundedBy
    | with_reducible apply rotateHandover_BoundedBy
    | with_reducible apply safeSpoil_BoundedBy
    | with_reducible apply setTrk_BoundedBy
    | with_reducible apply splitIdle_BoundedBy
    | with_reducible apply statusGaps_BoundedBy
    | with_reducible apply toneUpdate_BoundedBy
    | with_reducible apply tooSoon_BoundedBy
    | with_reducible apply forList_BoundedBy
    | with_reducible apply forList_fst_BoundedBy
    | with_reducible apply when_BoundedBy
    | with_reducible apply BoundedBy_fold
    | with_reducible apply OptBounded_none
    | with_reducible apply OptBounded_some
    | with_reducible apply OptSndBounded_none
    | with_reducible apply OptSndBounded_some
    | intro _
    | dsimp only [BoundedBy_mk, refuse_st]
    | split

end Sys2Proof.Machine
end

