-- ==== Sys2Proof/Laws/BoundsChopper.lean ====
section
/-! SUPPORT. The operations of Machine/Chopper.lean keep the bounds of the host interface (Safety.lean). -/

namespace Sys2Proof.Machine

theorem chopperJudge_BoundedBy {N : Nat} (b : Nat) (s : State) (hb : BoundedBy N s) : BoundedBy N (chopperJudge b s) := by
  unfold chopperJudge
  repeat' first
    | with_reducible assumption
    | with_reducible apply chopperAct_BoundedBy
    | with_reducible apply setBus_BoundedBy
    | with_reducible apply BoundedBy_fold
    | with_reducible apply OptBounded_none
    | with_reducible apply OptBounded_some
    | with_reducible apply OptSndBounded_none
    | with_reducible apply OptSndBounded_some
    | intro _
    | dsimp only [BoundedBy_mk, refuse_st]
    | split

theorem execBusSample_Bounded (bus vbus isns : Nat) (s : State) (hb : Bounded s) : NextBounded (execBusSample bus vbus isns s) := by
  unfold execBusSample
  unfold Bounded at hb
  repeat' first
    | with_reducible apply NextBounded_next
    | with_reducible assumption
    | with_reducible apply atTime_BoundedBy
    | with_reducible apply chopperJudge_BoundedBy
    | with_reducible apply setBus_BoundedBy
    | with_reducible apply tick_BoundedBy
    | with_reducible apply withSup_BoundedBy
    | with_reducible apply when_BoundedBy
    | with_reducible apply BoundedBy_fold
    | with_reducible apply OptBounded_none
    | with_reducible apply OptBounded_some
    | with_reducible apply OptSndBounded_none
    | with_reducible apply OptSndBounded_some
    | intro _
    | dsimp only [BoundedBy_mk, refuse_st]
    | split

theorem execChopperDetectTimeout_Bounded (bus : Nat) (s : State) (hb : Bounded s) : NextBounded (execChopperDetectTimeout bus s) := by
  unfold execChopperDetectTimeout
  unfold Bounded at hb
  repeat' first
    | with_reducible apply NextBounded_next
    | with_reducible assumption
    | with_reducible apply atTime_BoundedBy
    | with_reducible apply chopperJudge_BoundedBy
    | with_reducible apply when_BoundedBy
    | with_reducible apply BoundedBy_fold
    | with_reducible apply OptBounded_none
    | with_reducible apply OptBounded_some
    | with_reducible apply OptSndBounded_none
    | with_reducible apply OptSndBounded_some
    | intro _
    | dsimp only [BoundedBy_mk, refuse_st]
    | split

theorem execVbusHardTrip_Bounded (bus : Nat) (s : State) (hb : Bounded s) : NextBounded (execVbusHardTrip bus s) := by
  unfold execVbusHardTrip
  unfold Bounded at hb
  repeat' first
    | with_reducible apply NextBounded_next
    | with_reducible assumption
    | with_reducible apply chopperAct_BoundedBy
    | with_reducible apply trip_BoundedBy
    | with_reducible apply withSup_BoundedBy
    | with_reducible apply when_BoundedBy
    | with_reducible apply BoundedBy_fold
    | with_reducible apply OptBounded_none
    | with_reducible apply OptBounded_some
    | with_reducible apply OptSndBounded_none
    | with_reducible apply OptSndBounded_some
    | intro _
    | dsimp only [BoundedBy_mk, refuse_st]
    | split

theorem execAxisBus_Bounded (s : State) (hb : Bounded s) : NextBounded (execAxisBus s) := by
  unfold execAxisBus
  unfold Bounded at hb
  repeat' first
    | with_reducible apply NextBounded_next
    | with_reducible assumption
    | with_reducible apply serve_BoundedBy
    | with_reducible apply setBus_BoundedBy
    | with_reducible apply BoundedBy_fold
    | with_reducible apply OptBounded_none
    | with_reducible apply OptBounded_some
    | with_reducible apply OptSndBounded_none
    | with_reducible apply OptSndBounded_some
    | intro _
    | dsimp only [BoundedBy_mk, refuse_st]
    | split

end Sys2Proof.Machine
end

