-- ==== Sys2Proof/Laws/BoundsCodecCmd.lean ====
section
/-! SUPPORT. The operations of Machine/CodecCmd.lean keep the bounds of the host interface (Safety.lean). -/

namespace Sys2Proof.Machine

theorem setJobs_BoundedBy {N : Nat} (l : List CodecJob) (s : State) (hb : BoundedBy N s) : BoundedBy N (setJobs l s) := by
  unfold setJobs
  repeat' first
    | with_reducible assumption
    | with_reducible apply BoundedBy_fold
    | with_reducible apply OptBounded_none
    | with_reducible apply OptBounded_some
    | with_reducible apply OptSndBounded_none
    | with_reducible apply OptSndBounded_some
    | intro _
    | dsimp only [BoundedBy_mk, refuse_st]
    | split

theorem execStreamBandmap_Bounded (s : State) (hb : Bounded s) : NextBounded (execStreamBandmap s) := by
  unfold execStreamBandmap
  unfold Bounded at hb
  repeat' first
    | with_reducible apply NextBounded_next
    | with_reducible assumption
    | with_reducible apply serve_BoundedBy
    | with_reducible apply BoundedBy_fold
    | with_reducible apply OptBounded_none
    | with_reducible apply OptBounded_some
    | with_reducible apply OptSndBounded_none
    | with_reducible apply OptSndBounded_some
    | intro _
    | dsimp only [BoundedBy_mk, refuse_st]
    | split

theorem jobFault_BoundedBy {N : Nat} (s : State) (hb : BoundedBy N s) : BoundedBy N (jobFault s).st := by
  unfold jobFault
  repeat' first
    | with_reducible assumption
    | with_reducible apply BoundedBy_fold
    | with_reducible apply OptBounded_none
    | with_reducible apply OptBounded_some
    | with_reducible apply OptSndBounded_none
    | with_reducible apply OptSndBounded_some
    | intro _
    | dsimp only [BoundedBy_mk, refuse_st]
    | split

theorem compressJob_BoundedBy {N : Nat} (w : List Word) (s : State) (hb : BoundedBy N s) : BoundedBy N (compressJob w s).st := by
  unfold compressJob
  repeat' first
    | with_reducible assumption
    | with_reducible apply jobFault_BoundedBy
    | with_reducible apply tick_BoundedBy
    | with_reducible apply hostWrite_BoundedBy
    | with_reducible apply BoundedBy_fold
    | with_reducible apply OptBounded_none
    | with_reducible apply OptBounded_some
    | with_reducible apply OptSndBounded_none
    | with_reducible apply OptSndBounded_some
    | intro _
    | dsimp only [BoundedBy_mk, refuse_st]
    | split

theorem checkEnd_BoundedBy {N : Nat} (s : State) (check index : Nat) (hb : BoundedBy N s) : BoundedBy N (checkEnd s check index).st := by
  unfold checkEnd
  repeat' first
    | with_reducible assumption
    | with_reducible apply BoundedBy_fold
    | with_reducible apply OptBounded_none
    | with_reducible apply OptBounded_some
    | with_reducible apply OptSndBounded_none
    | with_reducible apply OptSndBounded_some
    | intro _
    | dsimp only [BoundedBy_mk, refuse_st]
    | split

theorem verifyJob_BoundedBy {N : Nat} (w : List Word) (s : State) (hb : BoundedBy N s) : BoundedBy N (verifyJob w s).st := by
  unfold verifyJob
  repeat' first
    | with_reducible assumption
    | with_reducible apply checkEnd_BoundedBy
    | with_reducible apply jobFault_BoundedBy
    | with_reducible apply hostWrite_BoundedBy
    | with_reducible apply BoundedBy_fold
    | with_reducible apply OptBounded_none
    | with_reducible apply OptBounded_some
    | with_reducible apply OptSndBounded_none
    | with_reducible apply OptSndBounded_some
    | intro _
    | dsimp only [BoundedBy_mk, refuse_st]
    | split

theorem jobFinish_BoundedBy {N : Nat} (oid : Nat) (e : JobEnd) (hb : BoundedBy N e.st) : BoundedBy N (jobFinish oid e) := by
  unfold jobFinish
  repeat' first
    | with_reducible assumption
    | with_reducible apply complete_BoundedBy
    | with_reducible apply tick_BoundedBy
    | dsimp only
    | split

theorem codecSettleOne_BoundedBy {N : Nat} (s : State) (hb : BoundedBy N s) : OptBounded N (codecSettleOne s) := by
  unfold codecSettleOne
  repeat' first
    | with_reducible assumption
    | with_reducible apply complete_BoundedBy
    | with_reducible apply jobFinish_BoundedBy
    | with_reducible apply setJobs_BoundedBy
    | with_reducible apply BoundedBy_fold
    | with_reducible apply OptBounded_none
    | with_reducible apply OptBounded_some
    | with_reducible apply OptSndBounded_none
    | with_reducible apply OptSndBounded_some
    | intro _
    | dsimp only [BoundedBy_mk, refuse_st]
    | split

theorem codecSettle_BoundedBy {N : Nat} (s : State) (hb : BoundedBy N s) : BoundedBy N (codecSettle s) := by
  unfold codecSettle
  repeat' first
    | with_reducible assumption
    | with_reducible apply codecSettleOne_BoundedBy
    | refine (codecSettleOne_BoundedBy _ ?_).all _ (by with_reducible assumption)
    | with_reducible apply iterate_BoundedBy
    | with_reducible apply BoundedBy_fold
    | with_reducible apply OptBounded_none
    | with_reducible apply OptBounded_some
    | with_reducible apply OptSndBounded_none
    | with_reducible apply OptSndBounded_some
    | intro _
    | dsimp only [BoundedBy_mk, refuse_st]
    | split

theorem execCodecJobStart_Bounded (s : State) (hb : Bounded s) : NextBounded (execCodecJobStart s) := by
  unfold execCodecJobStart
  unfold Bounded at hb
  repeat' first
    | with_reducible apply NextBounded_next
    | with_reducible assumption
    | with_reducible apply setJobs_BoundedBy
    | with_reducible apply when_BoundedBy
    | with_reducible apply BoundedBy_fold
    | with_reducible apply OptBounded_none
    | with_reducible apply OptBounded_some
    | with_reducible apply OptSndBounded_none
    | with_reducible apply OptSndBounded_some
    | intro _
    | dsimp only [BoundedBy_mk, refuse_st]
    | split

theorem execCodecJobDone_Bounded (s : State) (hb : Bounded s) : NextBounded (execCodecJobDone s) := by
  unfold execCodecJobDone
  unfold Bounded at hb
  repeat' first
    | with_reducible apply NextBounded_next
    | with_reducible assumption
    | with_reducible apply codecSettle_BoundedBy
    | with_reducible apply compressJob_BoundedBy
    | with_reducible apply jobFault_BoundedBy
    | with_reducible apply jobFinish_BoundedBy
    | with_reducible apply setJobs_BoundedBy
    | with_reducible apply verifyJob_BoundedBy
    | with_reducible apply when_BoundedBy
    | with_reducible apply BoundedBy_fold
    | with_reducible apply OptBounded_none
    | with_reducible apply OptBounded_some
    | with_reducible apply OptSndBounded_none
    | with_reducible apply OptSndBounded_some
    | intro _
    | dsimp only [BoundedBy_mk, refuse_st]
    | split

theorem codecQueue_BoundedBy {N : Nat} (work : CodecWork) (s : State) (hb : BoundedBy N s) : BoundedBy N (codecQueue work s).st := by
  unfold codecQueue
  repeat' first
    | with_reducible assumption
    | with_reducible apply setJobs_BoundedBy
    | with_reducible apply BoundedBy_fold
    | with_reducible apply OptBounded_none
    | with_reducible apply OptBounded_some
    | with_reducible apply OptSndBounded_none
    | with_reducible apply OptSndBounded_some
    | intro _
    | dsimp only [BoundedBy_mk, refuse_st]
    | split

theorem execCodecCompress_Bounded (s : State) (hb : Bounded s) : NextBounded (execCodecCompress s) := by
  unfold execCodecCompress
  unfold Bounded at hb
  repeat' first
    | with_reducible apply NextBounded_next
    | with_reducible assumption
    | with_reducible apply serve_BoundedBy
    | with_reducible apply codecQueue_BoundedBy
    | with_reducible apply BoundedBy_fold
    | with_reducible apply OptBounded_none
    | with_reducible apply OptBounded_some
    | with_reducible apply OptSndBounded_none
    | with_reducible apply OptSndBounded_some
    | intro _
    | dsimp only [BoundedBy_mk, refuse_st]
    | split

theorem execCodecVerify_Bounded (s : State) (hb : Bounded s) : NextBounded (execCodecVerify s) := by
  unfold execCodecVerify
  unfold Bounded at hb
  repeat' first
    | with_reducible apply NextBounded_next
    | with_reducible assumption
    | with_reducible apply serve_BoundedBy
    | with_reducible apply codecQueue_BoundedBy
    | with_reducible apply BoundedBy_fold
    | with_reducible apply OptBounded_none
    | with_reducible apply OptBounded_some
    | with_reducible apply OptSndBounded_none
    | with_reducible apply OptSndBounded_some
    | intro _
    | dsimp only [BoundedBy_mk, refuse_st]
    | split

theorem execCodecFlush_Bounded (s : State) (hb : Bounded s) : NextBounded (execCodecFlush s) := by
  unfold execCodecFlush
  unfold Bounded at hb
  repeat' first
    | with_reducible apply NextBounded_next
    | with_reducible assumption
    | with_reducible apply serve_BoundedBy
    | with_reducible apply codecSettle_BoundedBy
    | with_reducible apply setJobs_BoundedBy
    | with_reducible apply BoundedBy_fold
    | with_reducible apply OptBounded_none
    | with_reducible apply OptBounded_some
    | with_reducible apply OptSndBounded_none
    | with_reducible apply OptSndBounded_some
    | intro _
    | dsimp only [BoundedBy_mk, refuse_st]
    | split

end Sys2Proof.Machine
end

