-- ==== Sys2Proof/Laws/BoundsLinkRows.lean ====
section
/-! SUPPORT. The operations of Machine/LinkRows.lean keep the bounds of the host interface (Safety.lean). -/

namespace Sys2Proof.Machine

theorem execLineFrameStart_Bounded (lane : Nat) (poison : Bool) (s : State) (hb : Bounded s) : NextBounded (execLineFrameStart lane poison s) := by
  unfold execLineFrameStart
  unfold Bounded at hb
  repeat' first
    | with_reducible apply NextBounded_next
    | with_reducible assumption
    | with_reducible apply atTime_BoundedBy
    | with_reducible apply bump_BoundedBy
    | with_reducible apply setPort_BoundedBy
    | with_reducible apply tick_BoundedBy
    | with_reducible apply txFrame_BoundedBy
    | with_reducible apply when_BoundedBy
    | with_reducible apply BoundedBy_fold
    | with_reducible apply OptBounded_none
    | with_reducible apply OptBounded_some
    | with_reducible apply OptSndBounded_none
    | with_reducible apply OptSndBounded_some
    | intro _
    | dsimp only [BoundedBy_mk, refuse_st]
    | split

theorem prbsSlot_BoundedBy {N : Nat} (g : Nat) (s : State) (hb : BoundedBy N s) : BoundedBy N (prbsSlot g s) := by
  unfold prbsSlot
  repeat' first
    | with_reducible assumption
    | with_reducible apply bump_BoundedBy
    | with_reducible apply setPort_BoundedBy
    | with_reducible apply txFrame_BoundedBy
    | with_reducible apply BoundedBy_fold
    | with_reducible apply OptBounded_none
    | with_reducible apply OptBounded_some
    | with_reducible apply OptSndBounded_none
    | with_reducible apply OptSndBounded_some
    | intro _
    | dsimp only [BoundedBy_mk, refuse_st]
    | split

theorem execPrbsSlotSend_Bounded (lane : Nat) (s : State) (hb : Bounded s) : NextBounded (execPrbsSlotSend lane s) := by
  unfold execPrbsSlotSend
  unfold Bounded at hb
  repeat' first
    | with_reducible apply NextBounded_next
    | with_reducible assumption
    | with_reducible apply atTime_BoundedBy
    | with_reducible apply prbsSlot_BoundedBy
    | with_reducible apply txDrain_BoundedBy
    | with_reducible apply BoundedBy_fold
    | with_reducible apply OptBounded_none
    | with_reducible apply OptBounded_some
    | with_reducible apply OptSndBounded_none
    | with_reducible apply OptSndBounded_some
    | intro _
    | dsimp only [BoundedBy_mk, refuse_st]
    | split

theorem lockNote_BoundedBy {N : Nat} (g : Nat) (s : State) (hb : BoundedBy N s) : BoundedBy N (lockNote g s) := by
  unfold lockNote
  repeat' first
    | with_reducible assumption
    | with_reducible apply acquired_BoundedBy
    | with_reducible apply linkTo_BoundedBy
    | with_reducible apply BoundedBy_fold
    | with_reducible apply OptBounded_none
    | with_reducible apply OptBounded_some
    | with_reducible apply OptSndBounded_none
    | with_reducible apply OptSndBounded_some
    | intro _
    | dsimp only [BoundedBy_mk, refuse_st]
    | split

theorem hdrNote_BoundedBy {N : Nat} (g : Nat) (ok : Bool) (s : State) (hb : BoundedBy N s) : BoundedBy N (hdrNote g ok s) := by
  unfold hdrNote
  repeat' first
    | with_reducible assumption
    | with_reducible apply lockLost_BoundedBy
    | with_reducible apply setPort_BoundedBy
    | with_reducible apply BoundedBy_fold
    | with_reducible apply OptBounded_none
    | with_reducible apply OptBounded_some
    | with_reducible apply OptSndBounded_none
    | with_reducible apply OptSndBounded_some
    | intro _
    | dsimp only [BoundedBy_mk, refuse_st]
    | split

theorem execBlockLock_Bounded (lane : Nat) (headers : List Bool) (s : State) (hb : Bounded s) : NextBounded (execBlockLock lane headers s) := by
  unfold execBlockLock
  unfold Bounded at hb
  repeat' first
    | with_reducible apply NextBounded_next
    | with_reducible assumption
    | with_reducible apply hdrNote_BoundedBy
    | with_reducible apply lockNote_BoundedBy
    | with_reducible apply forList_BoundedBy
    | with_reducible apply forList_fst_BoundedBy
    | with_reducible apply BoundedBy_fold
    | with_reducible apply OptBounded_none
    | with_reducible apply OptBounded_some
    | with_reducible apply OptSndBounded_none
    | with_reducible apply OptSndBounded_some
    | intro _
    | dsimp only [BoundedBy_mk, refuse_st]
    | split

theorem takeUp_BoundedBy {N : Nat} (g : Nat) (f : List (Byte × Bool)) (s : State) (hb : BoundedBy N s) : BoundedBy N (takeUp g f s) := by
  unfold takeUp
  repeat' first
    | with_reducible assumption
    | with_reducible apply lockLost_BoundedBy
    | with_reducible apply setPort_BoundedBy
    | with_reducible apply BoundedBy_fold
    | with_reducible apply OptBounded_none
    | with_reducible apply OptBounded_some
    | with_reducible apply OptSndBounded_none
    | with_reducible apply OptSndBounded_some
    | intro _
    | dsimp only [BoundedBy_mk, refuse_st]
    | split

theorem rxFrame_BoundedBy {N : Nat} (g : Nat) (f : List (Byte × Bool)) (s : State) (hb : BoundedBy N s) : BoundedBy N (rxFrame g f s) := by
  unfold rxFrame
  repeat' first
    | with_reducible assumption
    | with_reducible apply injOffer_BoundedBy
    | with_reducible apply setPort_BoundedBy
    | with_reducible apply takeUp_BoundedBy
    | with_reducible apply BoundedBy_fold
    | with_reducible apply OptBounded_none
    | with_reducible apply OptBounded_some
    | with_reducible apply OptSndBounded_none
    | with_reducible apply OptSndBounded_some
    | intro _
    | dsimp only [BoundedBy_mk, refuse_st]
    | split

theorem upCorrupt_BoundedBy {N : Nat} (g : Nat) (before : Nat) (lead : Nat) (bytes : List Byte) (s : State) (hb : BoundedBy N s) : BoundedBy N (upCorrupt g before lead bytes s) := by
  unfold upCorrupt
  repeat' first
    | with_reducible assumption
    | with_reducible apply injOffer_BoundedBy
    | with_reducible apply setPort_BoundedBy
    | with_reducible apply forList_BoundedBy
    | with_reducible apply forList_fst_BoundedBy
    | with_reducible apply BoundedBy_fold
    | with_reducible apply OptBounded_none
    | with_reducible apply OptBounded_some
    | with_reducible apply OptSndBounded_none
    | with_reducible apply OptSndBounded_some
    | intro _
    | dsimp only [BoundedBy_mk, refuse_st]
    | split

theorem takePayload_BoundedBy {N : Nat} (g : Nat) (msg : List Bool) (ok : Bool) (s : State) (hb : BoundedBy N s) : BoundedBy N (takePayload g msg ok s) := by
  unfold takePayload
  repeat' first
    | with_reducible assumption
    | with_reducible apply rxFrame_BoundedBy
    | with_reducible apply setPort_BoundedBy
    | with_reducible apply forList_BoundedBy
    | with_reducible apply forList_fst_BoundedBy
    | with_reducible apply BoundedBy_fold
    | with_reducible apply OptBounded_none
    | with_reducible apply OptBounded_some
    | with_reducible apply OptSndBounded_none
    | with_reducible apply OptSndBounded_some
    | intro _
    | dsimp only [BoundedBy_mk, refuse_st]
    | split

theorem execCodewordRx_Bounded (lane : Nat) (ws : List Bool) (s : State) (hb : Bounded s) : NextBounded (execCodewordRx lane ws s) := by
  unfold execCodewordRx
  unfold Bounded at hb
  repeat' first
    | with_reducible apply NextBounded_next
    | with_reducible assumption
    | with_reducible apply bump_BoundedBy
    | with_reducible apply hdrNote_BoundedBy
    | with_reducible apply lockLost_BoundedBy
    | with_reducible apply lockNote_BoundedBy
    | with_reducible apply setPort_BoundedBy
    | with_reducible apply takePayload_BoundedBy
    | with_reducible apply tick_BoundedBy
    | with_reducible apply upCorrupt_BoundedBy
    | with_reducible apply forList_BoundedBy
    | with_reducible apply forList_fst_BoundedBy
    | with_reducible apply BoundedBy_fold
    | with_reducible apply OptBounded_none
    | with_reducible apply OptBounded_some
    | with_reducible apply OptSndBounded_none
    | with_reducible apply OptSndBounded_some
    | intro _
    | dsimp only [BoundedBy_mk, refuse_st]
    | split

theorem popRx_BoundedBy {N : Nat} (g ft : Nat) (s : State) (hb : BoundedBy N s) : OptSndBounded N (popRx g ft s) := by
  unfold popRx
  repeat' first
    | with_reducible assumption
    | with_reducible apply atTime_BoundedBy
    | with_reducible apply setPort_BoundedBy
    | with_reducible apply BoundedBy_fold
    | with_reducible apply OptBounded_none
    | with_reducible apply OptBounded_some
    | with_reducible apply OptSndBounded_none
    | with_reducible apply OptSndBounded_some
    | intro _
    | dsimp only [BoundedBy_mk, refuse_st]
    | split

theorem dnCounts_BoundedBy {N : Nat} (g : Nat) (f : Status) (s : State) (hb : BoundedBy N s) : BoundedBy N (dnCounts g f s) := by
  unfold dnCounts
  repeat' first
    | with_reducible assumption
    | with_reducible apply bump_BoundedBy
    | with_reducible apply setPort_BoundedBy
    | with_reducible apply BoundedBy_fold
    | with_reducible apply OptBounded_none
    | with_reducible apply OptBounded_some
    | with_reducible apply OptSndBounded_none
    | with_reducible apply OptSndBounded_some
    | intro _
    | dsimp only [BoundedBy_mk, refuse_st]
    | split

theorem execStatusFrameRx_Bounded (lane : Nat) (s : State) (hb : Bounded s) : NextBounded (execStatusFrameRx lane s) := by
  unfold execStatusFrameRx
  unfold Bounded at hb
  repeat' first
    | with_reducible apply NextBounded_next
    | with_reducible assumption
    | with_reducible apply dnCounts_BoundedBy
    | with_reducible apply popRx_BoundedBy
    | refine (popRx_BoundedBy _ _ _ ?_).all _ _ (by with_reducible assumption)
    | with_reducible apply rowResults_BoundedBy
    | with_reducible apply setPort_BoundedBy
    | with_reducible apply tileTemp_BoundedBy
    | with_reducible apply forList_BoundedBy
    | with_reducible apply forList_fst_BoundedBy
    | with_reducible apply BoundedBy_fold
    | with_reducible apply OptBounded_none
    | with_reducible apply OptBounded_some
    | with_reducible apply OptSndBounded_none
    | with_reducible apply OptSndBounded_some
    | intro _
    | dsimp only [BoundedBy_mk, refuse_st]
    | split

theorem execPrbsSlotRx_Bounded (lane : Nat) (s : State) (hb : Bounded s) : NextBounded (execPrbsSlotRx lane s) := by
  unfold execPrbsSlotRx
  unfold Bounded at hb
  repeat' first
    | with_reducible apply NextBounded_next
    | with_reducible assumption
    | with_reducible apply bump_BoundedBy
    | with_reducible apply popRx_BoundedBy
    | refine (popRx_BoundedBy _ _ _ ?_).all _ _ (by with_reducible assumption)
    | with_reducible apply setPort_BoundedBy
    | with_reducible apply foldl_BoundedBy
    | with_reducible apply BoundedBy_fold
    | with_reducible apply OptBounded_none
    | with_reducible apply OptBounded_some
    | with_reducible apply OptSndBounded_none
    | with_reducible apply OptSndBounded_some
    | intro _
    | dsimp only [BoundedBy_mk, refuse_st]
    | split

theorem identifyEnd_BoundedBy {N : Nat} (g : Nat) (s : State) (hb : BoundedBy N s) : BoundedBy N (identifyEnd g s) := by
  unfold identifyEnd
  repeat' first
    | with_reducible assumption
    | with_reducible apply identified_BoundedBy
    | with_reducible apply linkTo_BoundedBy
    | with_reducible apply setPort_BoundedBy
    | with_reducible apply thresholdsOut_BoundedBy
    | with_reducible apply BoundedBy_fold
    | with_reducible apply OptBounded_none
    | with_reducible apply OptBounded_some
    | with_reducible apply OptSndBounded_none
    | with_reducible apply OptSndBounded_some
    | intro _
    | dsimp only [BoundedBy_mk, refuse_st]
    | split

theorem factoryRead_BoundedBy {N : Nat} (g : Nat) (s : State) (hb : BoundedBy N s) : BoundedBy N (factoryRead g s) := by
  unfold factoryRead
  repeat' first
    | with_reducible assumption
    | with_reducible apply mgmtSend_BoundedBy
    | with_reducible apply setPort_BoundedBy
    | with_reducible apply forRange_BoundedBy
    | with_reducible apply forRange_fst_BoundedBy
    | with_reducible apply BoundedBy_fold
    | with_reducible apply OptBounded_none
    | with_reducible apply OptBounded_some
    | with_reducible apply OptSndBounded_none
    | with_reducible apply OptSndBounded_some
    | intro _
    | dsimp only [BoundedBy_mk, refuse_st]
    | split

theorem userRead_BoundedBy {N : Nat} (g : Nat) (s : State) (hb : BoundedBy N s) : BoundedBy N (userRead g s) := by
  unfold userRead
  repeat' first
    | with_reducible assumption
    | with_reducible apply identifyEnd_BoundedBy
    | with_reducible apply BoundedBy_fold
    | with_reducible apply OptBounded_none
    | with_reducible apply OptBounded_some
    | with_reducible apply OptSndBounded_none
    | with_reducible apply OptSndBounded_some
    | intro _
    | dsimp only [BoundedBy_mk, refuse_st]
    | split

theorem sweepRead_BoundedBy {N : Nat} (g status : Nat) (data : List Byte) (s : State) (hb : BoundedBy N s) : BoundedBy N (sweepRead g status data s) := by
  unfold sweepRead
  repeat' first
    | with_reducible assumption
    | with_reducible apply setPort_BoundedBy
    | with_reducible apply BoundedBy_fold
    | with_reducible apply OptBounded_none
    | with_reducible apply OptBounded_some
    | with_reducible apply OptSndBounded_none
    | with_reducible apply OptSndBounded_some
    | intro _
    | dsimp only [BoundedBy_mk, refuse_st]
    | split

theorem uncalNote_BoundedBy {N : Nat} (g : Nat) (s : State) (hb : BoundedBy N s) : BoundedBy N (uncalNote g s) := by
  unfold uncalNote
  repeat' first
    | with_reducible assumption
    | with_reducible apply setTile_BoundedBy
    | with_reducible apply BoundedBy_fold
    | with_reducible apply OptBounded_none
    | with_reducible apply OptBounded_some
    | with_reducible apply OptSndBounded_none
    | with_reducible apply OptSndBounded_some
    | intro _
    | dsimp only [BoundedBy_mk, refuse_st]
    | split

theorem discardOver_BoundedBy {N : Nat} (kind loc : Nat) (s : State) (hb : BoundedBy N s) : BoundedBy N (discardOver kind loc s) := by
  unfold discardOver
  repeat' first
    | with_reducible assumption
    | with_reducible apply BoundedBy_fold
    | with_reducible apply OptBounded_none
    | with_reducible apply OptBounded_some
    | with_reducible apply OptSndBounded_none
    | with_reducible apply OptSndBounded_some
    | intro _
    | dsimp only [BoundedBy_mk, refuse_st]
    | split

theorem recordDone_BoundedBy {N : Nat} (g copy : Nat) (s : State) (hb : BoundedBy N s) : BoundedBy N (recordDone g copy s) := by
  unfold recordDone
  repeat' first
    | with_reducible assumption
    | with_reducible apply discardOver_BoundedBy
    | with_reducible apply uncalNote_BoundedBy
    | with_reducible apply BoundedBy_fold
    | with_reducible apply OptBounded_none
    | with_reducible apply OptBounded_some
    | with_reducible apply OptSndBounded_none
    | with_reducible apply OptSndBounded_some
    | intro _
    | dsimp only [BoundedBy_mk, refuse_st]
    | split

theorem mgmtUse_BoundedBy {N : Nat} (g : Nat) (r : MgmtReq) (status : Nat) (data : List Byte) (s : State) (hb : BoundedBy N s) : BoundedBy N (mgmtUse g r status data s) := by
  unfold mgmtUse
  repeat' first
    | with_reducible assumption
    | with_reducible apply factoryRead_BoundedBy
    | with_reducible apply identifyEnd_BoundedBy
    | with_reducible apply memAnswer_BoundedBy
    | with_reducible apply recordDone_BoundedBy
    | with_reducible apply recordLost_BoundedBy
    | with_reducible apply setPort_BoundedBy
    | with_reducible apply sweepRead_BoundedBy
    | with_reducible apply userRead_BoundedBy
    | with_reducible apply BoundedBy_fold
    | with_reducible apply OptBounded_none
    | with_reducible apply OptBounded_some
    | with_reducible apply OptSndBounded_none
    | with_reducible apply OptSndBounded_some
    | intro _
    | dsimp only [BoundedBy_mk, refuse_st]
    | split

theorem execMgmtResponseRx_Bounded (lane : Nat) (s : State) (hb : Bounded s) : NextBounded (execMgmtResponseRx lane s) := by
  unfold execMgmtResponseRx
  unfold Bounded at hb
  repeat' first
    | with_reducible apply NextBounded_next
    | with_reducible assumption
    | with_reducible apply mgmtNext_BoundedBy
    | with_reducible apply mgmtUse_BoundedBy
    | with_reducible apply popRx_BoundedBy
    | refine (popRx_BoundedBy _ _ _ ?_).all _ _ (by with_reducible assumption)
    | with_reducible apply setPort_BoundedBy
    | with_reducible apply BoundedBy_fold
    | with_reducible apply OptBounded_none
    | with_reducible apply OptBounded_some
    | with_reducible apply OptSndBounded_none
    | with_reducible apply OptSndBounded_some
    | intro _
    | dsimp only [BoundedBy_mk, refuse_st]
    | split

theorem mgmtFailed_BoundedBy {N : Nat} (g : Nat) (r : MgmtReq) (s : State) (hb : BoundedBy N s) : BoundedBy N (mgmtFailed g r s) := by
  unfold mgmtFailed
  repeat' first
    | with_reducible assumption
    | with_reducible apply memAnswer_BoundedBy
    | with_reducible apply recordLost_BoundedBy
    | with_reducible apply BoundedBy_fold
    | with_reducible apply OptBounded_none
    | with_reducible apply OptBounded_some
    | with_reducible apply OptSndBounded_none
    | with_reducible apply OptSndBounded_some
    | intro _
    | dsimp only [BoundedBy_mk, refuse_st]
    | split

theorem execMgmtRetryTimeout_Bounded (lane : Nat) (s : State) (hb : Bounded s) : NextBounded (execMgmtRetryTimeout lane s) := by
  unfold execMgmtRetryTimeout
  unfold Bounded at hb
  repeat' first
    | with_reducible apply NextBounded_next
    | with_reducible assumption
    | with_reducible apply atTime_BoundedBy
    | with_reducible apply mgmtFailed_BoundedBy
    | with_reducible apply mgmtNext_BoundedBy
    | with_reducible apply raise_BoundedBy
    | with_reducible apply setPort_BoundedBy
    | with_reducible apply tick_BoundedBy
    | with_reducible apply txOther_BoundedBy
    | with_reducible apply foldl_BoundedBy
    | with_reducible apply BoundedBy_fold
    | with_reducible apply OptBounded_none
    | with_reducible apply OptBounded_some
    | with_reducible apply OptSndBounded_none
    | with_reducible apply OptSndBounded_some
    | intro _
    | dsimp only [BoundedBy_mk, refuse_st]
    | split

theorem execProbeTimer_Bounded (lane : Nat) (s : State) (hb : Bounded s) : NextBounded (execProbeTimer lane s) := by
  unfold execProbeTimer
  unfold Bounded at hb
  repeat' first
    | with_reducible apply NextBounded_next
    | with_reducible assumption
    | with_reducible apply atTime_BoundedBy
    | with_reducible apply probeSend_BoundedBy
    | with_reducible apply setPort_BoundedBy
    | with_reducible apply BoundedBy_fold
    | with_reducible apply OptBounded_none
    | with_reducible apply OptBounded_some
    | with_reducible apply OptSndBounded_none
    | with_reducible apply OptSndBounded_some
    | intro _
    | dsimp only [BoundedBy_mk, refuse_st]
    | split

theorem execEchoRx_Bounded (lane : Nat) (bytes : List Byte) (t : Nat) (s : State) (hb : Bounded s) : NextBounded (execEchoRx lane bytes t s) := by
  unfold execEchoRx
  unfold Bounded at hb
  repeat' first
    | with_reducible apply NextBounded_next
    | with_reducible assumption
    | with_reducible apply atTime_BoundedBy
    | with_reducible apply latencyNew_BoundedBy
    | with_reducible apply measured_BoundedBy
    | with_reducible apply setPort_BoundedBy
    | with_reducible apply BoundedBy_fold
    | with_reducible apply OptBounded_none
    | with_reducible apply OptBounded_some
    | with_reducible apply OptSndBounded_none
    | with_reducible apply OptSndBounded_some
    | intro _
    | dsimp only [BoundedBy_mk, refuse_st]
    | split

theorem execProbeTimeout_Bounded (lane : Nat) (s : State) (hb : Bounded s) : NextBounded (execProbeTimeout lane s) := by
  unfold execProbeTimeout
  unfold Bounded at hb
  repeat' first
    | with_reducible apply NextBounded_next
    | with_reducible assumption
    | with_reducible apply atTime_BoundedBy
    | with_reducible apply measured_BoundedBy
    | with_reducible apply setPort_BoundedBy
    | with_reducible apply tick_BoundedBy
    | with_reducible apply BoundedBy_fold
    | with_reducible apply OptBounded_none
    | with_reducible apply OptBounded_some
    | with_reducible apply OptSndBounded_none
    | with_reducible apply OptSndBounded_some
    | intro _
    | dsimp only [BoundedBy_mk, refuse_st]
    | split

theorem execAcquirePeakTimer_Bounded (lane eye : Nat) (s : State) (hb : Bounded s) : NextBounded (execAcquirePeakTimer lane eye s) := by
  unfold execAcquirePeakTimer
  unfold Bounded at hb
  repeat' first
    | with_reducible apply NextBounded_next
    | with_reducible assumption
    | with_reducible apply atTime_BoundedBy
    | with_reducible apply lockNote_BoundedBy
    | with_reducible apply setPort_BoundedBy
    | with_reducible apply BoundedBy_fold
    | with_reducible apply OptBounded_none
    | with_reducible apply OptBounded_some
    | with_reducible apply OptSndBounded_none
    | with_reducible apply OptSndBounded_some
    | intro _
    | dsimp only [BoundedBy_mk, refuse_st]
    | split

theorem execAcquireRateTimer_Bounded (lane : Nat) (s : State) (hb : Bounded s) : NextBounded (execAcquireRateTimer lane s) := by
  unfold execAcquireRateTimer
  unfold Bounded at hb
  repeat' first
    | with_reducible apply NextBounded_next
    | with_reducible assumption
    | with_reducible apply atTime_BoundedBy
    | with_reducible apply linkTo_BoundedBy
    | with_reducible apply setPort_BoundedBy
    | with_reducible apply BoundedBy_fold
    | with_reducible apply OptBounded_none
    | with_reducible apply OptBounded_some
    | with_reducible apply OptSndBounded_none
    | with_reducible apply OptSndBounded_some
    | intro _
    | dsimp only [BoundedBy_mk, refuse_st]
    | split

theorem execOfflineRetryTimer_Bounded (lane : Nat) (s : State) (hb : Bounded s) : NextBounded (execOfflineRetryTimer lane s) := by
  unfold execOfflineRetryTimer
  unfold Bounded at hb
  repeat' first
    | with_reducible apply NextBounded_next
    | with_reducible assumption
    | with_reducible apply atTime_BoundedBy
    | with_reducible apply linkTo_BoundedBy
    | with_reducible apply BoundedBy_fold
    | with_reducible apply OptBounded_none
    | with_reducible apply OptBounded_some
    | with_reducible apply OptSndBounded_none
    | with_reducible apply OptSndBounded_some
    | intro _
    | dsimp only [BoundedBy_mk, refuse_st]
    | split

theorem execMgmtOnlyRetryTimer_Bounded (lane : Nat) (s : State) (hb : Bounded s) : NextBounded (execMgmtOnlyRetryTimer lane s) := by
  unfold execMgmtOnlyRetryTimer
  unfold Bounded at hb
  repeat' first
    | with_reducible apply NextBounded_next
    | with_reducible assumption
    | with_reducible apply atTime_BoundedBy
    | with_reducible apply linkTo_BoundedBy
    | with_reducible apply BoundedBy_fold
    | with_reducible apply OptBounded_none
    | with_reducible apply OptBounded_some
    | with_reducible apply OptSndBounded_none
    | with_reducible apply OptSndBounded_some
    | intro _
    | dsimp only [BoundedBy_mk, refuse_st]
    | split

theorem execFastExitTimeout_Bounded (lane : Nat) (s : State) (hb : Bounded s) : NextBounded (execFastExitTimeout lane s) := by
  unfold execFastExitTimeout
  unfold Bounded at hb
  repeat' first
    | with_reducible apply NextBounded_next
    | with_reducible assumption
    | with_reducible apply atTime_BoundedBy
    | with_reducible apply linkTo_BoundedBy
    | with_reducible apply BoundedBy_fold
    | with_reducible apply OptBounded_none
    | with_reducible apply OptBounded_some
    | with_reducible apply OptSndBounded_none
    | with_reducible apply OptSndBounded_some
    | intro _
    | dsimp only [BoundedBy_mk, refuse_st]
    | split

theorem execIdleEnterRx_Bounded (rx : SetRx) (s : State) (hb : Bounded s) : NextBounded (execIdleEnterRx rx s) := by
  unfold execIdleEnterRx
  unfold Bounded at hb
  repeat' first
    | with_reducible apply NextBounded_next
    | with_reducible assumption
    | with_reducible apply setPort_BoundedBy
    | with_reducible apply BoundedBy_fold
    | with_reducible apply OptBounded_none
    | with_reducible apply OptBounded_some
    | with_reducible apply OptSndBounded_none
    | with_reducible apply OptSndBounded_some
    | intro _
    | dsimp only [BoundedBy_mk, refuse_st]
    | split

theorem windowRestart_BoundedBy {N : Nat} (g : Nat) (s : State) (hb : BoundedBy N s) : BoundedBy N (windowRestart g s) := by
  unfold windowRestart
  repeat' first
    | with_reducible assumption
    | with_reducible apply setPort_BoundedBy
    | with_reducible apply BoundedBy_fold
    | with_reducible apply OptBounded_none
    | with_reducible apply OptBounded_some
    | with_reducible apply OptSndBounded_none
    | with_reducible apply OptSndBounded_some
    | intro _
    | dsimp only [BoundedBy_mk, refuse_st]
    | split

theorem execLinkErrorWindow_Bounded (lane eye : Nat) (s : State) (hb : Bounded s) : NextBounded (execLinkErrorWindow lane eye s) := by
  unfold execLinkErrorWindow
  unfold Bounded at hb
  repeat' first
    | with_reducible apply NextBounded_next
    | with_reducible assumption
    | with_reducible apply atTime_BoundedBy
    | with_reducible apply gapPend_BoundedBy
    | with_reducible apply raise_BoundedBy
    | with_reducible apply setPort_BoundedBy
    | with_reducible apply windowRestart_BoundedBy
    | with_reducible apply BoundedBy_fold
    | with_reducible apply OptBounded_none
    | with_reducible apply OptBounded_some
    | with_reducible apply OptSndBounded_none
    | with_reducible apply OptSndBounded_some
    | intro _
    | dsimp only [BoundedBy_mk, refuse_st]
    | split

theorem peakNote_BoundedBy {N : Nat} (g : Nat) (s : State) (hb : BoundedBy N s) : BoundedBy N (peakNote g s) := by
  unfold peakNote
  repeat' first
    | with_reducible assumption
    | with_reducible apply recDirty_BoundedBy
    | with_reducible apply BoundedBy_fold
    | with_reducible apply OptBounded_none
    | with_reducible apply OptBounded_some
    | with_reducible apply OptSndBounded_none
    | with_reducible apply OptSndBounded_some
    | intro _
    | dsimp only [BoundedBy_mk, refuse_st]
    | split

theorem retrainStart_BoundedBy {N : Nat} (g : Nat) (s : State) (hb : BoundedBy N s) : BoundedBy N (retrainStart g s) := by
  unfold retrainStart
  repeat' first
    | with_reducible assumption
    | with_reducible apply linkTo_BoundedBy
    | with_reducible apply mgmtSend_BoundedBy
    | with_reducible apply tick_BoundedBy
    | with_reducible apply BoundedBy_fold
    | with_reducible apply OptBounded_none
    | with_reducible apply OptBounded_some
    | with_reducible apply OptSndBounded_none
    | with_reducible apply OptSndBounded_some
    | intro _
    | dsimp only [BoundedBy_mk, refuse_st]
    | split

theorem retrainTile_BoundedBy {N : Nat} (g t0 t : Nat) (s : State) (hb : BoundedBy N s) : BoundedBy N (retrainTile g t0 t s) := by
  unfold retrainTile
  repeat' first
    | with_reducible assumption
    | with_reducible apply atTime_BoundedBy
    | with_reducible apply linkTo_BoundedBy
    | with_reducible apply mgmtSend_BoundedBy
    | with_reducible apply peakNote_BoundedBy
    | with_reducible apply probeSend_BoundedBy
    | with_reducible apply setPort_BoundedBy
    | with_reducible apply trainSettle_BoundedBy
    | with_reducible apply forRange_BoundedBy
    | with_reducible apply forRange_fst_BoundedBy
    | with_reducible apply BoundedBy_fold
    | with_reducible apply OptBounded_none
    | with_reducible apply OptBounded_some
    | with_reducible apply OptSndBounded_none
    | with_reducible apply OptSndBounded_some
    | intro _
    | dsimp only [BoundedBy_mk, refuse_st]
    | split

theorem retrainEnd_BoundedBy {N : Nat} (g : Nat) (up : List (Nat × Nat × Nat × Nat)) (s : State) (hb : BoundedBy N s) : BoundedBy N (retrainEnd g up s) := by
  unfold retrainEnd
  repeat' first
    | with_reducible assumption
    | with_reducible apply atTime_BoundedBy
    | with_reducible apply linkTo_BoundedBy
    | with_reducible apply prbsSlot_BoundedBy
    | with_reducible apply retrainTile_BoundedBy
    | with_reducible apply setPort_BoundedBy
    | with_reducible apply forRange_BoundedBy
    | with_reducible apply forRange_fst_BoundedBy
    | with_reducible apply BoundedBy_fold
    | with_reducible apply OptBounded_none
    | with_reducible apply OptBounded_some
    | with_reducible apply OptSndBounded_none
    | with_reducible apply OptSndBounded_some
    | intro _
    | dsimp only [BoundedBy_mk, refuse_st]
    | split

theorem execLinkStatus_Bounded (s : State) (hb : Bounded s) : NextBounded (execLinkStatus s) := by
  unfold execLinkStatus
  unfold Bounded at hb
  repeat' first
    | with_reducible apply NextBounded_next
    | with_reducible assumption
    | with_reducible apply serve_BoundedBy
    | with_reducible apply BoundedBy_fold
    | with_reducible apply OptBounded_none
    | with_reducible apply OptBounded_some
    | with_reducible apply OptSndBounded_none
    | with_reducible apply OptSndBounded_some
    | intro _
    | dsimp only [BoundedBy_mk, refuse_st]
    | split

theorem execLinkTrain_Bounded (s : State) (hb : Bounded s) : NextBounded (execLinkTrain s) := by
  unfold execLinkTrain
  unfold Bounded at hb
  repeat' first
    | with_reducible apply NextBounded_next
    | with_reducible assumption
    | with_reducible apply serve_BoundedBy
    | with_reducible apply gapPend_BoundedBy
    | with_reducible apply forList_BoundedBy
    | with_reducible apply forList_fst_BoundedBy
    | with_reducible apply BoundedBy_fold
    | with_reducible apply OptBounded_none
    | with_reducible apply OptBounded_some
    | with_reducible apply OptSndBounded_none
    | with_reducible apply OptSndBounded_some
    | intro _
    | dsimp only [BoundedBy_mk, refuse_st]
    | split

theorem execLinkConfig_Bounded (s : State) (hb : Bounded s) : NextBounded (execLinkConfig s) := by
  unfold execLinkConfig
  unfold Bounded at hb
  repeat' first
    | with_reducible apply NextBounded_next
    | with_reducible assumption
    | with_reducible apply serve_BoundedBy
    | with_reducible apply setPort_BoundedBy
    | with_reducible apply forList_BoundedBy
    | with_reducible apply forList_fst_BoundedBy
    | with_reducible apply BoundedBy_fold
    | with_reducible apply OptBounded_none
    | with_reducible apply OptBounded_some
    | with_reducible apply OptSndBounded_none
    | with_reducible apply OptSndBounded_some
    | intro _
    | dsimp only [BoundedBy_mk, refuse_st]
    | split

theorem laneOff_BoundedBy {N : Nat} (g : Nat) (s : State) (hb : BoundedBy N s) : BoundedBy N (laneOff g s) := by
  unfold laneOff
  repeat' first
    | with_reducible assumption
    | with_reducible apply linkMove_BoundedBy
    | with_reducible apply trainSettle_BoundedBy
    | with_reducible apply BoundedBy_fold
    | with_reducible apply OptBounded_none
    | with_reducible apply OptBounded_some
    | with_reducible apply OptSndBounded_none
    | with_reducible apply OptSndBounded_some
    | intro _
    | dsimp only [BoundedBy_mk, refuse_st]
    | split

theorem lanesOff_BoundedBy {N : Nat} (ls : List Nat) (s : State) (hb : BoundedBy N s) : BoundedBy N (lanesOff ls s) := by
  unfold lanesOff
  repeat' first
    | with_reducible assumption
    | with_reducible apply calReset_BoundedBy
    | with_reducible apply laneOff_BoundedBy
    | with_reducible apply forRange_BoundedBy
    | with_reducible apply forList_BoundedBy
    | with_reducible apply forRange_fst_BoundedBy
    | with_reducible apply forList_fst_BoundedBy
    | with_reducible apply BoundedBy_fold
    | with_reducible apply OptBounded_none
    | with_reducible apply OptBounded_some
    | with_reducible apply OptSndBounded_none
    | with_reducible apply OptSndBounded_some
    | intro _
    | dsimp only [BoundedBy_mk, refuse_st]
    | split

theorem laneOn_BoundedBy {N : Nat} (g : Nat) (s : State) (hb : BoundedBy N s) : BoundedBy N (laneOn g s) := by
  unfold laneOn
  repeat' first
    | with_reducible assumption
    | with_reducible apply linkTo_BoundedBy
    | with_reducible apply BoundedBy_fold
    | with_reducible apply OptBounded_none
    | with_reducible apply OptBounded_some
    | with_reducible apply OptSndBounded_none
    | with_reducible apply OptSndBounded_some
    | intro _
    | dsimp only [BoundedBy_mk, refuse_st]
    | split

theorem laneIdle_BoundedBy {N : Nat} (g : Nat) (s : State) (hb : BoundedBy N s) : BoundedBy N (laneIdle g s) := by
  unfold laneIdle
  repeat' first
    | with_reducible assumption
    | with_reducible apply linkTo_BoundedBy
    | with_reducible apply setPort_BoundedBy
    | with_reducible apply txAdvance_BoundedBy
    | with_reducible apply txSet_BoundedBy
    | with_reducible apply forRange_BoundedBy
    | with_reducible apply forRange_fst_BoundedBy
    | with_reducible apply BoundedBy_fold
    | with_reducible apply OptBounded_none
    | with_reducible apply OptBounded_some
    | with_reducible apply OptSndBounded_none
    | with_reducible apply OptSndBounded_some
    | intro _
    | dsimp only [BoundedBy_mk, refuse_st]
    | split

theorem execLinkEnable_Bounded (s : State) (hb : Bounded s) : NextBounded (execLinkEnable s) := by
  unfold execLinkEnable
  unfold Bounded at hb
  repeat' first
    | with_reducible apply NextBounded_next
    | with_reducible assumption
    | with_reducible apply serve_BoundedBy
    | with_reducible apply laneIdle_BoundedBy
    | with_reducible apply laneOn_BoundedBy
    | with_reducible apply lanesOff_BoundedBy
    | with_reducible apply setPort_BoundedBy
    | with_reducible apply forList_BoundedBy
    | with_reducible apply forList_fst_BoundedBy
    | with_reducible apply BoundedBy_fold
    | with_reducible apply OptBounded_none
    | with_reducible apply OptBounded_some
    | with_reducible apply OptSndBounded_none
    | with_reducible apply OptSndBounded_some
    | intro _
    | dsimp only [BoundedBy_mk, refuse_st]
    | split

theorem execLinkErrors_Bounded (s : State) (hb : Bounded s) : NextBounded (execLinkErrors s) := by
  unfold execLinkErrors
  unfold Bounded at hb
  repeat' first
    | with_reducible apply NextBounded_next
    | with_reducible assumption
    | with_reducible apply serve_BoundedBy
    | with_reducible apply windowRestart_BoundedBy
    | with_reducible apply BoundedBy_fold
    | with_reducible apply OptBounded_none
    | with_reducible apply OptBounded_some
    | with_reducible apply OptSndBounded_none
    | with_reducible apply OptSndBounded_some
    | intro _
    | dsimp only [BoundedBy_mk, refuse_st]
    | split

end Sys2Proof.Machine
end

