-- ==== Sys2Proof/Laws/BoundsRecords.lean ====
section
/-! SUPPORT. The operations of Machine/Records.lean keep the bounds of the host interface (Safety.lean). -/

namespace Sys2Proof.Machine

theorem putCopy_BoundedBy {N : Nat} (r : RecCopy) (s : State) (hb : BoundedBy N s) : BoundedBy N (putCopy r s) := by
  unfold putCopy
  repeat' first
    | with_reducible assumption
    | with_reducible apply BoundedBy_fold
    | with_reducible apply OptBounded_none
    | with_reducible apply OptBounded_some
    | with_reducible apply OptSndBounded_none
    | with_reducible apply OptSndBounded_some
    | intro _
    | dsimp only [BoundedBy_mk, refuse_st]
    | split

theorem recWrite_BoundedBy {N : Nat} (kind loc serial gen : Nat) (s : State) (hb : BoundedBy N s) : BoundedBy N (recWrite kind loc serial gen s) := by
  unfold recWrite
  repeat' first
    | with_reducible assumption
    | with_reducible apply discardOver_BoundedBy
    | with_reducible apply mgmtSend_BoundedBy
    | with_reducible apply putCopy_BoundedBy
    | with_reducible apply uncalNote_BoundedBy
    | with_reducible apply forRange_BoundedBy
    | with_reducible apply forRange_fst_BoundedBy
    | with_reducible apply BoundedBy_fold
    | with_reducible apply OptBounded_none
    | with_reducible apply OptBounded_some
    | with_reducible apply OptSndBounded_none
    | with_reducible apply OptSndBounded_some
    | intro _
    | dsimp only [BoundedBy_mk, refuse_st]
    | split

theorem execRecordWrite_Bounded (kind location : Nat) (s : State) (hb : Bounded s) : NextBounded (execRecordWrite kind location s) := by
  unfold execRecordWrite
  unfold Bounded at hb
  repeat' first
    | with_reducible apply NextBounded_next
    | with_reducible assumption
    | with_reducible apply atTime_BoundedBy
    | with_reducible apply recWrite_BoundedBy
    | with_reducible apply BoundedBy_fold
    | with_reducible apply OptBounded_none
    | with_reducible apply OptBounded_some
    | with_reducible apply OptSndBounded_none
    | with_reducible apply OptSndBounded_some
    | intro _
    | dsimp only [BoundedBy_mk, refuse_st]
    | split

theorem tileUncal_BoundedBy {N : Nat} (g : Nat) (s : State) (hb : BoundedBy N s) : BoundedBy N (tileUncal g s) := by
  unfold tileUncal
  repeat' first
    | with_reducible assumption
    | with_reducible apply calResetTile_BoundedBy
    | with_reducible apply setTile_BoundedBy
    | with_reducible apply BoundedBy_fold
    | with_reducible apply OptBounded_none
    | with_reducible apply OptBounded_some
    | with_reducible apply OptSndBounded_none
    | with_reducible apply OptSndBounded_some
    | intro _
    | dsimp only [BoundedBy_mk, refuse_st]
    | split

theorem discardNote_BoundedBy {N : Nat} (kind loc : Nat) (again : Bool) (s : State) (hb : BoundedBy N s) : BoundedBy N (discardNote kind loc again s) := by
  unfold discardNote
  repeat' first
    | with_reducible assumption
    | with_reducible apply BoundedBy_fold
    | with_reducible apply OptBounded_none
    | with_reducible apply OptBounded_some
    | with_reducible apply OptSndBounded_none
    | with_reducible apply OptSndBounded_some
    | intro _
    | dsimp only [BoundedBy_mk, refuse_st]
    | split

theorem recDiscard_BoundedBy {N : Nat} (kind loc : Nat) (s : State) (hb : BoundedBy N s) : BoundedBy N (recDiscard kind loc s) := by
  unfold recDiscard
  repeat' first
    | with_reducible assumption
    | with_reducible apply discardNote_BoundedBy
    | with_reducible apply moveCurves_BoundedBy
    | with_reducible apply queueCodes_BoundedBy
    | with_reducible apply recStale_BoundedBy
    | with_reducible apply setDly_BoundedBy
    | with_reducible apply setTile_BoundedBy
    | with_reducible apply tileUncal_BoundedBy
    | with_reducible apply trainNext_BoundedBy
    | with_reducible apply BoundedBy_fold
    | with_reducible apply OptBounded_none
    | with_reducible apply OptBounded_some
    | with_reducible apply OptSndBounded_none
    | with_reducible apply OptSndBounded_some
    | intro _
    | dsimp only [BoundedBy_mk, refuse_st]
    | split

theorem execRecDiscard_Bounded (s : State) (hb : Bounded s) : NextBounded (execRecDiscard s) := by
  unfold execRecDiscard
  unfold Bounded at hb
  repeat' first
    | with_reducible apply NextBounded_next
    | with_reducible assumption
    | with_reducible apply serve_BoundedBy
    | with_reducible apply recDiscard_BoundedBy
    | with_reducible apply BoundedBy_fold
    | with_reducible apply OptBounded_none
    | with_reducible apply OptBounded_some
    | with_reducible apply OptSndBounded_none
    | with_reducible apply OptSndBounded_some
    | intro _
    | dsimp only [BoundedBy_mk, refuse_st]
    | split

theorem execTileInfo_Bounded (s : State) (hb : Bounded s) : NextBounded (execTileInfo s) := by
  unfold execTileInfo
  unfold Bounded at hb
  repeat' first
    | with_reducible apply NextBounded_next
    | with_reducible assumption
    | with_reducible apply serve_BoundedBy
    | with_reducible apply BoundedBy_fold
    | with_reducible apply OptBounded_none
    | with_reducible apply OptBounded_some
    | with_reducible apply OptSndBounded_none
    | with_reducible apply OptSndBounded_some
    | intro _
    | dsimp only [BoundedBy_mk, refuse_st]
    | split

theorem execTileThermal_Bounded (s : State) (hb : Bounded s) : NextBounded (execTileThermal s) := by
  unfold execTileThermal
  unfold Bounded at hb
  repeat' first
    | with_reducible apply NextBounded_next
    | with_reducible assumption
    | with_reducible apply serve_BoundedBy
    | with_reducible apply setTile_BoundedBy
    | with_reducible apply thresholdsOut_BoundedBy
    | with_reducible apply forList_BoundedBy
    | with_reducible apply forList_fst_BoundedBy
    | with_reducible apply BoundedBy_fold
    | with_reducible apply OptBounded_none
    | with_reducible apply OptBounded_some
    | with_reducible apply OptSndBounded_none
    | with_reducible apply OptSndBounded_some
    | intro _
    | dsimp only [BoundedBy_mk, refuse_st]
    | split

theorem execTileMem_Bounded (s : State) (hb : Bounded s) : NextBounded (execTileMem s) := by
  unfold execTileMem
  unfold Bounded at hb
  repeat' first
    | with_reducible apply NextBounded_next
    | with_reducible assumption
    | with_reducible apply serve_BoundedBy
    | with_reducible apply mgmtSend_BoundedBy
    | with_reducible apply BoundedBy_fold
    | with_reducible apply OptBounded_none
    | with_reducible apply OptBounded_some
    | with_reducible apply OptSndBounded_none
    | with_reducible apply OptSndBounded_some
    | intro _
    | dsimp only [BoundedBy_mk, refuse_st]
    | split

theorem setTsb_BoundedBy {N : Nat} (st : Nat) (f : TileSideband → TileSideband) (s : State) (hb : BoundedBy N s) : BoundedBy N (setTsb st f s) := by
  unfold setTsb
  repeat' first
    | with_reducible assumption
    | with_reducible apply BoundedBy_fold
    | with_reducible apply OptBounded_none
    | with_reducible apply OptBounded_some
    | with_reducible apply OptSndBounded_none
    | with_reducible apply OptSndBounded_some
    | intro _
    | dsimp only [BoundedBy_mk, refuse_st]
    | split

theorem execTilePower_Bounded (s : State) (hb : Bounded s) : NextBounded (execTilePower s) := by
  unfold execTilePower
  unfold Bounded at hb
  repeat' first
    | with_reducible apply NextBounded_next
    | with_reducible assumption
    | with_reducible apply serve_BoundedBy
    | with_reducible apply lanesOff_BoundedBy
    | with_reducible apply setTsb_BoundedBy
    | with_reducible apply BoundedBy_fold
    | with_reducible apply OptBounded_none
    | with_reducible apply OptBounded_some
    | with_reducible apply OptSndBounded_none
    | with_reducible apply OptSndBounded_some
    | intro _
    | dsimp only [BoundedBy_mk, refuse_st]
    | split

theorem execTilePowerDelayExpiry_Bounded (station : Nat) (s : State) (hb : Bounded s) : NextBounded (execTilePowerDelayExpiry station s) := by
  unfold execTilePowerDelayExpiry
  unfold Bounded at hb
  repeat' first
    | with_reducible apply NextBounded_next
    | with_reducible assumption
    | with_reducible apply atTime_BoundedBy
    | with_reducible apply laneOn_BoundedBy
    | with_reducible apply setTsb_BoundedBy
    | with_reducible apply forList_BoundedBy
    | with_reducible apply forList_fst_BoundedBy
    | with_reducible apply BoundedBy_fold
    | with_reducible apply OptBounded_none
    | with_reducible apply OptBounded_some
    | with_reducible apply OptSndBounded_none
    | with_reducible apply OptSndBounded_some
    | intro _
    | dsimp only [BoundedBy_mk, refuse_st]
    | split

end Sys2Proof.Machine
end

