-- ==== Sys2Proof/Laws/BoundsCons.lean ====
section
/-! SUPPORT. The operations of Machine/Cons.lean keep the bounds of the host interface (Safety.lean). -/

namespace Sys2Proof.Machine

theorem setCons_BoundedBy {N : Nat} (n : Nat) (f : ConsSlot → ConsSlot) (s : State) (hb : BoundedBy N s) : BoundedBy N (setCons n f s) := by
  unfold setCons
  repeat' first
    | with_reducible assumption
    | with_reducible apply BoundedBy_fold
    | with_reducible apply OptBounded_none
    | with_reducible apply OptBounded_some
    | with_reducible apply OptSndBounded_none
    | with_reducible apply OptSndBounded_some
    | intro _
    | dsimp only [BoundedBy_mk, refuse_st]
    | split

theorem consTo_BoundedBy {N : Nat} (n : Nat) (new : ConsSt) (cause : Nat) (s : State) (hb : BoundedBy N s) : BoundedBy N (consTo n new cause s) := by
  unfold consTo
  repeat' first
    | with_reducible assumption
    | with_reducible apply raise_BoundedBy
    | with_reducible apply setCons_BoundedBy
    | with_reducible apply BoundedBy_fold
    | with_reducible apply OptBounded_none
    | with_reducible apply OptBounded_some
    | with_reducible apply OptSndBounded_none
    | with_reducible apply OptSndBounded_some
    | intro _
    | dsimp only [BoundedBy_mk, refuse_st]
    | split

theorem consSend_BoundedBy {N : Nat} (n : Nat) (s : State) (hb : BoundedBy N s) : BoundedBy N (consSend n s) := by
  unfold consSend
  repeat' first
    | with_reducible assumption
    | with_reducible apply emit_BoundedBy
    | with_reducible apply setCons_BoundedBy
    | with_reducible apply BoundedBy_fold
    | with_reducible apply OptBounded_none
    | with_reducible apply OptBounded_some
    | with_reducible apply OptSndBounded_none
    | with_reducible apply OptSndBounded_some
    | intro _
    | dsimp only [BoundedBy_mk, refuse_st]
    | split

theorem authStart_BoundedBy {N : Nat} (n : Nat) (s : State) (hb : BoundedBy N s) : BoundedBy N (authStart n s) := by
  unfold authStart
  repeat' first
    | with_reducible assumption
    | with_reducible apply consSend_BoundedBy
    | with_reducible apply setCons_BoundedBy
    | with_reducible apply BoundedBy_fold
    | with_reducible apply OptBounded_none
    | with_reducible apply OptBounded_some
    | with_reducible apply OptSndBounded_none
    | with_reducible apply OptSndBounded_some
    | intro _
    | dsimp only [BoundedBy_mk, refuse_st]
    | split

theorem authSettle_BoundedBy {N : Nat} (n status : Nat) (s : State) (hb : BoundedBy N s) : BoundedBy N (authSettle n status s) := by
  unfold authSettle
  repeat' first
    | with_reducible assumption
    | with_reducible apply BoundedBy_fold
    | with_reducible apply OptBounded_none
    | with_reducible apply OptBounded_some
    | with_reducible apply OptSndBounded_none
    | with_reducible apply OptSndBounded_some
    | intro _
    | dsimp only [BoundedBy_mk, refuse_st]
    | split

theorem authDone_BoundedBy {N : Nat} (s : State) (hb : BoundedBy N s) : BoundedBy N (authDone s) := by
  unfold authDone
  repeat' first
    | with_reducible assumption
    | with_reducible apply complete_BoundedBy
    | with_reducible apply forList_BoundedBy
    | with_reducible apply forList_fst_BoundedBy
    | with_reducible apply BoundedBy_fold
    | with_reducible apply OptBounded_none
    | with_reducible apply OptBounded_some
    | with_reducible apply OptSndBounded_none
    | with_reducible apply OptSndBounded_some
    | intro _
    | dsimp only [BoundedBy_mk, refuse_st]
    | split

theorem reqEnd_BoundedBy {N : Nat} (n : Nat) (s : State) (hb : BoundedBy N s) : BoundedBy N (reqEnd n s) := by
  unfold reqEnd
  repeat' first
    | with_reducible assumption
    | with_reducible apply authStart_BoundedBy
    | with_reducible apply setCons_BoundedBy
    | with_reducible apply BoundedBy_fold
    | with_reducible apply OptBounded_none
    | with_reducible apply OptBounded_some
    | with_reducible apply OptSndBounded_none
    | with_reducible apply OptSndBounded_some
    | intro _
    | dsimp only [BoundedBy_mk, refuse_st]
    | split

theorem consFail_BoundedBy {N : Nat} (n cause status : Nat) (s : State) (hb : BoundedBy N s) : BoundedBy N (consFail n cause status s) := by
  unfold consFail
  repeat' first
    | with_reducible assumption
    | with_reducible apply authSettle_BoundedBy
    | with_reducible apply authStart_BoundedBy
    | with_reducible apply consTo_BoundedBy
    | with_reducible apply setCons_BoundedBy
    | with_reducible apply tick_BoundedBy
    | with_reducible apply BoundedBy_fold
    | with_reducible apply OptBounded_none
    | with_reducible apply OptBounded_some
    | with_reducible apply OptSndBounded_none
    | with_reducible apply OptSndBounded_some
    | intro _
    | dsimp only [BoundedBy_mk, refuse_st]
    | split

theorem busError_BoundedBy {N : Nat} (n : Nat) (s : State) (hb : BoundedBy N s) : BoundedBy N (busError n s) := by
  unfold busError
  repeat' first
    | with_reducible assumption
    | with_reducible apply consFail_BoundedBy
    | with_reducible apply consSend_BoundedBy
    | with_reducible apply setCons_BoundedBy
    | with_reducible apply tick_BoundedBy
    | with_reducible apply BoundedBy_fold
    | with_reducible apply OptBounded_none
    | with_reducible apply OptBounded_some
    | with_reducible apply OptSndBounded_none
    | with_reducible apply OptSndBounded_some
    | intro _
    | dsimp only [BoundedBy_mk, refuse_st]
    | split

theorem certTake_BoundedBy {N : Nat} (n : Nat) (p : List Byte) (s : State) (hb : BoundedBy N s) : BoundedBy N (certTake n p s) := by
  unfold certTake
  repeat' first
    | with_reducible assumption
    | with_reducible apply consFail_BoundedBy
    | with_reducible apply consSend_BoundedBy
    | with_reducible apply drawNat_BoundedBy
    | with_reducible apply setCons_BoundedBy
    | with_reducible apply BoundedBy_fold
    | with_reducible apply OptBounded_none
    | with_reducible apply OptBounded_some
    | with_reducible apply OptSndBounded_none
    | with_reducible apply OptSndBounded_some
    | intro _
    | dsimp only [BoundedBy_mk, refuse_st]
    | split

theorem consPass_BoundedBy {N : Nat} (n count : Nat) (s : State) (hb : BoundedBy N s) : BoundedBy N (consPass n count s) := by
  unfold consPass
  repeat' first
    | with_reducible assumption
    | with_reducible apply authSettle_BoundedBy
    | with_reducible apply bump_BoundedBy
    | with_reducible apply consTo_BoundedBy
    | with_reducible apply recDirty_BoundedBy
    | with_reducible apply recStale_BoundedBy
    | with_reducible apply reqEnd_BoundedBy
    | with_reducible apply setCons_BoundedBy
    | with_reducible apply BoundedBy_fold
    | with_reducible apply OptBounded_none
    | with_reducible apply OptBounded_some
    | with_reducible apply OptSndBounded_none
    | with_reducible apply OptSndBounded_some
    | intro _
    | dsimp only [BoundedBy_mk, refuse_st]
    | split

theorem challengeTake_BoundedBy {N : Nat} (n nonce : Nat) (p : List Byte) (s : State) (hb : BoundedBy N s) : BoundedBy N (challengeTake n nonce p s) := by
  unfold challengeTake
  repeat' first
    | with_reducible assumption
    | with_reducible apply consFail_BoundedBy
    | with_reducible apply consPass_BoundedBy
    | with_reducible apply BoundedBy_fold
    | with_reducible apply OptBounded_none
    | with_reducible apply OptBounded_some
    | with_reducible apply OptSndBounded_none
    | with_reducible apply OptSndBounded_some
    | intro _
    | dsimp only [BoundedBy_mk, refuse_st]
    | split

theorem incrementTake_BoundedBy {N : Nat} (n nonce delta : Nat) (p : List Byte) (s : State) (hb : BoundedBy N s) : BoundedBy N (incrementTake n nonce delta p s) := by
  unfold incrementTake
  repeat' first
    | with_reducible assumption
    | with_reducible apply consFail_BoundedBy
    | with_reducible apply consTo_BoundedBy
    | with_reducible apply recDirty_BoundedBy
    | with_reducible apply reqEnd_BoundedBy
    | with_reducible apply setCons_BoundedBy
    | with_reducible apply tick_BoundedBy
    | with_reducible apply BoundedBy_fold
    | with_reducible apply OptBounded_none
    | with_reducible apply OptBounded_some
    | with_reducible apply OptSndBounded_none
    | with_reducible apply OptSndBounded_some
    | intro _
    | dsimp only [BoundedBy_mk, refuse_st]
    | split

theorem consAnswer_BoundedBy {N : Nat} (n status : Nat) (p : List Byte) (s : State) (hb : BoundedBy N s) : BoundedBy N (consAnswer n status p s) := by
  unfold consAnswer
  repeat' first
    | with_reducible assumption
    | with_reducible apply certTake_BoundedBy
    | with_reducible apply challengeTake_BoundedBy
    | with_reducible apply consFail_BoundedBy
    | with_reducible apply incrementTake_BoundedBy
    | with_reducible apply BoundedBy_fold
    | with_reducible apply OptBounded_none
    | with_reducible apply OptBounded_some
    | with_reducible apply OptSndBounded_none
    | with_reducible apply OptSndBounded_some
    | intro _
    | dsimp only [BoundedBy_mk, refuse_st]
    | split

theorem execConsChipResponse_Bounded (slot : Nat) (data : List Byte) (ok : Bool) (s : State) (hb : Bounded s) : NextBounded (execConsChipResponse slot data ok s) := by
  unfold execConsChipResponse
  unfold Bounded at hb
  repeat' first
    | with_reducible apply NextBounded_next
    | with_reducible assumption
    | with_reducible apply authDone_BoundedBy
    | with_reducible apply busError_BoundedBy
    | with_reducible apply consAnswer_BoundedBy
    | with_reducible apply setCons_BoundedBy
    | with_reducible apply BoundedBy_fold
    | with_reducible apply OptBounded_none
    | with_reducible apply OptBounded_some
    | with_reducible apply OptSndBounded_none
    | with_reducible apply OptSndBounded_some
    | intro _
    | dsimp only [BoundedBy_mk, refuse_st]
    | split

theorem execConsBusyRetry_Bounded (slot : Nat) (s : State) (hb : Bounded s) : NextBounded (execConsBusyRetry slot s) := by
  unfold execConsBusyRetry
  unfold Bounded at hb
  repeat' first
    | with_reducible apply NextBounded_next
    | with_reducible assumption
    | with_reducible apply atTime_BoundedBy
    | with_reducible apply authDone_BoundedBy
    | with_reducible apply busError_BoundedBy
    | with_reducible apply setCons_BoundedBy
    | with_reducible apply BoundedBy_fold
    | with_reducible apply OptBounded_none
    | with_reducible apply OptBounded_some
    | with_reducible apply OptSndBounded_none
    | with_reducible apply OptSndBounded_some
    | intro _
    | dsimp only [BoundedBy_mk, refuse_st]
    | split

theorem execConsBusTimeout_Bounded (slot : Nat) (s : State) (hb : Bounded s) : NextBounded (execConsBusTimeout slot s) := by
  unfold execConsBusTimeout
  unfold Bounded at hb
  repeat' first
    | with_reducible apply NextBounded_next
    | with_reducible assumption
    | with_reducible apply authDone_BoundedBy
    | with_reducible apply busError_BoundedBy
    | with_reducible apply BoundedBy_fold
    | with_reducible apply OptBounded_none
    | with_reducible apply OptBounded_some
    | with_reducible apply OptSndBounded_none
    | with_reducible apply OptSndBounded_some
    | intro _
    | dsimp only [BoundedBy_mk, refuse_st]
    | split

theorem recordRead_BoundedBy {N : Nat} (n : Nat) (s : State) (hb : BoundedBy N s) : BoundedBy N (recordRead n s) := by
  unfold recordRead
  repeat' first
    | with_reducible assumption
    | with_reducible apply setCons_BoundedBy
    | with_reducible apply foldl_BoundedBy
    | with_reducible apply BoundedBy_fold
    | with_reducible apply OptBounded_none
    | with_reducible apply OptBounded_some
    | with_reducible apply OptSndBounded_none
    | with_reducible apply OptSndBounded_some
    | intro _
    | dsimp only [BoundedBy_mk, refuse_st]
    | split

theorem pollSlot_BoundedBy {N : Nat} (n : Nat) (ack : Bool) (s : State) (hb : BoundedBy N s) : BoundedBy N (pollSlot n ack s) := by
  unfold pollSlot
  repeat' first
    | with_reducible assumption
    | with_reducible apply authSettle_BoundedBy
    | with_reducible apply authStart_BoundedBy
    | with_reducible apply consTo_BoundedBy
    | with_reducible apply setCons_BoundedBy
    | with_reducible apply BoundedBy_fold
    | with_reducible apply OptBounded_none
    | with_reducible apply OptBounded_some
    | with_reducible apply OptSndBounded_none
    | with_reducible apply OptSndBounded_some
    | intro _
    | dsimp only [BoundedBy_mk, refuse_st]
    | split

theorem execConsPoll_Bounded (acks : Nat) (s : State) (hb : Bounded s) : NextBounded (execConsPoll acks s) := by
  unfold execConsPoll
  unfold Bounded at hb
  repeat' first
    | with_reducible apply NextBounded_next
    | with_reducible assumption
    | with_reducible apply atTime_BoundedBy
    | with_reducible apply authDone_BoundedBy
    | with_reducible apply pollSlot_BoundedBy
    | with_reducible apply recordRead_BoundedBy
    | with_reducible apply forRange_BoundedBy
    | with_reducible apply forRange_fst_BoundedBy
    | with_reducible apply BoundedBy_fold
    | with_reducible apply OptBounded_none
    | with_reducible apply OptBounded_some
    | with_reducible apply OptSndBounded_none
    | with_reducible apply OptSndBounded_some
    | intro _
    | dsimp only [BoundedBy_mk, refuse_st]
    | split

theorem execConsAuthTimer_Bounded (slot : Nat) (s : State) (hb : Bounded s) : NextBounded (execConsAuthTimer slot s) := by
  unfold execConsAuthTimer
  unfold Bounded at hb
  repeat' first
    | with_reducible apply NextBounded_next
    | with_reducible assumption
    | with_reducible apply atTime_BoundedBy
    | with_reducible apply authStart_BoundedBy
    | with_reducible apply BoundedBy_fold
    | with_reducible apply OptBounded_none
    | with_reducible apply OptBounded_some
    | with_reducible apply OptSndBounded_none
    | with_reducible apply OptSndBounded_some
    | intro _
    | dsimp only [BoundedBy_mk, refuse_st]
    | split

theorem execConsIncrement_Bounded (slot : Nat) (s : State) (hb : Bounded s) : NextBounded (execConsIncrement slot s) := by
  unfold execConsIncrement
  unfold Bounded at hb
  repeat' first
    | with_reducible apply NextBounded_next
    | with_reducible assumption
    | with_reducible apply consSend_BoundedBy
    | with_reducible apply drawNat_BoundedBy
    | with_reducible apply setCons_BoundedBy
    | with_reducible apply BoundedBy_fold
    | with_reducible apply OptBounded_none
    | with_reducible apply OptBounded_some
    | with_reducible apply OptSndBounded_none
    | with_reducible apply OptSndBounded_some
    | intro _
    | dsimp only [BoundedBy_mk, refuse_st]
    | split

theorem consCharge_BoundedBy {N : Nat} (p : Page) (s : State) (hb : BoundedBy N s) : BoundedBy N (consCharge p s) := by
  unfold consCharge
  repeat' first
    | with_reducible assumption
    | with_reducible apply recDirty_BoundedBy
    | with_reducible apply setCons_BoundedBy
    | with_reducible apply forRange_BoundedBy
    | with_reducible apply forRange_fst_BoundedBy
    | with_reducible apply BoundedBy_fold
    | with_reducible apply OptBounded_none
    | with_reducible apply OptBounded_some
    | with_reducible apply OptSndBounded_none
    | with_reducible apply OptSndBounded_some
    | intro _
    | dsimp only [BoundedBy_mk, refuse_st]
    | split

theorem execConsStatus_Bounded (s : State) (hb : Bounded s) : NextBounded (execConsStatus s) := by
  unfold execConsStatus
  unfold Bounded at hb
  repeat' first
    | with_reducible apply NextBounded_next
    | with_reducible assumption
    | with_reducible apply serve_BoundedBy
    | with_reducible apply BoundedBy_fold
    | with_reducible apply OptBounded_none
    | with_reducible apply OptBounded_some
    | with_reducible apply OptSndBounded_none
    | with_reducible apply OptSndBounded_some
    | intro _
    | dsimp only [BoundedBy_mk, refuse_st]
    | split

theorem execConsBind_Bounded (s : State) (hb : Bounded s) : NextBounded (execConsBind s) := by
  unfold execConsBind
  unfold Bounded at hb
  repeat' first
    | with_reducible apply NextBounded_next
    | with_reducible assumption
    | with_reducible apply serve_BoundedBy
    | with_reducible apply setCons_BoundedBy
    | with_reducible apply BoundedBy_fold
    | with_reducible apply OptBounded_none
    | with_reducible apply OptBounded_some
    | with_reducible apply OptSndBounded_none
    | with_reducible apply OptSndBounded_some
    | intro _
    | dsimp only [BoundedBy_mk, refuse_st]
    | split

theorem execConsAuth_Bounded (s : State) (hb : Bounded s) : NextBounded (execConsAuth s) := by
  unfold execConsAuth
  unfold Bounded at hb
  repeat' first
    | with_reducible apply NextBounded_next
    | with_reducible assumption
    | with_reducible apply serve_BoundedBy
    | with_reducible apply authDone_BoundedBy
    | with_reducible apply authSettle_BoundedBy
    | with_reducible apply authStart_BoundedBy
    | with_reducible apply forList_BoundedBy
    | with_reducible apply forList_fst_BoundedBy
    | with_reducible apply BoundedBy_fold
    | with_reducible apply OptBounded_none
    | with_reducible apply OptBounded_some
    | with_reducible apply OptSndBounded_none
    | with_reducible apply OptSndBounded_some
    | intro _
    | dsimp only [BoundedBy_mk, refuse_st]
    | split

theorem execConsOtpKey_Bounded (s : State) (hb : Bounded s) : NextBounded (execConsOtpKey s) := by
  unfold execConsOtpKey
  unfold Bounded at hb
  repeat' first
    | with_reducible apply NextBounded_next
    | with_reducible assumption
    | with_reducible apply serve_BoundedBy
    | with_reducible apply BoundedBy_fold
    | with_reducible apply OptBounded_none
    | with_reducible apply OptBounded_some
    | with_reducible apply OptSndBounded_none
    | with_reducible apply OptSndBounded_some
    | intro _
    | dsimp only [BoundedBy_mk, refuse_st]
    | split

end Sys2Proof.Machine
end

