-- ==== Sys2Proof/Laws/BoundsCurrent.lean ====
section
/-! SUPPORT. The operations of Machine/Current.lean keep the bounds of the host interface (Safety.lean). -/

namespace Sys2Proof.Machine

theorem velStep_BoundedBy {N : Nat} (a : Nat) (s : State) (hb : BoundedBy N s) : BoundedBy N (velStep a s) := by
  unfold velStep
  repeat' first
    | with_reducible assumption
    | with_reducible apply drawInt_BoundedBy
    | with_reducible apply drawNat_BoundedBy
    | with_reducible apply setDrv_BoundedBy
    | with_reducible apply BoundedBy_fold
    | with_reducible apply OptBounded_none
    | with_reducible apply OptBounded_some
    | with_reducible apply OptSndBounded_none
    | with_reducible apply OptSndBounded_some
    | intro _
    | dsimp only [BoundedBy_mk, refuse_st]
    | split

theorem stage_BoundedBy {N : Nat} (a : Nat) (g : Group) (s : State) (hb : BoundedBy N s) : BoundedBy N (stage a g s).1 := by
  unfold stage
  repeat' first
    | with_reducible assumption
    | with_reducible apply tick_BoundedBy
    | with_reducible apply BoundedBy_fold
    | with_reducible apply OptBounded_none
    | with_reducible apply OptBounded_some
    | with_reducible apply OptSndBounded_none
    | with_reducible apply OptSndBounded_some
    | intro _
    | dsimp only [BoundedBy_mk, refuse_st]
    | split

theorem measuredDq_BoundedBy {N : Nat} (a : Nat) (i : Int × Int × Int) (θ : Nat) (s : State) (hb : BoundedBy N s) : BoundedBy N (measuredDq a i θ s).1 := by
  unfold measuredDq
  repeat' first
    | with_reducible assumption
    | with_reducible apply stage_BoundedBy
    | with_reducible apply BoundedBy_fold
    | with_reducible apply OptBounded_none
    | with_reducible apply OptBounded_some
    | with_reducible apply OptSndBounded_none
    | with_reducible apply OptSndBounded_some
    | intro _
    | dsimp only [BoundedBy_mk, refuse_st]
    | split

theorem currentLaw_BoundedBy {N : Nat} (a : Nat) (id iq refD refQ : Int) (θ : Nat) (s : State) (hb : BoundedBy N s) : BoundedBy N (currentLaw a id iq refD refQ θ s) := by
  unfold currentLaw
  repeat' first
    | with_reducible assumption
    | with_reducible apply drawInt_BoundedBy
    | with_reducible apply setDrv_BoundedBy
    | with_reducible apply setLoop_BoundedBy
    | with_reducible apply stage_BoundedBy
    | with_reducible apply tick_BoundedBy
    | with_reducible apply BoundedBy_fold
    | with_reducible apply OptBounded_none
    | with_reducible apply OptBounded_some
    | with_reducible apply OptSndBounded_none
    | with_reducible apply OptSndBounded_some
    | intro _
    | dsimp only [BoundedBy_mk, refuse_st]
    | split

theorem sampleDq_BoundedBy {N : Nat} (a : Nat) (m : Option (Int × Int × Int)) (θ : Nat) (s : State) (hb : BoundedBy N s) : BoundedBy N (sampleDq a m θ s).1 := by
  unfold sampleDq
  repeat' first
    | with_reducible assumption
    | with_reducible apply drawInt_BoundedBy
    | with_reducible apply measuredDq_BoundedBy
    | with_reducible apply measured_BoundedBy
    | with_reducible apply setDrv_BoundedBy
    | with_reducible apply tick_BoundedBy
    | with_reducible apply BoundedBy_fold
    | with_reducible apply OptBounded_none
    | with_reducible apply OptBounded_some
    | with_reducible apply OptSndBounded_none
    | with_reducible apply OptSndBounded_some
    | intro _
    | dsimp only [BoundedBy_mk, refuse_st]
    | split

theorem currentSample_BoundedBy {N : Nat} (a : Nat) (m : Option (Int × Int × Int) × Bool) (s : State) (hb : BoundedBy N s) : BoundedBy N (currentSample a m s) := by
  unfold currentSample
  repeat' first
    | with_reducible assumption
    | with_reducible apply currentLaw_BoundedBy
    | with_reducible apply sampleDq_BoundedBy
    | with_reducible apply tick_BoundedBy
    | with_reducible apply BoundedBy_fold
    | with_reducible apply OptBounded_none
    | with_reducible apply OptBounded_some
    | with_reducible apply OptSndBounded_none
    | with_reducible apply OptSndBounded_some
    | intro _
    | dsimp only [BoundedBy_mk, refuse_st]
    | split

end Sys2Proof.Machine
end

