-- ==== Sys2Proof/Laws/BoundsDrives.lean ====
section
/-! SUPPORT. The operations of Machine/Drives.lean keep the bounds of the host interface (Safety.lean). -/

namespace Sys2Proof.Machine

theorem axisEnable_BoundedBy {N : Nat} (a cause : Nat) (s : State) (hb : BoundedBy N s) : BoundedBy N (axisEnable a cause s) := by
  unfold axisEnable
  repeat' first
    | with_reducible assumption
    | with_reducible apply askMode_BoundedBy
    | with_reducible apply drvTo_BoundedBy
    | with_reducible apply setDrv_BoundedBy
    | with_reducible apply BoundedBy_fold
    | with_reducible apply OptBounded_none
    | with_reducible apply OptBounded_some
    | with_reducible apply OptSndBounded_none
    | with_reducible apply OptSndBounded_some
    | intro _
    | dsimp only [BoundedBy_mk, refuse_st]
    | split

theorem startRamp_BoundedBy {N : Nat} (a : Nat) (target : Int) (acc dec : Nat) (s : State) (hb : BoundedBy N s) : BoundedBy N (startRamp a target acc dec s) := by
  unfold startRamp
  repeat' first
    | with_reducible assumption
    | with_reducible apply askMode_BoundedBy
    | with_reducible apply askSetpoint_BoundedBy
    | with_reducible apply drawNat_BoundedBy
    | with_reducible apply setDrv_BoundedBy
    | with_reducible apply BoundedBy_fold
    | with_reducible apply OptBounded_none
    | with_reducible apply OptBounded_some
    | with_reducible apply OptSndBounded_none
    | with_reducible apply OptSndBounded_some
    | intro _
    | dsimp only [BoundedBy_mk, refuse_st]
    | split

theorem startGo_BoundedBy {N : Nat} (a : Nat) (s : State) (hb : BoundedBy N s) : BoundedBy N (startGo a s) := by
  unfold startGo
  repeat' first
    | with_reducible assumption
    | with_reducible apply alignDone_BoundedBy
    | with_reducible apply axisEnable_BoundedBy
    | with_reducible apply drvTo_BoundedBy
    | with_reducible apply setDrv_BoundedBy
    | with_reducible apply startRamp_BoundedBy
    | with_reducible apply BoundedBy_fold
    | with_reducible apply OptBounded_none
    | with_reducible apply OptBounded_some
    | with_reducible apply OptSndBounded_none
    | with_reducible apply OptSndBounded_some
    | intro _
    | dsimp only [BoundedBy_mk, refuse_st]
    | split

theorem alignTick_BoundedBy {N : Nat} (a : Nat) (s : State) (hb : BoundedBy N s) : BoundedBy N (alignTick a s) := by
  unfold alignTick
  repeat' first
    | with_reducible assumption
    | with_reducible apply drvTo_BoundedBy
    | with_reducible apply setDrv_BoundedBy
    | with_reducible apply BoundedBy_fold
    | with_reducible apply OptBounded_none
    | with_reducible apply OptBounded_some
    | with_reducible apply OptSndBounded_none
    | with_reducible apply OptSndBounded_some
    | intro _
    | dsimp only [BoundedBy_mk, refuse_st]
    | split

theorem execAxisAlignDone_Bounded (axis : Nat) (s : State) (hb : Bounded s) : NextBounded (execAxisAlignDone axis s) := by
  unfold execAxisAlignDone
  unfold Bounded at hb
  repeat' first
    | with_reducible apply NextBounded_next
    | with_reducible assumption
    | with_reducible apply atTime_BoundedBy
    | with_reducible apply completeOpt_BoundedBy
    | with_reducible apply drvTo_BoundedBy
    | with_reducible apply setDrv_BoundedBy
    | with_reducible apply startGo_BoundedBy
    | with_reducible apply BoundedBy_fold
    | with_reducible apply OptBounded_none
    | with_reducible apply OptBounded_some
    | with_reducible apply OptSndBounded_none
    | with_reducible apply OptSndBounded_some
    | intro _
    | dsimp only [BoundedBy_mk, refuse_st]
    | split

theorem offsetWindow_BoundedBy {N : Nat} (a : Nat) (w : Int × Int × Int) (s : State) (hb : BoundedBy N s) : BoundedBy N (offsetWindow a w s) := by
  unfold offsetWindow
  repeat' first
    | with_reducible assumption
    | with_reducible apply calFail_BoundedBy
    | with_reducible apply calNext_BoundedBy
    | with_reducible apply drawNat_BoundedBy
    | with_reducible apply raise_BoundedBy
    | with_reducible apply setCal_BoundedBy
    | with_reducible apply setDrv_BoundedBy
    | with_reducible apply BoundedBy_fold
    | with_reducible apply OptBounded_none
    | with_reducible apply OptBounded_some
    | with_reducible apply OptSndBounded_none
    | with_reducible apply OptSndBounded_some
    | intro _
    | dsimp only [BoundedBy_mk, refuse_st]
    | split

theorem offsetSample_BoundedBy {N : Nat} (a : Nat) (i : Int × Int × Int) (s : State) (hb : BoundedBy N s) : BoundedBy N (offsetSample a i s) := by
  unfold offsetSample
  repeat' first
    | with_reducible assumption
    | with_reducible apply calDiscard_BoundedBy
    | with_reducible apply offsetWindow_BoundedBy
    | with_reducible apply setCal_BoundedBy
    | with_reducible apply setDrv_BoundedBy
    | with_reducible apply BoundedBy_fold
    | with_reducible apply OptBounded_none
    | with_reducible apply OptBounded_some
    | with_reducible apply OptSndBounded_none
    | with_reducible apply OptSndBounded_some
    | intro _
    | dsimp only [BoundedBy_mk, refuse_st]
    | split

theorem ascEnd_BoundedBy {N : Nat} (a : Nat) (s : State) (hb : BoundedBy N s) : BoundedBy N (ascEnd a s) := by
  unfold ascEnd
  repeat' first
    | with_reducible assumption
    | with_reducible apply drvTo_BoundedBy
    | with_reducible apply BoundedBy_fold
    | with_reducible apply OptBounded_none
    | with_reducible apply OptBounded_some
    | with_reducible apply OptSndBounded_none
    | with_reducible apply OptSndBounded_some
    | intro _
    | dsimp only [BoundedBy_mk, refuse_st]
    | split

theorem execPwmPeriod_Bounded (axis : Nat) (su sv sw : Int) (s : State) (hb : Bounded s) : NextBounded (execPwmPeriod axis su sv sw s) := by
  unfold execPwmPeriod
  unfold Bounded at hb
  repeat' first
    | with_reducible apply NextBounded_next
    | with_reducible assumption
    | with_reducible apply alignTick_BoundedBy
    | with_reducible apply ascEnd_BoundedBy
    | with_reducible apply atTime_BoundedBy
    | with_reducible apply currentSample_BoundedBy
    | with_reducible apply drvFault_BoundedBy
    | with_reducible apply offsetSample_BoundedBy
    | with_reducible apply setDrv_BoundedBy
    | with_reducible apply velStep_BoundedBy
    | with_reducible apply when_BoundedBy
    | with_reducible apply BoundedBy_fold
    | with_reducible apply OptBounded_none
    | with_reducible apply OptBounded_some
    | with_reducible apply OptSndBounded_none
    | with_reducible apply OptSndBounded_some
    | intro _
    | dsimp only [BoundedBy_mk, refuse_st]
    | split

theorem execDrvFaultInput_Bounded (axis : Nat) (s : State) (hb : Bounded s) : NextBounded (execDrvFaultInput axis s) := by
  unfold execDrvFaultInput
  unfold Bounded at hb
  repeat' first
    | with_reducible apply NextBounded_next
    | with_reducible assumption
    | with_reducible apply drvFault_BoundedBy
    | with_reducible apply when_BoundedBy
    | with_reducible apply BoundedBy_fold
    | with_reducible apply OptBounded_none
    | with_reducible apply OptBounded_some
    | with_reducible apply OptSndBounded_none
    | with_reducible apply OptSndBounded_some
    | intro _
    | dsimp only [BoundedBy_mk, refuse_st]
    | split

theorem execAxisStopTimeout_Bounded (axis : Nat) (s : State) (hb : Bounded s) : NextBounded (execAxisStopTimeout axis s) := by
  unfold execAxisStopTimeout
  unfold Bounded at hb
  repeat' first
    | with_reducible apply NextBounded_next
    | with_reducible assumption
    | with_reducible apply ascEnd_BoundedBy
    | with_reducible apply atTime_BoundedBy
    | with_reducible apply setDrv_BoundedBy
    | with_reducible apply when_BoundedBy
    | with_reducible apply BoundedBy_fold
    | with_reducible apply OptBounded_none
    | with_reducible apply OptBounded_some
    | with_reducible apply OptSndBounded_none
    | with_reducible apply OptSndBounded_some
    | intro _
    | dsimp only [BoundedBy_mk, refuse_st]
    | split

theorem execAxisConfig_Bounded (s : State) (hb : Bounded s) : NextBounded (execAxisConfig s) := by
  unfold execAxisConfig
  unfold Bounded at hb
  repeat' first
    | with_reducible apply NextBounded_next
    | with_reducible assumption
    | with_reducible apply serve_BoundedBy
    | with_reducible apply drvTo_BoundedBy
    | with_reducible apply setDrv_BoundedBy
    | with_reducible apply BoundedBy_fold
    | with_reducible apply OptBounded_none
    | with_reducible apply OptBounded_some
    | with_reducible apply OptSndBounded_none
    | with_reducible apply OptSndBounded_some
    | intro _
    | dsimp only [BoundedBy_mk, refuse_st]
    | split

theorem execAxisAdvance_Bounded (s : State) (hb : Bounded s) : NextBounded (execAxisAdvance s) := by
  unfold execAxisAdvance
  unfold Bounded at hb
  repeat' first
    | with_reducible apply NextBounded_next
    | with_reducible assumption
    | with_reducible apply serve_BoundedBy
    | with_reducible apply setDrv_BoundedBy
    | with_reducible apply BoundedBy_fold
    | with_reducible apply OptBounded_none
    | with_reducible apply OptBounded_some
    | with_reducible apply OptSndBounded_none
    | with_reducible apply OptSndBounded_some
    | intro _
    | dsimp only [BoundedBy_mk, refuse_st]
    | split

theorem execAxisAlign_Bounded (s : State) (hb : Bounded s) : NextBounded (execAxisAlign s) := by
  unfold execAxisAlign
  unfold Bounded at hb
  repeat' first
    | with_reducible apply NextBounded_next
    | with_reducible assumption
    | with_reducible apply serve_BoundedBy
    | with_reducible apply drvTo_BoundedBy
    | with_reducible apply setDrv_BoundedBy
    | with_reducible apply BoundedBy_fold
    | with_reducible apply OptBounded_none
    | with_reducible apply OptBounded_some
    | with_reducible apply OptSndBounded_none
    | with_reducible apply OptSndBounded_some
    | intro _
    | dsimp only [BoundedBy_mk, refuse_st]
    | split

theorem execAxisEnable_Bounded (s : State) (hb : Bounded s) : NextBounded (execAxisEnable s) := by
  unfold execAxisEnable
  unfold Bounded at hb
  repeat' first
    | with_reducible apply NextBounded_next
    | with_reducible assumption
    | with_reducible apply serve_BoundedBy
    | with_reducible apply axisEnable_BoundedBy
    | with_reducible apply drvTo_BoundedBy
    | with_reducible apply BoundedBy_fold
    | with_reducible apply OptBounded_none
    | with_reducible apply OptBounded_some
    | with_reducible apply OptSndBounded_none
    | with_reducible apply OptSndBounded_some
    | intro _
    | dsimp only [BoundedBy_mk, refuse_st]
    | split

theorem startPending_BoundedBy {N : Nat} (oid : Nat) (s : State) (hb : BoundedBy N s) : BoundedBy N (startPending oid s) := by
  unfold startPending
  repeat' first
    | with_reducible assumption
    | with_reducible apply startGo_BoundedBy
    | with_reducible apply forRange_BoundedBy
    | with_reducible apply forRange_fst_BoundedBy
    | with_reducible apply BoundedBy_fold
    | with_reducible apply OptBounded_none
    | with_reducible apply OptBounded_some
    | with_reducible apply OptSndBounded_none
    | with_reducible apply OptSndBounded_some
    | intro _
    | dsimp only [BoundedBy_mk, refuse_st]
    | split

theorem execAxisStart_Bounded (s : State) (hb : Bounded s) : NextBounded (execAxisStart s) := by
  unfold execAxisStart
  unfold Bounded at hb
  repeat' first
    | with_reducible apply NextBounded_next
    | with_reducible assumption
    | with_reducible apply serve_BoundedBy
    | with_reducible apply alignDone_BoundedBy
    | with_reducible apply setDrv_BoundedBy
    | with_reducible apply startPending_BoundedBy
    | with_reducible apply BoundedBy_fold
    | with_reducible apply OptBounded_none
    | with_reducible apply OptBounded_some
    | with_reducible apply OptSndBounded_none
    | with_reducible apply OptSndBounded_some
    | intro _
    | dsimp only [BoundedBy_mk, refuse_st]
    | split

theorem execAxisStatus_Bounded (s : State) (hb : Bounded s) : NextBounded (execAxisStatus s) := by
  unfold execAxisStatus
  unfold Bounded at hb
  repeat' first
    | with_reducible apply NextBounded_next
    | with_reducible assumption
    | with_reducible apply serve_BoundedBy
    | with_reducible apply BoundedBy_fold
    | with_reducible apply OptBounded_none
    | with_reducible apply OptBounded_some
    | with_reducible apply OptSndBounded_none
    | with_reducible apply OptSndBounded_some
    | intro _
    | dsimp only [BoundedBy_mk, refuse_st]
    | split

end Sys2Proof.Machine
end

