-- ==== Sys2Proof/Laws/BoundsExpand.lean ====
section
/-! SUPPORT. The operations of Machine/Expand.lean keep the bounds of the host interface (Safety.lean). -/

namespace Sys2Proof.Machine

theorem execBlockFetch_Bounded (engine tile err bit : Nat) (s : State) (hb : Bounded s) : NextBounded (execBlockFetch engine tile err bit s) := by
  unfold execBlockFetch
  unfold Bounded at hb
  repeat' first
    | with_reducible apply NextBounded_next
    | with_reducible assumption
    | with_reducible apply blockFail_BoundedBy
    | with_reducible apply memCe_BoundedBy
    | with_reducible apply memUe_BoundedBy
    | with_reducible apply setLane_BoundedBy
    | with_reducible apply when_BoundedBy
    | with_reducible apply BoundedBy_fold
    | with_reducible apply OptBounded_none
    | with_reducible apply OptBounded_some
    | with_reducible apply OptSndBounded_none
    | with_reducible apply OptSndBounded_some
    | intro _
    | dsimp only [BoundedBy_mk, refuse_st]
    | split

theorem execBlockDecodeDone_Bounded (engine tile : Nat) (seen : List Byte) (run : DecodeEnd) (s : State) (hb : Bounded s) : NextBounded (execBlockDecodeDone engine tile seen run s) := by
  unfold execBlockDecodeDone
  unfold Bounded at hb
  repeat' first
    | with_reducible apply NextBounded_next
    | with_reducible assumption
    | with_reducible apply blockFail_BoundedBy
    | with_reducible apply engFail_BoundedBy
    | with_reducible apply movesNow_BoundedBy
    | with_reducible apply setEng_BoundedBy
    | with_reducible apply setLane_BoundedBy
    | with_reducible apply when_BoundedBy
    | with_reducible apply BoundedBy_fold
    | with_reducible apply OptBounded_none
    | with_reducible apply OptBounded_some
    | with_reducible apply OptSndBounded_none
    | with_reducible apply OptSndBounded_some
    | intro _
    | dsimp only [BoundedBy_mk, refuse_st]
    | split

theorem produce_BoundedBy {N : Nat} (e : Nat) (l : Lane) (p : Page) (n dur : Nat) (bad : Option Nat) (s : State) (hb : BoundedBy N s) : BoundedBy N (produce e l p n dur bad s) := by
  unfold produce
  repeat' first
    | with_reducible assumption
    | with_reducible apply setEng_BoundedBy
    | with_reducible apply setLane_BoundedBy
    | with_reducible apply spanNote_BoundedBy
    | with_reducible apply writeBandLine_BoundedBy
    | with_reducible apply BoundedBy_fold
    | with_reducible apply OptBounded_none
    | with_reducible apply OptBounded_some
    | with_reducible apply OptSndBounded_none
    | with_reducible apply OptSndBounded_some
    | intro _
    | dsimp only [BoundedBy_mk, refuse_st]
    | split

theorem dropLine_BoundedBy {N : Nat} (p : Page) (tile n : Nat) (s : State) (hb : BoundedBy N s) : BoundedBy N (dropLine p tile n s) := by
  unfold dropLine
  repeat' first
    | with_reducible assumption
    | with_reducible apply badLines_BoundedBy
    | with_reducible apply spoil_BoundedBy
    | with_reducible apply BoundedBy_fold
    | with_reducible apply OptBounded_none
    | with_reducible apply OptBounded_some
    | with_reducible apply OptSndBounded_none
    | with_reducible apply OptSndBounded_some
    | intro _
    | dsimp only [BoundedBy_mk, refuse_st]
    | split

theorem screenWordLost_BoundedBy {N : Nat} (i word : Nat) (s : State) (hb : BoundedBy N s) : BoundedBy N (screenWordLost i word s) := by
  unfold screenWordLost
  repeat' first
    | with_reducible assumption
    | with_reducible apply BoundedBy_fold
    | with_reducible apply OptBounded_none
    | with_reducible apply OptBounded_some
    | with_reducible apply OptSndBounded_none
    | with_reducible apply OptSndBounded_some
    | intro _
    | dsimp only [BoundedBy_mk, refuse_st]
    | split

theorem knotLost_BoundedBy {N : Nat} (st col : Nat) (s : State) (hb : BoundedBy N s) : BoundedBy N (knotLost st col s) := by
  unfold knotLost
  repeat' first
    | with_reducible assumption
    | with_reducible apply BoundedBy_fold
    | with_reducible apply OptBounded_none
    | with_reducible apply OptBounded_some
    | with_reducible apply OptSndBounded_none
    | with_reducible apply OptSndBounded_some
    | intro _
    | dsimp only [BoundedBy_mk, refuse_st]
    | split

theorem execBandLineDone_Bounded (engine dur check place : Nat) (s : State) (hb : Bounded s) : NextBounded (execBandLineDone engine dur check place s) := by
  unfold execBandLineDone
  unfold Bounded at hb
  repeat' first
    | with_reducible apply NextBounded_next
    | with_reducible assumption
    | with_reducible apply blockFail_BoundedBy
    | with_reducible apply dropLine_BoundedBy
    | with_reducible apply engFail_BoundedBy
    | with_reducible apply knotLost_BoundedBy
    | with_reducible apply memCe_BoundedBy
    | with_reducible apply memUe_BoundedBy
    | with_reducible apply produce_BoundedBy
    | with_reducible apply screenWordLost_BoundedBy
    | with_reducible apply setLane_BoundedBy
    | with_reducible apply tick_BoundedBy
    | with_reducible apply when_BoundedBy
    | with_reducible apply BoundedBy_fold
    | with_reducible apply OptBounded_none
    | with_reducible apply OptBounded_some
    | with_reducible apply OptSndBounded_none
    | with_reducible apply OptSndBounded_some
    | intro _
    | dsimp only [BoundedBy_mk, refuse_st]
    | split

theorem execBandLineRelease_Bounded (engine tile : Nat) (s : State) (hb : Bounded s) : NextBounded (execBandLineRelease engine tile s) := by
  unfold execBandLineRelease
  unfold Bounded at hb
  repeat' first
    | with_reducible apply NextBounded_next
    | with_reducible assumption
    | with_reducible apply releaseLine_BoundedBy
    | with_reducible apply when_BoundedBy
    | with_reducible apply BoundedBy_fold
    | with_reducible apply OptBounded_none
    | with_reducible apply OptBounded_some
    | with_reducible apply OptSndBounded_none
    | with_reducible apply OptSndBounded_some
    | intro _
    | dsimp only [BoundedBy_mk, refuse_st]
    | split

theorem execEngineHang_Bounded (engine : Nat) (s : State) (hb : Bounded s) : NextBounded (execEngineHang engine s) := by
  unfold execEngineHang
  unfold Bounded at hb
  repeat' first
    | with_reducible apply NextBounded_next
    | with_reducible assumption
    | with_reducible apply engFail_BoundedBy
    | with_reducible apply movesNow_BoundedBy
    | with_reducible apply when_BoundedBy
    | with_reducible apply BoundedBy_fold
    | with_reducible apply OptBounded_none
    | with_reducible apply OptBounded_some
    | with_reducible apply OptSndBounded_none
    | with_reducible apply OptSndBounded_some
    | intro _
    | dsimp only [BoundedBy_mk, refuse_st]
    | split

theorem execReplayStart_Bounded (s : State) (hb : Bounded s) : NextBounded (execReplayStart s) := by
  unfold execReplayStart
  unfold Bounded at hb
  repeat' first
    | with_reducible apply NextBounded_next
    | with_reducible assumption
    | with_reducible apply setEng_BoundedBy
    | with_reducible apply when_BoundedBy
    | with_reducible apply BoundedBy_fold
    | with_reducible apply OptBounded_none
    | with_reducible apply OptBounded_some
    | with_reducible apply OptSndBounded_none
    | with_reducible apply OptSndBounded_some
    | intro _
    | dsimp only [BoundedBy_mk, refuse_st]
    | split

theorem replayLine_BoundedBy {N : Nat} (r : Replay) (p : Page) (odd : List (Nat × List Byte)) (e n : Nat) (s : State) (hb : BoundedBy N s) : BoundedBy N (replayLine r p odd e n s) := by
  unfold replayLine
  repeat' first
    | with_reducible assumption
    | with_reducible apply dropLine_BoundedBy
    | with_reducible apply releaseLine_BoundedBy
    | with_reducible apply spanNote_BoundedBy
    | with_reducible apply writeBandLine_BoundedBy
    | with_reducible apply BoundedBy_fold
    | with_reducible apply OptBounded_none
    | with_reducible apply OptBounded_some
    | with_reducible apply OptSndBounded_none
    | with_reducible apply OptSndBounded_some
    | intro _
    | dsimp only [BoundedBy_mk, refuse_st]
    | split

theorem replayPass_BoundedBy {N : Nat} (r : Replay) (p : Page) (t : PbStream) (block : Nat) (odd : List (Nat × List Byte)) (outcome e dur : Nat) (s : State) (hb : BoundedBy N s) : BoundedBy N (replayPass r p t block odd outcome e dur s) := by
  unfold replayPass
  repeat' first
    | with_reducible assumption
    | with_reducible apply replayEnd_BoundedBy
    | with_reducible apply replayLine_BoundedBy
    | with_reducible apply setEng_BoundedBy
    | with_reducible apply forList_BoundedBy
    | with_reducible apply forList_fst_BoundedBy
    | with_reducible apply foldl_BoundedBy
    | with_reducible apply BoundedBy_fold
    | with_reducible apply OptBounded_none
    | with_reducible apply OptBounded_some
    | with_reducible apply OptSndBounded_none
    | with_reducible apply OptSndBounded_some
    | intro _
    | dsimp only [BoundedBy_mk, refuse_st]
    | split

theorem flagSuspect_BoundedBy {N : Nat} (p : Page) (tile block line lines : Nat) (s : State) (hb : BoundedBy N s) : BoundedBy N (flagSuspect p tile block line lines s) := by
  unfold flagSuspect
  repeat' first
    | with_reducible assumption
    | with_reducible apply bump_BoundedBy
    | with_reducible apply raise_BoundedBy
    | with_reducible apply setPage_BoundedBy
    | with_reducible apply BoundedBy_fold
    | with_reducible apply OptBounded_none
    | with_reducible apply OptBounded_some
    | with_reducible apply OptSndBounded_none
    | with_reducible apply OptSndBounded_some
    | intro _
    | dsimp only [BoundedBy_mk, refuse_st]
    | split

theorem execReplayDone_Bounded (engine : Nat) (seen : List Byte) (run : DecodeEnd) (s : State) (hb : Bounded s) : NextBounded (execReplayDone engine seen run s) := by
  unfold execReplayDone
  unfold Bounded at hb
  repeat' first
    | with_reducible apply NextBounded_next
    | with_reducible assumption
    | with_reducible apply badLines_BoundedBy
    | with_reducible apply engFail_BoundedBy
    | with_reducible apply fenceNow_BoundedBy
    | with_reducible apply flagSuspect_BoundedBy
    | with_reducible apply giveUnserved_BoundedBy
    | with_reducible apply movesNow_BoundedBy
    | with_reducible apply replayEnd_BoundedBy
    | with_reducible apply replayPass_BoundedBy
    | with_reducible apply setEng_BoundedBy
    | with_reducible apply spoil_BoundedBy
    | with_reducible apply startTest_BoundedBy
    | with_reducible apply when_BoundedBy
    | with_reducible apply BoundedBy_fold
    | with_reducible apply OptBounded_none
    | with_reducible apply OptBounded_some
    | with_reducible apply OptSndBounded_none
    | with_reducible apply OptSndBounded_some
    | intro _
    | dsimp only [BoundedBy_mk, refuse_st]
    | split

theorem execSelfTestDone_Bounded (engine : Nat) (ok : Bool) (s : State) (hb : Bounded s) : NextBounded (execSelfTestDone engine ok s) := by
  unfold execSelfTestDone
  unfold Bounded at hb
  repeat' first
    | with_reducible apply NextBounded_next
    | with_reducible assumption
    | with_reducible apply atTime_BoundedBy
    | with_reducible apply engSettle_BoundedBy
    | with_reducible apply giveUnserved_BoundedBy
    | with_reducible apply noteFence_BoundedBy
    | with_reducible apply raise_BoundedBy
    | with_reducible apply setEng_BoundedBy
    | with_reducible apply tick_BoundedBy
    | with_reducible apply when_BoundedBy
    | with_reducible apply BoundedBy_fold
    | with_reducible apply OptBounded_none
    | with_reducible apply OptBounded_some
    | with_reducible apply OptSndBounded_none
    | with_reducible apply OptSndBounded_some
    | intro _
    | dsimp only [BoundedBy_mk, refuse_st]
    | split

theorem execEngineWarmupDone_Bounded (engine : Nat) (s : State) (hb : Bounded s) : NextBounded (execEngineWarmupDone engine s) := by
  unfold execEngineWarmupDone
  unfold Bounded at hb
  repeat' first
    | with_reducible apply NextBounded_next
    | with_reducible assumption
    | with_reducible apply engSettle_BoundedBy
    | with_reducible apply setEng_BoundedBy
    | with_reducible apply when_BoundedBy
    | with_reducible apply BoundedBy_fold
    | with_reducible apply OptBounded_none
    | with_reducible apply OptBounded_some
    | with_reducible apply OptSndBounded_none
    | with_reducible apply OptSndBounded_some
    | intro _
    | dsimp only [BoundedBy_mk, refuse_st]
    | split

theorem rotateLanes_BoundedBy {N : Nat} (out inn q : Nat) (head : Page) (h : Nat) (s : State) (hb : BoundedBy N s) : BoundedBy N (rotateLanes out inn q head h s) := by
  unfold rotateLanes
  repeat' first
    | with_reducible assumption
    | with_reducible apply BoundedBy_fold
    | with_reducible apply OptBounded_none
    | with_reducible apply OptBounded_some
    | with_reducible apply OptSndBounded_none
    | with_reducible apply OptSndBounded_some
    | intro _
    | dsimp only [BoundedBy_mk, refuse_st]
    | split

theorem rotationStart_BoundedBy {N : Nat} (s : State) (hb : BoundedBy N s) : BoundedBy N (rotationStart s) := by
  unfold rotationStart
  repeat' first
    | with_reducible assumption
    | with_reducible apply engTake_BoundedBy
    | with_reducible apply rotateLanes_BoundedBy
    | with_reducible apply BoundedBy_fold
    | intro _
    | dsimp only [BoundedBy_mk]
    | split

theorem execRotationTimer_Bounded (s : State) (hb : Bounded s) : NextBounded (execRotationTimer s) := by
  unfold execRotationTimer
  unfold Bounded at hb
  repeat' first
    | with_reducible apply NextBounded_next
    | with_reducible assumption
    | with_reducible apply atTime_BoundedBy
    | with_reducible apply rotationStart_BoundedBy
    | with_reducible apply when_BoundedBy
    | with_reducible apply BoundedBy_fold
    | with_reducible apply OptBounded_none
    | with_reducible apply OptBounded_some
    | with_reducible apply OptSndBounded_none
    | with_reducible apply OptSndBounded_some
    | intro _
    | dsimp only [BoundedBy_mk, refuse_st]
    | split

end Sys2Proof.Machine
end

