-- ==== Sys2Proof/Laws/BoundsFwCore.lean ====
section
/-! SUPPORT. The operations of Machine/FwCore.lean keep the bounds of the host interface (Safety.lean). -/

namespace Sys2Proof.Machine

theorem withFw_BoundedBy {N : Nat} (f : FwState → FwState) (s : State) (hb : BoundedBy N s) : BoundedBy N (withFw f s) := by
  unfold withFw
  repeat' first
    | with_reducible assumption
    | with_reducible apply BoundedBy_fold
    | with_reducible apply OptBounded_none
    | with_reducible apply OptBounded_some
    | with_reducible apply OptSndBounded_none
    | with_reducible apply OptSndBounded_some
    | intro _
    | dsimp only [BoundedBy_mk, refuse_st]
    | split

theorem bootWrite_BoundedBy {N : Nat} (bank : Nat) (s : State) (hb : BoundedBy N s) : BoundedBy N (bootWrite bank s) := by
  unfold bootWrite
  repeat' first
    | with_reducible assumption
    | with_reducible apply withFw_BoundedBy
    | with_reducible apply BoundedBy_fold
    | with_reducible apply OptBounded_none
    | with_reducible apply OptBounded_some
    | with_reducible apply OptSndBounded_none
    | with_reducible apply OptSndBounded_some
    | intro _
    | dsimp only [BoundedBy_mk, refuse_st]
    | split

theorem bootSelect_BoundedBy {N : Nat} (why : BootWhy) (s : State) (hb : BoundedBy N s) : BoundedBy N (bootSelect why s) := by
  unfold bootSelect
  repeat' first
    | with_reducible assumption
    | with_reducible apply tick_BoundedBy
    | with_reducible apply withFw_BoundedBy
    | with_reducible apply BoundedBy_fold
    | with_reducible apply OptBounded_none
    | with_reducible apply OptBounded_some
    | with_reducible apply OptSndBounded_none
    | with_reducible apply OptSndBounded_some
    | intro _
    | dsimp only [BoundedBy_mk, refuse_st]
    | split

theorem fwFault_BoundedBy {N : Nat} (why : BootWhy) (s : State) (hb : BoundedBy N s) : BoundedBy N (fwFault why s) := by
  unfold fwFault
  repeat' first
    | with_reducible assumption
    | with_reducible apply activate_BoundedBy
    | with_reducible apply withFw_BoundedBy
    | with_reducible apply BoundedBy_fold
    | with_reducible apply OptBounded_none
    | with_reducible apply OptBounded_some
    | with_reducible apply OptSndBounded_none
    | with_reducible apply OptSndBounded_some
    | intro _
    | dsimp only [BoundedBy_mk, refuse_st]
    | split

theorem fwEvent_BoundedBy {N : Nat} (cause : Nat) (s : State) (hb : BoundedBy N s) : BoundedBy N (fwEvent cause s) := by
  unfold fwEvent
  repeat' first
    | with_reducible assumption
    | with_reducible apply raise_BoundedBy
    | with_reducible apply BoundedBy_fold
    | with_reducible apply OptBounded_none
    | with_reducible apply OptBounded_some
    | with_reducible apply OptSndBounded_none
    | with_reducible apply OptSndBounded_some
    | intro _
    | dsimp only [BoundedBy_mk, refuse_st]
    | split

end Sys2Proof.Machine
end

