-- ==== Sys2Proof/Laws/BoundsMule.lean ====
section
/-! SUPPORT. The operations of Machine/Mule.lean keep the bounds of the host interface (Safety.lean). -/

namespace Sys2Proof.Machine

theorem muleCtrl_BoundedBy {N : Nat} (ch : Nat) (v : Word) (s : State) (hb : BoundedBy N s) : BoundedBy N (muleCtrl ch v s) := by
  unfold muleCtrl
  repeat' first
    | with_reducible assumption
    | with_reducible apply muleEnd_BoundedBy
    | with_reducible apply setChan_BoundedBy
    | with_reducible apply BoundedBy_fold
    | with_reducible apply OptBounded_none
    | with_reducible apply OptBounded_some
    | with_reducible apply OptSndBounded_none
    | with_reducible apply OptSndBounded_some
    | intro _
    | dsimp only [BoundedBy_mk, refuse_st]
    | split

theorem execMuleEnWrite_Bounded (ch : Nat) (v : Word) (s : State) (hb : Bounded s) : NextBounded (execMuleEnWrite ch v s) := by
  unfold execMuleEnWrite
  unfold Bounded at hb
  repeat' first
    | with_reducible apply NextBounded_next
    | with_reducible assumption
    | with_reducible apply muleCtrl_BoundedBy
    | with_reducible apply when_BoundedBy
    | with_reducible apply BoundedBy_fold
    | with_reducible apply OptBounded_none
    | with_reducible apply OptBounded_some
    | with_reducible apply OptSndBounded_none
    | with_reducible apply OptSndBounded_some
    | intro _
    | dsimp only [BoundedBy_mk, refuse_st]
    | split

theorem execMuleStopWrite_Bounded (ch : Nat) (v : Word) (s : State) (hb : Bounded s) : NextBounded (execMuleStopWrite ch v s) := by
  unfold execMuleStopWrite
  unfold Bounded at hb
  repeat' first
    | with_reducible apply NextBounded_next
    | with_reducible assumption
    | with_reducible apply muleCtrl_BoundedBy
    | with_reducible apply when_BoundedBy
    | with_reducible apply BoundedBy_fold
    | with_reducible apply OptBounded_none
    | with_reducible apply OptBounded_some
    | with_reducible apply OptSndBounded_none
    | with_reducible apply OptSndBounded_some
    | intro _
    | dsimp only [BoundedBy_mk, refuse_st]
    | split

theorem muleTail_BoundedBy {N : Nat} (ch : Nat) (v : Word) (s : State) (hb : BoundedBy N s) : BoundedBy N (muleTail ch v s) := by
  unfold muleTail
  repeat' first
    | with_reducible assumption
    | with_reducible apply setChan_BoundedBy
    | with_reducible apply BoundedBy_fold
    | with_reducible apply OptBounded_none
    | with_reducible apply OptBounded_some
    | with_reducible apply OptSndBounded_none
    | with_reducible apply OptSndBounded_some
    | intro _
    | dsimp only [BoundedBy_mk, refuse_st]
    | split

theorem execMuleTailWrite_Bounded (ch : Nat) (v : Word) (s : State) (hb : Bounded s) : NextBounded (execMuleTailWrite ch v s) := by
  unfold execMuleTailWrite
  unfold Bounded at hb
  repeat' first
    | with_reducible apply NextBounded_next
    | with_reducible assumption
    | with_reducible apply muleTail_BoundedBy
    | with_reducible apply when_BoundedBy
    | with_reducible apply BoundedBy_fold
    | with_reducible apply OptBounded_none
    | with_reducible apply OptBounded_some
    | with_reducible apply OptSndBounded_none
    | with_reducible apply OptSndBounded_some
    | intro _
    | dsimp only [BoundedBy_mk, refuse_st]
    | split

theorem execMuleResumeLoRead_Bounded (ch : Nat) (s : State) (hb : Bounded s) : NextBounded (execMuleResumeLoRead ch s) := by
  unfold execMuleResumeLoRead
  unfold Bounded at hb
  repeat' first
    | with_reducible apply NextBounded_next
    | with_reducible assumption
    | with_reducible apply emit_BoundedBy
    | with_reducible apply setChan_BoundedBy
    | with_reducible apply when_BoundedBy
    | with_reducible apply BoundedBy_fold
    | with_reducible apply OptBounded_none
    | with_reducible apply OptBounded_some
    | with_reducible apply OptSndBounded_none
    | with_reducible apply OptSndBounded_some
    | intro _
    | dsimp only [BoundedBy_mk, refuse_st]
    | split

theorem pioWrite_BoundedBy {N : Nat} (ch : Nat) (bs : List Byte) (s : State) (hb : BoundedBy N s) : BoundedBy N (pioWrite ch bs s) := by
  unfold pioWrite
  repeat' first
    | with_reducible assumption
    | with_reducible apply muleEnd_BoundedBy
    | with_reducible apply setChan_BoundedBy
    | with_reducible apply BoundedBy_fold
    | with_reducible apply OptBounded_none
    | with_reducible apply OptBounded_some
    | with_reducible apply OptSndBounded_none
    | with_reducible apply OptSndBounded_some
    | intro _
    | dsimp only [BoundedBy_mk, refuse_st]
    | split

theorem execPioWindowWrite_Bounded (ch : Nat) (bs : List Byte) (s : State) (hb : Bounded s) : NextBounded (execPioWindowWrite ch bs s) := by
  unfold execPioWindowWrite
  unfold Bounded at hb
  repeat' first
    | with_reducible apply NextBounded_next
    | with_reducible assumption
    | with_reducible apply pioWrite_BoundedBy
    | with_reducible apply when_BoundedBy
    | with_reducible apply BoundedBy_fold
    | with_reducible apply OptBounded_none
    | with_reducible apply OptBounded_some
    | with_reducible apply OptSndBounded_none
    | with_reducible apply OptSndBounded_some
    | intro _
    | dsimp only [BoundedBy_mk, refuse_st]
    | split

theorem execMuleDescriptorFetch_Bounded (ch : Nat) (s : State) (hb : Bounded s) : NextBounded (execMuleDescriptorFetch ch s) := by
  unfold execMuleDescriptorFetch
  unfold Bounded at hb
  repeat' first
    | with_reducible apply NextBounded_next
    | with_reducible assumption
    | with_reducible apply descDone_BoundedBy
    | with_reducible apply muleStop_BoundedBy
    | with_reducible apply sendReads_BoundedBy
    | with_reducible apply when_BoundedBy
    | with_reducible apply BoundedBy_fold
    | with_reducible apply OptBounded_none
    | with_reducible apply OptBounded_some
    | with_reducible apply OptSndBounded_none
    | with_reducible apply OptSndBounded_some
    | intro _
    | dsimp only [BoundedBy_mk, refuse_st]
    | split

theorem execMuleReadCompletion_Bounded (ch len : Nat) (reply : ReadReply) (s : State) (hb : Bounded s) : NextBounded (execMuleReadCompletion ch len reply s) := by
  unfold execMuleReadCompletion
  unfold Bounded at hb
  repeat' first
    | with_reducible apply NextBounded_next
    | with_reducible assumption
    | with_reducible apply descEnd_BoundedBy
    | with_reducible apply muleEnd_BoundedBy
    | with_reducible apply sendReads_BoundedBy
    | with_reducible apply setChan_BoundedBy
    | with_reducible apply when_BoundedBy
    | with_reducible apply BoundedBy_fold
    | with_reducible apply OptBounded_none
    | with_reducible apply OptBounded_some
    | with_reducible apply OptSndBounded_none
    | with_reducible apply OptSndBounded_some
    | intro _
    | dsimp only [BoundedBy_mk, refuse_st]
    | split

theorem execMuleReadTimeout_Bounded (ch : Nat) (s : State) (hb : Bounded s) : NextBounded (execMuleReadTimeout ch s) := by
  unfold execMuleReadTimeout
  unfold Bounded at hb
  repeat' first
    | with_reducible apply NextBounded_next
    | with_reducible assumption
    | with_reducible apply muleEnd_BoundedBy
    | with_reducible apply when_BoundedBy
    | with_reducible apply BoundedBy_fold
    | with_reducible apply OptBounded_none
    | with_reducible apply OptBounded_some
    | with_reducible apply OptSndBounded_none
    | with_reducible apply OptSndBounded_some
    | intro _
    | dsimp only [BoundedBy_mk, refuse_st]
    | split

theorem markExtent_BoundedBy {N : Nat} (no channels mask : Nat) (s : State) (hb : BoundedBy N s) : BoundedBy N (markExtent no channels mask s) := by
  unfold markExtent
  repeat' first
    | with_reducible assumption
    | with_reducible apply BoundedBy_fold
    | with_reducible apply OptBounded_none
    | with_reducible apply OptBounded_some
    | with_reducible apply OptSndBounded_none
    | with_reducible apply OptSndBounded_some
    | intro _
    | dsimp only [BoundedBy_mk, refuse_st]
    | split

theorem placeNew_BoundedBy {N : Nat} (size : Nat) (st : PbStream) (s : State) (hb : BoundedBy N s) : OptSndBounded N (placeNew size st s) := by
  unfold placeNew
  repeat' first
    | with_reducible assumption
    | with_reducible apply markExtent_BoundedBy
    | with_reducible apply spoolLow_BoundedBy
    | with_reducible apply BoundedBy_fold
    | with_reducible apply OptBounded_none
    | with_reducible apply OptBounded_some
    | with_reducible apply OptSndBounded_none
    | with_reducible apply OptSndBounded_some
    | intro _
    | dsimp only [BoundedBy_mk, refuse_st]
    | split

theorem placeRecord_BoundedBy {N : Nat} (size : Nat) (st : PbStream) (s : State) (hb : BoundedBy N s) : OptSndBounded N (placeRecord size st s) := by
  unfold placeRecord
  repeat' first
    | with_reducible assumption
    | with_reducible apply markExtent_BoundedBy
    | with_reducible apply placeNew_BoundedBy
    | refine (placeNew_BoundedBy _ _ _ ?_).all _ _ (by with_reducible assumption)
    | with_reducible apply BoundedBy_fold
    | with_reducible apply OptBounded_none
    | with_reducible apply OptBounded_some
    | with_reducible apply OptSndBounded_none
    | with_reducible apply OptSndBounded_some
    | intro _
    | dsimp only [BoundedBy_mk, refuse_st]
    | split

theorem takeRecord_BoundedBy {N : Nat} (sid : Nat) (h payload : List Byte) (s : State) (hb : BoundedBy N s) : OptBounded N (takeRecord sid h payload s) := by
  unfold takeRecord
  repeat' first
    | with_reducible assumption
    | with_reducible apply placeRecord_BoundedBy
    | refine (placeRecord_BoundedBy _ _ _ ?_).all _ _ (by with_reducible assumption)
    | with_reducible apply setObj_BoundedBy
    | with_reducible apply BoundedBy_fold
    | with_reducible apply OptBounded_none
    | with_reducible apply OptBounded_some
    | with_reducible apply OptSndBounded_none
    | with_reducible apply OptSndBounded_some
    | intro _
    | dsimp only [BoundedBy_mk, refuse_st]
    | split

theorem pageSpooled_BoundedBy {N : Nat} (key : Nat) (s : State) (hb : BoundedBy N s) : BoundedBy N (pageSpooled key s) := by
  unfold pageSpooled
  repeat' first
    | with_reducible assumption
    | with_reducible apply complete_BoundedBy
    | with_reducible apply pageTo_BoundedBy
    | with_reducible apply setIngest_BoundedBy
    | with_reducible apply setPage_BoundedBy
    | with_reducible apply BoundedBy_fold
    | with_reducible apply OptBounded_none
    | with_reducible apply OptBounded_some
    | with_reducible apply OptSndBounded_none
    | with_reducible apply OptSndBounded_some
    | intro _
    | dsimp only [BoundedBy_mk, refuse_st]
    | split

theorem ingestFail_BoundedBy {N : Nat} (key check plane band block source : Nat) (preverify : Bool) (s : State) (hb : BoundedBy N s) : BoundedBy N (ingestFail key check plane band block source preverify s) := by
  unfold ingestFail
  repeat' first
    | with_reducible assumption
    | with_reducible apply raise_BoundedBy
    | with_reducible apply setIngest_BoundedBy
    | with_reducible apply tick_BoundedBy
    | with_reducible apply BoundedBy_fold
    | with_reducible apply OptBounded_none
    | with_reducible apply OptBounded_some
    | with_reducible apply OptSndBounded_none
    | with_reducible apply OptSndBounded_some
    | intro _
    | dsimp only [BoundedBy_mk, refuse_st]
    | split

theorem ingestRefuse_BoundedBy {N : Nat} (ch : Nat) (p : Page) (i : Ingest) (check : Nat) (h : List Byte) (crc : Nat) (s : State) (hb : BoundedBy N s) : BoundedBy N (ingestRefuse ch p i check h crc s) := by
  unfold ingestRefuse
  repeat' first
    | with_reducible assumption
    | with_reducible apply ingestFail_BoundedBy
    | with_reducible apply muleEnd_BoundedBy
    | with_reducible apply muleInt_BoundedBy
    | with_reducible apply raise_BoundedBy
    | with_reducible apply setIngest_BoundedBy
    | with_reducible apply tick_BoundedBy
    | with_reducible apply BoundedBy_fold
    | with_reducible apply OptBounded_none
    | with_reducible apply OptBounded_some
    | with_reducible apply OptSndBounded_none
    | with_reducible apply OptSndBounded_some
    | intro _
    | dsimp only [BoundedBy_mk, refuse_st]
    | split

theorem ingestAccept_BoundedBy {N : Nat} (ch : Nat) (p : Page) (i : Ingest) (h payload : List Byte) (len : Nat) (s : State) (hb : BoundedBy N s) : BoundedBy N (ingestAccept ch p i h payload len s) := by
  unfold ingestAccept
  repeat' first
    | with_reducible assumption
    | with_reducible apply bump_BoundedBy
    | with_reducible apply descEnd_BoundedBy
    | with_reducible apply muleEnd_BoundedBy
    | with_reducible apply pageSpooled_BoundedBy
    | with_reducible apply setChan_BoundedBy
    | with_reducible apply setIngest_BoundedBy
    | with_reducible apply takeRecord_BoundedBy
    | refine (takeRecord_BoundedBy _ _ _ _ ?_).all _ (by with_reducible assumption)
    | with_reducible apply BoundedBy_fold
    | with_reducible apply OptBounded_none
    | with_reducible apply OptBounded_some
    | with_reducible apply OptSndBounded_none
    | with_reducible apply OptSndBounded_some
    | intro _
    | dsimp only [BoundedBy_mk, refuse_st]
    | split

theorem ingestHead_BoundedBy {N : Nat} (ch : Nat) (p : Page) (i : Ingest) (o : SpoolObj) (len : Nat) (s : State) (hb : BoundedBy N s) : BoundedBy N (ingestHead ch p i o len s) := by
  unfold ingestHead
  repeat' first
    | with_reducible assumption
    | with_reducible apply descEnd_BoundedBy
    | with_reducible apply ingestAccept_BoundedBy
    | with_reducible apply ingestFail_BoundedBy
    | with_reducible apply ingestRefuse_BoundedBy
    | with_reducible apply injOffer_BoundedBy
    | with_reducible apply muleEnd_BoundedBy
    | with_reducible apply setChan_BoundedBy
    | with_reducible apply setIngest_BoundedBy
    | with_reducible apply BoundedBy_fold
    | with_reducible apply OptBounded_none
    | with_reducible apply OptBounded_some
    | with_reducible apply OptSndBounded_none
    | with_reducible apply OptSndBounded_some
    | intro _
    | dsimp only [BoundedBy_mk, refuse_st]
    | split

theorem execIngestRecord_Bounded (ch : Nat) (s : State) (hb : Bounded s) : NextBounded (execIngestRecord ch s) := by
  unfold execIngestRecord
  unfold Bounded at hb
  repeat' first
    | with_reducible apply NextBounded_next
    | with_reducible assumption
    | with_reducible apply ingestHead_BoundedBy
    | with_reducible apply when_BoundedBy
    | with_reducible apply BoundedBy_fold
    | with_reducible apply OptBounded_none
    | with_reducible apply OptBounded_some
    | with_reducible apply OptSndBounded_none
    | with_reducible apply OptSndBounded_some
    | intro _
    | dsimp only [BoundedBy_mk, refuse_st]
    | split

end Sys2Proof.Machine
end

