-- ==== Sys2Proof/Laws/BoundsHostPort.lean ====
section
/-! SUPPORT. The operations of Machine/HostPort.lean keep the bounds of the host interface (Safety.lean). -/

namespace Sys2Proof.Machine

theorem accErr_BoundedBy {N : Nat} (bit off : Nat) (bar2 : Bool) (s : State) (hb : BoundedBy N s) : BoundedBy N (accErr bit off bar2 s) := by
  unfold accErr
  repeat' first
    | with_reducible assumption
    | with_reducible apply tick_BoundedBy
    | with_reducible apply BoundedBy_fold
    | with_reducible apply OptBounded_none
    | with_reducible apply OptBounded_some
    | with_reducible apply OptSndBounded_none
    | with_reducible apply OptSndBounded_some
    | intro _
    | dsimp only [BoundedBy_mk, refuse_st]
    | exact boundsOk_congr (BoundedBy_fold _ (by with_reducible assumption)) rfl rfl rfl rfl rfl rfl
    | split

theorem msixFlush_BoundedBy {N : Nat} (s : State) (hb : BoundedBy N s) : BoundedBy N (msixFlush s) := by
  unfold msixFlush
  repeat' first
    | with_reducible assumption
    | with_reducible apply msix_BoundedBy
    | with_reducible apply forRange_BoundedBy
    | with_reducible apply forRange_fst_BoundedBy
    | with_reducible apply BoundedBy_fold
    | with_reducible apply OptBounded_none
    | with_reducible apply OptBounded_some
    | with_reducible apply OptSndBounded_none
    | with_reducible apply OptSndBounded_some
    | intro _
    | dsimp only [BoundedBy_mk, refuse_st]
    | exact boundsOk_congr (BoundedBy_fold _ (by with_reducible assumption)) rfl rfl rfl rfl rfl rfl
    | split

theorem ringRegWrite_BoundedBy {N : Nat} (off : Nat) (v : Word) (s : State) (hb : BoundedBy N s) : BoundedBy N (ringRegWrite off v s) := by
  unfold ringRegWrite
  repeat' first
    | with_reducible assumption
    | with_reducible apply msixFlush_BoundedBy
    | with_reducible apply msix_BoundedBy
    | with_reducible apply BoundedBy_fold
    | with_reducible apply OptBounded_none
    | with_reducible apply OptBounded_some
    | with_reducible apply OptSndBounded_none
    | with_reducible apply OptSndBounded_some
    | intro _
    | dsimp only [BoundedBy_mk, refuse_st]
    | exact boundsOk_congr (BoundedBy_fold _ (by with_reducible assumption)) rfl rfl rfl rfl rfl rfl
    | split

theorem muleRegWrite_BoundedBy {N : Nat} (ch off : Nat) (v : Word) (s : State) (hb : BoundedBy N s) : BoundedBy N (muleRegWrite ch off v s) := by
  unfold muleRegWrite
  repeat' first
    | with_reducible assumption
    | with_reducible apply setChan_BoundedBy
    | with_reducible apply BoundedBy_fold
    | with_reducible apply OptBounded_none
    | with_reducible apply OptBounded_some
    | with_reducible apply OptSndBounded_none
    | with_reducible apply OptSndBounded_some
    | intro _
    | dsimp only [BoundedBy_mk, refuse_st]
    | exact boundsOk_congr (BoundedBy_fold _ (by with_reducible assumption)) rfl rfl rfl rfl rfl rfl
    | split

theorem registerWrite_BoundedBy {N : Nat} (off : Nat) (v : Word) (s : State) (hb : BoundedBy N s) : BoundedBy N (registerWrite off v s) := by
  unfold registerWrite
  repeat' first
    | with_reducible assumption
    | with_reducible apply accErr_BoundedBy
    | with_reducible apply muleRegWrite_BoundedBy
    | with_reducible apply ringRegWrite_BoundedBy
    | with_reducible apply BoundedBy_fold
    | with_reducible apply OptBounded_none
    | with_reducible apply OptBounded_some
    | with_reducible apply OptSndBounded_none
    | with_reducible apply OptSndBounded_some
    | intro _
    | dsimp only [BoundedBy_mk, refuse_st]
    | exact boundsOk_congr (BoundedBy_fold _ (by with_reducible assumption)) rfl rfl rfl rfl rfl rfl
    | split

theorem execRegisterWrite_Bounded (off : Nat) (v : Word) (s : State) (hb : Bounded s) : NextBounded (execRegisterWrite off v s) := by
  unfold execRegisterWrite
  unfold Bounded at hb
  repeat' first
    | with_reducible apply NextBounded_next
    | with_reducible assumption
    | with_reducible apply registerWrite_BoundedBy
    | with_reducible apply when_BoundedBy
    | with_reducible apply BoundedBy_fold
    | with_reducible apply OptBounded_none
    | with_reducible apply OptBounded_some
    | with_reducible apply OptSndBounded_none
    | with_reducible apply OptSndBounded_some
    | intro _
    | dsimp only [BoundedBy_mk, refuse_st]
    | exact boundsOk_congr (BoundedBy_fold _ (by with_reducible assumption)) rfl rfl rfl rfl rfl rfl
    | split

theorem execBadSizeAccess_Bounded (write : Bool) (off : Nat) (s : State) (hb : Bounded s) : NextBounded (execBadSizeAccess write off s) := by
  unfold execBadSizeAccess
  unfold Bounded at hb
  repeat' first
    | with_reducible apply NextBounded_next
    | with_reducible assumption
    | with_reducible apply accErr_BoundedBy
    | with_reducible apply emit_BoundedBy
    | with_reducible apply when_BoundedBy
    | with_reducible apply BoundedBy_fold
    | with_reducible apply OptBounded_none
    | with_reducible apply OptBounded_some
    | with_reducible apply OptSndBounded_none
    | with_reducible apply OptSndBounded_some
    | intro _
    | dsimp only [BoundedBy_mk, refuse_st]
    | exact boundsOk_congr (BoundedBy_fold _ (by with_reducible assumption)) rfl rfl rfl rfl rfl rfl
    | split

theorem execReservedAddrAccess_Bounded (write : Bool) (off : Nat) (s : State) (hb : Bounded s) : NextBounded (execReservedAddrAccess write off s) := by
  unfold execReservedAddrAccess
  unfold Bounded at hb
  repeat' first
    | with_reducible apply NextBounded_next
    | with_reducible assumption
    | with_reducible apply accErr_BoundedBy
    | with_reducible apply emit_BoundedBy
    | with_reducible apply when_BoundedBy
    | with_reducible apply BoundedBy_fold
    | with_reducible apply OptBounded_none
    | with_reducible apply OptBounded_some
    | with_reducible apply OptSndBounded_none
    | with_reducible apply OptSndBounded_some
    | intro _
    | dsimp only [BoundedBy_mk, refuse_st]
    | exact boundsOk_congr (BoundedBy_fold _ (by with_reducible assumption)) rfl rfl rfl rfl rfl rfl
    | split

theorem execTimeLoRead_Bounded (s : State) (hb : Bounded s) : NextBounded (execTimeLoRead s) := by
  unfold execTimeLoRead
  unfold Bounded at hb
  repeat' first
    | with_reducible apply NextBounded_next
    | with_reducible assumption
    | with_reducible apply emit_BoundedBy
    | with_reducible apply when_BoundedBy
    | with_reducible apply BoundedBy_fold
    | with_reducible apply OptBounded_none
    | with_reducible apply OptBounded_some
    | with_reducible apply OptSndBounded_none
    | with_reducible apply OptSndBounded_some
    | intro _
    | dsimp only [BoundedBy_mk, refuse_st]
    | exact boundsOk_congr (BoundedBy_fold _ (by with_reducible assumption)) rfl rfl rfl rfl rfl rfl
    | split

theorem bar2Read_BoundedBy {N : Nat} (off err : Nat) (s : State) (hb : BoundedBy N s) : BoundedBy N (bar2Read off err s) := by
  unfold bar2Read
  repeat' first
    | with_reducible assumption
    | with_reducible apply drawNat_BoundedBy
    | with_reducible apply emit_BoundedBy
    | with_reducible apply memCe_BoundedBy
    | with_reducible apply memUe_BoundedBy
    | with_reducible apply BoundedBy_fold
    | with_reducible apply OptBounded_none
    | with_reducible apply OptBounded_some
    | with_reducible apply OptSndBounded_none
    | with_reducible apply OptSndBounded_some
    | intro _
    | dsimp only [BoundedBy_mk, refuse_st]
    | exact boundsOk_congr (BoundedBy_fold _ (by with_reducible assumption)) rfl rfl rfl rfl rfl rfl
    | split

theorem execBar2Read_Bounded (off err : Nat) (s : State) (hb : Bounded s) : NextBounded (execBar2Read off err s) := by
  unfold execBar2Read
  unfold Bounded at hb
  repeat' first
    | with_reducible apply NextBounded_next
    | with_reducible assumption
    | with_reducible apply bar2Read_BoundedBy
    | with_reducible apply when_BoundedBy
    | with_reducible apply BoundedBy_fold
    | with_reducible apply OptBounded_none
    | with_reducible apply OptBounded_some
    | with_reducible apply OptSndBounded_none
    | with_reducible apply OptSndBounded_some
    | intro _
    | dsimp only [BoundedBy_mk, refuse_st]
    | exact boundsOk_congr (BoundedBy_fold _ (by with_reducible assumption)) rfl rfl rfl rfl rfl rfl
    | split

theorem execBar2Write_Bounded (off : Nat) (s : State) (hb : Bounded s) : NextBounded (execBar2Write off s) := by
  unfold execBar2Write
  unfold Bounded at hb
  repeat' first
    | with_reducible apply NextBounded_next
    | with_reducible assumption
    | with_reducible apply accErr_BoundedBy
    | with_reducible apply when_BoundedBy
    | with_reducible apply BoundedBy_fold
    | with_reducible apply OptBounded_none
    | with_reducible apply OptBounded_some
    | with_reducible apply OptSndBounded_none
    | with_reducible apply OptSndBounded_some
    | intro _
    | dsimp only [BoundedBy_mk, refuse_st]
    | exact boundsOk_congr (BoundedBy_fold _ (by with_reducible assumption)) rfl rfl rfl rfl rfl rfl
    | split

theorem execMailboxSlotWrite_Bounded (slot word : Nat) (ws : List Word) (s : State) (hb : Bounded s) : NextBounded (execMailboxSlotWrite slot word ws s) := by
  unfold execMailboxSlotWrite
  unfold Bounded at hb
  repeat' first
    | with_reducible apply NextBounded_next
    | with_reducible assumption
    | with_reducible apply accErr_BoundedBy
    | with_reducible apply when_BoundedBy
    | with_reducible apply BoundedBy_fold
    | with_reducible apply OptBounded_none
    | with_reducible apply OptBounded_some
    | with_reducible apply OptSndBounded_none
    | with_reducible apply OptSndBounded_some
    | intro _
    | dsimp only [BoundedBy_mk, refuse_st]
    | exact boundsOk_congr (BoundedBy_fold _ (by with_reducible assumption)) rfl rfl rfl rfl rfl rfl
    | split

theorem ringSlot_BoundedBy {N : Nat} (n : Nat) (s : State) (hb : BoundedBy N s) : BoundedBy N (ringSlot n s) := by
  unfold ringSlot
  repeat' first
    | with_reducible assumption
    | with_reducible apply accErr_BoundedBy
    | with_reducible apply BoundedBy_fold
    | with_reducible apply OptBounded_none
    | with_reducible apply OptBounded_some
    | with_reducible apply OptSndBounded_none
    | with_reducible apply OptSndBounded_some
    | intro _
    | dsimp only [BoundedBy_mk, refuse_st]
    | exact boundsOk_congr (BoundedBy_fold _ (by with_reducible assumption)) rfl rfl rfl rfl rfl rfl
    | split

theorem execDoorbell_Bounded (v : Word) (s : State) (hb : Bounded s) : NextBounded (execDoorbell v s) := by
  unfold execDoorbell
  unfold Bounded at hb
  repeat' first
    | with_reducible apply NextBounded_next
    | with_reducible assumption
    | with_reducible apply ringSlot_BoundedBy
    | with_reducible apply forList_BoundedBy
    | with_reducible apply forList_fst_BoundedBy
    | with_reducible apply when_BoundedBy
    | with_reducible apply BoundedBy_fold
    | with_reducible apply OptBounded_none
    | with_reducible apply OptBounded_some
    | with_reducible apply OptSndBounded_none
    | with_reducible apply OptSndBounded_some
    | intro _
    | dsimp only [BoundedBy_mk, refuse_st]
    | exact boundsOk_congr (BoundedBy_fold _ (by with_reducible assumption)) rfl rfl rfl rfl rfl rfl
    | split

theorem evrEnWrite_BoundedBy {N : Nat} (v : Word) (s : State) (hb : BoundedBy N s) : BoundedBy N (evrEnWrite v s) := by
  unfold evrEnWrite
  dsimp only
  split
  · apply drain_BoundedBy
    refine ⟨fun _ => ?_, hb.2.1, hb.2.2.1, hb.2.2.2⟩
    simp [ringUsed]
  · next c =>
    refine ⟨fun e => ?_, hb.2.1, hb.2.2.1, hb.2.2.2⟩
    have on : s.host.evrEn = true := by
      by_cases o : s.host.evrEn = true
      · exact o
      · exact absurd ⟨e, o⟩ c
    have r := hb.1 on
    simpa [ringUsed, ringSize, on] using r

theorem execEvrEnWrite_Bounded (v : Word) (s : State) (hb : Bounded s) : NextBounded (execEvrEnWrite v s) := by
  unfold execEvrEnWrite
  unfold Bounded at hb
  repeat' first
    | with_reducible apply NextBounded_next
    | with_reducible assumption
    | with_reducible apply evrEnWrite_BoundedBy
    | with_reducible apply when_BoundedBy
    | with_reducible apply BoundedBy_fold
    | with_reducible apply OptBounded_none
    | with_reducible apply OptBounded_some
    | with_reducible apply OptSndBounded_none
    | with_reducible apply OptSndBounded_some
    | intro _
    | dsimp only [BoundedBy_mk, refuse_st]
    | exact boundsOk_congr (BoundedBy_fold _ (by with_reducible assumption)) rfl rfl rfl rfl rfl rfl
    | split

theorem execEvrReadWrite_Bounded (v : Word) (s : State) (hb : Bounded s) : NextBounded (execEvrReadWrite v s) := by
  unfold execEvrReadWrite
  unfold Bounded at hb
  apply NextBounded_next
  apply when_BoundedBy
  · exact hb
  · dsimp only
    split
    · exact accErr_BoundedBy _ _ _ _ hb
    · next c =>
      apply drain_BoundedBy
      exact ⟨fun _ => Nat.le_of_not_lt c, hb.2.1, hb.2.2.1, hb.2.2.2⟩

theorem execEventBacklogDrain_Bounded (s : State) (hb : Bounded s) : NextBounded (execEventBacklogDrain s) := by
  unfold execEventBacklogDrain
  unfold Bounded at hb
  repeat' first
    | with_reducible apply NextBounded_next
    | with_reducible assumption
    | with_reducible apply drain_BoundedBy
    | with_reducible apply when_BoundedBy
    | with_reducible apply BoundedBy_fold
    | with_reducible apply OptBounded_none
    | with_reducible apply OptBounded_some
    | with_reducible apply OptSndBounded_none
    | with_reducible apply OptSndBounded_some
    | intro _
    | dsimp only [BoundedBy_mk, refuse_st]
    | exact boundsOk_congr (BoundedBy_fold _ (by with_reducible assumption)) rfl rfl rfl rfl rfl rfl
    | split

theorem execModTimerExpiry_Bounded (s : State) (hb : Bounded s) : NextBounded (execModTimerExpiry s) := by
  unfold execModTimerExpiry
  apply NextBounded_next
  apply when_BoundedBy
  · exact hb
  · dsimp only
    split
    · exact hb
    · apply int_BoundedBy
      exact boundsOk_congr (BoundedBy_fold s hb) rfl rfl rfl rfl rfl rfl

theorem hostInterfaceReset_BoundedBy {N : Nat} (kind : Nat) (s : State) (hb : BoundedBy N s) : BoundedBy N (hostInterfaceReset kind s) := by
  unfold hostInterfaceReset
  dsimp only
  apply raise_BoundedBy
  exact ⟨fun e => by simp [hostReset] at e, hb.2.1, hb.2.2.1, hb.2.2.2⟩

theorem execHostInterfaceReset_Bounded (kind : Nat) (s : State) (hb : Bounded s) : NextBounded (execHostInterfaceReset kind s) := by
  unfold execHostInterfaceReset
  unfold Bounded at hb
  repeat' first
    | with_reducible apply NextBounded_next
    | with_reducible assumption
    | with_reducible apply hostInterfaceReset_BoundedBy
    | with_reducible apply when_BoundedBy
    | with_reducible apply BoundedBy_fold
    | with_reducible apply OptBounded_none
    | with_reducible apply OptBounded_some
    | with_reducible apply OptSndBounded_none
    | with_reducible apply OptSndBounded_some
    | intro _
    | dsimp only [BoundedBy_mk, refuse_st]
    | exact boundsOk_congr (BoundedBy_fold _ (by with_reducible assumption)) rfl rfl rfl rfl rfl rfl
    | split

theorem execHostLinkRetrain_Bounded (speed width : Nat) (s : State) (hb : Bounded s) : NextBounded (execHostLinkRetrain speed width s) := by
  unfold execHostLinkRetrain
  unfold Bounded at hb
  repeat' first
    | with_reducible apply NextBounded_next
    | with_reducible assumption
    | with_reducible apply drain_BoundedBy
    | with_reducible apply msixFlush_BoundedBy
    | with_reducible apply raise_BoundedBy
    | with_reducible apply when_BoundedBy
    | with_reducible apply BoundedBy_fold
    | with_reducible apply OptBounded_none
    | with_reducible apply OptBounded_some
    | with_reducible apply OptSndBounded_none
    | with_reducible apply OptSndBounded_some
    | intro _
    | dsimp only [BoundedBy_mk, refuse_st]
    | exact boundsOk_congr (BoundedBy_fold _ (by with_reducible assumption)) rfl rfl rfl rfl rfl rfl
    | split

theorem execPciePowerStateChange_Bounded (d3hot : Bool) (base : PciBase) (dev : PciDev) (caps : PciCaps) (s : State) (hb : Bounded s) : NextBounded (execPciePowerStateChange d3hot base dev caps s) := by
  unfold execPciePowerStateChange
  unfold Bounded at hb
  repeat' first
    | with_reducible apply NextBounded_next
    | with_reducible assumption
    | with_reducible apply drain_BoundedBy
    | with_reducible apply msixFlush_BoundedBy
    | with_reducible apply when_BoundedBy
    | with_reducible apply BoundedBy_fold
    | with_reducible apply OptBounded_none
    | with_reducible apply OptBounded_some
    | with_reducible apply OptSndBounded_none
    | with_reducible apply OptSndBounded_some
    | intro _
    | dsimp only [BoundedBy_mk, refuse_st]
    | exact boundsOk_congr (BoundedBy_fold _ (by with_reducible assumption)) rfl rfl rfl rfl rfl rfl
    | split

end Sys2Proof.Machine
end

