-- ==== Sys2Proof/Laws/BoundsMemory.lean ====
section
/-! SUPPORT. The operations of Machine/Memory.lean keep the bounds of the host interface (Safety.lean). -/

namespace Sys2Proof.Machine

theorem setScrub_BoundedBy {N : Nat} (dram : Bool) (i : Nat) (f : Scrub → Scrub) (s : State) (hb : BoundedBy N s) : BoundedBy N (setScrub dram i f s) := by
  unfold setScrub
  repeat' first
    | with_reducible assumption
    | with_reducible apply setDdr_BoundedBy
    | with_reducible apply setSram_BoundedBy
    | with_reducible apply BoundedBy_fold
    | with_reducible apply OptBounded_none
    | with_reducible apply OptBounded_some
    | with_reducible apply OptSndBounded_none
    | with_reducible apply OptSndBounded_some
    | intro _
    | dsimp only [BoundedBy_mk, refuse_st]
    | split

theorem lineWordLost_BoundedBy {N : Nat} (word : Nat) (s : State) (hb : BoundedBy N s) : BoundedBy N (lineWordLost word s) := by
  unfold lineWordLost
  repeat' first
    | with_reducible assumption
    | with_reducible apply spoilRow_BoundedBy
    | with_reducible apply suppressSlot_BoundedBy
    | with_reducible apply BoundedBy_fold
    | with_reducible apply OptBounded_none
    | with_reducible apply OptBounded_some
    | with_reducible apply OptSndBounded_none
    | with_reducible apply OptSndBounded_some
    | intro _
    | dsimp only [BoundedBy_mk, refuse_st]
    | split

theorem scrubStep_BoundedBy {N : Nat} (dram : Bool) (i : Nat) (s : State) (hb : BoundedBy N s) : BoundedBy N (scrubStep dram i s) := by
  unfold scrubStep
  repeat' first
    | with_reducible assumption
    | with_reducible apply setScrub_BoundedBy
    | with_reducible apply tick_BoundedBy
    | with_reducible apply BoundedBy_fold
    | with_reducible apply OptBounded_none
    | with_reducible apply OptBounded_some
    | with_reducible apply OptSndBounded_none
    | with_reducible apply OptSndBounded_some
    | intro _
    | dsimp only [BoundedBy_mk, refuse_st]
    | split

theorem corrWordLost_BoundedBy {N : Nat} (word bit : Nat) (s : State) (hb : BoundedBy N s) : BoundedBy N (corrWordLost word bit s) := by
  unfold corrWordLost
  repeat' first
    | with_reducible assumption
    | with_reducible apply knotLost_BoundedBy
    | with_reducible apply screenWordLost_BoundedBy
    | with_reducible apply BoundedBy_fold
    | with_reducible apply OptBounded_none
    | with_reducible apply OptBounded_some
    | with_reducible apply OptSndBounded_none
    | with_reducible apply OptSndBounded_some
    | intro _
    | dsimp only [BoundedBy_mk, refuse_st]
    | split

theorem execScrubRead_Bounded (store err bit : Nat) (dropped : Bool) (s : State) (hb : Bounded s) : NextBounded (execScrubRead store err bit dropped s) := by
  unfold execScrubRead
  unfold Bounded at hb
  repeat' first
    | with_reducible apply NextBounded_next
    | with_reducible assumption
    | with_reducible apply atTime_BoundedBy
    | with_reducible apply corrWordLost_BoundedBy
    | with_reducible apply fwFault_BoundedBy
    | with_reducible apply lineWordLost_BoundedBy
    | with_reducible apply memCe_BoundedBy
    | with_reducible apply memUe_BoundedBy
    | with_reducible apply scrubStep_BoundedBy
    | with_reducible apply tick_BoundedBy
    | with_reducible apply when_BoundedBy
    | with_reducible apply BoundedBy_fold
    | with_reducible apply OptBounded_none
    | with_reducible apply OptBounded_some
    | with_reducible apply OptSndBounded_none
    | with_reducible apply OptSndBounded_some
    | intro _
    | dsimp only [BoundedBy_mk, refuse_st]
    | split

theorem execScrubLateTimeout_Bounded (store : Nat) (s : State) (hb : Bounded s) : NextBounded (execScrubLateTimeout store s) := by
  unfold execScrubLateTimeout
  unfold Bounded at hb
  repeat' first
    | with_reducible apply NextBounded_next
    | with_reducible assumption
    | with_reducible apply atTime_BoundedBy
    | with_reducible apply raise_BoundedBy
    | with_reducible apply setScrub_BoundedBy
    | with_reducible apply when_BoundedBy
    | with_reducible apply BoundedBy_fold
    | with_reducible apply OptBounded_none
    | with_reducible apply OptBounded_some
    | with_reducible apply OptSndBounded_none
    | with_reducible apply OptSndBounded_some
    | intro _
    | dsimp only [BoundedBy_mk, refuse_st]
    | split

theorem execDdrSweepStart_Bounded (chan : Nat) (temps : DramTemps) (s : State) (hb : Bounded s) : NextBounded (execDdrSweepStart chan temps s) := by
  unfold execDdrSweepStart
  unfold Bounded at hb
  repeat' first
    | with_reducible apply NextBounded_next
    | with_reducible assumption
    | with_reducible apply atTime_BoundedBy
    | with_reducible apply setDdr_BoundedBy
    | with_reducible apply tick_BoundedBy
    | with_reducible apply when_BoundedBy
    | with_reducible apply BoundedBy_fold
    | with_reducible apply OptBounded_none
    | with_reducible apply OptBounded_some
    | with_reducible apply OptSndBounded_none
    | with_reducible apply OptSndBounded_some
    | intro _
    | dsimp only [BoundedBy_mk, refuse_st]
    | split

theorem sweepEnd_BoundedBy {N : Nat} (chan : Nat) (found : Bool) (centre : List Int) (s : State) (hb : BoundedBy N s) : BoundedBy N (sweepEnd chan found centre s) := by
  unfold sweepEnd
  repeat' first
    | with_reducible assumption
    | with_reducible apply chanFail_BoundedBy
    | with_reducible apply recDirty_BoundedBy
    | with_reducible apply setDdr_BoundedBy
    | with_reducible apply tick_BoundedBy
    | with_reducible apply BoundedBy_fold
    | with_reducible apply OptBounded_none
    | with_reducible apply OptBounded_some
    | with_reducible apply OptSndBounded_none
    | with_reducible apply OptSndBounded_some
    | intro _
    | dsimp only [BoundedBy_mk, refuse_st]
    | split

theorem execDdrSweepPause_Bounded (chan : Nat) (last found : Bool) (centre : List Int) (s : State) (hb : Bounded s) : NextBounded (execDdrSweepPause chan last found centre s) := by
  unfold execDdrSweepPause
  unfold Bounded at hb
  repeat' first
    | with_reducible apply NextBounded_next
    | with_reducible assumption
    | with_reducible apply atTime_BoundedBy
    | with_reducible apply setDdr_BoundedBy
    | with_reducible apply sweepEnd_BoundedBy
    | with_reducible apply foldl_BoundedBy
    | with_reducible apply when_BoundedBy
    | with_reducible apply BoundedBy_fold
    | with_reducible apply OptBounded_none
    | with_reducible apply OptBounded_some
    | with_reducible apply OptSndBounded_none
    | with_reducible apply OptSndBounded_some
    | intro _
    | dsimp only [BoundedBy_mk, refuse_st]
    | split

theorem repoint_BoundedBy {N : Nat} (old new : Nat) (s : State) (hb : BoundedBy N s) : BoundedBy N (repoint old new s) := by
  unfold repoint
  repeat' first
    | with_reducible assumption
    | with_reducible apply BoundedBy_fold
    | with_reducible apply OptBounded_none
    | with_reducible apply OptBounded_some
    | with_reducible apply OptSndBounded_none
    | with_reducible apply OptSndBounded_some
    | intro _
    | dsimp only [BoundedBy_mk, refuse_st]
    | split

theorem execExtentMigrate_Bounded (ok : Bool) (s : State) (hb : Bounded s) : NextBounded (execExtentMigrate ok s) := by
  unfold execExtentMigrate
  unfold Bounded at hb
  repeat' first
    | with_reducible apply NextBounded_next
    | with_reducible assumption
    | with_reducible apply markExtent_BoundedBy
    | with_reducible apply repoint_BoundedBy
    | with_reducible apply retirePend_BoundedBy
    | with_reducible apply spoolLow_BoundedBy
    | with_reducible apply tick_BoundedBy
    | with_reducible apply forRange_BoundedBy
    | with_reducible apply forRange_fst_BoundedBy
    | with_reducible apply when_BoundedBy
    | with_reducible apply BoundedBy_fold
    | with_reducible apply OptBounded_none
    | with_reducible apply OptBounded_some
    | with_reducible apply OptSndBounded_none
    | with_reducible apply OptSndBounded_some
    | intro _
    | dsimp only [BoundedBy_mk, refuse_st]
    | split

theorem execMemFillExtentDone_Bounded (s : State) (hb : Bounded s) : NextBounded (execMemFillExtentDone s) := by
  unfold execMemFillExtentDone
  unfold Bounded at hb
  repeat' first
    | with_reducible apply NextBounded_next
    | with_reducible assumption
    | with_reducible apply complete_BoundedBy
    | with_reducible apply markExtent_BoundedBy
    | with_reducible apply when_BoundedBy
    | with_reducible apply BoundedBy_fold
    | with_reducible apply OptBounded_none
    | with_reducible apply OptBounded_some
    | with_reducible apply OptSndBounded_none
    | with_reducible apply OptSndBounded_some
    | intro _
    | dsimp only [BoundedBy_mk, refuse_st]
    | split

theorem execMemTrainDone_Bounded (ok : Bool) (s : State) (hb : Bounded s) : NextBounded (execMemTrainDone ok s) := by
  unfold execMemTrainDone
  unfold Bounded at hb
  repeat' first
    | with_reducible apply NextBounded_next
    | with_reducible assumption
    | with_reducible apply completeOpt_BoundedBy
    | with_reducible apply recDirty_BoundedBy
    | with_reducible apply setDdr_BoundedBy
    | with_reducible apply trainNext_BoundedBy
    | with_reducible apply when_BoundedBy
    | with_reducible apply BoundedBy_fold
    | with_reducible apply OptBounded_none
    | with_reducible apply OptBounded_some
    | with_reducible apply OptSndBounded_none
    | with_reducible apply OptSndBounded_some
    | intro _
    | dsimp only [BoundedBy_mk, refuse_st]
    | split

theorem scanAssign_BoundedBy {N : Nat} (s : State) (hb : BoundedBy N s) : BoundedBy N (scanAssign s) := by
  unfold scanAssign
  repeat' first
    | with_reducible assumption
    | with_reducible apply forRange_BoundedBy
    | with_reducible apply forRange_fst_BoundedBy
    | with_reducible apply BoundedBy_fold
    | with_reducible apply OptBounded_none
    | with_reducible apply OptBounded_some
    | with_reducible apply OptSndBounded_none
    | with_reducible apply OptSndBounded_some
    | intro _
    | dsimp only [BoundedBy_mk, refuse_st]
    | split

theorem execChkScanDone_Bounded (engine : Nat) (err : Bool) (s : State) (hb : Bounded s) : NextBounded (execChkScanDone engine err s) := by
  unfold execChkScanDone
  unfold Bounded at hb
  repeat' first
    | with_reducible apply NextBounded_next
    | with_reducible assumption
    | with_reducible apply complete_BoundedBy
    | with_reducible apply drawNat_BoundedBy
    | with_reducible apply scanAssign_BoundedBy
    | with_reducible apply tick_BoundedBy
    | with_reducible apply when_BoundedBy
    | with_reducible apply BoundedBy_fold
    | with_reducible apply OptBounded_none
    | with_reducible apply OptBounded_some
    | with_reducible apply OptSndBounded_none
    | with_reducible apply OptSndBounded_some
    | intro _
    | dsimp only [BoundedBy_mk, refuse_st]
    | split

theorem execMemStatus_Bounded (s : State) (hb : Bounded s) : NextBounded (execMemStatus s) := by
  unfold execMemStatus
  unfold Bounded at hb
  repeat' first
    | with_reducible apply NextBounded_next
    | with_reducible assumption
    | with_reducible apply serve_BoundedBy
    | with_reducible apply BoundedBy_fold
    | with_reducible apply OptBounded_none
    | with_reducible apply OptBounded_some
    | with_reducible apply OptSndBounded_none
    | with_reducible apply OptSndBounded_some
    | intro _
    | dsimp only [BoundedBy_mk, refuse_st]
    | split

theorem execMemConfig_Bounded (s : State) (hb : Bounded s) : NextBounded (execMemConfig s) := by
  unfold execMemConfig
  unfold Bounded at hb
  repeat' first
    | with_reducible apply NextBounded_next
    | with_reducible assumption
    | with_reducible apply serve_BoundedBy
    | with_reducible apply BoundedBy_fold
    | with_reducible apply OptBounded_none
    | with_reducible apply OptBounded_some
    | with_reducible apply OptSndBounded_none
    | with_reducible apply OptSndBounded_some
    | intro _
    | dsimp only [BoundedBy_mk, refuse_st]
    | split

theorem execMemFill_Bounded (s : State) (hb : Bounded s) : NextBounded (execMemFill s) := by
  unfold execMemFill
  unfold Bounded at hb
  repeat' first
    | with_reducible apply NextBounded_next
    | with_reducible assumption
    | with_reducible apply serve_BoundedBy
    | with_reducible apply BoundedBy_fold
    | with_reducible apply OptBounded_none
    | with_reducible apply OptBounded_some
    | with_reducible apply OptSndBounded_none
    | with_reducible apply OptSndBounded_some
    | intro _
    | dsimp only [BoundedBy_mk, refuse_st]
    | split

theorem testWrite_BoundedBy {N : Nat} (dram : Bool) (i : Nat) (w : TestWord) (s : State) (hb : BoundedBy N s) : BoundedBy N (testWrite dram i w s) := by
  unfold testWrite
  repeat' first
    | with_reducible assumption
    | with_reducible apply setDdr_BoundedBy
    | with_reducible apply setSram_BoundedBy
    | with_reducible apply BoundedBy_fold
    | with_reducible apply OptBounded_none
    | with_reducible apply OptBounded_some
    | with_reducible apply OptSndBounded_none
    | with_reducible apply OptSndBounded_some
    | intro _
    | dsimp only [BoundedBy_mk, refuse_st]
    | split

theorem testFound_BoundedBy {N : Nat} (dram : Bool) (data mask : Nat) (s : State) (hb : BoundedBy N s) : BoundedBy N (testFound dram data mask s).2 := by
  unfold testFound
  dsimp only
  split
  · exact drawNat_BoundedBy _ (drawNat_BoundedBy _ (drawNat_BoundedBy _ hb))
  · exact hb

theorem execMemTest_Bounded (s : State) (hb : Bounded s) : NextBounded (execMemTest s) := by
  unfold execMemTest
  unfold Bounded at hb
  repeat' first
    | with_reducible apply NextBounded_next
    | with_reducible assumption
    | with_reducible apply serve_BoundedBy
    | with_reducible apply testFound_BoundedBy
    | with_reducible apply testWrite_BoundedBy
    | with_reducible apply tick_BoundedBy
    | with_reducible apply BoundedBy_fold
    | with_reducible apply OptBounded_none
    | with_reducible apply OptBounded_some
    | with_reducible apply OptSndBounded_none
    | with_reducible apply OptSndBounded_some
    | intro _
    | dsimp only [BoundedBy_mk, refuse_st]
    | split

theorem execMemTrain_Bounded (s : State) (hb : Bounded s) : NextBounded (execMemTrain s) := by
  unfold execMemTrain
  unfold Bounded at hb
  repeat' first
    | with_reducible apply NextBounded_next
    | with_reducible assumption
    | with_reducible apply serve_BoundedBy
    | with_reducible apply BoundedBy_fold
    | with_reducible apply OptBounded_none
    | with_reducible apply OptBounded_some
    | with_reducible apply OptSndBounded_none
    | with_reducible apply OptSndBounded_some
    | intro _
    | dsimp only [BoundedBy_mk, refuse_st]
    | split

theorem execChkScan_Bounded (s : State) (hb : Bounded s) : NextBounded (execChkScan s) := by
  unfold execChkScan
  unfold Bounded at hb
  repeat' first
    | with_reducible apply NextBounded_next
    | with_reducible assumption
    | with_reducible apply serve_BoundedBy
    | with_reducible apply scanAssign_BoundedBy
    | with_reducible apply BoundedBy_fold
    | with_reducible apply OptBounded_none
    | with_reducible apply OptBounded_some
    | with_reducible apply OptSndBounded_none
    | with_reducible apply OptSndBounded_some
    | intro _
    | dsimp only [BoundedBy_mk, refuse_st]
    | split

end Sys2Proof.Machine
end

