-- ==== Sys2Proof/Laws/BoundsSequencer.lean ====
section
/-! SUPPORT. The operations of Machine/Sequencer.lean keep the bounds of the host interface (Safety.lean). -/

namespace Sys2Proof.Machine

theorem withInst_BoundedBy {N : Nat} (f : List Instance → List Instance) (s : State) (hb : BoundedBy N s) : BoundedBy N (withInst f s) := by
  unfold withInst
  repeat' first
    | with_reducible assumption
    | with_reducible apply BoundedBy_fold
    | with_reducible apply OptBounded_none
    | with_reducible apply OptBounded_some
    | with_reducible apply OptSndBounded_none
    | with_reducible apply OptSndBounded_some
    | intro _
    | dsimp only [BoundedBy_mk, refuse_st]
    | split

theorem setInst_BoundedBy {N : Nat} (page : Nat) (f : Instance → Instance) (s : State) (hb : BoundedBy N s) : BoundedBy N (setInst page f s) := by
  unfold setInst
  repeat' first
    | with_reducible assumption
    | with_reducible apply withInst_BoundedBy
    | with_reducible apply BoundedBy_fold
    | with_reducible apply OptBounded_none
    | with_reducible apply OptBounded_some
    | with_reducible apply OptSndBounded_none
    | with_reducible apply OptSndBounded_some
    | intro _
    | dsimp only [BoundedBy_mk, refuse_st]
    | split

theorem progStepEvent_BoundedBy {N : Nat} (i : Instance) (step cause : Nat) (s : State) (hb : BoundedBy N s) : BoundedBy N (progStepEvent i step cause s) := by
  unfold progStepEvent
  repeat' first
    | with_reducible assumption
    | with_reducible apply raise_BoundedBy
    | with_reducible apply tick_BoundedBy
    | with_reducible apply BoundedBy_fold
    | with_reducible apply OptBounded_none
    | with_reducible apply OptBounded_some
    | with_reducible apply OptSndBounded_none
    | with_reducible apply OptSndBounded_some
    | intro _
    | dsimp only [BoundedBy_mk, refuse_st]
    | split

theorem progStart_BoundedBy {N : Nat} (key : Nat) (s : State) (hb : BoundedBy N s) : BoundedBy N (progStart key s) := by
  unfold progStart
  repeat' first
    | with_reducible assumption
    | with_reducible apply spoilHere_BoundedBy
    | with_reducible apply tick_BoundedBy
    | with_reducible apply withInst_BoundedBy
    | with_reducible apply BoundedBy_fold
    | with_reducible apply OptBounded_none
    | with_reducible apply OptBounded_some
    | with_reducible apply OptSndBounded_none
    | with_reducible apply OptSndBounded_some
    | intro _
    | dsimp only [BoundedBy_mk, refuse_st]
    | split

theorem progEnd_BoundedBy {N : Nat} (i : Instance) (s : State) (hb : BoundedBy N s) : BoundedBy N (progEnd i s) := by
  unfold progEnd
  repeat' first
    | with_reducible assumption
    | with_reducible apply progStepEvent_BoundedBy
    | with_reducible apply withInst_BoundedBy
    | with_reducible apply forList_BoundedBy
    | with_reducible apply forList_fst_BoundedBy
    | with_reducible apply BoundedBy_fold
    | with_reducible apply OptBounded_none
    | with_reducible apply OptBounded_some
    | with_reducible apply OptSndBounded_none
    | with_reducible apply OptSndBounded_some
    | intro _
    | dsimp only [BoundedBy_mk, refuse_st]
    | split

theorem progAct_BoundedBy {N : Nat} (p : ProgStep) (s : State) (hb : BoundedBy N s) : OptBounded N (progAct p s) := by
  unfold progAct
  repeat' first
    | with_reducible assumption
    | with_reducible apply askMode_BoundedBy
    | with_reducible apply askSetpoint_BoundedBy
    | with_reducible apply BoundedBy_fold
    | with_reducible apply OptBounded_none
    | with_reducible apply OptBounded_some
    | with_reducible apply OptSndBounded_none
    | with_reducible apply OptSndBounded_some
    | intro _
    | dsimp only [BoundedBy_mk, refuse_st]
    | split

theorem progFail_BoundedBy {N : Nat} (i : Instance) (cause : Nat) (s : State) (hb : BoundedBy N s) : BoundedBy N (progFail i cause s) := by
  unfold progFail
  repeat' first
    | with_reducible assumption
    | with_reducible apply progStepEvent_BoundedBy
    | with_reducible apply setInst_BoundedBy
    | with_reducible apply spoilHere_BoundedBy
    | with_reducible apply BoundedBy_fold
    | with_reducible apply OptBounded_none
    | with_reducible apply OptBounded_some
    | with_reducible apply OptSndBounded_none
    | with_reducible apply OptSndBounded_some
    | intro _
    | dsimp only [BoundedBy_mk, refuse_st]
    | split

theorem progOne_BoundedBy {N : Nat} (page : Nat) (s : State) (hb : BoundedBy N s) : OptBounded N (progOne page s) := by
  unfold progOne
  repeat' first
    | with_reducible assumption
    | with_reducible apply progAct_BoundedBy
    | refine (progAct_BoundedBy _ _ ?_).all _ (by with_reducible assumption)
    | with_reducible apply progEnd_BoundedBy
    | with_reducible apply progFail_BoundedBy
    | with_reducible apply setInst_BoundedBy
    | with_reducible apply BoundedBy_fold
    | with_reducible apply OptBounded_none
    | with_reducible apply OptBounded_some
    | with_reducible apply OptSndBounded_none
    | with_reducible apply OptSndBounded_some
    | intro _
    | dsimp only [BoundedBy_mk, refuse_st]
    | split

theorem progTick_BoundedBy {N : Nat} (s : State) (hb : BoundedBy N s) : BoundedBy N (progTick s) := by
  unfold progTick
  repeat' first
    | with_reducible assumption
    | with_reducible apply progOne_BoundedBy
    | refine (progOne_BoundedBy _ _ ?_).all _ (by with_reducible assumption)
    | with_reducible apply forList_BoundedBy
    | with_reducible apply forList_fst_BoundedBy
    | with_reducible apply iterate_BoundedBy
    | with_reducible apply BoundedBy_fold
    | with_reducible apply OptBounded_none
    | with_reducible apply OptBounded_some
    | with_reducible apply OptSndBounded_none
    | with_reducible apply OptSndBounded_some
    | intro _
    | dsimp only [BoundedBy_mk, refuse_st]
    | split

theorem execProgStepTimeout_Bounded (inst : Nat) (s : State) (hb : Bounded s) : NextBounded (execProgStepTimeout inst s) := by
  unfold execProgStepTimeout
  unfold Bounded at hb
  repeat' first
    | with_reducible apply NextBounded_next
    | with_reducible assumption
    | with_reducible apply atTime_BoundedBy
    | with_reducible apply progFail_BoundedBy
    | with_reducible apply BoundedBy_fold
    | with_reducible apply OptBounded_none
    | with_reducible apply OptBounded_some
    | with_reducible apply OptSndBounded_none
    | with_reducible apply OptSndBounded_some
    | intro _
    | dsimp only [BoundedBy_mk, refuse_st]
    | split

theorem execProgInstanceExpiry_Bounded (inst : Nat) (s : State) (hb : Bounded s) : NextBounded (execProgInstanceExpiry inst s) := by
  unfold execProgInstanceExpiry
  unfold Bounded at hb
  repeat' first
    | with_reducible apply NextBounded_next
    | with_reducible assumption
    | with_reducible apply atTime_BoundedBy
    | with_reducible apply progEnd_BoundedBy
    | with_reducible apply BoundedBy_fold
    | with_reducible apply OptBounded_none
    | with_reducible apply OptBounded_some
    | with_reducible apply OptSndBounded_none
    | with_reducible apply OptSndBounded_some
    | intro _
    | dsimp only [BoundedBy_mk, refuse_st]
    | split

theorem execSeqInEdge_Bounded (input : Nat) (level : Bool) (s : State) (hb : Bounded s) : NextBounded (execSeqInEdge input level s) := by
  unfold execSeqInEdge
  unfold Bounded at hb
  repeat' first
    | with_reducible apply NextBounded_next
    | with_reducible assumption
    | with_reducible apply BoundedBy_fold
    | with_reducible apply OptBounded_none
    | with_reducible apply OptBounded_some
    | with_reducible apply OptSndBounded_none
    | with_reducible apply OptSndBounded_some
    | intro _
    | dsimp only [BoundedBy_mk, refuse_st]
    | split

theorem progLoaded_BoundedBy {N : Nat} (j : ProgLoad) (s : State) (hb : BoundedBy N s) : BoundedBy N (progLoaded j s) := by
  unfold progLoaded
  repeat' first
    | with_reducible assumption
    | with_reducible apply complete_BoundedBy
    | with_reducible apply BoundedBy_fold
    | with_reducible apply OptBounded_none
    | with_reducible apply OptBounded_some
    | with_reducible apply OptSndBounded_none
    | with_reducible apply OptSndBounded_some
    | intro _
    | dsimp only [BoundedBy_mk, refuse_st]
    | split

theorem execProgLoad_Bounded (s : State) (hb : Bounded s) : NextBounded (execProgLoad s) := by
  unfold execProgLoad
  unfold Bounded at hb
  repeat' first
    | with_reducible apply NextBounded_next
    | with_reducible assumption
    | with_reducible apply serve_BoundedBy
    | with_reducible apply BoundedBy_fold
    | with_reducible apply OptBounded_none
    | with_reducible apply OptBounded_some
    | with_reducible apply OptSndBounded_none
    | with_reducible apply OptSndBounded_some
    | intro _
    | dsimp only [BoundedBy_mk, refuse_st]
    | split

theorem execProgStatus_Bounded (s : State) (hb : Bounded s) : NextBounded (execProgStatus s) := by
  unfold execProgStatus
  unfold Bounded at hb
  repeat' first
    | with_reducible apply NextBounded_next
    | with_reducible assumption
    | with_reducible apply serve_BoundedBy
    | with_reducible apply BoundedBy_fold
    | with_reducible apply OptBounded_none
    | with_reducible apply OptBounded_some
    | with_reducible apply OptSndBounded_none
    | with_reducible apply OptSndBounded_some
    | intro _
    | dsimp only [BoundedBy_mk, refuse_st]
    | split

theorem execSeqIo_Bounded (s : State) (hb : Bounded s) : NextBounded (execSeqIo s) := by
  unfold execSeqIo
  unfold Bounded at hb
  repeat' first
    | with_reducible apply NextBounded_next
    | with_reducible assumption
    | with_reducible apply serve_BoundedBy
    | with_reducible apply BoundedBy_fold
    | with_reducible apply OptBounded_none
    | with_reducible apply OptBounded_some
    | with_reducible apply OptSndBounded_none
    | with_reducible apply OptSndBounded_some
    | intro _
    | dsimp only [BoundedBy_mk, refuse_st]
    | split

end Sys2Proof.Machine
end

