-- ==== Sys2Proof/Laws/BoundsStarts.lean ====
section
/-! SUPPORT. The operations of Machine/Starts.lean keep the bounds of the host interface (Safety.lean). -/

namespace Sys2Proof.Machine

theorem startAccept_BoundedBy {N : Nat} (p : Page) (s : State) (hb : BoundedBy N s) : BoundedBy N (startAccept p s) := by
  unfold startAccept
  repeat' first
    | with_reducible assumption
    | with_reducible apply progStart_BoundedBy
    | with_reducible apply setPage_BoundedBy
    | with_reducible apply forList_BoundedBy
    | with_reducible apply forList_fst_BoundedBy
    | with_reducible apply BoundedBy_fold
    | with_reducible apply OptBounded_none
    | with_reducible apply OptBounded_some
    | with_reducible apply OptSndBounded_none
    | with_reducible apply OptSndBounded_some
    | intro _
    | dsimp only [BoundedBy_mk, refuse_st]
    | split

theorem sheetBlank_BoundedBy {N : Nat} (cause : Nat) (s : State) (hb : BoundedBy N s) : BoundedBy N (sheetBlank cause s) := by
  unfold sheetBlank
  repeat' first
    | with_reducible assumption
    | with_reducible apply raise_BoundedBy
    | with_reducible apply tick_BoundedBy
    | with_reducible apply wgAdd_BoundedBy
    | with_reducible apply forRange_BoundedBy
    | with_reducible apply forRange_fst_BoundedBy
    | with_reducible apply BoundedBy_fold
    | with_reducible apply OptBounded_none
    | with_reducible apply OptBounded_some
    | with_reducible apply OptSndBounded_none
    | with_reducible apply OptSndBounded_some
    | intro _
    | dsimp only [BoundedBy_mk, refuse_st]
    | split

theorem execTosEdge_Bounded (t : Nat) (s : State) (hb : Bounded s) : NextBounded (execTosEdge t s) := by
  unfold execTosEdge
  unfold Bounded at hb
  repeat' first
    | with_reducible apply NextBounded_next
    | with_reducible assumption
    | with_reducible apply atTime_BoundedBy
    | with_reducible apply sheetBlank_BoundedBy
    | with_reducible apply startAccept_BoundedBy
    | with_reducible apply when_BoundedBy
    | with_reducible apply BoundedBy_fold
    | with_reducible apply OptBounded_none
    | with_reducible apply OptBounded_some
    | with_reducible apply OptSndBounded_none
    | with_reducible apply OptSndBounded_some
    | intro _
    | dsimp only [BoundedBy_mk, refuse_st]
    | split

theorem pitchPoint_BoundedBy {N : Nat} (n : Nat) (s : State) (hb : BoundedBy N s) : BoundedBy N (pitchPoint n s) := by
  unfold pitchPoint
  repeat' first
    | with_reducible assumption
    | with_reducible apply raise_BoundedBy
    | with_reducible apply startAccept_BoundedBy
    | with_reducible apply tick_BoundedBy
    | with_reducible apply BoundedBy_fold
    | with_reducible apply OptBounded_none
    | with_reducible apply OptBounded_some
    | with_reducible apply OptSndBounded_none
    | with_reducible apply OptSndBounded_some
    | intro _
    | dsimp only [BoundedBy_mk, refuse_st]
    | split

theorem pitchPoints_BoundedBy {N : Nat} (s : State) (hb : BoundedBy N s) : BoundedBy N (pitchPoints s) := by
  unfold pitchPoints
  repeat' first
    | with_reducible assumption
    | with_reducible apply pitchPoint_BoundedBy
    | with_reducible apply forRange_BoundedBy
    | with_reducible apply forRange_fst_BoundedBy
    | with_reducible apply BoundedBy_fold
    | with_reducible apply OptBounded_none
    | with_reducible apply OptBounded_some
    | with_reducible apply OptSndBounded_none
    | with_reducible apply OptSndBounded_some
    | intro _
    | dsimp only [BoundedBy_mk, refuse_st]
    | split

theorem expEnd_BoundedBy {N : Nat} (key : Nat) (s : State) (hb : BoundedBy N s) : BoundedBy N (expEnd key s) := by
  unfold expEnd
  repeat' first
    | with_reducible assumption
    | with_reducible apply expForget_BoundedBy
    | with_reducible apply giveUnserved_BoundedBy
    | with_reducible apply setEng_BoundedBy
    | with_reducible apply startTest_BoundedBy
    | with_reducible apply forList_BoundedBy
    | with_reducible apply forList_fst_BoundedBy
    | with_reducible apply BoundedBy_fold
    | with_reducible apply OptBounded_none
    | with_reducible apply OptBounded_some
    | with_reducible apply OptSndBounded_none
    | with_reducible apply OptSndBounded_some
    | intro _
    | dsimp only [BoundedBy_mk, refuse_st]
    | split

theorem pageDone_BoundedBy {N : Nat} (p : Page) (st : Nat) (s : State) (hb : BoundedBy N s) : BoundedBy N (pageDone p st s) := by
  unfold pageDone
  repeat' first
    | with_reducible assumption
    | with_reducible apply consCharge_BoundedBy
    | with_reducible apply endIngest_BoundedBy
    | with_reducible apply expEnd_BoundedBy
    | with_reducible apply pageTo_BoundedBy
    | with_reducible apply releaseStation_BoundedBy
    | with_reducible apply setInst_BoundedBy
    | with_reducible apply splitIdle_BoundedBy
    | with_reducible apply trimPages_BoundedBy
    | with_reducible apply forList_BoundedBy
    | with_reducible apply forList_fst_BoundedBy
    | with_reducible apply BoundedBy_fold
    | with_reducible apply OptBounded_none
    | with_reducible apply OptBounded_some
    | with_reducible apply OptSndBounded_none
    | with_reducible apply OptSndBounded_some
    | intro _
    | dsimp only [BoundedBy_mk, refuse_st]
    | split

theorem pagesDone_BoundedBy {N : Nat} (st : Nat) (s : State) (hb : BoundedBy N s) : BoundedBy N (pagesDone st s) := by
  unfold pagesDone
  repeat' first
    | with_reducible assumption
    | with_reducible apply pageDone_BoundedBy
    | with_reducible apply forList_BoundedBy
    | with_reducible apply forList_fst_BoundedBy
    | with_reducible apply BoundedBy_fold
    | with_reducible apply OptBounded_none
    | with_reducible apply OptBounded_some
    | with_reducible apply OptSndBounded_none
    | with_reducible apply OptSndBounded_some
    | intro _
    | dsimp only [BoundedBy_mk, refuse_st]
    | split

end Sys2Proof.Machine
end

