-- ==== Sys2Proof/Laws/BoundsPosition.lean ====
section
/-! SUPPORT. The operations of Machine/Position.lean keep the bounds of the host interface (Safety.lean). -/

namespace Sys2Proof.Machine

theorem setIn_BoundedBy {N : Nat} (i : Nat) (f : PosInput → PosInput) (s : State) (hb : BoundedBy N s) : BoundedBy N (setIn i f s) := by
  unfold setIn
  repeat' first
    | with_reducible assumption
    | with_reducible apply BoundedBy_fold
    | with_reducible apply OptBounded_none
    | with_reducible apply OptBounded_some
    | with_reducible apply OptSndBounded_none
    | with_reducible apply OptSndBounded_some
    | intro _
    | dsimp only [BoundedBy_mk, refuse_st]
    | split

theorem reverse_BoundedBy {N : Nat} (st : Nat) (s : State) (hb : BoundedBy N s) : BoundedBy N (reverse st s) := by
  unfold reverse
  repeat' first
    | with_reducible assumption
    | with_reducible apply positionLoss_BoundedBy
    | with_reducible apply raise_BoundedBy
    | with_reducible apply setTrk_BoundedBy
    | with_reducible apply tick_BoundedBy
    | with_reducible apply BoundedBy_fold
    | with_reducible apply OptBounded_none
    | with_reducible apply OptBounded_some
    | with_reducible apply OptSndBounded_none
    | with_reducible apply OptSndBounded_some
    | intro _
    | dsimp only [BoundedBy_mk, refuse_st]
    | split

theorem trackStep_BoundedBy {N : Nat} (st t : Nat) (s : State) (hb : BoundedBy N s) : BoundedBy N (trackStep st t s) := by
  unfold trackStep
  repeat' first
    | with_reducible assumption
    | with_reducible apply fireBoundary_BoundedBy
    | with_reducible apply raise_BoundedBy
    | with_reducible apply reverse_BoundedBy
    | with_reducible apply setTrk_BoundedBy
    | with_reducible apply tick_BoundedBy
    | with_reducible apply forRange_BoundedBy
    | with_reducible apply forRange_fst_BoundedBy
    | with_reducible apply BoundedBy_fold
    | with_reducible apply OptBounded_none
    | with_reducible apply OptBounded_some
    | with_reducible apply OptSndBounded_none
    | with_reducible apply OptSndBounded_some
    | intro _
    | dsimp only [BoundedBy_mk, refuse_st]
    | split

theorem useSample_BoundedBy {N : Nat} (i t : Nat) (s : State) (hb : BoundedBy N s) : BoundedBy N (useSample i t s) := by
  unfold useSample
  repeat' first
    | with_reducible assumption
    | with_reducible apply drvSample_BoundedBy
    | with_reducible apply pagesDone_BoundedBy
    | with_reducible apply pitchPoints_BoundedBy
    | with_reducible apply setIn_BoundedBy
    | with_reducible apply trackStep_BoundedBy
    | with_reducible apply wgDrive_BoundedBy
    | with_reducible apply forList_BoundedBy
    | with_reducible apply forList_fst_BoundedBy
    | with_reducible apply BoundedBy_fold
    | with_reducible apply OptBounded_none
    | with_reducible apply OptBounded_some
    | with_reducible apply OptSndBounded_none
    | with_reducible apply OptSndBounded_some
    | intro _
    | dsimp only [BoundedBy_mk, refuse_st]
    | split

theorem inputFault_BoundedBy {N : Nat} (i cause : Nat) (s : State) (hb : BoundedBy N s) : BoundedBy N (inputFault i cause s) := by
  unfold inputFault
  repeat' first
    | with_reducible assumption
    | with_reducible apply drvInputFault_BoundedBy
    | with_reducible apply positionLoss_BoundedBy
    | with_reducible apply raise_BoundedBy
    | with_reducible apply setIn_BoundedBy
    | with_reducible apply setTrk_BoundedBy
    | with_reducible apply tick_BoundedBy
    | with_reducible apply forList_BoundedBy
    | with_reducible apply forList_fst_BoundedBy
    | with_reducible apply BoundedBy_fold
    | with_reducible apply OptBounded_none
    | with_reducible apply OptBounded_some
    | with_reducible apply OptSndBounded_none
    | with_reducible apply OptSndBounded_some
    | intro _
    | dsimp only [BoundedBy_mk, refuse_st]
    | split

theorem execPosSample_Bounded (input a b t : Nat) (s : State) (hb : Bounded s) : NextBounded (execPosSample input a b t s) := by
  unfold execPosSample
  unfold Bounded at hb
  repeat' first
    | with_reducible apply NextBounded_next
    | with_reducible assumption
    | with_reducible apply atTime_BoundedBy
    | with_reducible apply emit_BoundedBy
    | with_reducible apply inputFault_BoundedBy
    | with_reducible apply setIn_BoundedBy
    | with_reducible apply useSample_BoundedBy
    | with_reducible apply when_BoundedBy
    | with_reducible apply BoundedBy_fold
    | with_reducible apply OptBounded_none
    | with_reducible apply OptBounded_some
    | with_reducible apply OptSndBounded_none
    | with_reducible apply OptSndBounded_some
    | intro _
    | dsimp only [BoundedBy_mk, refuse_st]
    | split

theorem execVelocityStopTimeout_Bounded (station : Nat) (s : State) (hb : Bounded s) : NextBounded (execVelocityStopTimeout station s) := by
  unfold execVelocityStopTimeout
  unfold Bounded at hb
  repeat' first
    | with_reducible apply NextBounded_next
    | with_reducible assumption
    | with_reducible apply atTime_BoundedBy
    | with_reducible apply setTrk_BoundedBy
    | with_reducible apply when_BoundedBy
    | with_reducible apply BoundedBy_fold
    | with_reducible apply OptBounded_none
    | with_reducible apply OptBounded_some
    | with_reducible apply OptSndBounded_none
    | with_reducible apply OptSndBounded_some
    | intro _
    | dsimp only [BoundedBy_mk, refuse_st]
    | split

theorem execZEdge_Bounded (input t : Nat) (s : State) (hb : Bounded s) : NextBounded (execZEdge input t s) := by
  unfold execZEdge
  unfold Bounded at hb
  repeat' first
    | with_reducible apply NextBounded_next
    | with_reducible assumption
    | with_reducible apply atTime_BoundedBy
    | with_reducible apply when_BoundedBy
    | with_reducible apply BoundedBy_fold
    | with_reducible apply OptBounded_none
    | with_reducible apply OptBounded_some
    | with_reducible apply OptSndBounded_none
    | with_reducible apply OptSndBounded_some
    | intro _
    | dsimp only [BoundedBy_mk, refuse_st]
    | split

theorem strobeFail_BoundedBy {N : Nat} (st : Nat) (k : Int) (s : State) (hb : BoundedBy N s) : BoundedBy N (strobeFail st k s) := by
  unfold strobeFail
  repeat' first
    | with_reducible assumption
    | with_reducible apply positionLoss_BoundedBy
    | with_reducible apply raise_BoundedBy
    | with_reducible apply strobeLost_BoundedBy
    | with_reducible apply forList_BoundedBy
    | with_reducible apply forList_fst_BoundedBy
    | with_reducible apply BoundedBy_fold
    | with_reducible apply OptBounded_none
    | with_reducible apply OptBounded_some
    | with_reducible apply OptSndBounded_none
    | with_reducible apply OptSndBounded_some
    | intro _
    | dsimp only [BoundedBy_mk, refuse_st]
    | split

theorem strobeOut_BoundedBy {N : Nat} (g : Nat) (k : Int) (block phase : Nat) (s : State) (hb : BoundedBy N s) : BoundedBy N (strobeOut g k block phase s) := by
  unfold strobeOut
  repeat' first
    | with_reducible assumption
    | with_reducible apply emit_BoundedBy
    | with_reducible apply txSet_BoundedBy
    | with_reducible apply BoundedBy_fold
    | with_reducible apply OptBounded_none
    | with_reducible apply OptBounded_some
    | with_reducible apply OptSndBounded_none
    | with_reducible apply OptSndBounded_some
    | intro _
    | dsimp only [BoundedBy_mk, refuse_st]
    | split

theorem execStrobeCommit_Bounded (lane : Nat) (s : State) (hb : Bounded s) : NextBounded (execStrobeCommit lane s) := by
  unfold execStrobeCommit
  unfold Bounded at hb
  repeat' first
    | with_reducible apply NextBounded_next
    | with_reducible assumption
    | with_reducible apply atTime_BoundedBy
    | with_reducible apply setDly_BoundedBy
    | with_reducible apply strobeFail_BoundedBy
    | with_reducible apply strobeOut_BoundedBy
    | with_reducible apply when_BoundedBy
    | with_reducible apply BoundedBy_fold
    | with_reducible apply OptBounded_none
    | with_reducible apply OptBounded_some
    | with_reducible apply OptSndBounded_none
    | with_reducible apply OptSndBounded_some
    | intro _
    | dsimp only [BoundedBy_mk, refuse_st]
    | split

theorem execTimeRefLoss_Bounded (s : State) (hb : Bounded s) : NextBounded (execTimeRefLoss s) := by
  unfold execTimeRefLoss
  unfold Bounded at hb
  repeat' first
    | with_reducible apply NextBounded_next
    | with_reducible assumption
    | with_reducible apply raise_BoundedBy
    | with_reducible apply when_BoundedBy
    | with_reducible apply BoundedBy_fold
    | with_reducible apply OptBounded_none
    | with_reducible apply OptBounded_some
    | with_reducible apply OptSndBounded_none
    | with_reducible apply OptSndBounded_some
    | intro _
    | dsimp only [BoundedBy_mk, refuse_st]
    | split

theorem execTimeRefLock_Bounded (s : State) (hb : Bounded s) : NextBounded (execTimeRefLock s) := by
  unfold execTimeRefLock
  unfold Bounded at hb
  repeat' first
    | with_reducible apply NextBounded_next
    | with_reducible assumption
    | with_reducible apply raise_BoundedBy
    | with_reducible apply when_BoundedBy
    | with_reducible apply BoundedBy_fold
    | with_reducible apply OptBounded_none
    | with_reducible apply OptBounded_some
    | with_reducible apply OptSndBounded_none
    | with_reducible apply OptSndBounded_some
    | intro _
    | dsimp only [BoundedBy_mk, refuse_st]
    | split

theorem execPosInput_Bounded (s : State) (hb : Bounded s) : NextBounded (execPosInput s) := by
  unfold execPosInput
  unfold Bounded at hb
  repeat' first
    | with_reducible apply NextBounded_next
    | with_reducible assumption
    | with_reducible apply serve_BoundedBy
    | with_reducible apply drvUnalign_BoundedBy
    | with_reducible apply emit_BoundedBy
    | with_reducible apply setIn_BoundedBy
    | with_reducible apply when_BoundedBy
    | with_reducible apply BoundedBy_fold
    | with_reducible apply OptBounded_none
    | with_reducible apply OptBounded_some
    | with_reducible apply OptSndBounded_none
    | with_reducible apply OptSndBounded_some
    | intro _
    | dsimp only [BoundedBy_mk, refuse_st]
    | split

theorem lineStart_BoundedBy {N : Nat} (st : Nat) (s : State) (hb : BoundedBy N s) : BoundedBy N (lineStart st s) := by
  unfold lineStart
  repeat' first
    | with_reducible assumption
    | with_reducible apply setDly_BoundedBy
    | with_reducible apply setPort_BoundedBy
    | with_reducible apply setTile_BoundedBy
    | with_reducible apply forList_BoundedBy
    | with_reducible apply forList_fst_BoundedBy
    | with_reducible apply BoundedBy_fold
    | with_reducible apply OptBounded_none
    | with_reducible apply OptBounded_some
    | with_reducible apply OptSndBounded_none
    | with_reducible apply OptSndBounded_some
    | intro _
    | dsimp only [BoundedBy_mk, refuse_st]
    | split

theorem execPosTrack_Bounded (s : State) (hb : Bounded s) : NextBounded (execPosTrack s) := by
  unfold execPosTrack
  unfold Bounded at hb
  repeat' first
    | with_reducible apply NextBounded_next
    | with_reducible assumption
    | with_reducible apply serve_BoundedBy
    | with_reducible apply fireBoundary_BoundedBy
    | with_reducible apply lineStart_BoundedBy
    | with_reducible apply movesNow_BoundedBy
    | with_reducible apply setIn_BoundedBy
    | with_reducible apply setTrk_BoundedBy
    | with_reducible apply useSample_BoundedBy
    | with_reducible apply BoundedBy_fold
    | with_reducible apply OptBounded_none
    | with_reducible apply OptBounded_some
    | with_reducible apply OptSndBounded_none
    | with_reducible apply OptSndBounded_some
    | intro _
    | dsimp only [BoundedBy_mk, refuse_st]
    | split

theorem execPosStatus_Bounded (s : State) (hb : Bounded s) : NextBounded (execPosStatus s) := by
  unfold execPosStatus
  unfold Bounded at hb
  repeat' first
    | with_reducible apply NextBounded_next
    | with_reducible assumption
    | with_reducible apply serve_BoundedBy
    | with_reducible apply BoundedBy_fold
    | with_reducible apply OptBounded_none
    | with_reducible apply OptBounded_some
    | with_reducible apply OptSndBounded_none
    | with_reducible apply OptSndBounded_some
    | intro _
    | dsimp only [BoundedBy_mk, refuse_st]
    | split

theorem regHost_BoundedBy {N : Nat} (g : Nat) (v : Int) (s : State) (hb : BoundedBy N s) : BoundedBy N (regHost g v s) := by
  unfold regHost
  repeat' first
    | with_reducible assumption
    | with_reducible apply resplit_BoundedBy
    | with_reducible apply setDly_BoundedBy
    | with_reducible apply BoundedBy_fold
    | with_reducible apply OptBounded_none
    | with_reducible apply OptBounded_some
    | with_reducible apply OptSndBounded_none
    | with_reducible apply OptSndBounded_some
    | intro _
    | dsimp only [BoundedBy_mk, refuse_st]
    | split

theorem execPosDelay_Bounded (s : State) (hb : Bounded s) : NextBounded (execPosDelay s) := by
  unfold execPosDelay
  unfold Bounded at hb
  repeat' first
    | with_reducible apply NextBounded_next
    | with_reducible assumption
    | with_reducible apply serve_BoundedBy
    | with_reducible apply regHost_BoundedBy
    | with_reducible apply forRange_BoundedBy
    | with_reducible apply forRange_fst_BoundedBy
    | with_reducible apply BoundedBy_fold
    | with_reducible apply OptBounded_none
    | with_reducible apply OptBounded_some
    | with_reducible apply OptSndBounded_none
    | with_reducible apply OptSndBounded_some
    | intro _
    | dsimp only [BoundedBy_mk, refuse_st]
    | split

theorem maskApply_BoundedBy {N : Nat} (st : Nat) (stitch : Bool) (bytes : List Byte) (from_ : Int) (s : State) (hb : BoundedBy N s) : BoundedBy N (maskApply st stitch bytes from_ s) := by
  unfold maskApply
  repeat' first
    | with_reducible assumption
    | with_reducible apply BoundedBy_fold
    | with_reducible apply OptBounded_none
    | with_reducible apply OptBounded_some
    | with_reducible apply OptSndBounded_none
    | with_reducible apply OptSndBounded_some
    | intro _
    | dsimp only [BoundedBy_mk, refuse_st]
    | split

theorem execPosMask_Bounded (s : State) (hb : Bounded s) : NextBounded (execPosMask s) := by
  unfold execPosMask
  unfold Bounded at hb
  repeat' first
    | with_reducible apply NextBounded_next
    | with_reducible assumption
    | with_reducible apply serve_BoundedBy
    | with_reducible apply gapPend_BoundedBy
    | with_reducible apply maskApply_BoundedBy
    | with_reducible apply BoundedBy_fold
    | with_reducible apply OptBounded_none
    | with_reducible apply OptBounded_some
    | with_reducible apply OptSndBounded_none
    | with_reducible apply OptSndBounded_some
    | intro _
    | dsimp only [BoundedBy_mk, refuse_st]
    | split

theorem execPosOverride_Bounded (s : State) (hb : Bounded s) : NextBounded (execPosOverride s) := by
  unfold execPosOverride
  unfold Bounded at hb
  repeat' first
    | with_reducible apply NextBounded_next
    | with_reducible assumption
    | with_reducible apply serve_BoundedBy
    | with_reducible apply BoundedBy_fold
    | with_reducible apply OptBounded_none
    | with_reducible apply OptBounded_some
    | with_reducible apply OptSndBounded_none
    | with_reducible apply OptSndBounded_some
    | intro _
    | dsimp only [BoundedBy_mk, refuse_st]
    | split

theorem execPosLatency_Bounded (s : State) (hb : Bounded s) : NextBounded (execPosLatency s) := by
  unfold execPosLatency
  unfold Bounded at hb
  repeat' first
    | with_reducible apply NextBounded_next
    | with_reducible assumption
    | with_reducible apply serve_BoundedBy
    | with_reducible apply BoundedBy_fold
    | with_reducible apply OptBounded_none
    | with_reducible apply OptBounded_some
    | with_reducible apply OptSndBounded_none
    | with_reducible apply OptSndBounded_some
    | intro _
    | dsimp only [BoundedBy_mk, refuse_st]
    | split

theorem execTimeConfig_Bounded (s : State) (hb : Bounded s) : NextBounded (execTimeConfig s) := by
  unfold execTimeConfig
  unfold Bounded at hb
  repeat' first
    | with_reducible apply NextBounded_next
    | with_reducible assumption
    | with_reducible apply serve_BoundedBy
    | with_reducible apply BoundedBy_fold
    | with_reducible apply OptBounded_none
    | with_reducible apply OptBounded_some
    | with_reducible apply OptSndBounded_none
    | with_reducible apply OptSndBounded_some
    | intro _
    | dsimp only [BoundedBy_mk, refuse_st]
    | split

end Sys2Proof.Machine
end

