-- ==== Sys2Proof/Laws/BoundsGaps.lean ====
section
/-! SUPPORT. The operations of Machine/Gaps.lean keep the bounds of the host interface (Safety.lean). -/

namespace Sys2Proof.Machine

theorem gapBegin_BoundedBy {N : Nat} (w : GapWork) (s : State) (hb : BoundedBy N s) : BoundedBy N (gapBegin w s) := by
  unfold gapBegin
  repeat' first
    | with_reducible assumption
    | with_reducible apply calDiscard_BoundedBy
    | with_reducible apply retrainStart_BoundedBy
    | with_reducible apply setDdr_BoundedBy
    | with_reducible apply tick_BoundedBy
    | with_reducible apply withFw_BoundedBy
    | with_reducible apply forRange_BoundedBy
    | with_reducible apply forList_BoundedBy
    | with_reducible apply forRange_fst_BoundedBy
    | with_reducible apply forList_fst_BoundedBy
    | with_reducible apply BoundedBy_fold
    | with_reducible apply OptBounded_none
    | with_reducible apply OptBounded_some
    | with_reducible apply OptSndBounded_none
    | with_reducible apply OptSndBounded_some
    | intro _
    | dsimp only [BoundedBy_mk, refuse_st]
    | split

theorem gapStart_BoundedBy {N : Nat} (g : GapItem) (extent count : Nat) (s : State) (hb : BoundedBy N s) : BoundedBy N (gapStart g extent count s) := by
  unfold gapStart
  repeat' first
    | with_reducible assumption
    | with_reducible apply gapBegin_BoundedBy
    | with_reducible apply BoundedBy_fold
    | with_reducible apply OptBounded_none
    | with_reducible apply OptBounded_some
    | with_reducible apply OptSndBounded_none
    | with_reducible apply OptSndBounded_some
    | intro _
    | dsimp only [BoundedBy_mk, refuse_st]
    | split

theorem execGapItemStart_Bounded (s : State) (hb : Bounded s) : NextBounded (execGapItemStart s) := by
  unfold execGapItemStart
  unfold Bounded at hb
  repeat' first
    | with_reducible apply NextBounded_next
    | with_reducible assumption
    | with_reducible apply gapStart_BoundedBy
    | with_reducible apply BoundedBy_fold
    | with_reducible apply OptBounded_none
    | with_reducible apply OptBounded_some
    | with_reducible apply OptSndBounded_none
    | with_reducible apply OptSndBounded_some
    | intro _
    | dsimp only [BoundedBy_mk, refuse_st]
    | split

theorem execGapWantedRepeat_Bounded (s : State) (hb : Bounded s) : NextBounded (execGapWantedRepeat s) := by
  unfold execGapWantedRepeat
  unfold Bounded at hb
  repeat' first
    | with_reducible apply NextBounded_next
    | with_reducible assumption
    | with_reducible apply atTime_BoundedBy
    | with_reducible apply gapWanted_BoundedBy
    | with_reducible apply forList_BoundedBy
    | with_reducible apply forList_fst_BoundedBy
    | with_reducible apply foldl_BoundedBy
    | with_reducible apply BoundedBy_fold
    | with_reducible apply OptBounded_none
    | with_reducible apply OptBounded_some
    | with_reducible apply OptSndBounded_none
    | with_reducible apply OptSndBounded_some
    | intro _
    | dsimp only [BoundedBy_mk, refuse_st]
    | split

end Sys2Proof.Machine
end

