-- ==== Sys2Proof/Laws/BoundsPageCmd.lean ====
section
/-! SUPPORT. The operations of Machine/PageCmd.lean keep the bounds of the host interface (Safety.lean). -/

namespace Sys2Proof.Machine

theorem pageNew_BoundedBy {N : Nat} (id : Word) (preverify trust : Bool) (planes : Nat) (obj : Nat → State → State) (ingest : Nat → Ingest)
    (s : State) (hb : BoundedBy N s) (ho : ∀ k s, BoundedBy N s → BoundedBy N (obj k s)) :
    BoundedBy N (pageNew id preverify trust planes obj ingest s) := by
  unfold pageNew
  apply ho
  exact hb

theorem execPageAnnounce_Bounded (s : State) (hb : Bounded s) : NextBounded (execPageAnnounce s) := by
  unfold execPageAnnounce
  unfold Bounded at hb
  repeat' first
    | with_reducible apply NextBounded_next
    | with_reducible assumption
    | with_reducible apply serve_BoundedBy
    | with_reducible apply pageNew_BoundedBy
    | with_reducible apply BoundedBy_fold
    | with_reducible apply OptBounded_none
    | with_reducible apply OptBounded_some
    | with_reducible apply OptSndBounded_none
    | with_reducible apply OptSndBounded_some
    | intro _
    | dsimp only [BoundedBy_mk, refuse_st]
    | split

theorem admitPage_BoundedBy {N : Nat} (p : Page) (w3 : Nat) (s : State) (hb : BoundedBy N s) : BoundedBy N (admitPage p w3 s) := by
  unfold admitPage
  repeat' first
    | with_reducible assumption
    | with_reducible apply assignPage_BoundedBy
    | with_reducible apply pageTo_BoundedBy
    | with_reducible apply setPage_BoundedBy
    | with_reducible apply BoundedBy_fold
    | with_reducible apply OptBounded_none
    | with_reducible apply OptBounded_some
    | with_reducible apply OptSndBounded_none
    | with_reducible apply OptSndBounded_some
    | intro _
    | dsimp only [BoundedBy_mk, refuse_st]
    | split

theorem admitWeigh_BoundedBy {N : Nat} (id w3 : Nat) (s : State) (hb : BoundedBy N s) : BoundedBy N (admitWeigh id w3 s).1 := by
  unfold admitWeigh
  repeat' first
    | with_reducible assumption
    | with_reducible apply admitPage_BoundedBy
    | with_reducible apply BoundedBy_fold
    | with_reducible apply OptBounded_none
    | with_reducible apply OptBounded_some
    | with_reducible apply OptSndBounded_none
    | with_reducible apply OptSndBounded_some
    | intro _
    | dsimp only [BoundedBy_mk, refuse_st]
    | split

theorem execPageAdmit_Bounded (s : State) (hb : Bounded s) : NextBounded (execPageAdmit s) := by
  unfold execPageAdmit
  unfold Bounded at hb
  repeat' first
    | with_reducible apply NextBounded_next
    | with_reducible assumption
    | with_reducible apply serve_BoundedBy
    | with_reducible apply admitWeigh_BoundedBy
    | with_reducible apply BoundedBy_fold
    | with_reducible apply OptBounded_none
    | with_reducible apply OptBounded_some
    | with_reducible apply OptSndBounded_none
    | with_reducible apply OptSndBounded_some
    | intro _
    | dsimp only [BoundedBy_mk, refuse_st]
    | split

theorem execPageWithdraw_Bounded (s : State) (hb : Bounded s) : NextBounded (execPageWithdraw s) := by
  unfold execPageWithdraw
  unfold Bounded at hb
  repeat' first
    | with_reducible apply NextBounded_next
    | with_reducible assumption
    | with_reducible apply serve_BoundedBy
    | with_reducible apply endIngest_BoundedBy
    | with_reducible apply muleEnd_BoundedBy
    | with_reducible apply pageTo_BoundedBy
    | with_reducible apply trimPages_BoundedBy
    | with_reducible apply BoundedBy_fold
    | with_reducible apply OptBounded_none
    | with_reducible apply OptBounded_some
    | with_reducible apply OptSndBounded_none
    | with_reducible apply OptSndBounded_some
    | intro _
    | dsimp only [BoundedBy_mk, refuse_st]
    | split

theorem execPageStatus_Bounded (s : State) (hb : Bounded s) : NextBounded (execPageStatus s) := by
  unfold execPageStatus
  unfold Bounded at hb
  repeat' first
    | with_reducible apply NextBounded_next
    | with_reducible assumption
    | with_reducible apply serve_BoundedBy
    | with_reducible apply BoundedBy_fold
    | with_reducible apply OptBounded_none
    | with_reducible apply OptBounded_some
    | with_reducible apply OptSndBounded_none
    | with_reducible apply OptSndBounded_some
    | intro _
    | dsimp only [BoundedBy_mk, refuse_st]
    | split

theorem pageConfigure_BoundedBy {N : Nat} (c : PageConfig) (s : State) (hb : BoundedBy N s) : BoundedBy N (pageConfigure c s) := by
  unfold pageConfigure
  repeat' first
    | with_reducible assumption
    | with_reducible apply wgDrive_BoundedBy
    | with_reducible apply forRange_BoundedBy
    | with_reducible apply forRange_fst_BoundedBy
    | with_reducible apply BoundedBy_fold
    | with_reducible apply OptBounded_none
    | with_reducible apply OptBounded_some
    | with_reducible apply OptSndBounded_none
    | with_reducible apply OptSndBounded_some
    | intro _
    | dsimp only [BoundedBy_mk, refuse_st]
    | split

theorem execPageConfig_Bounded (s : State) (hb : Bounded s) : NextBounded (execPageConfig s) := by
  unfold execPageConfig
  unfold Bounded at hb
  repeat' first
    | with_reducible apply NextBounded_next
    | with_reducible assumption
    | with_reducible apply serve_BoundedBy
    | with_reducible apply pageConfigure_BoundedBy
    | with_reducible apply BoundedBy_fold
    | with_reducible apply OptBounded_none
    | with_reducible apply OptBounded_some
    | with_reducible apply OptSndBounded_none
    | with_reducible apply OptSndBounded_some
    | intro _
    | dsimp only [BoundedBy_mk, refuse_st]
    | split

theorem execPageGap_Bounded (s : State) (hb : Bounded s) : NextBounded (execPageGap s) := by
  unfold execPageGap
  unfold Bounded at hb
  repeat' first
    | with_reducible apply NextBounded_next
    | with_reducible assumption
    | with_reducible apply serve_BoundedBy
    | with_reducible apply BoundedBy_fold
    | with_reducible apply OptBounded_none
    | with_reducible apply OptBounded_some
    | with_reducible apply OptSndBounded_none
    | with_reducible apply OptSndBounded_some
    | intro _
    | dsimp only [BoundedBy_mk, refuse_st]
    | split

theorem execPageSpoil_Bounded (s : State) (hb : Bounded s) : NextBounded (execPageSpoil s) := by
  unfold execPageSpoil
  unfold Bounded at hb
  repeat' first
    | with_reducible apply NextBounded_next
    | with_reducible assumption
    | with_reducible apply serve_BoundedBy
    | with_reducible apply spoilNow_BoundedBy
    | with_reducible apply BoundedBy_fold
    | with_reducible apply OptBounded_none
    | with_reducible apply OptBounded_some
    | with_reducible apply OptSndBounded_none
    | with_reducible apply OptSndBounded_some
    | intro _
    | dsimp only [BoundedBy_mk, refuse_st]
    | split

end Sys2Proof.Machine
end

