-- ==== Sys2Proof/Laws/BoundsGapEnd.lean ====
section
/-! SUPPORT. The operations of Machine/GapEnd.lean keep the bounds of the host interface (Safety.lean). -/

namespace Sys2Proof.Machine

theorem maskEffect_BoundedBy {N : Nat} (st oid : Nat) (s : State) (hb : BoundedBy N s) : BoundedBy N (maskEffect st oid s) := by
  unfold maskEffect
  repeat' first
    | with_reducible assumption
    | with_reducible apply maskApply_BoundedBy
    | with_reducible apply forList_BoundedBy
    | with_reducible apply forList_fst_BoundedBy
    | with_reducible apply foldl_BoundedBy
    | with_reducible apply BoundedBy_fold
    | with_reducible apply OptBounded_none
    | with_reducible apply OptBounded_some
    | with_reducible apply OptSndBounded_none
    | with_reducible apply OptSndBounded_some
    | intro _
    | dsimp only [BoundedBy_mk, refuse_st]
    | split

theorem remapEffect_BoundedBy {N : Nat} (store row : Nat) (s : State) (hb : BoundedBy N s) : BoundedBy N (remapEffect store row s) := by
  unfold remapEffect
  repeat' first
    | with_reducible assumption
    | with_reducible apply raise_BoundedBy
    | with_reducible apply setSram_BoundedBy
    | with_reducible apply tick_BoundedBy
    | with_reducible apply BoundedBy_fold
    | with_reducible apply OptBounded_none
    | with_reducible apply OptBounded_some
    | with_reducible apply OptSndBounded_none
    | with_reducible apply OptSndBounded_some
    | intro _
    | dsimp only [BoundedBy_mk, refuse_st]
    | split

theorem ddrRateEffect_BoundedBy {N : Nat} (r : Nat) (s : State) (hb : BoundedBy N s) : BoundedBy N (ddrRateEffect r s) := by
  unfold ddrRateEffect
  repeat' first
    | with_reducible assumption
    | with_reducible apply raise_BoundedBy
    | with_reducible apply recDirty_BoundedBy
    | with_reducible apply setDdr_BoundedBy
    | with_reducible apply forList_BoundedBy
    | with_reducible apply forList_fst_BoundedBy
    | with_reducible apply BoundedBy_fold
    | with_reducible apply OptBounded_none
    | with_reducible apply OptBounded_some
    | with_reducible apply OptSndBounded_none
    | with_reducible apply OptSndBounded_some
    | intro _
    | dsimp only [BoundedBy_mk, refuse_st]
    | split

theorem retireEffect_BoundedBy {N : Nat} (c : Nat) (s : State) (hb : BoundedBy N s) : BoundedBy N (retireEffect c s) := by
  unfold retireEffect
  repeat' first
    | with_reducible assumption
    | with_reducible apply raise_BoundedBy
    | with_reducible apply setDdr_BoundedBy
    | with_reducible apply spoolLow_BoundedBy
    | with_reducible apply BoundedBy_fold
    | with_reducible apply OptBounded_none
    | with_reducible apply OptBounded_some
    | with_reducible apply OptSndBounded_none
    | with_reducible apply OptSndBounded_some
    | intro _
    | dsimp only [BoundedBy_mk, refuse_st]
    | split

theorem gapEffect_BoundedBy {N : Nat} (g : GapItem) (up : List (Nat × Nat × Nat × Nat)) (s : State) (hb : BoundedBy N s) : BoundedBy N (gapEffect g up s) := by
  unfold gapEffect
  repeat' first
    | with_reducible assumption
    | with_reducible apply ddrRateEffect_BoundedBy
    | with_reducible apply maskEffect_BoundedBy
    | with_reducible apply remapEffect_BoundedBy
    | with_reducible apply retireEffect_BoundedBy
    | with_reducible apply retrainEnd_BoundedBy
    | with_reducible apply BoundedBy_fold
    | with_reducible apply OptBounded_none
    | with_reducible apply OptBounded_some
    | with_reducible apply OptSndBounded_none
    | with_reducible apply OptSndBounded_some
    | intro _
    | dsimp only [BoundedBy_mk, refuse_st]
    | split

theorem gapNow_BoundedBy {N : Nat} (w : GapWork) (s : State) (hb : BoundedBy N s) : BoundedBy N (gapNow w s).st := by
  unfold gapNow
  repeat' first
    | with_reducible assumption
    | with_reducible apply gapBegin_BoundedBy
    | with_reducible apply gapEffect_BoundedBy
    | with_reducible apply BoundedBy_fold
    | with_reducible apply OptBounded_none
    | with_reducible apply OptBounded_some
    | with_reducible apply OptSndBounded_none
    | with_reducible apply OptSndBounded_some
    | intro _
    | dsimp only [BoundedBy_mk, refuse_st]
    | split

theorem gapAsk_BoundedBy {N : Nat} (w : GapWork) (s : State) (hb : BoundedBy N s) : BoundedBy N (gapAsk w s).st := by
  unfold gapAsk
  repeat' first
    | with_reducible assumption
    | with_reducible apply gapNow_BoundedBy
    | with_reducible apply gapPend_BoundedBy
    | with_reducible apply BoundedBy_fold
    | with_reducible apply OptBounded_none
    | with_reducible apply OptBounded_some
    | with_reducible apply OptSndBounded_none
    | with_reducible apply OptSndBounded_some
    | intro _
    | dsimp only [BoundedBy_mk, refuse_st]
    | split

theorem execMemRate_Bounded (s : State) (hb : Bounded s) : NextBounded (execMemRate s) := by
  unfold execMemRate
  unfold Bounded at hb
  repeat' first
    | with_reducible apply NextBounded_next
    | with_reducible assumption
    | with_reducible apply serve_BoundedBy
    | with_reducible apply gapAsk_BoundedBy
    | with_reducible apply BoundedBy_fold
    | with_reducible apply OptBounded_none
    | with_reducible apply OptBounded_some
    | with_reducible apply OptSndBounded_none
    | with_reducible apply OptSndBounded_some
    | intro _
    | dsimp only [BoundedBy_mk, refuse_st]
    | split

theorem execMemRetire_Bounded (s : State) (hb : Bounded s) : NextBounded (execMemRetire s) := by
  unfold execMemRetire
  unfold Bounded at hb
  repeat' first
    | with_reducible apply NextBounded_next
    | with_reducible assumption
    | with_reducible apply serve_BoundedBy
    | with_reducible apply chanFailing_BoundedBy
    | with_reducible apply gapNow_BoundedBy
    | with_reducible apply retirePend_BoundedBy
    | with_reducible apply setDdr_BoundedBy
    | with_reducible apply BoundedBy_fold
    | with_reducible apply OptBounded_none
    | with_reducible apply OptBounded_some
    | with_reducible apply OptSndBounded_none
    | with_reducible apply OptSndBounded_some
    | intro _
    | dsimp only [BoundedBy_mk, refuse_st]
    | split

theorem gapUsed_BoundedBy {N : Nat} (r : GapRun) (s : State) (hb : BoundedBy N s) : BoundedBy N (gapUsed r s) := by
  unfold gapUsed
  repeat' first
    | with_reducible assumption
    | with_reducible apply raise_BoundedBy
    | with_reducible apply tick_BoundedBy
    | with_reducible apply BoundedBy_fold
    | with_reducible apply OptBounded_none
    | with_reducible apply OptBounded_some
    | with_reducible apply OptSndBounded_none
    | with_reducible apply OptSndBounded_some
    | intro _
    | dsimp only [BoundedBy_mk, refuse_st]
    | split

theorem admitWaiting_BoundedBy {N : Nat} (s : State) (hb : BoundedBy N s) : BoundedBy N (admitWaiting s) := by
  unfold admitWaiting
  repeat' first
    | with_reducible assumption
    | with_reducible apply admitWeigh_BoundedBy
    | with_reducible apply complete_BoundedBy
    | with_reducible apply forList_BoundedBy
    | with_reducible apply forList_fst_BoundedBy
    | with_reducible apply BoundedBy_fold
    | with_reducible apply OptBounded_none
    | with_reducible apply OptBounded_some
    | with_reducible apply OptSndBounded_none
    | with_reducible apply OptSndBounded_some
    | intro _
    | dsimp only [BoundedBy_mk, refuse_st]
    | split

theorem gapFinish_BoundedBy {N : Nat} (r : GapRun) (s : State) (hb : BoundedBy N s) : BoundedBy N (gapFinish r s) := by
  unfold gapFinish
  repeat' first
    | with_reducible assumption
    | with_reducible apply admitWaiting_BoundedBy
    | with_reducible apply completeOpt_BoundedBy
    | with_reducible apply gapStart_BoundedBy
    | with_reducible apply gapUsed_BoundedBy
    | with_reducible apply BoundedBy_fold
    | with_reducible apply OptBounded_none
    | with_reducible apply OptBounded_some
    | with_reducible apply OptSndBounded_none
    | with_reducible apply OptSndBounded_some
    | intro _
    | dsimp only [BoundedBy_mk, refuse_st]
    | split

theorem execGapItemDone_Bounded (tests : List (Nat × Nat × Nat)) (eyes : List Nat) (s : State) (hb : Bounded s) : NextBounded (execGapItemDone tests eyes s) := by
  unfold execGapItemDone
  unfold Bounded at hb
  repeat' first
    | with_reducible apply NextBounded_next
    | with_reducible assumption
    | with_reducible apply gapEffect_BoundedBy
    | with_reducible apply gapFinish_BoundedBy
    | with_reducible apply BoundedBy_fold
    | with_reducible apply OptBounded_none
    | with_reducible apply OptBounded_some
    | with_reducible apply OptSndBounded_none
    | with_reducible apply OptSndBounded_some
    | intro _
    | dsimp only [BoundedBy_mk, refuse_st]
    | split

end Sys2Proof.Machine
end

