-- ==== Sys2Proof/Laws/BoundsReset.lean ====
section
/-! SUPPORT. The operations of Machine/Reset.lean keep the bounds of the host interface (Safety.lean). -/

namespace Sys2Proof.Machine

theorem engineReset_BoundedBy {N : Nat} (s : State) (hb : BoundedBy N s) : BoundedBy N (engineReset s) := by
  unfold engineReset
  repeat' first
    | with_reducible assumption
    | with_reducible apply BoundedBy_fold
    | with_reducible apply OptBounded_none
    | with_reducible apply OptBounded_some
    | with_reducible apply OptSndBounded_none
    | with_reducible apply OptSndBounded_some
    | intro _
    | dsimp only [BoundedBy_mk, refuse_st]
    | exact boundsOk_reset _ _ _ hb.2.2.2
    | split

theorem engRelease_BoundedBy {N : Nat} (s : State) (hb : BoundedBy N s) : BoundedBy N (engRelease s) := by
  unfold engRelease
  repeat' first
    | with_reducible assumption
    | with_reducible apply engineReset_BoundedBy
    | with_reducible apply BoundedBy_fold
    | with_reducible apply OptBounded_none
    | with_reducible apply OptBounded_some
    | with_reducible apply OptSndBounded_none
    | with_reducible apply OptSndBounded_some
    | intro _
    | dsimp only [BoundedBy_mk, refuse_st]
    | exact boundsOk_reset _ _ _ hb.2.2.2
    | split

theorem porReset_BoundedBy {N : Nat} (s : State) (hb : BoundedBy N s) : BoundedBy N (porReset s) := by
  unfold porReset
  repeat' first
    | with_reducible assumption
    | with_reducible apply tick_BoundedBy
    | with_reducible apply BoundedBy_fold
    | with_reducible apply OptBounded_none
    | with_reducible apply OptBounded_some
    | with_reducible apply OptSndBounded_none
    | with_reducible apply OptSndBounded_some
    | intro _
    | dsimp only [BoundedBy_mk, refuse_st]
    | exact boundsOk_reset _ _ _ hb.2.2.2
    | split

theorem powerUp_BoundedBy {N : Nat} (s : State) (hb : BoundedBy N s) : BoundedBy N (powerUp s) := by
  unfold powerUp
  repeat' first
    | with_reducible assumption
    | with_reducible apply BoundedBy_fold
    | with_reducible apply OptBounded_none
    | with_reducible apply OptBounded_some
    | with_reducible apply OptSndBounded_none
    | with_reducible apply OptSndBounded_some
    | intro _
    | dsimp only [BoundedBy_mk, refuse_st]
    | exact boundsOk_reset _ _ _ hb.2.2.2
    | split

theorem porRelease_BoundedBy {N : Nat} (s : State) (hb : BoundedBy N s) : BoundedBy N (porRelease s) := by
  unfold porRelease
  repeat' first
    | with_reducible assumption
    | with_reducible apply powerUp_BoundedBy
    | with_reducible apply BoundedBy_fold
    | with_reducible apply OptBounded_none
    | with_reducible apply OptBounded_some
    | with_reducible apply OptSndBounded_none
    | with_reducible apply OptSndBounded_some
    | intro _
    | dsimp only [BoundedBy_mk, refuse_st]
    | exact boundsOk_reset _ _ _ hb.2.2.2
    | split

theorem progLost_BoundedBy {N : Nat} (i : Instance) (s : State) (hb : BoundedBy N s) : BoundedBy N (progLost i s) := by
  unfold progLost
  repeat' first
    | with_reducible assumption
    | with_reducible apply gooseLog_BoundedBy
    | with_reducible apply progEnd_BoundedBy
    | with_reducible apply BoundedBy_fold
    | with_reducible apply OptBounded_none
    | with_reducible apply OptBounded_some
    | with_reducible apply OptSndBounded_none
    | with_reducible apply OptSndBounded_some
    | intro _
    | dsimp only [BoundedBy_mk, refuse_st]
    | split

theorem engineLost_BoundedBy {N : Nat} (s : State) (hb : BoundedBy N s) : BoundedBy N (engineLost s) := by
  unfold engineLost
  repeat' first
    | with_reducible assumption
    | with_reducible apply progLost_BoundedBy
    | with_reducible apply forList_BoundedBy
    | with_reducible apply forList_fst_BoundedBy
    | with_reducible apply BoundedBy_fold
    | with_reducible apply OptBounded_none
    | with_reducible apply OptBounded_some
    | with_reducible apply OptSndBounded_none
    | with_reducible apply OptSndBounded_some
    | intro _
    | dsimp only [BoundedBy_mk, refuse_st]
    | exact boundsOk_reset _ _ _ hb.2.2.2
    | split

theorem powerDown_BoundedBy {N : Nat} (why : PwrDown) (s : State) (hb : BoundedBy N s) : BoundedBy N (powerDown why s) := by
  unfold powerDown
  repeat' first
    | with_reducible assumption
    | with_reducible apply engineLost_BoundedBy
    | with_reducible apply engineReset_BoundedBy
    | with_reducible apply tick_BoundedBy
    | with_reducible apply BoundedBy_fold
    | with_reducible apply OptBounded_none
    | with_reducible apply OptBounded_some
    | with_reducible apply OptSndBounded_none
    | with_reducible apply OptSndBounded_some
    | intro _
    | dsimp only [BoundedBy_mk, refuse_st]
    | exact boundsOk_reset _ _ _ hb.2.2.2
    | split

end Sys2Proof.Machine
end

