-- ==== Sys2Proof/Laws/BoundsPower.lean ====
section
/-! SUPPORT. The operations of Machine/Power.lean keep the bounds of the host interface (Safety.lean). -/

namespace Sys2Proof.Machine

theorem withPower_BoundedBy {N : Nat} (f : PowerState → PowerState) (s : State) (hb : BoundedBy N s) : BoundedBy N (withPower f s) := by
  unfold withPower
  repeat' first
    | with_reducible assumption
    | with_reducible apply BoundedBy_fold
    | with_reducible apply OptBounded_none
    | with_reducible apply OptBounded_some
    | with_reducible apply OptSndBounded_none
    | with_reducible apply OptSndBounded_some
    | intro _
    | dsimp only [BoundedBy_mk, refuse_st]
    | split

theorem vinWarnStep_BoundedBy {N : Nat} (s : State) (hb : BoundedBy N s) : BoundedBy N (vinWarnStep s) := by
  unfold vinWarnStep
  repeat' first
    | with_reducible assumption
    | with_reducible apply raise_BoundedBy
    | with_reducible apply tick_BoundedBy
    | with_reducible apply trip_BoundedBy
    | with_reducible apply withSup_BoundedBy
    | with_reducible apply BoundedBy_fold
    | with_reducible apply OptBounded_none
    | with_reducible apply OptBounded_some
    | with_reducible apply OptSndBounded_none
    | with_reducible apply OptSndBounded_some
    | intro _
    | dsimp only [BoundedBy_mk, refuse_st]
    | split

theorem vinOverStep_BoundedBy {N : Nat} (s : State) (hb : BoundedBy N s) : BoundedBy N (vinOverStep s) := by
  unfold vinOverStep
  repeat' first
    | with_reducible assumption
    | with_reducible apply raise_BoundedBy
    | with_reducible apply withSup_BoundedBy
    | with_reducible apply BoundedBy_fold
    | with_reducible apply OptBounded_none
    | with_reducible apply OptBounded_some
    | with_reducible apply OptSndBounded_none
    | with_reducible apply OptSndBounded_some
    | intro _
    | dsimp only [BoundedBy_mk, refuse_st]
    | split

theorem execVinSample_Bounded (code : Nat) (s : State) (hb : Bounded s) : NextBounded (execVinSample code s) := by
  unfold execVinSample
  unfold Bounded at hb
  repeat' first
    | with_reducible apply NextBounded_next
    | with_reducible assumption
    | with_reducible apply atTime_BoundedBy
    | with_reducible apply vinOverStep_BoundedBy
    | with_reducible apply vinWarnStep_BoundedBy
    | with_reducible apply withSup_BoundedBy
    | with_reducible apply BoundedBy_fold
    | with_reducible apply OptBounded_none
    | with_reducible apply OptBounded_some
    | with_reducible apply OptSndBounded_none
    | with_reducible apply OptSndBounded_some
    | intro _
    | dsimp only [BoundedBy_mk, refuse_st]
    | split

theorem execMachinePorAssert_Bounded (s : State) (hb : Bounded s) : NextBounded (execMachinePorAssert s) := by
  unfold execMachinePorAssert
  unfold Bounded at hb
  repeat' first
    | with_reducible apply NextBounded_next
    | with_reducible assumption
    | with_reducible apply atTime_BoundedBy
    | with_reducible apply porReset_BoundedBy
    | with_reducible apply BoundedBy_fold
    | with_reducible apply OptBounded_none
    | with_reducible apply OptBounded_some
    | with_reducible apply OptSndBounded_none
    | with_reducible apply OptSndBounded_some
    | intro _
    | dsimp only [BoundedBy_mk, refuse_st]
    | split

theorem execMachinePorRelease_Bounded (s : State) (hb : Bounded s) : NextBounded (execMachinePorRelease s) := by
  unfold execMachinePorRelease
  unfold Bounded at hb
  repeat' first
    | with_reducible apply NextBounded_next
    | with_reducible assumption
    | with_reducible apply atTime_BoundedBy
    | with_reducible apply porRelease_BoundedBy
    | with_reducible apply BoundedBy_fold
    | with_reducible apply OptBounded_none
    | with_reducible apply OptBounded_some
    | with_reducible apply OptSndBounded_none
    | with_reducible apply OptSndBounded_some
    | intro _
    | dsimp only [BoundedBy_mk, refuse_st]
    | split

theorem execSysRstN_Bounded (s : State) (hb : Bounded s) : NextBounded (execSysRstN s) := by
  unfold execSysRstN
  unfold Bounded at hb
  repeat' first
    | with_reducible apply NextBounded_next
    | with_reducible assumption
    | with_reducible apply porRelease_BoundedBy
    | with_reducible apply porReset_BoundedBy
    | with_reducible apply when_BoundedBy
    | with_reducible apply BoundedBy_fold
    | with_reducible apply OptBounded_none
    | with_reducible apply OptBounded_some
    | with_reducible apply OptSndBounded_none
    | with_reducible apply OptSndBounded_some
    | intro _
    | dsimp only [BoundedBy_mk, refuse_st]
    | split

theorem execEngWake_Bounded (s : State) (hb : Bounded s) : NextBounded (execEngWake s) := by
  unfold execEngWake
  unfold Bounded at hb
  repeat' first
    | with_reducible apply NextBounded_next
    | with_reducible assumption
    | with_reducible apply powerUp_BoundedBy
    | with_reducible apply withFw_BoundedBy
    | with_reducible apply BoundedBy_fold
    | with_reducible apply OptBounded_none
    | with_reducible apply OptBounded_some
    | with_reducible apply OptSndBounded_none
    | with_reducible apply OptSndBounded_some
    | intro _
    | dsimp only [BoundedBy_mk, refuse_st]
    | split

theorem execPowerSeqStep_Bounded (rail : Nat) (s : State) (hb : Bounded s) : NextBounded (execPowerSeqStep rail s) := by
  unfold execPowerSeqStep
  unfold Bounded at hb
  repeat' first
    | with_reducible apply NextBounded_next
    | with_reducible assumption
    | with_reducible apply atTime_BoundedBy
    | with_reducible apply engRelease_BoundedBy
    | with_reducible apply withPower_BoundedBy
    | with_reducible apply BoundedBy_fold
    | with_reducible apply OptBounded_none
    | with_reducible apply OptBounded_some
    | with_reducible apply OptSndBounded_none
    | with_reducible apply OptSndBounded_some
    | intro _
    | dsimp only [BoundedBy_mk, refuse_st]
    | split

theorem execPowerSeqTimeout_Bounded (s : State) (hb : Bounded s) : NextBounded (execPowerSeqTimeout s) := by
  unfold execPowerSeqTimeout
  unfold Bounded at hb
  repeat' first
    | with_reducible apply NextBounded_next
    | with_reducible assumption
    | with_reducible apply atTime_BoundedBy
    | with_reducible apply gooseLog_BoundedBy
    | with_reducible apply powerDown_BoundedBy
    | with_reducible apply tick_BoundedBy
    | with_reducible apply BoundedBy_fold
    | with_reducible apply OptBounded_none
    | with_reducible apply OptBounded_some
    | with_reducible apply OptSndBounded_none
    | with_reducible apply OptSndBounded_some
    | intro _
    | dsimp only [BoundedBy_mk, refuse_st]
    | split

theorem execPowerDownStep_Bounded (s : State) (hb : Bounded s) : NextBounded (execPowerDownStep s) := by
  unfold execPowerDownStep
  unfold Bounded at hb
  repeat' first
    | with_reducible apply NextBounded_next
    | with_reducible assumption
    | with_reducible apply atTime_BoundedBy
    | with_reducible apply withPower_BoundedBy
    | with_reducible apply BoundedBy_fold
    | with_reducible apply OptBounded_none
    | with_reducible apply OptBounded_some
    | with_reducible apply OptSndBounded_none
    | with_reducible apply OptSndBounded_some
    | intro _
    | dsimp only [BoundedBy_mk, refuse_st]
    | split

theorem engineLoss_BoundedBy {N : Nat} (why : PwrDown) (detail : Nat) (s : State) (hb : BoundedBy N s) : BoundedBy N (engineLoss why detail s) := by
  unfold engineLoss
  repeat' first
    | with_reducible assumption
    | with_reducible apply powerDown_BoundedBy
    | with_reducible apply tripLogged_BoundedBy
    | with_reducible apply withPower_BoundedBy
    | with_reducible apply BoundedBy_fold
    | with_reducible apply OptBounded_none
    | with_reducible apply OptBounded_some
    | with_reducible apply OptSndBounded_none
    | with_reducible apply OptSndBounded_some
    | intro _
    | dsimp only [BoundedBy_mk, refuse_st]
    | split

theorem execPwrPgLoss_Bounded (rail : Nat) (s : State) (hb : Bounded s) : NextBounded (execPwrPgLoss rail s) := by
  unfold execPwrPgLoss
  unfold Bounded at hb
  repeat' first
    | with_reducible apply NextBounded_next
    | with_reducible assumption
    | with_reducible apply engineLoss_BoundedBy
    | with_reducible apply withPower_BoundedBy
    | with_reducible apply BoundedBy_fold
    | with_reducible apply OptBounded_none
    | with_reducible apply OptBounded_some
    | with_reducible apply OptSndBounded_none
    | with_reducible apply OptSndBounded_some
    | intro _
    | dsimp only [BoundedBy_mk, refuse_st]
    | split

theorem execEngineAutoRestart_Bounded (s : State) (hb : Bounded s) : NextBounded (execEngineAutoRestart s) := by
  unfold execEngineAutoRestart
  unfold Bounded at hb
  repeat' first
    | with_reducible apply NextBounded_next
    | with_reducible assumption
    | with_reducible apply atTime_BoundedBy
    | with_reducible apply powerUp_BoundedBy
    | with_reducible apply withPower_BoundedBy
    | with_reducible apply BoundedBy_fold
    | with_reducible apply OptBounded_none
    | with_reducible apply OptBounded_some
    | with_reducible apply OptSndBounded_none
    | with_reducible apply OptSndBounded_some
    | intro _
    | dsimp only [BoundedBy_mk, refuse_st]
    | split

end Sys2Proof.Machine
end

