-- ==== Sys2Proof/Laws/BoundsFirmware.lean ====
section
/-! SUPPORT. The operations of Machine/Firmware.lean keep the bounds of the host interface (Safety.lean). -/

namespace Sys2Proof.Machine

theorem execBootRomStart_Bounded (s : State) (hb : Bounded s) : NextBounded (execBootRomStart s) := by
  unfold execBootRomStart
  unfold Bounded at hb
  repeat' first
    | with_reducible apply NextBounded_next
    | with_reducible assumption
    | with_reducible apply bootSelect_BoundedBy
    | with_reducible apply tick_BoundedBy
    | with_reducible apply when_BoundedBy
    | with_reducible apply BoundedBy_fold
    | with_reducible apply OptBounded_none
    | with_reducible apply OptBounded_some
    | with_reducible apply OptSndBounded_none
    | with_reducible apply OptSndBounded_some
    | intro _
    | dsimp only [BoundedBy_mk, refuse_st]
    | split

theorem chanBringUp_BoundedBy {N : Nat} (c : Nat) (s : State) (hb : BoundedBy N s) : BoundedBy N (chanBringUp c s) := by
  unfold chanBringUp
  repeat' first
    | with_reducible assumption
    | with_reducible apply recDirty_BoundedBy
    | with_reducible apply recStale_BoundedBy
    | with_reducible apply setDdr_BoundedBy
    | with_reducible apply BoundedBy_fold
    | with_reducible apply OptBounded_none
    | with_reducible apply OptBounded_some
    | with_reducible apply OptSndBounded_none
    | with_reducible apply OptSndBounded_some
    | intro _
    | dsimp only [BoundedBy_mk, refuse_st]
    | split

theorem abandonCommands_BoundedBy {N : Nat} (s : State) (hb : BoundedBy N s) : BoundedBy N (abandonCommands s) := by
  unfold abandonCommands
  repeat' first
    | with_reducible assumption
    | with_reducible apply calQuit_BoundedBy
    | with_reducible apply complete_BoundedBy
    | with_reducible apply tick_BoundedBy
    | with_reducible apply forList_BoundedBy
    | with_reducible apply forList_fst_BoundedBy
    | with_reducible apply BoundedBy_fold
    | with_reducible apply OptBounded_none
    | with_reducible apply OptBounded_some
    | with_reducible apply OptSndBounded_none
    | with_reducible apply OptSndBounded_some
    | intro _
    | dsimp only [BoundedBy_mk, refuse_st]
    | split

theorem execFwReady_Bounded (s : State) (hb : Bounded s) : NextBounded (execFwReady s) := by
  unfold execFwReady
  unfold Bounded at hb
  repeat' first
    | with_reducible apply NextBounded_next
    | with_reducible assumption
    | with_reducible apply abandonCommands_BoundedBy
    | with_reducible apply chanBringUp_BoundedBy
    | with_reducible apply drain_BoundedBy
    | with_reducible apply fwEvent_BoundedBy
    | with_reducible apply raise_BoundedBy
    | with_reducible apply tripEvent_BoundedBy
    | with_reducible apply withFw_BoundedBy
    | with_reducible apply withSup_BoundedBy
    | with_reducible apply forRange_BoundedBy
    | with_reducible apply forRange_fst_BoundedBy
    | with_reducible apply BoundedBy_fold
    | with_reducible apply OptBounded_none
    | with_reducible apply OptBounded_some
    | with_reducible apply OptSndBounded_none
    | with_reducible apply OptSndBounded_some
    | intro _
    | dsimp only [BoundedBy_mk, refuse_st]
    | split

theorem execHeartbeatTick_Bounded (s : State) (hb : Bounded s) : NextBounded (execHeartbeatTick s) := by
  unfold execHeartbeatTick
  unfold Bounded at hb
  repeat' first
    | with_reducible apply NextBounded_next
    | with_reducible assumption
    | with_reducible apply atTime_BoundedBy
    | with_reducible apply tick_BoundedBy
    | with_reducible apply trainNext_BoundedBy
    | with_reducible apply withFw_BoundedBy
    | with_reducible apply withSup_BoundedBy
    | with_reducible apply when_BoundedBy
    | with_reducible apply BoundedBy_fold
    | with_reducible apply OptBounded_none
    | with_reducible apply OptBounded_some
    | with_reducible apply OptSndBounded_none
    | with_reducible apply OptSndBounded_some
    | intro _
    | dsimp only [BoundedBy_mk, refuse_st]
    | split

theorem execCoreRestart_Bounded (s : State) (hb : Bounded s) : NextBounded (execCoreRestart s) := by
  unfold execCoreRestart
  unfold Bounded at hb
  repeat' first
    | with_reducible apply NextBounded_next
    | with_reducible assumption
    | with_reducible apply atTime_BoundedBy
    | with_reducible apply bootSelect_BoundedBy
    | with_reducible apply tick_BoundedBy
    | with_reducible apply withFw_BoundedBy
    | with_reducible apply BoundedBy_fold
    | with_reducible apply OptBounded_none
    | with_reducible apply OptBounded_some
    | with_reducible apply OptSndBounded_none
    | with_reducible apply OptSndBounded_some
    | intro _
    | dsimp only [BoundedBy_mk, refuse_st]
    | split

theorem execFwLoad_Bounded (s : State) (hb : Bounded s) : NextBounded (execFwLoad s) := by
  unfold execFwLoad
  unfold Bounded at hb
  repeat' first
    | with_reducible apply NextBounded_next
    | with_reducible assumption
    | with_reducible apply serve_BoundedBy
    | with_reducible apply withFw_BoundedBy
    | with_reducible apply BoundedBy_fold
    | with_reducible apply OptBounded_none
    | with_reducible apply OptBounded_some
    | with_reducible apply OptSndBounded_none
    | with_reducible apply OptSndBounded_some
    | intro _
    | dsimp only [BoundedBy_mk, refuse_st]
    | split

theorem execFwLoadDone_Bounded (s : State) (hb : Bounded s) : NextBounded (execFwLoadDone s) := by
  unfold execFwLoadDone
  unfold Bounded at hb
  repeat' first
    | with_reducible apply NextBounded_next
    | with_reducible assumption
    | with_reducible apply complete_BoundedBy
    | with_reducible apply tick_BoundedBy
    | with_reducible apply withFw_BoundedBy
    | with_reducible apply BoundedBy_fold
    | with_reducible apply OptBounded_none
    | with_reducible apply OptBounded_some
    | with_reducible apply OptSndBounded_none
    | with_reducible apply OptSndBounded_some
    | intro _
    | dsimp only [BoundedBy_mk, refuse_st]
    | split

theorem execFwActivate_Bounded (s : State) (hb : Bounded s) : NextBounded (execFwActivate s) := by
  unfold execFwActivate
  unfold Bounded at hb
  repeat' first
    | with_reducible apply NextBounded_next
    | with_reducible assumption
    | with_reducible apply serve_BoundedBy
    | with_reducible apply activate_BoundedBy
    | with_reducible apply withFw_BoundedBy
    | with_reducible apply BoundedBy_fold
    | with_reducible apply OptBounded_none
    | with_reducible apply OptBounded_some
    | with_reducible apply OptSndBounded_none
    | with_reducible apply OptSndBounded_some
    | intro _
    | dsimp only [BoundedBy_mk, refuse_st]
    | split

theorem execFwPreloadDone_Bounded (ok : Bool) (s : State) (hb : Bounded s) : NextBounded (execFwPreloadDone ok s) := by
  unfold execFwPreloadDone
  unfold Bounded at hb
  repeat' first
    | with_reducible apply NextBounded_next
    | with_reducible assumption
    | with_reducible apply activate_BoundedBy
    | with_reducible apply complete_BoundedBy
    | with_reducible apply gapPend_BoundedBy
    | with_reducible apply tick_BoundedBy
    | with_reducible apply withFw_BoundedBy
    | with_reducible apply BoundedBy_fold
    | with_reducible apply OptBounded_none
    | with_reducible apply OptBounded_some
    | with_reducible apply OptSndBounded_none
    | with_reducible apply OptSndBounded_some
    | intro _
    | dsimp only [BoundedBy_mk, refuse_st]
    | split

theorem execHandoverComplete_Bounded (ok : Bool) (s : State) (hb : Bounded s) : NextBounded (execHandoverComplete ok s) := by
  unfold execHandoverComplete
  unfold Bounded at hb
  repeat' first
    | with_reducible apply NextBounded_next
    | with_reducible assumption
    | with_reducible apply activate_BoundedBy
    | with_reducible apply drain_BoundedBy
    | with_reducible apply fwEvent_BoundedBy
    | with_reducible apply fwFault_BoundedBy
    | with_reducible apply gapFinish_BoundedBy
    | with_reducible apply tick_BoundedBy
    | with_reducible apply withFw_BoundedBy
    | with_reducible apply withSup_BoundedBy
    | with_reducible apply BoundedBy_fold
    | with_reducible apply OptBounded_none
    | with_reducible apply OptBounded_some
    | with_reducible apply OptSndBounded_none
    | with_reducible apply OptSndBounded_some
    | intro _
    | dsimp only [BoundedBy_mk, refuse_st]
    | split

theorem execTrialFailed_Bounded (s : State) (hb : Bounded s) : NextBounded (execTrialFailed s) := by
  unfold execTrialFailed
  unfold Bounded at hb
  repeat' first
    | with_reducible apply NextBounded_next
    | with_reducible assumption
    | with_reducible apply fwFault_BoundedBy
    | with_reducible apply when_BoundedBy
    | with_reducible apply BoundedBy_fold
    | with_reducible apply OptBounded_none
    | with_reducible apply OptBounded_some
    | with_reducible apply OptSndBounded_none
    | with_reducible apply OptSndBounded_some
    | intro _
    | dsimp only [BoundedBy_mk, refuse_st]
    | split

theorem execFwCommit_Bounded (s : State) (hb : Bounded s) : NextBounded (execFwCommit s) := by
  unfold execFwCommit
  unfold Bounded at hb
  repeat' first
    | with_reducible apply NextBounded_next
    | with_reducible assumption
    | with_reducible apply serve_BoundedBy
    | with_reducible apply bootWrite_BoundedBy
    | with_reducible apply withFw_BoundedBy
    | with_reducible apply BoundedBy_fold
    | with_reducible apply OptBounded_none
    | with_reducible apply OptBounded_some
    | with_reducible apply OptSndBounded_none
    | with_reducible apply OptSndBounded_some
    | intro _
    | dsimp only [BoundedBy_mk, refuse_st]
    | split

theorem execFwStatus_Bounded (s : State) (hb : Bounded s) : NextBounded (execFwStatus s) := by
  unfold execFwStatus
  unfold Bounded at hb
  repeat' first
    | with_reducible apply NextBounded_next
    | with_reducible assumption
    | with_reducible apply serve_BoundedBy
    | with_reducible apply BoundedBy_fold
    | with_reducible apply OptBounded_none
    | with_reducible apply OptBounded_some
    | with_reducible apply OptSndBounded_none
    | with_reducible apply OptSndBounded_some
    | intro _
    | dsimp only [BoundedBy_mk, refuse_st]
    | split

theorem powerTo_BoundedBy {N : Nat} (new : PowerSt) (s : State) (hb : BoundedBy N s) : BoundedBy N (powerTo new s) := by
  unfold powerTo
  repeat' first
    | with_reducible assumption
    | with_reducible apply raise_BoundedBy
    | with_reducible apply withFw_BoundedBy
    | with_reducible apply BoundedBy_fold
    | with_reducible apply OptBounded_none
    | with_reducible apply OptBounded_some
    | with_reducible apply OptSndBounded_none
    | with_reducible apply OptSndBounded_some
    | intro _
    | dsimp only [BoundedBy_mk, refuse_st]
    | split

theorem execLifeIdle_Bounded (s : State) (hb : Bounded s) : NextBounded (execLifeIdle s) := by
  unfold execLifeIdle
  unfold Bounded at hb
  repeat' first
    | with_reducible apply NextBounded_next
    | with_reducible assumption
    | with_reducible apply serve_BoundedBy
    | with_reducible apply camStop_BoundedBy
    | with_reducible apply laneIdle_BoundedBy
    | with_reducible apply powerTo_BoundedBy
    | with_reducible apply forRange_BoundedBy
    | with_reducible apply forRange_fst_BoundedBy
    | with_reducible apply BoundedBy_fold
    | with_reducible apply OptBounded_none
    | with_reducible apply OptBounded_some
    | with_reducible apply OptSndBounded_none
    | with_reducible apply OptSndBounded_some
    | intro _
    | dsimp only [BoundedBy_mk, refuse_st]
    | split

theorem execLifeWake_Bounded (s : State) (hb : Bounded s) : NextBounded (execLifeWake s) := by
  unfold execLifeWake
  unfold Bounded at hb
  repeat' first
    | with_reducible apply NextBounded_next
    | with_reducible assumption
    | with_reducible apply serve_BoundedBy
    | with_reducible apply powerTo_BoundedBy
    | with_reducible apply setDdr_BoundedBy
    | with_reducible apply setPort_BoundedBy
    | with_reducible apply forRange_BoundedBy
    | with_reducible apply forRange_fst_BoundedBy
    | with_reducible apply BoundedBy_fold
    | with_reducible apply OptBounded_none
    | with_reducible apply OptBounded_some
    | with_reducible apply OptSndBounded_none
    | with_reducible apply OptSndBounded_some
    | intro _
    | dsimp only [BoundedBy_mk, refuse_st]
    | split

theorem writeRecords_BoundedBy {N : Nat} (s : State) (hb : BoundedBy N s) : BoundedBy N (writeRecords s) := by
  unfold writeRecords
  repeat' first
    | with_reducible assumption
    | with_reducible apply recWrite_BoundedBy
    | with_reducible apply forList_BoundedBy
    | with_reducible apply forList_fst_BoundedBy
    | with_reducible apply BoundedBy_fold
    | with_reducible apply OptBounded_none
    | with_reducible apply OptBounded_some
    | with_reducible apply OptSndBounded_none
    | with_reducible apply OptSndBounded_some
    | intro _
    | dsimp only [BoundedBy_mk, refuse_st]
    | split

theorem execLifeStandby_Bounded (s : State) (hb : Bounded s) : NextBounded (execLifeStandby s) := by
  unfold execLifeStandby
  unfold Bounded at hb
  repeat' first
    | with_reducible apply NextBounded_next
    | with_reducible assumption
    | with_reducible apply serve_BoundedBy
    | with_reducible apply withFw_BoundedBy
    | with_reducible apply writeRecords_BoundedBy
    | with_reducible apply BoundedBy_fold
    | with_reducible apply OptBounded_none
    | with_reducible apply OptBounded_some
    | with_reducible apply OptSndBounded_none
    | with_reducible apply OptSndBounded_some
    | intro _
    | dsimp only [BoundedBy_mk, refuse_st]
    | split

theorem execLifecyclePowerDown_Bounded (s : State) (hb : Bounded s) : NextBounded (execLifecyclePowerDown s) := by
  unfold execLifecyclePowerDown
  unfold Bounded at hb
  repeat' first
    | with_reducible apply NextBounded_next
    | with_reducible assumption
    | with_reducible apply powerDown_BoundedBy
    | with_reducible apply powerTo_BoundedBy
    | with_reducible apply tick_BoundedBy
    | with_reducible apply withFw_BoundedBy
    | with_reducible apply writeRecords_BoundedBy
    | with_reducible apply when_BoundedBy
    | with_reducible apply BoundedBy_fold
    | with_reducible apply OptBounded_none
    | with_reducible apply OptBounded_some
    | with_reducible apply OptSndBounded_none
    | with_reducible apply OptSndBounded_some
    | intro _
    | dsimp only [BoundedBy_mk, refuse_st]
    | split

theorem execWakeTimer_Bounded (s : State) (hb : Bounded s) : NextBounded (execWakeTimer s) := by
  unfold execWakeTimer
  unfold Bounded at hb
  repeat' first
    | with_reducible apply NextBounded_next
    | with_reducible assumption
    | with_reducible apply atTime_BoundedBy
    | with_reducible apply powerUp_BoundedBy
    | with_reducible apply withFw_BoundedBy
    | with_reducible apply BoundedBy_fold
    | with_reducible apply OptBounded_none
    | with_reducible apply OptBounded_some
    | with_reducible apply OptSndBounded_none
    | with_reducible apply OptSndBounded_some
    | intro _
    | dsimp only [BoundedBy_mk, refuse_st]
    | split

end Sys2Proof.Machine
end

