-- ==== Sys2Proof/Laws/BoundsIdle.lean ====
section
/-! SUPPORT. The operations of Machine/Idle.lean keep the bounds of the host interface (Safety.lean). -/

namespace Sys2Proof.Machine

theorem idleWork_BoundedBy {N : Nat} (s : State) (hb : BoundedBy N s) : BoundedBy N (idleWork s) := by
  unfold idleWork
  repeat' first
    | with_reducible assumption
    | with_reducible apply neutralEnd_BoundedBy
    | with_reducible apply progLoaded_BoundedBy
    | with_reducible apply screenLoaded_BoundedBy
    | with_reducible apply BoundedBy_fold
    | with_reducible apply OptBounded_none
    | with_reducible apply OptBounded_some
    | with_reducible apply OptSndBounded_none
    | with_reducible apply OptSndBounded_some
    | intro _
    | dsimp only [BoundedBy_mk, refuse_st]
    | split

theorem idleTick_BoundedBy {N : Nat} (s : State) (hb : BoundedBy N s) : BoundedBy N (idleTick s) := by
  unfold idleTick
  repeat' first
    | with_reducible assumption
    | with_reducible apply atTime_BoundedBy
    | with_reducible apply idleWork_BoundedBy
    | with_reducible apply when_BoundedBy
    | with_reducible apply BoundedBy_fold
    | with_reducible apply OptBounded_none
    | with_reducible apply OptBounded_some
    | with_reducible apply OptSndBounded_none
    | with_reducible apply OptSndBounded_some
    | intro _
    | dsimp only [BoundedBy_mk, refuse_st]
    | split

end Sys2Proof.Machine
end

