-- ==== Sys2Proof/Laws/BoundsLoops.lean ====
section
/-! SUPPORT. The operations of Machine/Loops.lean keep the bounds of the host interface (Safety.lean). -/

namespace Sys2Proof.Machine

theorem rampTick_BoundedBy {N : Nat} (a : Nat) (s : State) (hb : BoundedBy N s) : BoundedBy N (rampTick a s) := by
  unfold rampTick
  repeat' first
    | with_reducible assumption
    | with_reducible apply alignDone_BoundedBy
    | with_reducible apply askSetpoint_BoundedBy
    | with_reducible apply setDrv_BoundedBy
    | with_reducible apply BoundedBy_fold
    | with_reducible apply OptBounded_none
    | with_reducible apply OptBounded_some
    | with_reducible apply OptSndBounded_none
    | with_reducible apply OptSndBounded_some
    | intro _
    | dsimp only [BoundedBy_mk, refuse_st]
    | split

theorem overrun_BoundedBy {N : Nat} (n : Nat) (s : State) (hb : BoundedBy N s) : BoundedBy N (overrun n s) := by
  unfold overrun
  repeat' first
    | with_reducible assumption
    | with_reducible apply drvFault_BoundedBy
    | with_reducible apply tick_BoundedBy
    | with_reducible apply trip_BoundedBy
    | with_reducible apply BoundedBy_fold
    | with_reducible apply OptBounded_none
    | with_reducible apply OptBounded_some
    | with_reducible apply OptSndBounded_none
    | with_reducible apply OptSndBounded_some
    | intro _
    | dsimp only [BoundedBy_mk, refuse_st]
    | split

theorem execLoopTick_Bounded (vmon imon : List Nat) (overruns : Nat) (s : State) (hb : Bounded s) : NextBounded (execLoopTick vmon imon overruns s) := by
  unfold execLoopTick
  unfold Bounded at hb
  repeat' first
    | with_reducible apply NextBounded_next
    | with_reducible assumption
    | with_reducible apply atTime_BoundedBy
    | with_reducible apply loopSample_BoundedBy
    | with_reducible apply loopsSafe_BoundedBy
    | with_reducible apply overrun_BoundedBy
    | with_reducible apply progTick_BoundedBy
    | with_reducible apply rampTick_BoundedBy
    | with_reducible apply tick_BoundedBy
    | with_reducible apply withSup_BoundedBy
    | with_reducible apply forRange_BoundedBy
    | with_reducible apply forList_BoundedBy
    | with_reducible apply forRange_fst_BoundedBy
    | with_reducible apply forList_fst_BoundedBy
    | with_reducible apply BoundedBy_fold
    | with_reducible apply OptBounded_none
    | with_reducible apply OptBounded_some
    | with_reducible apply OptSndBounded_none
    | with_reducible apply OptSndBounded_some
    | intro _
    | dsimp only [BoundedBy_mk, refuse_st]
    | split

theorem execHvArcEdge_Bounded (chan : Nat) (s : State) (hb : Bounded s) : NextBounded (execHvArcEdge chan s) := by
  unfold execHvArcEdge
  unfold Bounded at hb
  repeat' first
    | with_reducible apply NextBounded_next
    | with_reducible assumption
    | with_reducible apply askMode_BoundedBy
    | with_reducible apply needSpoil_BoundedBy
    | with_reducible apply raise_BoundedBy
    | with_reducible apply setHv_BoundedBy
    | with_reducible apply tick_BoundedBy
    | with_reducible apply BoundedBy_fold
    | with_reducible apply OptBounded_none
    | with_reducible apply OptBounded_some
    | with_reducible apply OptSndBounded_none
    | with_reducible apply OptSndBounded_some
    | intro _
    | dsimp only [BoundedBy_mk, refuse_st]
    | split

theorem execHvArcHoldExpiry_Bounded (chan : Nat) (s : State) (hb : Bounded s) : NextBounded (execHvArcHoldExpiry chan s) := by
  unfold execHvArcHoldExpiry
  unfold Bounded at hb
  repeat' first
    | with_reducible apply NextBounded_next
    | with_reducible assumption
    | with_reducible apply askMode_BoundedBy
    | with_reducible apply atTime_BoundedBy
    | with_reducible apply setLoop_BoundedBy
    | with_reducible apply BoundedBy_fold
    | with_reducible apply OptBounded_none
    | with_reducible apply OptBounded_some
    | with_reducible apply OptSndBounded_none
    | with_reducible apply OptSndBounded_some
    | intro _
    | dsimp only [BoundedBy_mk, refuse_st]
    | split

theorem execHvComplianceEnd_Bounded (chan : Nat) (s : State) (hb : Bounded s) : NextBounded (execHvComplianceEnd chan s) := by
  unfold execHvComplianceEnd
  unfold Bounded at hb
  repeat' first
    | with_reducible apply NextBounded_next
    | with_reducible assumption
    | with_reducible apply atTime_BoundedBy
    | with_reducible apply setHv_BoundedBy
    | with_reducible apply BoundedBy_fold
    | with_reducible apply OptBounded_none
    | with_reducible apply OptBounded_some
    | with_reducible apply OptSndBounded_none
    | with_reducible apply OptSndBounded_some
    | intro _
    | dsimp only [BoundedBy_mk, refuse_st]
    | split

theorem thermValue_BoundedBy {N : Nat} (t : Thermistor) (rho : Nat) (s : State) (hb : BoundedBy N s) : BoundedBy N (thermValue t rho s).1 := by
  unfold thermValue
  repeat' first
    | with_reducible assumption
    | with_reducible apply drawInt_BoundedBy
    | with_reducible apply drawNat_BoundedBy
    | with_reducible apply BoundedBy_fold
    | with_reducible apply OptBounded_none
    | with_reducible apply OptBounded_some
    | with_reducible apply OptSndBounded_none
    | with_reducible apply OptSndBounded_some
    | intro _
    | dsimp only [BoundedBy_mk, refuse_st]
    | split

theorem thermStep_BoundedBy {N : Nat} (i rho : Nat) (s : State) (hb : BoundedBy N s) : BoundedBy N (thermStep i rho s) := by
  unfold thermStep
  repeat' first
    | with_reducible assumption
    | with_reducible apply raise_BoundedBy
    | with_reducible apply thermValue_BoundedBy
    | with_reducible apply tick_BoundedBy
    | with_reducible apply withSup_BoundedBy
    | with_reducible apply BoundedBy_fold
    | with_reducible apply OptBounded_none
    | with_reducible apply OptBounded_some
    | with_reducible apply OptSndBounded_none
    | with_reducible apply OptSndBounded_some
    | intro _
    | dsimp only [BoundedBy_mk, refuse_st]
    | split

theorem execThermistorSample_Bounded (codes : List Nat) (s : State) (hb : Bounded s) : NextBounded (execThermistorSample codes s) := by
  unfold execThermistorSample
  unfold Bounded at hb
  repeat' first
    | with_reducible apply NextBounded_next
    | with_reducible assumption
    | with_reducible apply thermStep_BoundedBy
    | with_reducible apply forRange_BoundedBy
    | with_reducible apply forRange_fst_BoundedBy
    | with_reducible apply BoundedBy_fold
    | with_reducible apply OptBounded_none
    | with_reducible apply OptBounded_some
    | with_reducible apply OptSndBounded_none
    | with_reducible apply OptSndBounded_some
    | intro _
    | dsimp only [BoundedBy_mk, refuse_st]
    | split

theorem zoneCross_BoundedBy {N : Nat} (z : Nat) (s : State) (hb : BoundedBy N s) : BoundedBy N (zoneCross z s) := by
  unfold zoneCross
  repeat' first
    | with_reducible assumption
    | with_reducible apply emit_BoundedBy
    | with_reducible apply setZone_BoundedBy
    | with_reducible apply tick_BoundedBy
    | with_reducible apply BoundedBy_fold
    | with_reducible apply OptBounded_none
    | with_reducible apply OptBounded_some
    | with_reducible apply OptSndBounded_none
    | with_reducible apply OptSndBounded_some
    | intro _
    | dsimp only [BoundedBy_mk, refuse_st]
    | split

theorem execFusZcEdge_Bounded (s : State) (hb : Bounded s) : NextBounded (execFusZcEdge s) := by
  unfold execFusZcEdge
  unfold Bounded at hb
  repeat' first
    | with_reducible apply NextBounded_next
    | with_reducible assumption
    | with_reducible apply zoneCross_BoundedBy
    | with_reducible apply forRange_BoundedBy
    | with_reducible apply forRange_fst_BoundedBy
    | with_reducible apply BoundedBy_fold
    | with_reducible apply OptBounded_none
    | with_reducible apply OptBounded_some
    | with_reducible apply OptSndBounded_none
    | with_reducible apply OptSndBounded_some
    | intro _
    | dsimp only [BoundedBy_mk, refuse_st]
    | split

theorem execFusZcTimeout_Bounded (s : State) (hb : Bounded s) : NextBounded (execFusZcTimeout s) := by
  unfold execFusZcTimeout
  unfold Bounded at hb
  repeat' first
    | with_reducible apply NextBounded_next
    | with_reducible assumption
    | with_reducible apply askMode_BoundedBy
    | with_reducible apply atTime_BoundedBy
    | with_reducible apply raise_BoundedBy
    | with_reducible apply setZone_BoundedBy
    | with_reducible apply forList_BoundedBy
    | with_reducible apply forList_fst_BoundedBy
    | with_reducible apply BoundedBy_fold
    | with_reducible apply OptBounded_none
    | with_reducible apply OptBounded_some
    | with_reducible apply OptSndBounded_none
    | with_reducible apply OptSndBounded_some
    | intro _
    | dsimp only [BoundedBy_mk, refuse_st]
    | split

theorem execFuserComparatorTrip_Bounded (zone : Nat) (s : State) (hb : Bounded s) : NextBounded (execFuserComparatorTrip zone s) := by
  unfold execFuserComparatorTrip
  unfold Bounded at hb
  repeat' first
    | with_reducible apply NextBounded_next
    | with_reducible assumption
    | with_reducible apply trip_BoundedBy
    | with_reducible apply withSup_BoundedBy
    | with_reducible apply BoundedBy_fold
    | with_reducible apply OptBounded_none
    | with_reducible apply OptBounded_some
    | with_reducible apply OptSndBounded_none
    | with_reducible apply OptSndBounded_some
    | intro _
    | dsimp only [BoundedBy_mk, refuse_st]
    | split

theorem execLoopConfig_Bounded (s : State) (hb : Bounded s) : NextBounded (execLoopConfig s) := by
  unfold execLoopConfig
  unfold Bounded at hb
  repeat' first
    | with_reducible apply NextBounded_next
    | with_reducible assumption
    | with_reducible apply serve_BoundedBy
    | with_reducible apply setLoop_BoundedBy
    | with_reducible apply BoundedBy_fold
    | with_reducible apply OptBounded_none
    | with_reducible apply OptBounded_some
    | with_reducible apply OptSndBounded_none
    | with_reducible apply OptSndBounded_some
    | intro _
    | dsimp only [BoundedBy_mk, refuse_st]
    | split

theorem execLoopCoef_Bounded (s : State) (hb : Bounded s) : NextBounded (execLoopCoef s) := by
  unfold execLoopCoef
  unfold Bounded at hb
  repeat' first
    | with_reducible apply NextBounded_next
    | with_reducible assumption
    | with_reducible apply serve_BoundedBy
    | with_reducible apply setLoop_BoundedBy
    | with_reducible apply foldl_BoundedBy
    | with_reducible apply BoundedBy_fold
    | with_reducible apply OptBounded_none
    | with_reducible apply OptBounded_some
    | with_reducible apply OptSndBounded_none
    | with_reducible apply OptSndBounded_some
    | intro _
    | dsimp only [BoundedBy_mk, refuse_st]
    | split

theorem execLoopMode_Bounded (s : State) (hb : Bounded s) : NextBounded (execLoopMode s) := by
  unfold execLoopMode
  unfold Bounded at hb
  repeat' first
    | with_reducible apply NextBounded_next
    | with_reducible assumption
    | with_reducible apply serve_BoundedBy
    | with_reducible apply askMode_BoundedBy
    | with_reducible apply BoundedBy_fold
    | with_reducible apply OptBounded_none
    | with_reducible apply OptBounded_some
    | with_reducible apply OptSndBounded_none
    | with_reducible apply OptSndBounded_some
    | intro _
    | dsimp only [BoundedBy_mk, refuse_st]
    | split

theorem execLoopSetpoint_Bounded (s : State) (hb : Bounded s) : NextBounded (execLoopSetpoint s) := by
  unfold execLoopSetpoint
  unfold Bounded at hb
  repeat' first
    | with_reducible apply NextBounded_next
    | with_reducible assumption
    | with_reducible apply serve_BoundedBy
    | with_reducible apply askSetpoint_BoundedBy
    | with_reducible apply BoundedBy_fold
    | with_reducible apply OptBounded_none
    | with_reducible apply OptBounded_some
    | with_reducible apply OptSndBounded_none
    | with_reducible apply OptSndBounded_some
    | intro _
    | dsimp only [BoundedBy_mk, refuse_st]
    | split

theorem execLoopStatus_Bounded (s : State) (hb : Bounded s) : NextBounded (execLoopStatus s) := by
  unfold execLoopStatus
  unfold Bounded at hb
  repeat' first
    | with_reducible apply NextBounded_next
    | with_reducible assumption
    | with_reducible apply serve_BoundedBy
    | with_reducible apply BoundedBy_fold
    | with_reducible apply OptBounded_none
    | with_reducible apply OptBounded_some
    | with_reducible apply OptSndBounded_none
    | with_reducible apply OptSndBounded_some
    | intro _
    | dsimp only [BoundedBy_mk, refuse_st]
    | split

theorem execHvConfig_Bounded (s : State) (hb : Bounded s) : NextBounded (execHvConfig s) := by
  unfold execHvConfig
  unfold Bounded at hb
  repeat' first
    | with_reducible apply NextBounded_next
    | with_reducible assumption
    | with_reducible apply serve_BoundedBy
    | with_reducible apply askMode_BoundedBy
    | with_reducible apply setHv_BoundedBy
    | with_reducible apply BoundedBy_fold
    | with_reducible apply OptBounded_none
    | with_reducible apply OptBounded_some
    | with_reducible apply OptSndBounded_none
    | with_reducible apply OptSndBounded_some
    | intro _
    | dsimp only [BoundedBy_mk, refuse_st]
    | split

theorem execFusConfig_Bounded (s : State) (hb : Bounded s) : NextBounded (execFusConfig s) := by
  unfold execFusConfig
  unfold Bounded at hb
  repeat' first
    | with_reducible apply NextBounded_next
    | with_reducible assumption
    | with_reducible apply serve_BoundedBy
    | with_reducible apply setZone_BoundedBy
    | with_reducible apply BoundedBy_fold
    | with_reducible apply OptBounded_none
    | with_reducible apply OptBounded_some
    | with_reducible apply OptSndBounded_none
    | with_reducible apply OptSndBounded_some
    | intro _
    | dsimp only [BoundedBy_mk, refuse_st]
    | split

end Sys2Proof.Machine
end

