-- ==== Sys2Proof/Laws/BoundsSpoolCmd.lean ====
section
/-! SUPPORT. The operations of Machine/SpoolCmd.lean keep the bounds of the host interface (Safety.lean). -/

namespace Sys2Proof.Machine

theorem verifyNext_BoundedBy {N : Nat} (key total : Nat) (s : State) (hb : BoundedBy N s) : BoundedBy N (verifyNext key total s) := by
  unfold verifyNext
  repeat' first
    | with_reducible assumption
    | with_reducible apply pageSpooled_BoundedBy
    | with_reducible apply setIngest_BoundedBy
    | with_reducible apply BoundedBy_fold
    | with_reducible apply OptBounded_none
    | with_reducible apply OptBounded_some
    | with_reducible apply OptSndBounded_none
    | with_reducible apply OptSndBounded_some
    | intro _
    | dsimp only [BoundedBy_mk, refuse_st]
    | split

theorem markSuspect_BoundedBy {N : Nat} (p : Page) (sid : Nat) (t : PbStream) (block : Nat) (s : State) (hb : BoundedBy N s) : BoundedBy N (markSuspect p sid t block s) := by
  unfold markSuspect
  repeat' first
    | with_reducible assumption
    | with_reducible apply raise_BoundedBy
    | with_reducible apply setObj_BoundedBy
    | with_reducible apply tick_BoundedBy
    | with_reducible apply BoundedBy_fold
    | with_reducible apply OptBounded_none
    | with_reducible apply OptBounded_some
    | with_reducible apply OptSndBounded_none
    | with_reducible apply OptSndBounded_some
    | intro _
    | dsimp only [BoundedBy_mk, refuse_st]
    | split

theorem execPreverifyBlock_Bounded (seen : List Byte) (fault : Nat) (s : State) (hb : Bounded s) : NextBounded (execPreverifyBlock seen fault s) := by
  unfold execPreverifyBlock
  unfold Bounded at hb
  repeat' first
    | with_reducible apply NextBounded_next
    | with_reducible assumption
    | with_reducible apply ingestFail_BoundedBy
    | with_reducible apply markSuspect_BoundedBy
    | with_reducible apply memUe_BoundedBy
    | with_reducible apply setIngest_BoundedBy
    | with_reducible apply tick_BoundedBy
    | with_reducible apply verifyNext_BoundedBy
    | with_reducible apply BoundedBy_fold
    | with_reducible apply OptBounded_none
    | with_reducible apply OptBounded_some
    | with_reducible apply OptSndBounded_none
    | with_reducible apply OptSndBounded_some
    | intro _
    | dsimp only [BoundedBy_mk, refuse_st]
    | split

theorem execSpoolBind_Bounded (s : State) (hb : Bounded s) : NextBounded (execSpoolBind s) := by
  unfold execSpoolBind
  unfold Bounded at hb
  repeat' first
    | with_reducible apply NextBounded_next
    | with_reducible assumption
    | with_reducible apply serve_BoundedBy
    | with_reducible apply setChan_BoundedBy
    | with_reducible apply BoundedBy_fold
    | with_reducible apply OptBounded_none
    | with_reducible apply OptBounded_some
    | with_reducible apply OptSndBounded_none
    | with_reducible apply OptSndBounded_some
    | intro _
    | dsimp only [BoundedBy_mk, refuse_st]
    | split

theorem execSpoolUnbind_Bounded (s : State) (hb : Bounded s) : NextBounded (execSpoolUnbind s) := by
  unfold execSpoolUnbind
  unfold Bounded at hb
  repeat' first
    | with_reducible apply NextBounded_next
    | with_reducible assumption
    | with_reducible apply serve_BoundedBy
    | with_reducible apply setChan_BoundedBy
    | with_reducible apply BoundedBy_fold
    | with_reducible apply OptBounded_none
    | with_reducible apply OptBounded_some
    | with_reducible apply OptSndBounded_none
    | with_reducible apply OptSndBounded_some
    | intro _
    | dsimp only [BoundedBy_mk, refuse_st]
    | split

theorem execSpoolStatus_Bounded (s : State) (hb : Bounded s) : NextBounded (execSpoolStatus s) := by
  unfold execSpoolStatus
  unfold Bounded at hb
  repeat' first
    | with_reducible apply NextBounded_next
    | with_reducible assumption
    | with_reducible apply serve_BoundedBy
    | with_reducible apply BoundedBy_fold
    | with_reducible apply OptBounded_none
    | with_reducible apply OptBounded_some
    | with_reducible apply OptSndBounded_none
    | with_reducible apply OptSndBounded_some
    | intro _
    | dsimp only [BoundedBy_mk, refuse_st]
    | split

theorem execSpoolInfo_Bounded (s : State) (hb : Bounded s) : NextBounded (execSpoolInfo s) := by
  unfold execSpoolInfo
  unfold Bounded at hb
  repeat' first
    | with_reducible apply NextBounded_next
    | with_reducible assumption
    | with_reducible apply serve_BoundedBy
    | with_reducible apply BoundedBy_fold
    | with_reducible apply OptBounded_none
    | with_reducible apply OptBounded_some
    | with_reducible apply OptSndBounded_none
    | with_reducible apply OptSndBounded_some
    | intro _
    | dsimp only [BoundedBy_mk, refuse_st]
    | split

theorem execSpoolRetain_Bounded (s : State) (hb : Bounded s) : NextBounded (execSpoolRetain s) := by
  unfold execSpoolRetain
  unfold Bounded at hb
  repeat' first
    | with_reducible apply NextBounded_next
    | with_reducible assumption
    | with_reducible apply serve_BoundedBy
    | with_reducible apply BoundedBy_fold
    | with_reducible apply OptBounded_none
    | with_reducible apply OptBounded_some
    | with_reducible apply OptSndBounded_none
    | with_reducible apply OptSndBounded_some
    | intro _
    | dsimp only [BoundedBy_mk, refuse_st]
    | split

theorem execSpoolRepeat_Bounded (s : State) (hb : Bounded s) : NextBounded (execSpoolRepeat s) := by
  unfold execSpoolRepeat
  unfold Bounded at hb
  repeat' first
    | with_reducible apply NextBounded_next
    | with_reducible assumption
    | with_reducible apply serve_BoundedBy
    | with_reducible apply pageNew_BoundedBy
    | with_reducible apply pageSpooled_BoundedBy
    | with_reducible apply BoundedBy_fold
    | with_reducible apply OptBounded_none
    | with_reducible apply OptBounded_some
    | with_reducible apply OptSndBounded_none
    | with_reducible apply OptSndBounded_some
    | intro _
    | dsimp only [BoundedBy_mk, refuse_st]
    | split

theorem execSpoolRelease_Bounded (s : State) (hb : Bounded s) : NextBounded (execSpoolRelease s) := by
  unfold execSpoolRelease
  unfold Bounded at hb
  repeat' first
    | with_reducible apply NextBounded_next
    | with_reducible assumption
    | with_reducible apply serve_BoundedBy
    | with_reducible apply freeObj_BoundedBy
    | with_reducible apply BoundedBy_fold
    | with_reducible apply OptBounded_none
    | with_reducible apply OptBounded_some
    | with_reducible apply OptSndBounded_none
    | with_reducible apply OptSndBounded_some
    | intro _
    | dsimp only [BoundedBy_mk, refuse_st]
    | split

end Sys2Proof.Machine
end

