-- ==== Sys2Proof/Laws/BoundsStepCore.lean ====
section
/-! SUPPORT. The operations of Machine/StepCore.lean keep the bounds of the host interface (Safety.lean). -/

namespace Sys2Proof.Machine

theorem stopDist_BoundedBy {N : Nat} (v2 dec : Nat) (s : State) (hb : BoundedBy N s) : BoundedBy N (stopDist v2 dec s).1 := by
  unfold stopDist
  repeat' first
    | with_reducible assumption
    | with_reducible apply drawNat_BoundedBy
    | with_reducible apply BoundedBy_fold
    | with_reducible apply OptBounded_none
    | with_reducible apply OptBounded_some
    | with_reducible apply OptSndBounded_none
    | with_reducible apply OptSndBounded_some
    | intro _
    | dsimp only [BoundedBy_mk, refuse_st]
    | split

theorem rampStop_BoundedBy {N : Nat} (a dec : Nat) (s : State) (hb : BoundedBy N s) : BoundedBy N (rampStop a dec s) := by
  unfold rampStop
  repeat' first
    | with_reducible assumption
    | with_reducible apply setStp_BoundedBy
    | with_reducible apply stopDist_BoundedBy
    | with_reducible apply BoundedBy_fold
    | with_reducible apply OptBounded_none
    | with_reducible apply OptBounded_some
    | with_reducible apply OptSndBounded_none
    | with_reducible apply OptSndBounded_some
    | intro _
    | dsimp only [BoundedBy_mk, refuse_st]
    | split

theorem homeAbort_BoundedBy {N : Nat} (a result : Nat) (s : State) (hb : BoundedBy N s) : BoundedBy N (homeAbort a result s) := by
  unfold homeAbort
  repeat' first
    | with_reducible assumption
    | with_reducible apply homeFail_BoundedBy
    | with_reducible apply rampStop_BoundedBy
    | with_reducible apply setStp_BoundedBy
    | with_reducible apply BoundedBy_fold
    | with_reducible apply OptBounded_none
    | with_reducible apply OptBounded_some
    | with_reducible apply OptSndBounded_none
    | with_reducible apply OptSndBounded_some
    | intro _
    | dsimp only [BoundedBy_mk, refuse_st]
    | split

theorem limitStop_BoundedBy {N : Nat} (a i pos : Nat) (s : State) (hb : BoundedBy N s) : BoundedBy N (limitStop a i pos s) := by
  unfold limitStop
  repeat' first
    | with_reducible assumption
    | with_reducible apply homeAbort_BoundedBy
    | with_reducible apply raise_BoundedBy
    | with_reducible apply rampStop_BoundedBy
    | with_reducible apply stepRest_BoundedBy
    | with_reducible apply tick_BoundedBy
    | with_reducible apply BoundedBy_fold
    | with_reducible apply OptBounded_none
    | with_reducible apply OptBounded_some
    | with_reducible apply OptSndBounded_none
    | with_reducible apply OptSndBounded_some
    | intro _
    | dsimp only [BoundedBy_mk, refuse_st]
    | split

theorem setHoming_BoundedBy {N : Nat} (a : Nat) (f : Homing → Homing) (s : State) (hb : BoundedBy N s) : BoundedBy N (setHoming a f s) := by
  unfold setHoming
  repeat' first
    | with_reducible assumption
    | with_reducible apply setStp_BoundedBy
    | with_reducible apply BoundedBy_fold
    | with_reducible apply OptBounded_none
    | with_reducible apply OptBounded_some
    | with_reducible apply OptSndBounded_none
    | with_reducible apply OptSndBounded_some
    | intro _
    | dsimp only [BoundedBy_mk, refuse_st]
    | split

theorem homeMove_BoundedBy {N : Nat} (a step target vmax : Nat) (s : State) (hb : BoundedBy N s) : BoundedBy N (homeMove a step target vmax s) := by
  unfold homeMove
  repeat' first
    | with_reducible assumption
    | with_reducible apply setHoming_BoundedBy
    | with_reducible apply setStp_BoundedBy
    | with_reducible apply BoundedBy_fold
    | with_reducible apply OptBounded_none
    | with_reducible apply OptBounded_some
    | with_reducible apply OptSndBounded_none
    | with_reducible apply OptSndBounded_some
    | intro _
    | dsimp only [BoundedBy_mk, refuse_st]
    | split

theorem homeBackoff_BoundedBy {N : Nat} (a : Nat) (h : Homing) (s : State) (hb : BoundedBy N s) : BoundedBy N (homeBackoff a h s) := by
  unfold homeBackoff
  repeat' first
    | with_reducible assumption
    | with_reducible apply homeMove_BoundedBy
    | with_reducible apply BoundedBy_fold
    | with_reducible apply OptBounded_none
    | with_reducible apply OptBounded_some
    | with_reducible apply OptSndBounded_none
    | with_reducible apply OptSndBounded_some
    | intro _
    | dsimp only [BoundedBy_mk, refuse_st]
    | split

theorem homeRest_BoundedBy {N : Nat} (a : Nat) (h : Homing) (s : State) (hb : BoundedBy N s) : BoundedBy N (homeRest a h s) := by
  unfold homeRest
  repeat' first
    | with_reducible assumption
    | with_reducible apply complete_BoundedBy
    | with_reducible apply homeAbort_BoundedBy
    | with_reducible apply homeBackoff_BoundedBy
    | with_reducible apply homeMove_BoundedBy
    | with_reducible apply raise_BoundedBy
    | with_reducible apply setStp_BoundedBy
    | with_reducible apply stepRest_BoundedBy
    | with_reducible apply BoundedBy_fold
    | with_reducible apply OptBounded_none
    | with_reducible apply OptBounded_some
    | with_reducible apply OptSndBounded_none
    | with_reducible apply OptSndBounded_some
    | intro _
    | dsimp only [BoundedBy_mk, refuse_st]
    | split

theorem homeEdge_BoundedBy {N : Nat} (a : Nat) (active : Bool) (pos : Nat) (s : State) (hb : BoundedBy N s) : BoundedBy N (homeEdge a active pos s) := by
  unfold homeEdge
  repeat' first
    | with_reducible assumption
    | with_reducible apply homeBackoff_BoundedBy
    | with_reducible apply homeMove_BoundedBy
    | with_reducible apply rampStop_BoundedBy
    | with_reducible apply setHoming_BoundedBy
    | with_reducible apply BoundedBy_fold
    | with_reducible apply OptBounded_none
    | with_reducible apply OptBounded_some
    | with_reducible apply OptSndBounded_none
    | with_reducible apply OptSndBounded_some
    | intro _
    | dsimp only [BoundedBy_mk, refuse_st]
    | split

theorem stepGo_BoundedBy {N : Nat} (a v2 : Nat) (dir : Int) (old2 : Nat) (s : State) (hb : BoundedBy N s) : BoundedBy N (stepGo a v2 dir old2 s) := by
  unfold stepGo
  repeat' first
    | with_reducible assumption
    | with_reducible apply drawNat_BoundedBy
    | with_reducible apply emit_BoundedBy
    | with_reducible apply setStp_BoundedBy
    | with_reducible apply BoundedBy_fold
    | with_reducible apply OptBounded_none
    | with_reducible apply OptBounded_some
    | with_reducible apply OptSndBounded_none
    | with_reducible apply OptSndBounded_some
    | intro _
    | dsimp only [BoundedBy_mk, refuse_st]
    | split

theorem stepPlan_BoundedBy {N : Nat} (a : Nat) (s : State) (hb : BoundedBy N s) : BoundedBy N (stepPlan a s) := by
  unfold stepPlan
  repeat' first
    | with_reducible assumption
    | with_reducible apply homeAbort_BoundedBy
    | with_reducible apply homeRest_BoundedBy
    | with_reducible apply limitStop_BoundedBy
    | with_reducible apply setStp_BoundedBy
    | with_reducible apply stepGo_BoundedBy
    | with_reducible apply stepRest_BoundedBy
    | with_reducible apply stopDist_BoundedBy
    | with_reducible apply BoundedBy_fold
    | with_reducible apply OptBounded_none
    | with_reducible apply OptBounded_some
    | with_reducible apply OptSndBounded_none
    | with_reducible apply OptSndBounded_some
    | intro _
    | dsimp only [BoundedBy_mk, refuse_st]
    | split

end Sys2Proof.Machine
end

