-- ==== Sys2Proof/Laws/BoundsSteppers.lean ====
section
/-! SUPPORT. The operations of Machine/Steppers.lean keep the bounds of the host interface (Safety.lean). -/

namespace Sys2Proof.Machine

theorem execMicrostep_Bounded (axis : Nat) (s : State) (hb : Bounded s) : NextBounded (execMicrostep axis s) := by
  unfold execMicrostep
  unfold Bounded at hb
  repeat' first
    | with_reducible apply NextBounded_next
    | with_reducible assumption
    | with_reducible apply atTime_BoundedBy
    | with_reducible apply stepPlan_BoundedBy
    | with_reducible apply when_BoundedBy
    | with_reducible apply BoundedBy_fold
    | with_reducible apply OptBounded_none
    | with_reducible apply OptBounded_some
    | with_reducible apply OptSndBounded_none
    | with_reducible apply OptSndBounded_some
    | intro _
    | dsimp only [BoundedBy_mk, refuse_st]
    | split

theorem execStepHoldTimeout_Bounded (axis : Nat) (s : State) (hb : Bounded s) : NextBounded (execStepHoldTimeout axis s) := by
  unfold execStepHoldTimeout
  unfold Bounded at hb
  repeat' first
    | with_reducible apply NextBounded_next
    | with_reducible assumption
    | with_reducible apply atTime_BoundedBy
    | with_reducible apply setStp_BoundedBy
    | with_reducible apply when_BoundedBy
    | with_reducible apply BoundedBy_fold
    | with_reducible apply OptBounded_none
    | with_reducible apply OptBounded_some
    | with_reducible apply OptSndBounded_none
    | with_reducible apply OptSndBounded_some
    | intro _
    | dsimp only [BoundedBy_mk, refuse_st]
    | split

theorem setSwitch_BoundedBy {N : Nat} (a i : Nat) (f : SwitchIn → SwitchIn) (s : State) (hb : BoundedBy N s) : BoundedBy N (setSwitch a i f s) := by
  unfold setSwitch
  repeat' first
    | with_reducible assumption
    | with_reducible apply setStp_BoundedBy
    | with_reducible apply BoundedBy_fold
    | with_reducible apply OptBounded_none
    | with_reducible apply OptBounded_some
    | with_reducible apply OptSndBounded_none
    | with_reducible apply OptSndBounded_some
    | intro _
    | dsimp only [BoundedBy_mk, refuse_st]
    | split

theorem rawEdge_BoundedBy {N : Nat} (a i : Nat) (level : Bool) (s : State) (hb : BoundedBy N s) : BoundedBy N (rawEdge a i level s) := by
  unfold rawEdge
  repeat' first
    | with_reducible assumption
    | with_reducible apply homeAbort_BoundedBy
    | with_reducible apply raise_BoundedBy
    | with_reducible apply rampStop_BoundedBy
    | with_reducible apply setSwitch_BoundedBy
    | with_reducible apply tick_BoundedBy
    | with_reducible apply BoundedBy_fold
    | with_reducible apply OptBounded_none
    | with_reducible apply OptBounded_some
    | with_reducible apply OptSndBounded_none
    | with_reducible apply OptSndBounded_some
    | intro _
    | dsimp only [BoundedBy_mk, refuse_st]
    | split

theorem acceptEdge_BoundedBy {N : Nat} (a i : Nat) (level : Bool) (pos : Nat) (s : State) (hb : BoundedBy N s) : BoundedBy N (acceptEdge a i level pos s) := by
  unfold acceptEdge
  repeat' first
    | with_reducible assumption
    | with_reducible apply homeEdge_BoundedBy
    | with_reducible apply limitStop_BoundedBy
    | with_reducible apply setSwitch_BoundedBy
    | with_reducible apply BoundedBy_fold
    | with_reducible apply OptBounded_none
    | with_reducible apply OptBounded_some
    | with_reducible apply OptSndBounded_none
    | with_reducible apply OptSndBounded_some
    | intro _
    | dsimp only [BoundedBy_mk, refuse_st]
    | split

theorem execSwitchEdge_Bounded (axis switch : Nat) (level accepted : Bool) (s : State) (hb : Bounded s) : NextBounded (execSwitchEdge axis switch level accepted s) := by
  unfold execSwitchEdge
  unfold Bounded at hb
  repeat' first
    | with_reducible apply NextBounded_next
    | with_reducible assumption
    | with_reducible apply acceptEdge_BoundedBy
    | with_reducible apply atTime_BoundedBy
    | with_reducible apply rawEdge_BoundedBy
    | with_reducible apply setSwitch_BoundedBy
    | with_reducible apply when_BoundedBy
    | with_reducible apply BoundedBy_fold
    | with_reducible apply OptBounded_none
    | with_reducible apply OptBounded_some
    | with_reducible apply OptSndBounded_none
    | with_reducible apply OptSndBounded_some
    | intro _
    | dsimp only [BoundedBy_mk, refuse_st]
    | split

theorem execChatterWindowEnd_Bounded (axis switch : Nat) (s : State) (hb : Bounded s) : NextBounded (execChatterWindowEnd axis switch s) := by
  unfold execChatterWindowEnd
  unfold Bounded at hb
  repeat' first
    | with_reducible apply NextBounded_next
    | with_reducible assumption
    | with_reducible apply atTime_BoundedBy
    | with_reducible apply setSwitch_BoundedBy
    | with_reducible apply when_BoundedBy
    | with_reducible apply BoundedBy_fold
    | with_reducible apply OptBounded_none
    | with_reducible apply OptBounded_some
    | with_reducible apply OptSndBounded_none
    | with_reducible apply OptSndBounded_some
    | intro _
    | dsimp only [BoundedBy_mk, refuse_st]
    | split

theorem execStepConfig_Bounded (s : State) (hb : Bounded s) : NextBounded (execStepConfig s) := by
  unfold execStepConfig
  unfold Bounded at hb
  repeat' first
    | with_reducible apply NextBounded_next
    | with_reducible assumption
    | with_reducible apply serve_BoundedBy
    | with_reducible apply setStp_BoundedBy
    | with_reducible apply BoundedBy_fold
    | with_reducible apply OptBounded_none
    | with_reducible apply OptBounded_some
    | with_reducible apply OptSndBounded_none
    | with_reducible apply OptSndBounded_some
    | intro _
    | dsimp only [BoundedBy_mk, refuse_st]
    | split

theorem execStepMove_Bounded (s : State) (hb : Bounded s) : NextBounded (execStepMove s) := by
  unfold execStepMove
  unfold Bounded at hb
  repeat' first
    | with_reducible apply NextBounded_next
    | with_reducible assumption
    | with_reducible apply serve_BoundedBy
    | with_reducible apply homeFail_BoundedBy
    | with_reducible apply setStp_BoundedBy
    | with_reducible apply BoundedBy_fold
    | with_reducible apply OptBounded_none
    | with_reducible apply OptBounded_some
    | with_reducible apply OptSndBounded_none
    | with_reducible apply OptSndBounded_some
    | intro _
    | dsimp only [BoundedBy_mk, refuse_st]
    | split

theorem execStepHome_Bounded (s : State) (hb : Bounded s) : NextBounded (execStepHome s) := by
  unfold execStepHome
  unfold Bounded at hb
  repeat' first
    | with_reducible apply NextBounded_next
    | with_reducible assumption
    | with_reducible apply serve_BoundedBy
    | with_reducible apply drawNat_BoundedBy
    | with_reducible apply setStp_BoundedBy
    | with_reducible apply BoundedBy_fold
    | with_reducible apply OptBounded_none
    | with_reducible apply OptBounded_some
    | with_reducible apply OptSndBounded_none
    | with_reducible apply OptSndBounded_some
    | intro _
    | dsimp only [BoundedBy_mk, refuse_st]
    | split

theorem execStepStop_Bounded (s : State) (hb : Bounded s) : NextBounded (execStepStop s) := by
  unfold execStepStop
  unfold Bounded at hb
  repeat' first
    | with_reducible apply NextBounded_next
    | with_reducible assumption
    | with_reducible apply serve_BoundedBy
    | with_reducible apply homeAbort_BoundedBy
    | with_reducible apply rampStop_BoundedBy
    | with_reducible apply setStp_BoundedBy
    | with_reducible apply stepHard_BoundedBy
    | with_reducible apply stepRest_BoundedBy
    | with_reducible apply BoundedBy_fold
    | with_reducible apply OptBounded_none
    | with_reducible apply OptBounded_some
    | with_reducible apply OptSndBounded_none
    | with_reducible apply OptSndBounded_some
    | intro _
    | dsimp only [BoundedBy_mk, refuse_st]
    | split

theorem speedNow_BoundedBy {N : Nat} (a : Nat) (s : State) (hb : BoundedBy N s) : BoundedBy N (speedNow a s).1 := by
  unfold speedNow
  repeat' first
    | with_reducible assumption
    | with_reducible apply drawNat_BoundedBy
    | with_reducible apply BoundedBy_fold
    | with_reducible apply OptBounded_none
    | with_reducible apply OptBounded_some
    | with_reducible apply OptSndBounded_none
    | with_reducible apply OptSndBounded_some
    | intro _
    | dsimp only [BoundedBy_mk, refuse_st]
    | split

theorem execStepStatus_Bounded (s : State) (hb : Bounded s) : NextBounded (execStepStatus s) := by
  unfold execStepStatus
  unfold Bounded at hb
  repeat' first
    | with_reducible apply NextBounded_next
    | with_reducible assumption
    | with_reducible apply serve_BoundedBy
    | with_reducible apply speedNow_BoundedBy
    | with_reducible apply BoundedBy_fold
    | with_reducible apply OptBounded_none
    | with_reducible apply OptBounded_some
    | with_reducible apply OptSndBounded_none
    | with_reducible apply OptSndBounded_some
    | intro _
    | dsimp only [BoundedBy_mk, refuse_st]
    | split

end Sys2Proof.Machine
end

