-- ==== Sys2Proof/Laws/BoundsSupervisor.lean ====
section
/-! SUPPORT. The operations of Machine/Supervisor.lean keep the bounds of the host interface (Safety.lean). -/

namespace Sys2Proof.Machine

theorem execGooseWatchdogExpiry_Bounded (s : State) (hb : Bounded s) : NextBounded (execGooseWatchdogExpiry s) := by
  unfold execGooseWatchdogExpiry
  unfold Bounded at hb
  repeat' first
    | with_reducible apply NextBounded_next
    | with_reducible assumption
    | with_reducible apply raise_BoundedBy
    | with_reducible apply tick_BoundedBy
    | with_reducible apply trip_BoundedBy
    | with_reducible apply when_BoundedBy
    | with_reducible apply BoundedBy_fold
    | with_reducible apply OptBounded_none
    | with_reducible apply OptBounded_some
    | with_reducible apply OptSndBounded_none
    | with_reducible apply OptSndBounded_some
    | intro _
    | dsimp only [BoundedBy_mk, refuse_st]
    | split

theorem execCoreWatchdogExpiry_Bounded (s : State) (hb : Bounded s) : NextBounded (execCoreWatchdogExpiry s) := by
  unfold execCoreWatchdogExpiry
  unfold Bounded at hb
  repeat' first
    | with_reducible apply NextBounded_next
    | with_reducible assumption
    | with_reducible apply atTime_BoundedBy
    | with_reducible apply fwFault_BoundedBy
    | with_reducible apply raise_BoundedBy
    | with_reducible apply tick_BoundedBy
    | with_reducible apply tripLogged_BoundedBy
    | with_reducible apply when_BoundedBy
    | with_reducible apply BoundedBy_fold
    | with_reducible apply OptBounded_none
    | with_reducible apply OptBounded_some
    | with_reducible apply OptSndBounded_none
    | with_reducible apply OptSndBounded_some
    | intro _
    | dsimp only [BoundedBy_mk, refuse_st]
    | split

theorem execSafeInEdge_Bounded (chan : Nat) (s : State) (hb : Bounded s) : NextBounded (execSafeInEdge chan s) := by
  unfold execSafeInEdge
  unfold Bounded at hb
  repeat' first
    | with_reducible apply NextBounded_next
    | with_reducible assumption
    | with_reducible apply trip_BoundedBy
    | with_reducible apply withSup_BoundedBy
    | with_reducible apply BoundedBy_fold
    | with_reducible apply OptBounded_none
    | with_reducible apply OptBounded_some
    | with_reducible apply OptSndBounded_none
    | with_reducible apply OptSndBounded_some
    | intro _
    | dsimp only [BoundedBy_mk, refuse_st]
    | split

theorem execSafeInHealthy_Bounded (chan : Nat) (s : State) (hb : Bounded s) : NextBounded (execSafeInHealthy chan s) := by
  unfold execSafeInHealthy
  unfold Bounded at hb
  repeat' first
    | with_reducible apply NextBounded_next
    | with_reducible assumption
    | with_reducible apply withSup_BoundedBy
    | with_reducible apply BoundedBy_fold
    | with_reducible apply OptBounded_none
    | with_reducible apply OptBounded_some
    | with_reducible apply OptSndBounded_none
    | with_reducible apply OptSndBounded_some
    | intro _
    | dsimp only [BoundedBy_mk, refuse_st]
    | split

theorem execSafeInDetailTimer_Bounded (s : State) (hb : Bounded s) : NextBounded (execSafeInDetailTimer s) := by
  unfold execSafeInDetailTimer
  unfold Bounded at hb
  repeat' first
    | with_reducible apply NextBounded_next
    | with_reducible assumption
    | with_reducible apply atTime_BoundedBy
    | with_reducible apply tripEvent_BoundedBy
    | with_reducible apply withSup_BoundedBy
    | with_reducible apply BoundedBy_fold
    | with_reducible apply OptBounded_none
    | with_reducible apply OptBounded_some
    | with_reducible apply OptSndBounded_none
    | with_reducible apply OptSndBounded_some
    | intro _
    | dsimp only [BoundedBy_mk, refuse_st]
    | split

theorem ilkHold_BoundedBy {N : Nat} (mask : Nat) (s : State) (hb : BoundedBy N s) : BoundedBy N (ilkHold mask s) := by
  unfold ilkHold
  repeat' first
    | with_reducible assumption
    | with_reducible apply loopForce_BoundedBy
    | with_reducible apply setHv_BoundedBy
    | with_reducible apply forList_BoundedBy
    | with_reducible apply forList_fst_BoundedBy
    | with_reducible apply BoundedBy_fold
    | with_reducible apply OptBounded_none
    | with_reducible apply OptBounded_some
    | with_reducible apply OptSndBounded_none
    | with_reducible apply OptSndBounded_some
    | intro _
    | dsimp only [BoundedBy_mk, refuse_st]
    | split

theorem ilkApply_BoundedBy {N : Nat} (n : Nat) (was : Bool) (held : Nat) (s : State) (hb : BoundedBy N s) : BoundedBy N (ilkApply n was held s) := by
  unfold ilkApply
  repeat' first
    | with_reducible assumption
    | with_reducible apply ilkHold_BoundedBy
    | with_reducible apply raise_BoundedBy
    | with_reducible apply tick_BoundedBy
    | with_reducible apply trip_BoundedBy
    | with_reducible apply BoundedBy_fold
    | with_reducible apply OptBounded_none
    | with_reducible apply OptBounded_some
    | with_reducible apply OptSndBounded_none
    | with_reducible apply OptSndBounded_some
    | intro _
    | dsimp only [BoundedBy_mk, refuse_st]
    | split

theorem execHvInterlockChange_Bounded (ilk : Nat) (level : Bool) (s : State) (hb : Bounded s) : NextBounded (execHvInterlockChange ilk level s) := by
  unfold execHvInterlockChange
  unfold Bounded at hb
  repeat' first
    | with_reducible apply NextBounded_next
    | with_reducible assumption
    | with_reducible apply ilkApply_BoundedBy
    | with_reducible apply withSup_BoundedBy
    | with_reducible apply BoundedBy_fold
    | with_reducible apply OptBounded_none
    | with_reducible apply OptBounded_some
    | with_reducible apply OptSndBounded_none
    | with_reducible apply OptSndBounded_some
    | intro _
    | dsimp only [BoundedBy_mk, refuse_st]
    | split

theorem setTherm_BoundedBy {N : Nat} (machine : Bool) (f : DieTherm → DieTherm) (s : State) (hb : BoundedBy N s) : BoundedBy N (setTherm machine f s) := by
  unfold setTherm
  repeat' first
    | with_reducible assumption
    | with_reducible apply withSup_BoundedBy
    | with_reducible apply BoundedBy_fold
    | with_reducible apply OptBounded_none
    | with_reducible apply OptBounded_some
    | with_reducible apply OptSndBounded_none
    | with_reducible apply OptSndBounded_some
    | intro _
    | dsimp only [BoundedBy_mk, refuse_st]
    | split

theorem sensorTake_BoundedBy {N : Nat} (machine : Bool) (i : Nat) (v : Int) (ok : Bool) (s : State) (hb : BoundedBy N s) : BoundedBy N (sensorTake machine i v ok s) := by
  unfold sensorTake
  repeat' first
    | with_reducible assumption
    | with_reducible apply raise_BoundedBy
    | with_reducible apply setTherm_BoundedBy
    | with_reducible apply tick_BoundedBy
    | with_reducible apply BoundedBy_fold
    | with_reducible apply OptBounded_none
    | with_reducible apply OptBounded_some
    | with_reducible apply OptSndBounded_none
    | with_reducible apply OptSndBounded_some
    | intro _
    | dsimp only [BoundedBy_mk, refuse_st]
    | split

theorem thermEvent_BoundedBy {N : Nat} (machine : Bool) (what : Nat) (hot : Int) (s : State) (hb : BoundedBy N s) : BoundedBy N (thermEvent machine what hot s) := by
  unfold thermEvent
  repeat' first
    | with_reducible assumption
    | with_reducible apply raise_BoundedBy
    | with_reducible apply BoundedBy_fold
    | with_reducible apply OptBounded_none
    | with_reducible apply OptBounded_some
    | with_reducible apply OptSndBounded_none
    | with_reducible apply OptSndBounded_some
    | intro _
    | dsimp only [BoundedBy_mk, refuse_st]
    | split

theorem throttle_BoundedBy {N : Nat} (hot : Int) (s : State) (hb : BoundedBy N s) : BoundedBy N (throttle hot s) := by
  unfold throttle
  repeat' first
    | with_reducible assumption
    | with_reducible apply bump_BoundedBy
    | with_reducible apply thermEvent_BoundedBy
    | with_reducible apply withSup_BoundedBy
    | with_reducible apply BoundedBy_fold
    | with_reducible apply OptBounded_none
    | with_reducible apply OptBounded_some
    | with_reducible apply OptSndBounded_none
    | with_reducible apply OptSndBounded_some
    | intro _
    | dsimp only [BoundedBy_mk, refuse_st]
    | split

theorem warnStep_BoundedBy {N : Nat} (machine : Bool) (hot : Int) (s : State) (hb : BoundedBy N s) : BoundedBy N (warnStep machine hot s) := by
  unfold warnStep
  repeat' first
    | with_reducible assumption
    | with_reducible apply setTherm_BoundedBy
    | with_reducible apply thermEvent_BoundedBy
    | with_reducible apply BoundedBy_fold
    | with_reducible apply OptBounded_none
    | with_reducible apply OptBounded_some
    | with_reducible apply OptSndBounded_none
    | with_reducible apply OptSndBounded_some
    | intro _
    | dsimp only [BoundedBy_mk, refuse_st]
    | split

theorem critStep_BoundedBy {N : Nat} (machine : Bool) (hot : Int) (sensor : Nat) (s : State) (hb : BoundedBy N s) : BoundedBy N (critStep machine hot sensor s) := by
  unfold critStep
  repeat' first
    | with_reducible assumption
    | with_reducible apply setTherm_BoundedBy
    | with_reducible apply trip_BoundedBy
    | with_reducible apply BoundedBy_fold
    | with_reducible apply OptBounded_none
    | with_reducible apply OptBounded_some
    | with_reducible apply OptSndBounded_none
    | with_reducible apply OptSndBounded_some
    | intro _
    | dsimp only [BoundedBy_mk, refuse_st]
    | split

theorem execDieTempSample_Bounded (machine : Bool) (values : List Int) (s : State) (hb : Bounded s) : NextBounded (execDieTempSample machine values s) := by
  unfold execDieTempSample
  unfold Bounded at hb
  repeat' first
    | with_reducible apply NextBounded_next
    | with_reducible assumption
    | with_reducible apply atTime_BoundedBy
    | with_reducible apply critStep_BoundedBy
    | with_reducible apply engineLoss_BoundedBy
    | with_reducible apply sensorTake_BoundedBy
    | with_reducible apply setTherm_BoundedBy
    | with_reducible apply throttle_BoundedBy
    | with_reducible apply warnStep_BoundedBy
    | with_reducible apply forRange_BoundedBy
    | with_reducible apply forRange_fst_BoundedBy
    | with_reducible apply BoundedBy_fold
    | with_reducible apply OptBounded_none
    | with_reducible apply OptBounded_some
    | with_reducible apply OptSndBounded_none
    | with_reducible apply OptSndBounded_some
    | intro _
    | dsimp only [BoundedBy_mk, refuse_st]
    | split

theorem execSupStatus_Bounded (s : State) (hb : Bounded s) : NextBounded (execSupStatus s) := by
  unfold execSupStatus
  unfold Bounded at hb
  repeat' first
    | with_reducible apply NextBounded_next
    | with_reducible assumption
    | with_reducible apply serve_BoundedBy
    | with_reducible apply BoundedBy_fold
    | with_reducible apply OptBounded_none
    | with_reducible apply OptBounded_some
    | with_reducible apply OptSndBounded_none
    | with_reducible apply OptSndBounded_some
    | intro _
    | dsimp only [BoundedBy_mk, refuse_st]
    | split

theorem execSupConfig_Bounded (s : State) (hb : Bounded s) : NextBounded (execSupConfig s) := by
  unfold execSupConfig
  unfold Bounded at hb
  repeat' first
    | with_reducible apply NextBounded_next
    | with_reducible assumption
    | with_reducible apply serve_BoundedBy
    | with_reducible apply ilkApply_BoundedBy
    | with_reducible apply withSup_BoundedBy
    | with_reducible apply forRange_BoundedBy
    | with_reducible apply forRange_fst_BoundedBy
    | with_reducible apply BoundedBy_fold
    | with_reducible apply OptBounded_none
    | with_reducible apply OptBounded_some
    | with_reducible apply OptSndBounded_none
    | with_reducible apply OptSndBounded_some
    | intro _
    | dsimp only [BoundedBy_mk, refuse_st]
    | split

theorem execSupOutput_Bounded (s : State) (hb : Bounded s) : NextBounded (execSupOutput s) := by
  unfold execSupOutput
  unfold Bounded at hb
  repeat' first
    | with_reducible apply NextBounded_next
    | with_reducible assumption
    | with_reducible apply serve_BoundedBy
    | with_reducible apply withSup_BoundedBy
    | with_reducible apply foldl_BoundedBy
    | with_reducible apply BoundedBy_fold
    | with_reducible apply OptBounded_none
    | with_reducible apply OptBounded_some
    | with_reducible apply OptSndBounded_none
    | with_reducible apply OptSndBounded_some
    | intro _
    | dsimp only [BoundedBy_mk, refuse_st]
    | split

theorem execSupTrip_Bounded (s : State) (hb : Bounded s) : NextBounded (execSupTrip s) := by
  unfold execSupTrip
  unfold Bounded at hb
  repeat' first
    | with_reducible apply NextBounded_next
    | with_reducible assumption
    | with_reducible apply serve_BoundedBy
    | with_reducible apply trip_BoundedBy
    | with_reducible apply BoundedBy_fold
    | with_reducible apply OptBounded_none
    | with_reducible apply OptBounded_some
    | with_reducible apply OptSndBounded_none
    | with_reducible apply OptSndBounded_some
    | intro _
    | dsimp only [BoundedBy_mk, refuse_st]
    | split

theorem safeClear_BoundedBy {N : Nat} (s : State) (hb : BoundedBy N s) : BoundedBy N (safeClear s) := by
  unfold safeClear
  repeat' first
    | with_reducible assumption
    | with_reducible apply loopsSafe_BoundedBy
    | with_reducible apply raise_BoundedBy
    | with_reducible apply withSup_BoundedBy
    | with_reducible apply BoundedBy_fold
    | with_reducible apply OptBounded_none
    | with_reducible apply OptBounded_some
    | with_reducible apply OptSndBounded_none
    | with_reducible apply OptSndBounded_some
    | intro _
    | dsimp only [BoundedBy_mk, refuse_st]
    | split

theorem execSupClear_Bounded (s : State) (hb : Bounded s) : NextBounded (execSupClear s) := by
  unfold execSupClear
  unfold Bounded at hb
  repeat' first
    | with_reducible apply NextBounded_next
    | with_reducible assumption
    | with_reducible apply serve_BoundedBy
    | with_reducible apply safeClear_BoundedBy
    | with_reducible apply BoundedBy_fold
    | with_reducible apply OptBounded_none
    | with_reducible apply OptBounded_some
    | with_reducible apply OptSndBounded_none
    | with_reducible apply OptSndBounded_some
    | intro _
    | dsimp only [BoundedBy_mk, refuse_st]
    | split

theorem execSupLog_Bounded (s : State) (hb : Bounded s) : NextBounded (execSupLog s) := by
  unfold execSupLog
  unfold Bounded at hb
  repeat' first
    | with_reducible apply NextBounded_next
    | with_reducible assumption
    | with_reducible apply serve_BoundedBy
    | with_reducible apply BoundedBy_fold
    | with_reducible apply OptBounded_none
    | with_reducible apply OptBounded_some
    | with_reducible apply OptSndBounded_none
    | with_reducible apply OptSndBounded_some
    | intro _
    | dsimp only [BoundedBy_mk, refuse_st]
    | split

theorem execThermStatus_Bounded (s : State) (hb : Bounded s) : NextBounded (execThermStatus s) := by
  unfold execThermStatus
  unfold Bounded at hb
  repeat' first
    | with_reducible apply NextBounded_next
    | with_reducible assumption
    | with_reducible apply serve_BoundedBy
    | with_reducible apply drawInt_BoundedBy
    | with_reducible apply drawNat_BoundedBy
    | with_reducible apply BoundedBy_fold
    | with_reducible apply OptBounded_none
    | with_reducible apply OptBounded_some
    | with_reducible apply OptSndBounded_none
    | with_reducible apply OptSndBounded_some
    | intro _
    | dsimp only [BoundedBy_mk, refuse_st]
    | split

theorem execThermConfig_Bounded (s : State) (hb : Bounded s) : NextBounded (execThermConfig s) := by
  unfold execThermConfig
  unfold Bounded at hb
  repeat' first
    | with_reducible apply NextBounded_next
    | with_reducible assumption
    | with_reducible apply serve_BoundedBy
    | with_reducible apply withSup_BoundedBy
    | with_reducible apply BoundedBy_fold
    | with_reducible apply OptBounded_none
    | with_reducible apply OptBounded_some
    | with_reducible apply OptSndBounded_none
    | with_reducible apply OptSndBounded_some
    | intro _
    | dsimp only [BoundedBy_mk, refuse_st]
    | split

end Sys2Proof.Machine
end

