-- ==== Sys2Proof/Laws/BoundsTestCmd.lean ====
section
/-! SUPPORT. The operations of Machine/TestCmd.lean keep the bounds of the host interface (Safety.lean). -/

namespace Sys2Proof.Machine

theorem execCtrRead_Bounded (s : State) (hb : Bounded s) : NextBounded (execCtrRead s) := by
  unfold execCtrRead
  unfold Bounded at hb
  repeat' first
    | with_reducible apply NextBounded_next
    | with_reducible assumption
    | with_reducible apply serve_BoundedBy
    | with_reducible apply BoundedBy_fold
    | with_reducible apply OptBounded_none
    | with_reducible apply OptBounded_some
    | with_reducible apply OptSndBounded_none
    | with_reducible apply OptSndBounded_some
    | intro _
    | dsimp only [BoundedBy_mk, refuse_st]
    | split

theorem execCtrClear_Bounded (s : State) (hb : Bounded s) : NextBounded (execCtrClear s) := by
  unfold execCtrClear
  unfold Bounded at hb
  repeat' first
    | with_reducible apply NextBounded_next
    | with_reducible assumption
    | with_reducible apply serve_BoundedBy
    | with_reducible apply BoundedBy_fold
    | with_reducible apply OptBounded_none
    | with_reducible apply OptBounded_some
    | with_reducible apply OptSndBounded_none
    | with_reducible apply OptSndBounded_some
    | intro _
    | dsimp only [BoundedBy_mk, refuse_st]
    | split

theorem setRaw_BoundedBy {N : Nat} (g : Nat) (r : Option RawPrbs) (s : State) (hb : BoundedBy N s) : BoundedBy N (setRaw g r s) := by
  unfold setRaw
  repeat' first
    | with_reducible assumption
    | with_reducible apply BoundedBy_fold
    | with_reducible apply OptBounded_none
    | with_reducible apply OptBounded_some
    | with_reducible apply OptSndBounded_none
    | with_reducible apply OptSndBounded_some
    | intro _
    | dsimp only [BoundedBy_mk, refuse_st]
    | split

theorem rawStart_BoundedBy {N : Nat} (pattern : Nat) (half near : Bool) (g : Nat) (s : State) (hb : BoundedBy N s) : BoundedBy N (rawStart pattern half near g s) := by
  unfold rawStart
  repeat' first
    | with_reducible assumption
    | with_reducible apply linkTo_BoundedBy
    | with_reducible apply setRaw_BoundedBy
    | with_reducible apply BoundedBy_fold
    | with_reducible apply OptBounded_none
    | with_reducible apply OptBounded_some
    | with_reducible apply OptSndBounded_none
    | with_reducible apply OptSndBounded_some
    | intro _
    | dsimp only [BoundedBy_mk, refuse_st]
    | split

theorem execTestPrbs_Bounded (s : State) (hb : Bounded s) : NextBounded (execTestPrbs s) := by
  unfold execTestPrbs
  unfold Bounded at hb
  repeat' first
    | with_reducible apply NextBounded_next
    | with_reducible assumption
    | with_reducible apply serve_BoundedBy
    | with_reducible apply lanesOff_BoundedBy
    | with_reducible apply rawStart_BoundedBy
    | with_reducible apply setRaw_BoundedBy
    | with_reducible apply forList_BoundedBy
    | with_reducible apply forList_fst_BoundedBy
    | with_reducible apply BoundedBy_fold
    | with_reducible apply OptBounded_none
    | with_reducible apply OptBounded_some
    | with_reducible apply OptSndBounded_none
    | with_reducible apply OptSndBounded_some
    | intro _
    | dsimp only [BoundedBy_mk, refuse_st]
    | split

theorem execPrbsCheckerSync_Bounded (spine : Bool) (index : Nat) (bits : List Bool) (s : State) (hb : Bounded s) : NextBounded (execPrbsCheckerSync spine index bits s) := by
  unfold execPrbsCheckerSync
  unfold Bounded at hb
  repeat' first
    | with_reducible apply NextBounded_next
    | with_reducible assumption
    | with_reducible apply bump_BoundedBy
    | with_reducible apply emit_BoundedBy
    | with_reducible apply setRaw_BoundedBy
    | with_reducible apply foldl_BoundedBy
    | with_reducible apply when_BoundedBy
    | with_reducible apply BoundedBy_fold
    | with_reducible apply OptBounded_none
    | with_reducible apply OptBounded_some
    | with_reducible apply OptSndBounded_none
    | with_reducible apply OptSndBounded_some
    | intro _
    | dsimp only [BoundedBy_mk, refuse_st]
    | split

theorem execInjArm_Bounded (s : State) (hb : Bounded s) : NextBounded (execInjArm s) := by
  unfold execInjArm
  unfold Bounded at hb
  repeat' first
    | with_reducible apply NextBounded_next
    | with_reducible assumption
    | with_reducible apply serve_BoundedBy
    | with_reducible apply setInj_BoundedBy
    | with_reducible apply BoundedBy_fold
    | with_reducible apply OptBounded_none
    | with_reducible apply OptBounded_some
    | with_reducible apply OptSndBounded_none
    | with_reducible apply OptSndBounded_some
    | intro _
    | dsimp only [BoundedBy_mk, refuse_st]
    | split

theorem spineCount_BoundedBy {N : Nat} (dir : Nat) (corrected ok : Bool) (s : State) (hb : BoundedBy N s) : BoundedBy N (spineCount dir corrected ok s) := by
  unfold spineCount
  repeat' first
    | with_reducible assumption
    | with_reducible apply tick_BoundedBy
    | with_reducible apply BoundedBy_fold
    | with_reducible apply OptBounded_none
    | with_reducible apply OptBounded_some
    | with_reducible apply OptSndBounded_none
    | with_reducible apply OptSndBounded_some
    | intro _
    | dsimp only [BoundedBy_mk, refuse_st]
    | split

theorem execSpineFrameRx_Bounded (toMachine corrected ok : Bool) (s : State) (hb : Bounded s) : NextBounded (execSpineFrameRx toMachine corrected ok s) := by
  unfold execSpineFrameRx
  unfold Bounded at hb
  repeat' first
    | with_reducible apply NextBounded_next
    | with_reducible assumption
    | with_reducible apply injOffer_BoundedBy
    | with_reducible apply spineCount_BoundedBy
    | with_reducible apply when_BoundedBy
    | with_reducible apply BoundedBy_fold
    | with_reducible apply OptBounded_none
    | with_reducible apply OptBounded_some
    | with_reducible apply OptSndBounded_none
    | with_reducible apply OptSndBounded_some
    | intro _
    | dsimp only [BoundedBy_mk, refuse_st]
    | split

theorem execJtagInstruction_Bounded (machine : Bool) (code : Nat) (s : State) (hb : Bounded s) : NextBounded (execJtagInstruction machine code s) := by
  unfold execJtagInstruction
  unfold Bounded at hb
  repeat' first
    | with_reducible apply NextBounded_next
    | with_reducible assumption
    | with_reducible apply when_BoundedBy
    | with_reducible apply BoundedBy_fold
    | with_reducible apply OptBounded_none
    | with_reducible apply OptBounded_some
    | with_reducible apply OptSndBounded_none
    | with_reducible apply OptSndBounded_some
    | intro _
    | dsimp only [BoundedBy_mk, refuse_st]
    | split

end Sys2Proof.Machine
end

