-- ==== Sys2Proof/Laws/Events.lean ====
section
/-! SUPPORT. What signalling an interrupt, writing a record and raising an event do to memory, counters, indices and backlog. -/

namespace Sys2Proof.Machine

theorem sinkMsix_keeps (e : SinkEnv) (v : Nat) (k : Sink) : (sinkMsix e v k).mem = k.mem ∧ (sinkMsix e v k).ctr = k.ctr
    ∧ (sinkMsix e v k).host.evrWrite = k.host.evrWrite ∧ (sinkMsix e v k).host.lostSince = k.host.lostSince
    ∧ (sinkMsix e v k).host.unsignalled = k.host.unsignalled ∧ (sinkMsix e v k).host.firstUnsignalled = k.host.firstUnsignalled
    ∧ (sinkMsix e v k).host.backlog = k.host.backlog ∧ (sinkMsix e v k).host.slots = k.host.slots
    ∧ (sinkMsix e v k).host.slotDone = k.host.slotDone ∧ (sinkMsix e v k).host.intStatus = k.host.intStatus := by
  unfold sinkMsix; split
  · simp
  · split <;> simp

theorem sinkInt_keeps (e : SinkEnv) (v : Nat) (k : Sink) : (sinkInt e v k).mem = k.mem ∧ (sinkInt e v k).ctr = k.ctr
    ∧ (sinkInt e v k).host.evrWrite = k.host.evrWrite ∧ (sinkInt e v k).host.lostSince = k.host.lostSince
    ∧ (sinkInt e v k).host.unsignalled = k.host.unsignalled ∧ (sinkInt e v k).host.firstUnsignalled = k.host.firstUnsignalled
    ∧ (sinkInt e v k).host.backlog = k.host.backlog ∧ (sinkInt e v k).host.slots = k.host.slots
    ∧ (sinkInt e v k).host.slotDone = k.host.slotDone ∧ (sinkInt e v k).host.intStatus = k.host.intStatus ||| (1#4 <<< v) := by
  unfold sinkInt; dsimp only; split
  · simp [sinkMsix_keeps]
  · simp

theorem moderate_keeps (e : SinkEnv) (k : Sink) : (moderate e k).mem = k.mem ∧ (moderate e k).ctr = k.ctr
    ∧ (moderate e k).host.evrWrite = k.host.evrWrite ∧ (moderate e k).host.lostSince = k.host.lostSince ∧ (moderate e k).host.backlog = k.host.backlog := by
  unfold moderate; dsimp only; split
  · simp [sinkInt_keeps]
  · simp

/-- What writing a record into the ring does: its bytes, the index, and the shadow. -/
theorem ringWrite_does (e : SinkEnv) (r : EventRec) (k : Sink) :
    (ringWrite e r k).mem = (if k.host.shadowEn = true then
        memWrite (memWrite k.mem (ringAddr k.host) (eventBytes r)) (k.host.shadowHi.toNat * 2 ^ 32 + k.host.shadowLo.toNat)
          (leBytes 4 (k.host.evrWrite + 1).toNat)
      else memWrite k.mem (ringAddr k.host) (eventBytes r))
    ∧ (ringWrite e r k).host.evrWrite = k.host.evrWrite + 1 ∧ (ringWrite e r k).host.backlog = k.host.backlog
    ∧ (ringWrite e r k).ctr = k.ctr ∧ (ringWrite e r k).host.lostSince = k.host.lostSince := by
  unfold ringWrite; dsimp only
  split <;> simp [moderate_keeps, sinkInt_keeps]

theorem memRead_memWrite (bs : List Byte) : ∀ m a, memRead (memWrite m a bs) a bs.length = bs := by
  induction bs with
  | nil => intro m a; rfl
  | cons b t ih =>
    intro m a
    simp only [memWrite, List.length_cons, memRead, ih]
    rw [memGet_memWrite_out _ _ _ _ (by omega)]
    simp

@[simp] theorem leBytes_length : ∀ n v, (leBytes n v).length = n := by
  intro n
  induction n with
  | zero => intro v; rfl
  | succ n ih => intro v; simp [leBytes, ih]

@[simp] theorem eventBytes_length (r : EventRec) : (eventBytes r).length = 32 := by simp [eventBytes]

/-- Raising an event: nothing with the engine die off, else into the ring or into the backlog, at a time that never goes back. -/
theorem sinkRaise_eq (e : SinkEnv) (r : EventRec) (k : Sink) (on : e.eng = true) : sinkRaise e r k =
    (let k' : Sink := { k with host := { k.host with lastTime := Nat.max k.host.lastTime r.time.toNat } }
     if ringOpen e k.host && k.host.backlog.isEmpty then ringWrite e r k' else backlogPush e r k') := by
  simp only [sinkRaise, on]; rfl

theorem sinkRaise_ctr (e : SinkEnv) (r : EventRec) (k : Sink) (h : k.host.backlog.length < backlogMax) : (sinkRaise e r k).ctr = k.ctr := by
  unfold sinkRaise; split
  · rfl
  · dsimp only; split
    · simp [ringWrite_does]
    · simp [backlogPush, sinkInt_keeps, h]

theorem sinkRaise_len (e : SinkEnv) (r : EventRec) (k : Sink) : (sinkRaise e r k).host.backlog.length ≤ k.host.backlog.length + 1 := by
  unfold sinkRaise; split
  · omega
  · dsimp only; split
    · simp [ringWrite_does]
    · unfold backlogPush; simp only [sinkInt_keeps]; split <;> simp

/-- With room in the backlog an event changes no counter. -/
theorem raise_ctr (c so p l d0 d1 d2 : Nat) (s : State) (h : s.host.backlog.length < backlogMax) : (raise c so p l d0 d1 d2 s).ctr = s.ctr :=
  sinkRaise_ctr _ _ _ h

theorem raise_len (c so p l d0 d1 d2 : Nat) (s : State) : (raise c so p l d0 d1 d2 s).host.backlog.length ≤ s.host.backlog.length + 1 :=
  sinkRaise_len _ _ _

theorem iterate_none {σ : Type} (f : σ → Option σ) (n : Nat) (s : σ) (h : f s = none) : iterate f n s = s := by
  cases n <;> simp [iterate, h]

/-- Draining an empty backlog changes nothing. -/
theorem drain_nil (s : State) (h : s.host.backlog = []) : drain s = s := by
  unfold drain sinkDrain
  rw [iterate_none _ _ _ (by simp [drainOne, sinkOf, h])]
  rfl

/-- A count that does not pass all ones, or whose SAT bit is set already, changes its value alone. -/
theorem bump_quiet (id i n : Nat) (s : State) (d : CtrDesc) (hd : ctrDesc id = some d) (w : d.cls ≠ .w)
    (h : natGet s.ctr.vals (ctrKey id i) + n < 2 ^ d.width ∨ s.ctr.sat.contains (ctrKey id i) = true) :
    bump id i n s = { s with ctr := { s.ctr with
      vals := natSet s.ctr.vals (ctrKey id i) (Nat.min (2 ^ d.width - 1) (natGet s.ctr.vals (ctrKey id i) + n)) } } := by
  have k : ¬ (2 ^ d.width ≤ natGet s.ctr.vals (ctrKey id i) + n ∧ ¬ s.ctr.sat.contains (ctrKey id i) = true) := by
    rintro ⟨a, b⟩; rcases h with h | h
    · omega
    · exact b h
  simp only [bump, ctrAdd, hd, Option.getD_some, w, if_false, satAdd, k]
  rfl

/-- A class W count wraps and changes nothing else. -/
theorem bump_wraps (id i n : Nat) (s : State) (d : CtrDesc) (hd : ctrDesc id = some d) (w : d.cls = .w) :
    bump id i n s = { s with ctr := { s.ctr with
      vals := natSet s.ctr.vals (ctrKey id i) ((natGet s.ctr.vals (ctrKey id i) + n) % 2 ^ d.width) } } := by
  simp only [bump, ctrAdd, hd, Option.getD_some, w, if_true]
  rfl

end Sys2Proof.Machine
end

