-- ==== Sys2Proof/Laws/Parts.lean ====
section
/-! SUPPORT. Reading a numbered part after writing it, and what writing one leaves of the rest of the state. -/

namespace Sys2Proof.Machine

/-- Element `i` after a change of element `i`. -/
theorem getD_updAt_same {α : Type} (l : List α) (i : Nat) (f : α → α) (d : α) (h : i < l.length) : (updAt l i f).getD i d = f (l.getD i d) := by
  simp [updAt, List.getD, h]

/-- Element `j` after a change of another. -/
theorem getD_updAt_ne {α : Type} (l : List α) (i j : Nat) (f : α → α) (d : α) (h : i ≠ j) : (updAt l i f).getD j d = l.getD j d := by
  simp [updAt, List.getD, h]

/-- Two changes of one element are one. -/
theorem updAt_updAt {α : Type} (l : List α) (i : Nat) (f g : α → α) : updAt (updAt l i g) i f = updAt l i (fun x => f (g x)) := by
  simp [updAt, List.modify_modify_eq, Function.comp_def]

@[simp] theorem updAt_length {α : Type} (l : List α) (i : Nat) (f : α → α) : (updAt l i f).length = l.length := by simp [updAt]

theorem chan_setChan_same (i : Nat) (f : MuleChan → MuleChan) (s : State) (h : i < s.spool.chans.length) : chan (setChan i f s) i = f (chan s i) :=
  getD_updAt_same _ _ _ _ h

theorem chan_setChan_ne (i j : Nat) (f : MuleChan → MuleChan) (s : State) (h : i ≠ j) : chan (setChan i f s) j = chan s j := getD_updAt_ne _ _ _ _ _ h

@[simp] theorem setChan_length (i : Nat) (f : MuleChan → MuleChan) (s : State) : (setChan i f s).spool.chans.length = s.spool.chans.length := updAt_length _ _ _

@[simp] theorem setChan_now (i : Nat) (f : MuleChan → MuleChan) (s : State) : (setChan i f s).now = s.now := rfl
@[simp] theorem setChan_pending (i : Nat) (f : MuleChan → MuleChan) (s : State) : (setChan i f s).pending = s.pending := rfl
@[simp] theorem setChan_host (i : Nat) (f : MuleChan → MuleChan) (s : State) : (setChan i f s).host = s.host := rfl
@[simp] theorem setChan_ctr (i : Nat) (f : MuleChan → MuleChan) (s : State) : (setChan i f s).ctr = s.ctr := rfl
@[simp] theorem setChan_test (i : Nat) (f : MuleChan → MuleChan) (s : State) : (setChan i f s).test = s.test := rfl
@[simp] theorem setChan_page (i : Nat) (f : MuleChan → MuleChan) (s : State) : (setChan i f s).page = s.page := rfl
@[simp] theorem setChan_exp (i : Nat) (f : MuleChan → MuleChan) (s : State) : (setChan i f s).exp = s.exp := rfl
@[simp] theorem setChan_pos (i : Nat) (f : MuleChan → MuleChan) (s : State) : (setChan i f s).pos = s.pos := rfl
@[simp] theorem setChan_link (i : Nat) (f : MuleChan → MuleChan) (s : State) : (setChan i f s).link = s.link := rfl
@[simp] theorem setChan_tile (i : Nat) (f : MuleChan → MuleChan) (s : State) : (setChan i f s).tile = s.tile := rfl
@[simp] theorem setChan_cam (i : Nat) (f : MuleChan → MuleChan) (s : State) : (setChan i f s).cam = s.cam := rfl
@[simp] theorem setChan_cal (i : Nat) (f : MuleChan → MuleChan) (s : State) : (setChan i f s).cal = s.cal := rfl
@[simp] theorem setChan_loop (i : Nat) (f : MuleChan → MuleChan) (s : State) : (setChan i f s).loop = s.loop := rfl
@[simp] theorem setChan_motion (i : Nat) (f : MuleChan → MuleChan) (s : State) : (setChan i f s).motion = s.motion := rfl
@[simp] theorem setChan_mem (i : Nat) (f : MuleChan → MuleChan) (s : State) : (setChan i f s).mem = s.mem := rfl
@[simp] theorem setChan_sup (i : Nat) (f : MuleChan → MuleChan) (s : State) : (setChan i f s).sup = s.sup := rfl
@[simp] theorem setChan_fw (i : Nat) (f : MuleChan → MuleChan) (s : State) : (setChan i f s).fw = s.fw := rfl
@[simp] theorem setChan_board (i : Nat) (f : MuleChan → MuleChan) (s : State) : (setChan i f s).board = s.board := rfl
@[simp] theorem setChan_active (i : Nat) (f : MuleChan → MuleChan) (s : State) : (setChan i f s).active = s.active := rfl
@[simp] theorem setChan_hostMem (i : Nat) (f : MuleChan → MuleChan) (s : State) : (setChan i f s).hostMem = s.hostMem := rfl
@[simp] theorem setChan_hostBad (i : Nat) (f : MuleChan → MuleChan) (s : State) : (setChan i f s).hostBad = s.hostBad := rfl
@[simp] theorem setChan_out (i : Nat) (f : MuleChan → MuleChan) (s : State) : (setChan i f s).out = s.out := rfl
@[simp] theorem setChan_free (i : Nat) (f : MuleChan → MuleChan) (s : State) : (setChan i f s).free = s.free := rfl

theorem trk_setTrk_same (i : Nat) (f : Tracker → Tracker) (s : State) (h : i < s.pos.trackers.length) : trk (setTrk i f s) i = f (trk s i) :=
  getD_updAt_same _ _ _ _ h

theorem trk_setTrk_ne (i j : Nat) (f : Tracker → Tracker) (s : State) (h : i ≠ j) : trk (setTrk i f s) j = trk s j := getD_updAt_ne _ _ _ _ _ h

@[simp] theorem setTrk_length (i : Nat) (f : Tracker → Tracker) (s : State) : (setTrk i f s).pos.trackers.length = s.pos.trackers.length := updAt_length _ _ _

@[simp] theorem setTrk_now (i : Nat) (f : Tracker → Tracker) (s : State) : (setTrk i f s).now = s.now := rfl
@[simp] theorem setTrk_pending (i : Nat) (f : Tracker → Tracker) (s : State) : (setTrk i f s).pending = s.pending := rfl
@[simp] theorem setTrk_host (i : Nat) (f : Tracker → Tracker) (s : State) : (setTrk i f s).host = s.host := rfl
@[simp] theorem setTrk_ctr (i : Nat) (f : Tracker → Tracker) (s : State) : (setTrk i f s).ctr = s.ctr := rfl
@[simp] theorem setTrk_test (i : Nat) (f : Tracker → Tracker) (s : State) : (setTrk i f s).test = s.test := rfl
@[simp] theorem setTrk_page (i : Nat) (f : Tracker → Tracker) (s : State) : (setTrk i f s).page = s.page := rfl
@[simp] theorem setTrk_spool (i : Nat) (f : Tracker → Tracker) (s : State) : (setTrk i f s).spool = s.spool := rfl
@[simp] theorem setTrk_exp (i : Nat) (f : Tracker → Tracker) (s : State) : (setTrk i f s).exp = s.exp := rfl
@[simp] theorem setTrk_link (i : Nat) (f : Tracker → Tracker) (s : State) : (setTrk i f s).link = s.link := rfl
@[simp] theorem setTrk_tile (i : Nat) (f : Tracker → Tracker) (s : State) : (setTrk i f s).tile = s.tile := rfl
@[simp] theorem setTrk_cam (i : Nat) (f : Tracker → Tracker) (s : State) : (setTrk i f s).cam = s.cam := rfl
@[simp] theorem setTrk_cal (i : Nat) (f : Tracker → Tracker) (s : State) : (setTrk i f s).cal = s.cal := rfl
@[simp] theorem setTrk_loop (i : Nat) (f : Tracker → Tracker) (s : State) : (setTrk i f s).loop = s.loop := rfl
@[simp] theorem setTrk_motion (i : Nat) (f : Tracker → Tracker) (s : State) : (setTrk i f s).motion = s.motion := rfl
@[simp] theorem setTrk_mem (i : Nat) (f : Tracker → Tracker) (s : State) : (setTrk i f s).mem = s.mem := rfl
@[simp] theorem setTrk_sup (i : Nat) (f : Tracker → Tracker) (s : State) : (setTrk i f s).sup = s.sup := rfl
@[simp] theorem setTrk_fw (i : Nat) (f : Tracker → Tracker) (s : State) : (setTrk i f s).fw = s.fw := rfl
@[simp] theorem setTrk_board (i : Nat) (f : Tracker → Tracker) (s : State) : (setTrk i f s).board = s.board := rfl
@[simp] theorem setTrk_active (i : Nat) (f : Tracker → Tracker) (s : State) : (setTrk i f s).active = s.active := rfl
@[simp] theorem setTrk_hostMem (i : Nat) (f : Tracker → Tracker) (s : State) : (setTrk i f s).hostMem = s.hostMem := rfl
@[simp] theorem setTrk_hostBad (i : Nat) (f : Tracker → Tracker) (s : State) : (setTrk i f s).hostBad = s.hostBad := rfl
@[simp] theorem setTrk_out (i : Nat) (f : Tracker → Tracker) (s : State) : (setTrk i f s).out = s.out := rfl
@[simp] theorem setTrk_free (i : Nat) (f : Tracker → Tracker) (s : State) : (setTrk i f s).free = s.free := rfl

theorem port_setPort_same (i : Nat) (f : Port → Port) (s : State) (h : i < s.link.ports.length) : port (setPort i f s) i = f (port s i) :=
  getD_updAt_same _ _ _ _ h

theorem port_setPort_ne (i j : Nat) (f : Port → Port) (s : State) (h : i ≠ j) : port (setPort i f s) j = port s j := getD_updAt_ne _ _ _ _ _ h

@[simp] theorem setPort_length (i : Nat) (f : Port → Port) (s : State) : (setPort i f s).link.ports.length = s.link.ports.length := updAt_length _ _ _

@[simp] theorem setPort_now (i : Nat) (f : Port → Port) (s : State) : (setPort i f s).now = s.now := rfl
@[simp] theorem setPort_pending (i : Nat) (f : Port → Port) (s : State) : (setPort i f s).pending = s.pending := rfl
@[simp] theorem setPort_host (i : Nat) (f : Port → Port) (s : State) : (setPort i f s).host = s.host := rfl
@[simp] theorem setPort_ctr (i : Nat) (f : Port → Port) (s : State) : (setPort i f s).ctr = s.ctr := rfl
@[simp] theorem setPort_test (i : Nat) (f : Port → Port) (s : State) : (setPort i f s).test = s.test := rfl
@[simp] theorem setPort_page (i : Nat) (f : Port → Port) (s : State) : (setPort i f s).page = s.page := rfl
@[simp] theorem setPort_spool (i : Nat) (f : Port → Port) (s : State) : (setPort i f s).spool = s.spool := rfl
@[simp] theorem setPort_exp (i : Nat) (f : Port → Port) (s : State) : (setPort i f s).exp = s.exp := rfl
@[simp] theorem setPort_pos (i : Nat) (f : Port → Port) (s : State) : (setPort i f s).pos = s.pos := rfl
@[simp] theorem setPort_tile (i : Nat) (f : Port → Port) (s : State) : (setPort i f s).tile = s.tile := rfl
@[simp] theorem setPort_cam (i : Nat) (f : Port → Port) (s : State) : (setPort i f s).cam = s.cam := rfl
@[simp] theorem setPort_cal (i : Nat) (f : Port → Port) (s : State) : (setPort i f s).cal = s.cal := rfl
@[simp] theorem setPort_loop (i : Nat) (f : Port → Port) (s : State) : (setPort i f s).loop = s.loop := rfl
@[simp] theorem setPort_motion (i : Nat) (f : Port → Port) (s : State) : (setPort i f s).motion = s.motion := rfl
@[simp] theorem setPort_mem (i : Nat) (f : Port → Port) (s : State) : (setPort i f s).mem = s.mem := rfl
@[simp] theorem setPort_sup (i : Nat) (f : Port → Port) (s : State) : (setPort i f s).sup = s.sup := rfl
@[simp] theorem setPort_fw (i : Nat) (f : Port → Port) (s : State) : (setPort i f s).fw = s.fw := rfl
@[simp] theorem setPort_board (i : Nat) (f : Port → Port) (s : State) : (setPort i f s).board = s.board := rfl
@[simp] theorem setPort_active (i : Nat) (f : Port → Port) (s : State) : (setPort i f s).active = s.active := rfl
@[simp] theorem setPort_hostMem (i : Nat) (f : Port → Port) (s : State) : (setPort i f s).hostMem = s.hostMem := rfl
@[simp] theorem setPort_hostBad (i : Nat) (f : Port → Port) (s : State) : (setPort i f s).hostBad = s.hostBad := rfl
@[simp] theorem setPort_out (i : Nat) (f : Port → Port) (s : State) : (setPort i f s).out = s.out := rfl
@[simp] theorem setPort_free (i : Nat) (f : Port → Port) (s : State) : (setPort i f s).free = s.free := rfl

theorem tileOf_setTile_same (i : Nat) (f : Tile → Tile) (s : State) (h : i < s.tile.tiles.length) : tileOf (setTile i f s) i = f (tileOf s i) :=
  getD_updAt_same _ _ _ _ h

theorem tileOf_setTile_ne (i j : Nat) (f : Tile → Tile) (s : State) (h : i ≠ j) : tileOf (setTile i f s) j = tileOf s j := getD_updAt_ne _ _ _ _ _ h

@[simp] theorem setTile_length (i : Nat) (f : Tile → Tile) (s : State) : (setTile i f s).tile.tiles.length = s.tile.tiles.length := updAt_length _ _ _

@[simp] theorem setTile_now (i : Nat) (f : Tile → Tile) (s : State) : (setTile i f s).now = s.now := rfl
@[simp] theorem setTile_pending (i : Nat) (f : Tile → Tile) (s : State) : (setTile i f s).pending = s.pending := rfl
@[simp] theorem setTile_host (i : Nat) (f : Tile → Tile) (s : State) : (setTile i f s).host = s.host := rfl
@[simp] theorem setTile_ctr (i : Nat) (f : Tile → Tile) (s : State) : (setTile i f s).ctr = s.ctr := rfl
@[simp] theorem setTile_test (i : Nat) (f : Tile → Tile) (s : State) : (setTile i f s).test = s.test := rfl
@[simp] theorem setTile_page (i : Nat) (f : Tile → Tile) (s : State) : (setTile i f s).page = s.page := rfl
@[simp] theorem setTile_spool (i : Nat) (f : Tile → Tile) (s : State) : (setTile i f s).spool = s.spool := rfl
@[simp] theorem setTile_exp (i : Nat) (f : Tile → Tile) (s : State) : (setTile i f s).exp = s.exp := rfl
@[simp] theorem setTile_pos (i : Nat) (f : Tile → Tile) (s : State) : (setTile i f s).pos = s.pos := rfl
@[simp] theorem setTile_link (i : Nat) (f : Tile → Tile) (s : State) : (setTile i f s).link = s.link := rfl
@[simp] theorem setTile_cam (i : Nat) (f : Tile → Tile) (s : State) : (setTile i f s).cam = s.cam := rfl
@[simp] theorem setTile_cal (i : Nat) (f : Tile → Tile) (s : State) : (setTile i f s).cal = s.cal := rfl
@[simp] theorem setTile_loop (i : Nat) (f : Tile → Tile) (s : State) : (setTile i f s).loop = s.loop := rfl
@[simp] theorem setTile_motion (i : Nat) (f : Tile → Tile) (s : State) : (setTile i f s).motion = s.motion := rfl
@[simp] theorem setTile_mem (i : Nat) (f : Tile → Tile) (s : State) : (setTile i f s).mem = s.mem := rfl
@[simp] theorem setTile_sup (i : Nat) (f : Tile → Tile) (s : State) : (setTile i f s).sup = s.sup := rfl
@[simp] theorem setTile_fw (i : Nat) (f : Tile → Tile) (s : State) : (setTile i f s).fw = s.fw := rfl
@[simp] theorem setTile_board (i : Nat) (f : Tile → Tile) (s : State) : (setTile i f s).board = s.board := rfl
@[simp] theorem setTile_active (i : Nat) (f : Tile → Tile) (s : State) : (setTile i f s).active = s.active := rfl
@[simp] theorem setTile_hostMem (i : Nat) (f : Tile → Tile) (s : State) : (setTile i f s).hostMem = s.hostMem := rfl
@[simp] theorem setTile_hostBad (i : Nat) (f : Tile → Tile) (s : State) : (setTile i f s).hostBad = s.hostBad := rfl
@[simp] theorem setTile_out (i : Nat) (f : Tile → Tile) (s : State) : (setTile i f s).out = s.out := rfl
@[simp] theorem setTile_free (i : Nat) (f : Tile → Tile) (s : State) : (setTile i f s).free = s.free := rfl

theorem eng_setEng_same (i : Nat) (f : Engine → Engine) (s : State) (h : i < s.exp.engines.length) : eng (setEng i f s) i = f (eng s i) :=
  getD_updAt_same _ _ _ _ h

theorem eng_setEng_ne (i j : Nat) (f : Engine → Engine) (s : State) (h : i ≠ j) : eng (setEng i f s) j = eng s j := getD_updAt_ne _ _ _ _ _ h

@[simp] theorem setEng_length (i : Nat) (f : Engine → Engine) (s : State) : (setEng i f s).exp.engines.length = s.exp.engines.length := updAt_length _ _ _

@[simp] theorem setEng_now (i : Nat) (f : Engine → Engine) (s : State) : (setEng i f s).now = s.now := rfl
@[simp] theorem setEng_pending (i : Nat) (f : Engine → Engine) (s : State) : (setEng i f s).pending = s.pending := rfl
@[simp] theorem setEng_host (i : Nat) (f : Engine → Engine) (s : State) : (setEng i f s).host = s.host := rfl
@[simp] theorem setEng_ctr (i : Nat) (f : Engine → Engine) (s : State) : (setEng i f s).ctr = s.ctr := rfl
@[simp] theorem setEng_test (i : Nat) (f : Engine → Engine) (s : State) : (setEng i f s).test = s.test := rfl
@[simp] theorem setEng_page (i : Nat) (f : Engine → Engine) (s : State) : (setEng i f s).page = s.page := rfl
@[simp] theorem setEng_spool (i : Nat) (f : Engine → Engine) (s : State) : (setEng i f s).spool = s.spool := rfl
@[simp] theorem setEng_pos (i : Nat) (f : Engine → Engine) (s : State) : (setEng i f s).pos = s.pos := rfl
@[simp] theorem setEng_link (i : Nat) (f : Engine → Engine) (s : State) : (setEng i f s).link = s.link := rfl
@[simp] theorem setEng_tile (i : Nat) (f : Engine → Engine) (s : State) : (setEng i f s).tile = s.tile := rfl
@[simp] theorem setEng_cam (i : Nat) (f : Engine → Engine) (s : State) : (setEng i f s).cam = s.cam := rfl
@[simp] theorem setEng_cal (i : Nat) (f : Engine → Engine) (s : State) : (setEng i f s).cal = s.cal := rfl
@[simp] theorem setEng_loop (i : Nat) (f : Engine → Engine) (s : State) : (setEng i f s).loop = s.loop := rfl
@[simp] theorem setEng_motion (i : Nat) (f : Engine → Engine) (s : State) : (setEng i f s).motion = s.motion := rfl
@[simp] theorem setEng_mem (i : Nat) (f : Engine → Engine) (s : State) : (setEng i f s).mem = s.mem := rfl
@[simp] theorem setEng_sup (i : Nat) (f : Engine → Engine) (s : State) : (setEng i f s).sup = s.sup := rfl
@[simp] theorem setEng_fw (i : Nat) (f : Engine → Engine) (s : State) : (setEng i f s).fw = s.fw := rfl
@[simp] theorem setEng_board (i : Nat) (f : Engine → Engine) (s : State) : (setEng i f s).board = s.board := rfl
@[simp] theorem setEng_active (i : Nat) (f : Engine → Engine) (s : State) : (setEng i f s).active = s.active := rfl
@[simp] theorem setEng_hostMem (i : Nat) (f : Engine → Engine) (s : State) : (setEng i f s).hostMem = s.hostMem := rfl
@[simp] theorem setEng_hostBad (i : Nat) (f : Engine → Engine) (s : State) : (setEng i f s).hostBad = s.hostBad := rfl
@[simp] theorem setEng_out (i : Nat) (f : Engine → Engine) (s : State) : (setEng i f s).out = s.out := rfl
@[simp] theorem setEng_free (i : Nat) (f : Engine → Engine) (s : State) : (setEng i f s).free = s.free := rfl

theorem camPort_setPortCam_same (i : Nat) (f : CamPort → CamPort) (s : State) (h : i < s.cam.ports.length) : camPort (setPortCam i f s) i = f (camPort s i) :=
  getD_updAt_same _ _ _ _ h

theorem camPort_setPortCam_ne (i j : Nat) (f : CamPort → CamPort) (s : State) (h : i ≠ j) : camPort (setPortCam i f s) j = camPort s j := getD_updAt_ne _ _ _ _ _ h

@[simp] theorem setPortCam_length (i : Nat) (f : CamPort → CamPort) (s : State) : (setPortCam i f s).cam.ports.length = s.cam.ports.length := updAt_length _ _ _

@[simp] theorem setPortCam_now (i : Nat) (f : CamPort → CamPort) (s : State) : (setPortCam i f s).now = s.now := rfl
@[simp] theorem setPortCam_pending (i : Nat) (f : CamPort → CamPort) (s : State) : (setPortCam i f s).pending = s.pending := rfl
@[simp] theorem setPortCam_host (i : Nat) (f : CamPort → CamPort) (s : State) : (setPortCam i f s).host = s.host := rfl
@[simp] theorem setPortCam_ctr (i : Nat) (f : CamPort → CamPort) (s : State) : (setPortCam i f s).ctr = s.ctr := rfl
@[simp] theorem setPortCam_test (i : Nat) (f : CamPort → CamPort) (s : State) : (setPortCam i f s).test = s.test := rfl
@[simp] theorem setPortCam_page (i : Nat) (f : CamPort → CamPort) (s : State) : (setPortCam i f s).page = s.page := rfl
@[simp] theorem setPortCam_spool (i : Nat) (f : CamPort → CamPort) (s : State) : (setPortCam i f s).spool = s.spool := rfl
@[simp] theorem setPortCam_exp (i : Nat) (f : CamPort → CamPort) (s : State) : (setPortCam i f s).exp = s.exp := rfl
@[simp] theorem setPortCam_pos (i : Nat) (f : CamPort → CamPort) (s : State) : (setPortCam i f s).pos = s.pos := rfl
@[simp] theorem setPortCam_link (i : Nat) (f : CamPort → CamPort) (s : State) : (setPortCam i f s).link = s.link := rfl
@[simp] theorem setPortCam_tile (i : Nat) (f : CamPort → CamPort) (s : State) : (setPortCam i f s).tile = s.tile := rfl
@[simp] theorem setPortCam_cal (i : Nat) (f : CamPort → CamPort) (s : State) : (setPortCam i f s).cal = s.cal := rfl
@[simp] theorem setPortCam_loop (i : Nat) (f : CamPort → CamPort) (s : State) : (setPortCam i f s).loop = s.loop := rfl
@[simp] theorem setPortCam_motion (i : Nat) (f : CamPort → CamPort) (s : State) : (setPortCam i f s).motion = s.motion := rfl
@[simp] theorem setPortCam_mem (i : Nat) (f : CamPort → CamPort) (s : State) : (setPortCam i f s).mem = s.mem := rfl
@[simp] theorem setPortCam_sup (i : Nat) (f : CamPort → CamPort) (s : State) : (setPortCam i f s).sup = s.sup := rfl
@[simp] theorem setPortCam_fw (i : Nat) (f : CamPort → CamPort) (s : State) : (setPortCam i f s).fw = s.fw := rfl
@[simp] theorem setPortCam_board (i : Nat) (f : CamPort → CamPort) (s : State) : (setPortCam i f s).board = s.board := rfl
@[simp] theorem setPortCam_active (i : Nat) (f : CamPort → CamPort) (s : State) : (setPortCam i f s).active = s.active := rfl
@[simp] theorem setPortCam_hostMem (i : Nat) (f : CamPort → CamPort) (s : State) : (setPortCam i f s).hostMem = s.hostMem := rfl
@[simp] theorem setPortCam_hostBad (i : Nat) (f : CamPort → CamPort) (s : State) : (setPortCam i f s).hostBad = s.hostBad := rfl
@[simp] theorem setPortCam_out (i : Nat) (f : CamPort → CamPort) (s : State) : (setPortCam i f s).out = s.out := rfl
@[simp] theorem setPortCam_free (i : Nat) (f : CamPort → CamPort) (s : State) : (setPortCam i f s).free = s.free := rfl

theorem loopOf_setLoop_same (i : Nat) (f : LoopSlot → LoopSlot) (s : State) (h : i < s.loop.slots.length) : loopOf (setLoop i f s) i = f (loopOf s i) :=
  getD_updAt_same _ _ _ _ h

theorem loopOf_setLoop_ne (i j : Nat) (f : LoopSlot → LoopSlot) (s : State) (h : i ≠ j) : loopOf (setLoop i f s) j = loopOf s j := getD_updAt_ne _ _ _ _ _ h

@[simp] theorem setLoop_length (i : Nat) (f : LoopSlot → LoopSlot) (s : State) : (setLoop i f s).loop.slots.length = s.loop.slots.length := updAt_length _ _ _

@[simp] theorem setLoop_now (i : Nat) (f : LoopSlot → LoopSlot) (s : State) : (setLoop i f s).now = s.now := rfl
@[simp] theorem setLoop_pending (i : Nat) (f : LoopSlot → LoopSlot) (s : State) : (setLoop i f s).pending = s.pending := rfl
@[simp] theorem setLoop_host (i : Nat) (f : LoopSlot → LoopSlot) (s : State) : (setLoop i f s).host = s.host := rfl
@[simp] theorem setLoop_ctr (i : Nat) (f : LoopSlot → LoopSlot) (s : State) : (setLoop i f s).ctr = s.ctr := rfl
@[simp] theorem setLoop_test (i : Nat) (f : LoopSlot → LoopSlot) (s : State) : (setLoop i f s).test = s.test := rfl
@[simp] theorem setLoop_page (i : Nat) (f : LoopSlot → LoopSlot) (s : State) : (setLoop i f s).page = s.page := rfl
@[simp] theorem setLoop_spool (i : Nat) (f : LoopSlot → LoopSlot) (s : State) : (setLoop i f s).spool = s.spool := rfl
@[simp] theorem setLoop_exp (i : Nat) (f : LoopSlot → LoopSlot) (s : State) : (setLoop i f s).exp = s.exp := rfl
@[simp] theorem setLoop_pos (i : Nat) (f : LoopSlot → LoopSlot) (s : State) : (setLoop i f s).pos = s.pos := rfl
@[simp] theorem setLoop_link (i : Nat) (f : LoopSlot → LoopSlot) (s : State) : (setLoop i f s).link = s.link := rfl
@[simp] theorem setLoop_tile (i : Nat) (f : LoopSlot → LoopSlot) (s : State) : (setLoop i f s).tile = s.tile := rfl
@[simp] theorem setLoop_cam (i : Nat) (f : LoopSlot → LoopSlot) (s : State) : (setLoop i f s).cam = s.cam := rfl
@[simp] theorem setLoop_cal (i : Nat) (f : LoopSlot → LoopSlot) (s : State) : (setLoop i f s).cal = s.cal := rfl
@[simp] theorem setLoop_motion (i : Nat) (f : LoopSlot → LoopSlot) (s : State) : (setLoop i f s).motion = s.motion := rfl
@[simp] theorem setLoop_mem (i : Nat) (f : LoopSlot → LoopSlot) (s : State) : (setLoop i f s).mem = s.mem := rfl
@[simp] theorem setLoop_sup (i : Nat) (f : LoopSlot → LoopSlot) (s : State) : (setLoop i f s).sup = s.sup := rfl
@[simp] theorem setLoop_fw (i : Nat) (f : LoopSlot → LoopSlot) (s : State) : (setLoop i f s).fw = s.fw := rfl
@[simp] theorem setLoop_board (i : Nat) (f : LoopSlot → LoopSlot) (s : State) : (setLoop i f s).board = s.board := rfl
@[simp] theorem setLoop_active (i : Nat) (f : LoopSlot → LoopSlot) (s : State) : (setLoop i f s).active = s.active := rfl
@[simp] theorem setLoop_hostMem (i : Nat) (f : LoopSlot → LoopSlot) (s : State) : (setLoop i f s).hostMem = s.hostMem := rfl
@[simp] theorem setLoop_hostBad (i : Nat) (f : LoopSlot → LoopSlot) (s : State) : (setLoop i f s).hostBad = s.hostBad := rfl
@[simp] theorem setLoop_out (i : Nat) (f : LoopSlot → LoopSlot) (s : State) : (setLoop i f s).out = s.out := rfl
@[simp] theorem setLoop_free (i : Nat) (f : LoopSlot → LoopSlot) (s : State) : (setLoop i f s).free = s.free := rfl

theorem hvOf_setHv_same (i : Nat) (f : HvChan → HvChan) (s : State) (h : i < s.loop.hv.length) : hvOf (setHv i f s) i = f (hvOf s i) :=
  getD_updAt_same _ _ _ _ h

theorem hvOf_setHv_ne (i j : Nat) (f : HvChan → HvChan) (s : State) (h : i ≠ j) : hvOf (setHv i f s) j = hvOf s j := getD_updAt_ne _ _ _ _ _ h

@[simp] theorem setHv_length (i : Nat) (f : HvChan → HvChan) (s : State) : (setHv i f s).loop.hv.length = s.loop.hv.length := updAt_length _ _ _

@[simp] theorem setHv_now (i : Nat) (f : HvChan → HvChan) (s : State) : (setHv i f s).now = s.now := rfl
@[simp] theorem setHv_pending (i : Nat) (f : HvChan → HvChan) (s : State) : (setHv i f s).pending = s.pending := rfl
@[simp] theorem setHv_host (i : Nat) (f : HvChan → HvChan) (s : State) : (setHv i f s).host = s.host := rfl
@[simp] theorem setHv_ctr (i : Nat) (f : HvChan → HvChan) (s : State) : (setHv i f s).ctr = s.ctr := rfl
@[simp] theorem setHv_test (i : Nat) (f : HvChan → HvChan) (s : State) : (setHv i f s).test = s.test := rfl
@[simp] theorem setHv_page (i : Nat) (f : HvChan → HvChan) (s : State) : (setHv i f s).page = s.page := rfl
@[simp] theorem setHv_spool (i : Nat) (f : HvChan → HvChan) (s : State) : (setHv i f s).spool = s.spool := rfl
@[simp] theorem setHv_exp (i : Nat) (f : HvChan → HvChan) (s : State) : (setHv i f s).exp = s.exp := rfl
@[simp] theorem setHv_pos (i : Nat) (f : HvChan → HvChan) (s : State) : (setHv i f s).pos = s.pos := rfl
@[simp] theorem setHv_link (i : Nat) (f : HvChan → HvChan) (s : State) : (setHv i f s).link = s.link := rfl
@[simp] theorem setHv_tile (i : Nat) (f : HvChan → HvChan) (s : State) : (setHv i f s).tile = s.tile := rfl
@[simp] theorem setHv_cam (i : Nat) (f : HvChan → HvChan) (s : State) : (setHv i f s).cam = s.cam := rfl
@[simp] theorem setHv_cal (i : Nat) (f : HvChan → HvChan) (s : State) : (setHv i f s).cal = s.cal := rfl
@[simp] theorem setHv_motion (i : Nat) (f : HvChan → HvChan) (s : State) : (setHv i f s).motion = s.motion := rfl
@[simp] theorem setHv_mem (i : Nat) (f : HvChan → HvChan) (s : State) : (setHv i f s).mem = s.mem := rfl
@[simp] theorem setHv_sup (i : Nat) (f : HvChan → HvChan) (s : State) : (setHv i f s).sup = s.sup := rfl
@[simp] theorem setHv_fw (i : Nat) (f : HvChan → HvChan) (s : State) : (setHv i f s).fw = s.fw := rfl
@[simp] theorem setHv_board (i : Nat) (f : HvChan → HvChan) (s : State) : (setHv i f s).board = s.board := rfl
@[simp] theorem setHv_active (i : Nat) (f : HvChan → HvChan) (s : State) : (setHv i f s).active = s.active := rfl
@[simp] theorem setHv_hostMem (i : Nat) (f : HvChan → HvChan) (s : State) : (setHv i f s).hostMem = s.hostMem := rfl
@[simp] theorem setHv_hostBad (i : Nat) (f : HvChan → HvChan) (s : State) : (setHv i f s).hostBad = s.hostBad := rfl
@[simp] theorem setHv_out (i : Nat) (f : HvChan → HvChan) (s : State) : (setHv i f s).out = s.out := rfl
@[simp] theorem setHv_free (i : Nat) (f : HvChan → HvChan) (s : State) : (setHv i f s).free = s.free := rfl

theorem zoneOf_setZone_same (i : Nat) (f : FuserZone → FuserZone) (s : State) (h : i < s.loop.zones.length) : zoneOf (setZone i f s) i = f (zoneOf s i) :=
  getD_updAt_same _ _ _ _ h

theorem zoneOf_setZone_ne (i j : Nat) (f : FuserZone → FuserZone) (s : State) (h : i ≠ j) : zoneOf (setZone i f s) j = zoneOf s j := getD_updAt_ne _ _ _ _ _ h

@[simp] theorem setZone_length (i : Nat) (f : FuserZone → FuserZone) (s : State) : (setZone i f s).loop.zones.length = s.loop.zones.length := updAt_length _ _ _

@[simp] theorem setZone_now (i : Nat) (f : FuserZone → FuserZone) (s : State) : (setZone i f s).now = s.now := rfl
@[simp] theorem setZone_pending (i : Nat) (f : FuserZone → FuserZone) (s : State) : (setZone i f s).pending = s.pending := rfl
@[simp] theorem setZone_host (i : Nat) (f : FuserZone → FuserZone) (s : State) : (setZone i f s).host = s.host := rfl
@[simp] theorem setZone_ctr (i : Nat) (f : FuserZone → FuserZone) (s : State) : (setZone i f s).ctr = s.ctr := rfl
@[simp] theorem setZone_test (i : Nat) (f : FuserZone → FuserZone) (s : State) : (setZone i f s).test = s.test := rfl
@[simp] theorem setZone_page (i : Nat) (f : FuserZone → FuserZone) (s : State) : (setZone i f s).page = s.page := rfl
@[simp] theorem setZone_spool (i : Nat) (f : FuserZone → FuserZone) (s : State) : (setZone i f s).spool = s.spool := rfl
@[simp] theorem setZone_exp (i : Nat) (f : FuserZone → FuserZone) (s : State) : (setZone i f s).exp = s.exp := rfl
@[simp] theorem setZone_pos (i : Nat) (f : FuserZone → FuserZone) (s : State) : (setZone i f s).pos = s.pos := rfl
@[simp] theorem setZone_link (i : Nat) (f : FuserZone → FuserZone) (s : State) : (setZone i f s).link = s.link := rfl
@[simp] theorem setZone_tile (i : Nat) (f : FuserZone → FuserZone) (s : State) : (setZone i f s).tile = s.tile := rfl
@[simp] theorem setZone_cam (i : Nat) (f : FuserZone → FuserZone) (s : State) : (setZone i f s).cam = s.cam := rfl
@[simp] theorem setZone_cal (i : Nat) (f : FuserZone → FuserZone) (s : State) : (setZone i f s).cal = s.cal := rfl
@[simp] theorem setZone_motion (i : Nat) (f : FuserZone → FuserZone) (s : State) : (setZone i f s).motion = s.motion := rfl
@[simp] theorem setZone_mem (i : Nat) (f : FuserZone → FuserZone) (s : State) : (setZone i f s).mem = s.mem := rfl
@[simp] theorem setZone_sup (i : Nat) (f : FuserZone → FuserZone) (s : State) : (setZone i f s).sup = s.sup := rfl
@[simp] theorem setZone_fw (i : Nat) (f : FuserZone → FuserZone) (s : State) : (setZone i f s).fw = s.fw := rfl
@[simp] theorem setZone_board (i : Nat) (f : FuserZone → FuserZone) (s : State) : (setZone i f s).board = s.board := rfl
@[simp] theorem setZone_active (i : Nat) (f : FuserZone → FuserZone) (s : State) : (setZone i f s).active = s.active := rfl
@[simp] theorem setZone_hostMem (i : Nat) (f : FuserZone → FuserZone) (s : State) : (setZone i f s).hostMem = s.hostMem := rfl
@[simp] theorem setZone_hostBad (i : Nat) (f : FuserZone → FuserZone) (s : State) : (setZone i f s).hostBad = s.hostBad := rfl
@[simp] theorem setZone_out (i : Nat) (f : FuserZone → FuserZone) (s : State) : (setZone i f s).out = s.out := rfl
@[simp] theorem setZone_free (i : Nat) (f : FuserZone → FuserZone) (s : State) : (setZone i f s).free = s.free := rfl

theorem drv_setDrv_same (i : Nat) (f : Drive → Drive) (s : State) (h : i < s.motion.drives.length) : drv (setDrv i f s) i = f (drv s i) :=
  getD_updAt_same _ _ _ _ h

theorem drv_setDrv_ne (i j : Nat) (f : Drive → Drive) (s : State) (h : i ≠ j) : drv (setDrv i f s) j = drv s j := getD_updAt_ne _ _ _ _ _ h

@[simp] theorem setDrv_length (i : Nat) (f : Drive → Drive) (s : State) : (setDrv i f s).motion.drives.length = s.motion.drives.length := updAt_length _ _ _

@[simp] theorem setDrv_now (i : Nat) (f : Drive → Drive) (s : State) : (setDrv i f s).now = s.now := rfl
@[simp] theorem setDrv_pending (i : Nat) (f : Drive → Drive) (s : State) : (setDrv i f s).pending = s.pending := rfl
@[simp] theorem setDrv_host (i : Nat) (f : Drive → Drive) (s : State) : (setDrv i f s).host = s.host := rfl
@[simp] theorem setDrv_ctr (i : Nat) (f : Drive → Drive) (s : State) : (setDrv i f s).ctr = s.ctr := rfl
@[simp] theorem setDrv_test (i : Nat) (f : Drive → Drive) (s : State) : (setDrv i f s).test = s.test := rfl
@[simp] theorem setDrv_page (i : Nat) (f : Drive → Drive) (s : State) : (setDrv i f s).page = s.page := rfl
@[simp] theorem setDrv_spool (i : Nat) (f : Drive → Drive) (s : State) : (setDrv i f s).spool = s.spool := rfl
@[simp] theorem setDrv_exp (i : Nat) (f : Drive → Drive) (s : State) : (setDrv i f s).exp = s.exp := rfl
@[simp] theorem setDrv_pos (i : Nat) (f : Drive → Drive) (s : State) : (setDrv i f s).pos = s.pos := rfl
@[simp] theorem setDrv_link (i : Nat) (f : Drive → Drive) (s : State) : (setDrv i f s).link = s.link := rfl
@[simp] theorem setDrv_tile (i : Nat) (f : Drive → Drive) (s : State) : (setDrv i f s).tile = s.tile := rfl
@[simp] theorem setDrv_cam (i : Nat) (f : Drive → Drive) (s : State) : (setDrv i f s).cam = s.cam := rfl
@[simp] theorem setDrv_cal (i : Nat) (f : Drive → Drive) (s : State) : (setDrv i f s).cal = s.cal := rfl
@[simp] theorem setDrv_loop (i : Nat) (f : Drive → Drive) (s : State) : (setDrv i f s).loop = s.loop := rfl
@[simp] theorem setDrv_mem (i : Nat) (f : Drive → Drive) (s : State) : (setDrv i f s).mem = s.mem := rfl
@[simp] theorem setDrv_sup (i : Nat) (f : Drive → Drive) (s : State) : (setDrv i f s).sup = s.sup := rfl
@[simp] theorem setDrv_fw (i : Nat) (f : Drive → Drive) (s : State) : (setDrv i f s).fw = s.fw := rfl
@[simp] theorem setDrv_board (i : Nat) (f : Drive → Drive) (s : State) : (setDrv i f s).board = s.board := rfl
@[simp] theorem setDrv_active (i : Nat) (f : Drive → Drive) (s : State) : (setDrv i f s).active = s.active := rfl
@[simp] theorem setDrv_hostMem (i : Nat) (f : Drive → Drive) (s : State) : (setDrv i f s).hostMem = s.hostMem := rfl
@[simp] theorem setDrv_hostBad (i : Nat) (f : Drive → Drive) (s : State) : (setDrv i f s).hostBad = s.hostBad := rfl
@[simp] theorem setDrv_out (i : Nat) (f : Drive → Drive) (s : State) : (setDrv i f s).out = s.out := rfl
@[simp] theorem setDrv_free (i : Nat) (f : Drive → Drive) (s : State) : (setDrv i f s).free = s.free := rfl

theorem busOf_setBus_same (i : Nat) (f : MotorBus → MotorBus) (s : State) (h : i < s.motion.buses.length) : busOf (setBus i f s) i = f (busOf s i) :=
  getD_updAt_same _ _ _ _ h

theorem busOf_setBus_ne (i j : Nat) (f : MotorBus → MotorBus) (s : State) (h : i ≠ j) : busOf (setBus i f s) j = busOf s j := getD_updAt_ne _ _ _ _ _ h

@[simp] theorem setBus_length (i : Nat) (f : MotorBus → MotorBus) (s : State) : (setBus i f s).motion.buses.length = s.motion.buses.length := updAt_length _ _ _

@[simp] theorem setBus_now (i : Nat) (f : MotorBus → MotorBus) (s : State) : (setBus i f s).now = s.now := rfl
@[simp] theorem setBus_pending (i : Nat) (f : MotorBus → MotorBus) (s : State) : (setBus i f s).pending = s.pending := rfl
@[simp] theorem setBus_host (i : Nat) (f : MotorBus → MotorBus) (s : State) : (setBus i f s).host = s.host := rfl
@[simp] theorem setBus_ctr (i : Nat) (f : MotorBus → MotorBus) (s : State) : (setBus i f s).ctr = s.ctr := rfl
@[simp] theorem setBus_test (i : Nat) (f : MotorBus → MotorBus) (s : State) : (setBus i f s).test = s.test := rfl
@[simp] theorem setBus_page (i : Nat) (f : MotorBus → MotorBus) (s : State) : (setBus i f s).page = s.page := rfl
@[simp] theorem setBus_spool (i : Nat) (f : MotorBus → MotorBus) (s : State) : (setBus i f s).spool = s.spool := rfl
@[simp] theorem setBus_exp (i : Nat) (f : MotorBus → MotorBus) (s : State) : (setBus i f s).exp = s.exp := rfl
@[simp] theorem setBus_pos (i : Nat) (f : MotorBus → MotorBus) (s : State) : (setBus i f s).pos = s.pos := rfl
@[simp] theorem setBus_link (i : Nat) (f : MotorBus → MotorBus) (s : State) : (setBus i f s).link = s.link := rfl
@[simp] theorem setBus_tile (i : Nat) (f : MotorBus → MotorBus) (s : State) : (setBus i f s).tile = s.tile := rfl
@[simp] theorem setBus_cam (i : Nat) (f : MotorBus → MotorBus) (s : State) : (setBus i f s).cam = s.cam := rfl
@[simp] theorem setBus_cal (i : Nat) (f : MotorBus → MotorBus) (s : State) : (setBus i f s).cal = s.cal := rfl
@[simp] theorem setBus_loop (i : Nat) (f : MotorBus → MotorBus) (s : State) : (setBus i f s).loop = s.loop := rfl
@[simp] theorem setBus_mem (i : Nat) (f : MotorBus → MotorBus) (s : State) : (setBus i f s).mem = s.mem := rfl
@[simp] theorem setBus_sup (i : Nat) (f : MotorBus → MotorBus) (s : State) : (setBus i f s).sup = s.sup := rfl
@[simp] theorem setBus_fw (i : Nat) (f : MotorBus → MotorBus) (s : State) : (setBus i f s).fw = s.fw := rfl
@[simp] theorem setBus_board (i : Nat) (f : MotorBus → MotorBus) (s : State) : (setBus i f s).board = s.board := rfl
@[simp] theorem setBus_active (i : Nat) (f : MotorBus → MotorBus) (s : State) : (setBus i f s).active = s.active := rfl
@[simp] theorem setBus_hostMem (i : Nat) (f : MotorBus → MotorBus) (s : State) : (setBus i f s).hostMem = s.hostMem := rfl
@[simp] theorem setBus_hostBad (i : Nat) (f : MotorBus → MotorBus) (s : State) : (setBus i f s).hostBad = s.hostBad := rfl
@[simp] theorem setBus_out (i : Nat) (f : MotorBus → MotorBus) (s : State) : (setBus i f s).out = s.out := rfl
@[simp] theorem setBus_free (i : Nat) (f : MotorBus → MotorBus) (s : State) : (setBus i f s).free = s.free := rfl

theorem stp_setStp_same (i : Nat) (f : Stepper → Stepper) (s : State) (h : i < s.motion.steppers.length) : stp (setStp i f s) i = f (stp s i) :=
  getD_updAt_same _ _ _ _ h

theorem stp_setStp_ne (i j : Nat) (f : Stepper → Stepper) (s : State) (h : i ≠ j) : stp (setStp i f s) j = stp s j := getD_updAt_ne _ _ _ _ _ h

@[simp] theorem setStp_length (i : Nat) (f : Stepper → Stepper) (s : State) : (setStp i f s).motion.steppers.length = s.motion.steppers.length := updAt_length _ _ _

@[simp] theorem setStp_now (i : Nat) (f : Stepper → Stepper) (s : State) : (setStp i f s).now = s.now := rfl
@[simp] theorem setStp_pending (i : Nat) (f : Stepper → Stepper) (s : State) : (setStp i f s).pending = s.pending := rfl
@[simp] theorem setStp_host (i : Nat) (f : Stepper → Stepper) (s : State) : (setStp i f s).host = s.host := rfl
@[simp] theorem setStp_ctr (i : Nat) (f : Stepper → Stepper) (s : State) : (setStp i f s).ctr = s.ctr := rfl
@[simp] theorem setStp_test (i : Nat) (f : Stepper → Stepper) (s : State) : (setStp i f s).test = s.test := rfl
@[simp] theorem setStp_page (i : Nat) (f : Stepper → Stepper) (s : State) : (setStp i f s).page = s.page := rfl
@[simp] theorem setStp_spool (i : Nat) (f : Stepper → Stepper) (s : State) : (setStp i f s).spool = s.spool := rfl
@[simp] theorem setStp_exp (i : Nat) (f : Stepper → Stepper) (s : State) : (setStp i f s).exp = s.exp := rfl
@[simp] theorem setStp_pos (i : Nat) (f : Stepper → Stepper) (s : State) : (setStp i f s).pos = s.pos := rfl
@[simp] theorem setStp_link (i : Nat) (f : Stepper → Stepper) (s : State) : (setStp i f s).link = s.link := rfl
@[simp] theorem setStp_tile (i : Nat) (f : Stepper → Stepper) (s : State) : (setStp i f s).tile = s.tile := rfl
@[simp] theorem setStp_cam (i : Nat) (f : Stepper → Stepper) (s : State) : (setStp i f s).cam = s.cam := rfl
@[simp] theorem setStp_cal (i : Nat) (f : Stepper → Stepper) (s : State) : (setStp i f s).cal = s.cal := rfl
@[simp] theorem setStp_loop (i : Nat) (f : Stepper → Stepper) (s : State) : (setStp i f s).loop = s.loop := rfl
@[simp] theorem setStp_mem (i : Nat) (f : Stepper → Stepper) (s : State) : (setStp i f s).mem = s.mem := rfl
@[simp] theorem setStp_sup (i : Nat) (f : Stepper → Stepper) (s : State) : (setStp i f s).sup = s.sup := rfl
@[simp] theorem setStp_fw (i : Nat) (f : Stepper → Stepper) (s : State) : (setStp i f s).fw = s.fw := rfl
@[simp] theorem setStp_board (i : Nat) (f : Stepper → Stepper) (s : State) : (setStp i f s).board = s.board := rfl
@[simp] theorem setStp_active (i : Nat) (f : Stepper → Stepper) (s : State) : (setStp i f s).active = s.active := rfl
@[simp] theorem setStp_hostMem (i : Nat) (f : Stepper → Stepper) (s : State) : (setStp i f s).hostMem = s.hostMem := rfl
@[simp] theorem setStp_hostBad (i : Nat) (f : Stepper → Stepper) (s : State) : (setStp i f s).hostBad = s.hostBad := rfl
@[simp] theorem setStp_out (i : Nat) (f : Stepper → Stepper) (s : State) : (setStp i f s).out = s.out := rfl
@[simp] theorem setStp_free (i : Nat) (f : Stepper → Stepper) (s : State) : (setStp i f s).free = s.free := rfl

theorem ddr_setDdr_same (i : Nat) (f : DdrChan → DdrChan) (s : State) (h : i < s.mem.chans.length) : ddr (setDdr i f s) i = f (ddr s i) :=
  getD_updAt_same _ _ _ _ h

theorem ddr_setDdr_ne (i j : Nat) (f : DdrChan → DdrChan) (s : State) (h : i ≠ j) : ddr (setDdr i f s) j = ddr s j := getD_updAt_ne _ _ _ _ _ h

@[simp] theorem setDdr_length (i : Nat) (f : DdrChan → DdrChan) (s : State) : (setDdr i f s).mem.chans.length = s.mem.chans.length := updAt_length _ _ _

@[simp] theorem setDdr_now (i : Nat) (f : DdrChan → DdrChan) (s : State) : (setDdr i f s).now = s.now := rfl
@[simp] theorem setDdr_pending (i : Nat) (f : DdrChan → DdrChan) (s : State) : (setDdr i f s).pending = s.pending := rfl
@[simp] theorem setDdr_host (i : Nat) (f : DdrChan → DdrChan) (s : State) : (setDdr i f s).host = s.host := rfl
@[simp] theorem setDdr_ctr (i : Nat) (f : DdrChan → DdrChan) (s : State) : (setDdr i f s).ctr = s.ctr := rfl
@[simp] theorem setDdr_test (i : Nat) (f : DdrChan → DdrChan) (s : State) : (setDdr i f s).test = s.test := rfl
@[simp] theorem setDdr_page (i : Nat) (f : DdrChan → DdrChan) (s : State) : (setDdr i f s).page = s.page := rfl
@[simp] theorem setDdr_spool (i : Nat) (f : DdrChan → DdrChan) (s : State) : (setDdr i f s).spool = s.spool := rfl
@[simp] theorem setDdr_exp (i : Nat) (f : DdrChan → DdrChan) (s : State) : (setDdr i f s).exp = s.exp := rfl
@[simp] theorem setDdr_pos (i : Nat) (f : DdrChan → DdrChan) (s : State) : (setDdr i f s).pos = s.pos := rfl
@[simp] theorem setDdr_link (i : Nat) (f : DdrChan → DdrChan) (s : State) : (setDdr i f s).link = s.link := rfl
@[simp] theorem setDdr_tile (i : Nat) (f : DdrChan → DdrChan) (s : State) : (setDdr i f s).tile = s.tile := rfl
@[simp] theorem setDdr_cam (i : Nat) (f : DdrChan → DdrChan) (s : State) : (setDdr i f s).cam = s.cam := rfl
@[simp] theorem setDdr_cal (i : Nat) (f : DdrChan → DdrChan) (s : State) : (setDdr i f s).cal = s.cal := rfl
@[simp] theorem setDdr_loop (i : Nat) (f : DdrChan → DdrChan) (s : State) : (setDdr i f s).loop = s.loop := rfl
@[simp] theorem setDdr_motion (i : Nat) (f : DdrChan → DdrChan) (s : State) : (setDdr i f s).motion = s.motion := rfl
@[simp] theorem setDdr_sup (i : Nat) (f : DdrChan → DdrChan) (s : State) : (setDdr i f s).sup = s.sup := rfl
@[simp] theorem setDdr_fw (i : Nat) (f : DdrChan → DdrChan) (s : State) : (setDdr i f s).fw = s.fw := rfl
@[simp] theorem setDdr_board (i : Nat) (f : DdrChan → DdrChan) (s : State) : (setDdr i f s).board = s.board := rfl
@[simp] theorem setDdr_active (i : Nat) (f : DdrChan → DdrChan) (s : State) : (setDdr i f s).active = s.active := rfl
@[simp] theorem setDdr_hostMem (i : Nat) (f : DdrChan → DdrChan) (s : State) : (setDdr i f s).hostMem = s.hostMem := rfl
@[simp] theorem setDdr_hostBad (i : Nat) (f : DdrChan → DdrChan) (s : State) : (setDdr i f s).hostBad = s.hostBad := rfl
@[simp] theorem setDdr_out (i : Nat) (f : DdrChan → DdrChan) (s : State) : (setDdr i f s).out = s.out := rfl
@[simp] theorem setDdr_free (i : Nat) (f : DdrChan → DdrChan) (s : State) : (setDdr i f s).free = s.free := rfl

end Sys2Proof.Machine
end

