-- ==== Sys2Proof/Laws/LoopFrames.lean ====
section
/-! SUPPORT. What the parts of a loop sample leave unchanged: the coefficients and coefficient queues of every loop. -/

namespace Sys2Proof.Machine

theorem forList_loop {α : Type} (l : List α) (f : α → State → State) (h : ∀ a s, (f a s).loop = s.loop) :
    ∀ s, (forList l s f).loop = s.loop := by
  induction l with
  | nil => exact fun _ => rfl
  | cons a t ih => exact fun s => (ih (f a s)).trans (h a s)

theorem wgDrive_loop (st : Nat) (s : State) : (wgDrive st s).loop = s.loop := by
  unfold wgDrive
  repeat (first | rfl | split)

theorem wgPage_loop (p : Page) (s : State) : (wgPage p s).loop = s.loop :=
  forList_loop _ _ (fun st s => by
    unfold wgAdd
    split
    · rfl
    · exact wgDrive_loop _ _) s

theorem spoilNow_loop (k r st l : Nat) (s : State) : (spoilNow k r st l s).loop = s.loop := by
  unfold spoilNow
  split
  · rfl
  · dsimp only
    split
    · rfl
    · rw [wgPage_loop, tick_loop, raise_loop]; rfl

theorem spoilHere_loop (k r : Nat) (s : State) : (spoilHere k r s).loop = s.loop := by
  unfold spoilHere
  split
  · rfl
  · unfold spoil
    split
    · rfl
    · split
      · exact spoilNow_loop _ _ _ _ _
      · split <;> rfl

@[simp] theorem needSpoil_loop (n : Nat) (s : State) : (needSpoil n s).loop = s.loop := forList_loop _ _ (fun _ _ => spoilHere_loop _ _ _) s

/-- Every loop has the coefficients and the queue in `t` that it has in `s`. -/
def SameWrites (s t : State) : Prop := ∀ m, (loopOf t m).coef = (loopOf s m).coef ∧ (loopOf t m).queue = (loopOf s m).queue

theorem SameWrites.refl (s : State) : SameWrites s s := fun _ => ⟨rfl, rfl⟩

theorem SameWrites.trans {s t u : State} (h : SameWrites s t) (g : SameWrites t u) : SameWrites s u :=
  fun m => ⟨(g m).1.trans (h m).1, (g m).2.trans (h m).2⟩

theorem SameWrites.of_loop {s t : State} (h : t.loop = s.loop) : SameWrites s t := fun m => by unfold loopOf; rw [h]; exact ⟨rfl, rfl⟩

theorem SameWrites.of_slots {s t : State} (h : t.loop.slots = s.loop.slots) : SameWrites s t := fun m => by unfold loopOf; rw [h]; exact ⟨rfl, rfl⟩

/-- A count and an event change no loop. -/
theorem SameWrites.ev {s t : State} {c so p l d0 d1 d2 id i : Nat} (h : SameWrites s t) : SameWrites s (raise c so p l d0 d1 d2 (tick id i t)) :=
  h.trans (.of_loop ((raise_loop ..).trans (tick_loop ..)))

/-- A change of a slot that keeps its coefficients and queue. -/
theorem SameWrites.setLoop (n : Nat) (f : LoopSlot → LoopSlot) (s : State) (h : ∀ l, (f l).coef = l.coef ∧ (f l).queue = l.queue) :
    SameWrites s (setLoop n f s) := by
  intro m
  by_cases e : n = m
  · subst e
    by_cases g : n < s.loop.slots.length
    · have : loopOf (Machine.setLoop n f s) n = f (loopOf s n) := getD_updAt_same _ _ _ _ g
      rw [this]; exact h _
    · have : loopOf (Machine.setLoop n f s) n = loopOf s n := by
        unfold loopOf Machine.setLoop
        simp only [List.getD_eq_getElem?_getD]
        rw [List.getElem?_eq_none (by simpa using g), List.getElem?_eq_none (by simpa using g)]
      rw [this]; exact ⟨rfl, rfl⟩
  · have : loopOf (Machine.setLoop n f s) m = loopOf s m := getD_updAt_ne _ _ _ _ _ e
    rw [this]; exact ⟨rfl, rfl⟩

theorem feedback_same (s : State) (l : LoopSlot) : SameWrites s (feedback s l).1 := by
  unfold feedback
  dsimp only
  split <;> try exact .refl _
  split <;> exact .of_loop rfl

theorem loopModeEvent_same (n : Nat) (a : Bool) (c : Nat) (m : Int) (s : State) : SameWrites s (loopModeEvent n a c m s) := .of_loop (raise_loop ..)

theorem loopManual_same (n : Nat) (m : Int) (c : Nat) (z : Bool) (s : State) : SameWrites s (loopManual n m c z s) := by
  unfold loopManual
  dsimp only
  have h : SameWrites s (setLoop n (fun l => { l with auto := false, man := m, acc := if z then 0 else l.acc }) s) := .setLoop _ _ _ (fun _ => ⟨rfl, rfl⟩)
  split
  · exact h.trans ((loopModeEvent_same _ _ _ _ _).trans (.of_loop (needSpoil_loop _ _)))
  · exact h

theorem modeStep_same (s : State) (n : Nat) (fb : Int) (r : ModeReq) (go : Bool) : SameWrites s (modeStep s n fb r go).1 := by
  unfold modeStep
  dsimp only
  split
  · have h : SameWrites s (setLoop n (fun l => { l with arcAuto := l.auto || go, arcMan := 0 }) s) := .setLoop _ _ _ (fun _ => ⟨rfl, rfl⟩)
    refine SameWrites.trans ?_ (.setLoop _ _ _ (fun _ => ⟨rfl, rfl⟩))
    split
    · split
      · exact (h.trans (loopModeEvent_same _ _ _ _ _)).trans ((loopManual_same n 0 3 true _).trans (.of_loop (needSpoil_loop _ _)))
      · exact h.trans ((loopManual_same n 0 3 true _).trans (.of_loop (needSpoil_loop _ _)))
    · exact .refl _
  · split
    · exact .setLoop _ _ _ (fun _ => ⟨rfl, rfl⟩)
    · split
      · split
        · exact .refl _
        · refine SameWrites.trans ?_ (loopModeEvent_same _ _ _ _ _)
          split
          · split
            · exact .refl _
            · exact .setLoop _ _ _ (fun _ => ⟨rfl, rfl⟩)
          · exact .refl _
      · split
        · exact (loopModeEvent_same _ _ _ _ _).trans (.setLoop _ _ _ (fun _ => ⟨rfl, rfl⟩))
        · exact loopManual_same _ _ _ _ _

theorem complianceStep_same (n : Nat) (s : State) : SameWrites s (complianceStep n s) := by
  unfold complianceStep
  dsimp only
  split
  · exact .setLoop _ _ _ (fun _ => ⟨rfl, rfl⟩)
  · have h : ∀ b, SameWrites s (setLoop n (fun l => { l with frozen := b }) s) := fun b => .setLoop _ _ _ (fun _ => ⟨rfl, rfl⟩)
    repeat' split
    all_goals first
      | exact (h _).trans (.of_slots rfl)
      | exact (h _).trans (.of_slots (by rw [raise_loop, tick_loop]; rfl))

theorem loopDrive_same (n : Nat) (s : State) : SameWrites s (loopDrive n s) := by
  unfold loopDrive
  dsimp only
  split
  · exact .of_slots rfl
  · exact .of_slots rfl
  · exact .of_slots rfl
  · exact .refl _

theorem loopModes_same (n : Nat) (fb : Int) (s : State) : SameWrites s (loopModes n fb s).1 := by
  unfold loopModes
  have h : ∀ (qs : List ModeReq) (a : State × Bool), SameWrites s a.1 → SameWrites s (forList qs a (fun q a => modeStep a.1 n fb q a.2)).1 := by
    intro qs
    induction qs with
    | nil => exact fun _ h => h
    | cons q t ih => exact fun a h => ih _ (h.trans (modeStep_same _ _ _ _ _))
  exact h _ _ (.setLoop _ _ _ (fun _ => ⟨rfl, rfl⟩))

theorem loopCompute_same (n : Nat) (fb : Int) (p : Bool) (s : State) : SameWrites s (loopCompute n fb p s) := by
  unfold loopCompute
  dsimp only
  have h : ∀ f : LoopSlot → LoopSlot, (∀ l, (f l).coef = l.coef ∧ (f l).queue = l.queue) → SameWrites s (setLoop n f s) := fun f g => .setLoop _ _ _ g
  split
  · exact SameWrites.ev (h _ (fun _ => ⟨rfl, rfl⟩))
  · exact h _ (fun _ => ⟨rfl, rfl⟩)

theorem spWrites_keep (ws : List (Int × Nat)) : ∀ l : LoopSlot, (ws.foldl spWrite l).coef = l.coef ∧ (ws.foldl spWrite l).queue = l.queue := by
  induction ws with
  | nil => exact fun _ => ⟨rfl, rfl⟩
  | cons w t ih =>
    intro l
    have : (spWrite l w).coef = l.coef ∧ (spWrite l w).queue = l.queue := by unfold spWrite; split <;> exact ⟨rfl, rfl⟩
    exact ⟨(ih _).1.trans this.1, (ih _).2.trans this.2⟩

theorem loopSetpoints_same (n : Nat) (s : State) : SameWrites s (loopSetpoints n s) :=
  .setLoop _ _ _ (fun l => by
    unfold rampStep
    split
    · exact spWrites_keep _ _
    · exact spWrites_keep _ _)

theorem loopFallback_same (n : Nat) (ok : Bool) (s : State) : SameWrites s (loopFallback n ok s) := by
  unfold loopFallback
  split
  · exact loopManual_same _ _ _ _ _
  · exact .refl _

theorem loopArcHold_same (n : Nat) (s : State) : SameWrites s (loopArcHold n s) := by
  unfold loopArcHold
  split
  · exact (loopManual_same _ _ _ _ _).trans (.setLoop _ _ _ (fun _ => ⟨rfl, rfl⟩))
  · exact .refl _

theorem loopNote_same (n : Nat) (ok : Bool) (fb : Int) (s : State) : SameWrites s (loopNote n ok fb s) := .setLoop _ _ _ (fun _ => ⟨rfl, rfl⟩)

/-- A sample changes coefficients and queues as taking the oldest waiting write does, and no further. -/
theorem loopSample_same (n : Nat) (s : State) : SameWrites (loopQueue n s) (loopSample n s) := by
  unfold loopSample
  dsimp only
  exact (feedback_same _ _).trans ((loopNote_same n _ _ _).trans ((loopFallback_same n _ _).trans ((loopArcHold_same n _).trans ((loopModes_same n _ _).trans
    ((complianceStep_same n _).trans ((loopSetpoints_same n _).trans ((loopCompute_same n _ _ _).trans ((loopDrive_same n _).trans
      (.of_loop (tick_loop _ _ _))))))))))

end Sys2Proof.Machine
end

