-- ==== Sys2Proof/Laws/Mailbox.lean ====
section
/-! SUPPORT. What serving a mailbox command does: the checks in their order, the answer, the response. -/

namespace Sys2Proof.Machine

theorem taken_eq (s : State) : taken s = { s with host := { s.host with order := s.host.order.tail } } := rfl

@[simp] theorem taken_now (s : State) : (taken s).now = s.now := rfl
@[simp] theorem taken_page (s : State) : (taken s).page = s.page := rfl
@[simp] theorem taken_spool (s : State) : (taken s).spool = s.spool := rfl
@[simp] theorem taken_exp (s : State) : (taken s).exp = s.exp := rfl
@[simp] theorem taken_pos (s : State) : (taken s).pos = s.pos := rfl
@[simp] theorem taken_link (s : State) : (taken s).link = s.link := rfl
@[simp] theorem taken_tile (s : State) : (taken s).tile = s.tile := rfl
@[simp] theorem taken_cam (s : State) : (taken s).cam = s.cam := rfl
@[simp] theorem taken_cal (s : State) : (taken s).cal = s.cal := rfl
@[simp] theorem taken_loop (s : State) : (taken s).loop = s.loop := rfl
@[simp] theorem taken_motion (s : State) : (taken s).motion = s.motion := rfl
@[simp] theorem taken_mem (s : State) : (taken s).mem = s.mem := rfl
@[simp] theorem taken_sup (s : State) : (taken s).sup = s.sup := rfl
@[simp] theorem taken_fw (s : State) : (taken s).fw = s.fw := rfl
@[simp] theorem taken_ctr (s : State) : (taken s).ctr = s.ctr := rfl
@[simp] theorem taken_test (s : State) : (taken s).test = s.test := rfl
@[simp] theorem taken_board (s : State) : (taken s).board = s.board := rfl
@[simp] theorem taken_active (s : State) : (taken s).active = s.active := rfl
@[simp] theorem taken_out (s : State) : (taken s).out = s.out := rfl
@[simp] theorem taken_free (s : State) : (taken s).free = s.free := rfl
@[simp] theorem taken_hostMem (s : State) : (taken s).hostMem = s.hostMem := rfl
@[simp] theorem taken_hostBad (s : State) : (taken s).hostBad = s.hostBad := rfl
@[simp] theorem taken_pending (s : State) : (taken s).pending = s.pending := rfl
@[simp] theorem taken_outstanding (s : State) : (taken s).host.outstanding = s.host.outstanding := rfl
@[simp] theorem taken_nextOid (s : State) : (taken s).host.nextOid = s.host.nextOid := rfl

/-- A command that the firmware takes and whose checks pass answers what its own work gives. -/
theorem serve_run (code : Nat) (cls : CmdClass) (masks : List Nat) (body : List Word → State → Ans) (s : State) (n : Nat) (ws : List Word)
    (a : Accepts s code masks n ws) (k : knownCode code = true) :
    serve code cls masks body s = answer n ws s.host.nextOid (body ws (taken s)) := by
  obtain ⟨t, c, p, o⟩ := a
  have l : ¬ (outstMax ≤ s.host.outstanding.length) := by omega
  simp [serve, t, c, k, p, l, taken]

/-- An answer that is no deferral is the response itself. -/
theorem answer_now (n : Nat) (ws : List Word) (oid : Nat) (a : Ans) (h : a.hold = false) (d : a.status ≠ stDeferred) (e : a.status ≠ stPending) :
    answer n ws oid a = respond n a.status a.results a.st := by
  simp [answer, h, d, e]

/-- A deferred or background answer enters the command among those outstanding. -/
theorem answer_later (n : Nat) (ws : List Word) (oid : Nat) (a : Ans) (h : a.hold = false) (d : a.status = stDeferred ∨ a.status = stPending) :
    answer n ws oid a = respond n a.status [] (pushOutst n ws a.status oid a.st) := by
  simp [answer, h, d]

/-- An immediate command answers `st` and `results` where its own work does. -/
theorem serve_now (code : Nat) (cls : CmdClass) (masks : List Nat) (body : List Word → State → Ans) (s : State) (n : Nat) (ws : List Word)
    (a : Accepts s code masks n ws) (k : knownCode code = true) (u : State) (status : Nat) (results : List Nat)
    (b : body ws (taken s) = { st := u, status := status, results := results }) (d : status ≠ stDeferred) (e : status ≠ stPending) :
    serve code cls masks body s = respond n status results u := by
  rw [serve_run code cls masks body s n ws a k, b]
  exact answer_now n ws _ _ rfl d e

/-- A deferred or background command answers ST_DEFERRED or ST_PENDING where its own work does. -/
theorem serve_later (code : Nat) (cls : CmdClass) (masks : List Nat) (body : List Word → State → Ans) (s : State) (n : Nat) (ws : List Word)
    (a : Accepts s code masks n ws) (k : knownCode code = true) (u : State) (status : Nat)
    (b : body ws (taken s) = { st := u, status := status }) (d : status = stDeferred ∨ status = stPending) :
    serve code cls masks body s = respond n status [] (pushOutst n ws status s.host.nextOid u) := by
  rw [serve_run code cls masks body s n ws a k, b]
  exact answer_later n ws _ _ rfl d

end Sys2Proof.Machine
end

