-- ==== Sys2Proof/Machine/BallMap.lean ====
section
/-! DEFINITION. The ball grid of the package (R494 to R497, Tables 17.1 and 17.12). -/

namespace Sys2Proof.Machine

/-- A ball's name (Table 17.1), with its indexes in the order the table writes them. -/
inductive Ball where
  | nc | vss | avssMach | vinMach | vcapMach
  | vddCore | vddSram | vddHl075 | vddHl12 | vddqDdr | vddIo | vddCam
  | hlTxP (lane : Nat) | hlTxN (lane : Nat) | hlRxP (lane : Nat) | hlRxN (lane : Nat)
  | peTxP (lane : Nat) | peTxN (lane : Nat) | peRxP (lane : Nat) | peRxN (lane : Nat)
  | peRefclkP | peRefclkN | pePerstN
  | ddrDq (chan n : Nat) | ddrDqsP (chan n : Nat) | ddrDqsN (chan n : Nat) | ddrCa (chan n : Nat) | ddrCsN (chan n : Nat)
  | ddrCkP (chan n : Nat) | ddrCkN (chan n : Nat) | ddrZq (chan : Nat) | ddrResetN (chan : Nat) | ddrAlertN (chan : Nat)
  | camD (port n : Nat) | camPclk (port : Nat) | camHs (port : Nat) | camVs (port : Nat) | camDe (port : Nat)
  | camScl (port : Nat) | camSda (port : Nat) | camTrig (n : Nat)
  | spiClk | spiCsN | spiIo (n : Nat)
  | jtagTck | jtagTms | jtagTdi | jtagTdo | jtagTrstN
  | xtalIn | xtalOut | ref10mIn
  | tsbEn (station : Nat)
  /-- DRVn_PWM_UH, _UL, _VH, _VL, _WH, _WL by `gate` 0 to 5, DRVn_FLT, and DRVn_ISU, _ISV, _ISW by `phase`. -/
  | drvPwm (axis gate : Nat) | drvFlt (axis : Nat) | drvIs (axis phase : Nat)
  /-- STPn_A1, _A2, _B1, _B2, _REFA, _REFB, _CMPA, _CMPB, _LIMP, _LIMN, _HOME by `n` 0 to 10. -/
  | stp (axis n : Nat)
  /-- POSn_A_P, _A_N, _B_P, _B_N, _Z_P, _Z_N, _C_P, _C_N by `n` 0 to 7. -/
  | pos (input n : Nat)
  | hvRef (chan : Nat) | hvEn (chan : Nat) | hvVmon (chan : Nat) | hvImon (chan : Nat) | hvArc (chan : Nat)
  | fusGate (zone : Nat) | fusTh (n : Nat) | fusZc
  | brkGate (bus : Nat) | brkIsns (bus : Nat) | vbusSns (bus : Nat)
  | seqIn (n : Nat) | seqOut (n : Nat) | wgOut (station : Nat) | tosIn
  | safeIn (n : Nat) | hvIlk (n : Nat)
  | consScl (n : Nat) | consSda (n : Nat)
  | pwrEn (rail : Nat) | pwrPg (rail : Nat) | engRstOut | engWake | engAuto
  | sysRstN | testMode | vrefAdc
  deriving DecidableEq, Repr

/-- The letters of the rows (R494). -/
def rowLetters : List String := ["A", "B", "C", "D", "E", "F", "G", "H", "J", "K", "L", "M", "N", "P", "T", "U", "V", "W", "Y"]

/-- The name of a row, counted from 1 (R494). -/
def rowName (row : Nat) : String :=
  let n := row - 1
  (if n < 19 then "" else if n < 38 then "A" else "B") ++ rowLetters.getD (n % 19) ""

/-- `f 0` to `f (n - 1)`. -/
def ballRun (n : Nat) (f : Nat → Ball) : List Ball := (List.range n).map f

/-- `g 0` to `g (n - 1)`, joined. -/
def ballRuns (n : Nat) (g : Nat → List Ball) : List Ball := ((List.range n).map g).flatten

/-- One VSS or AVSS_MACH after every sixth ball of a list, and one more after the last (R496 list M). -/
def afterSix : Nat → List Ball → List Ball
  | _, [] => [.avssMach]
  | n, b :: t => if n = 5 then b :: .avssMach :: afterSix 0 t else b :: afterSix (n + 1) t

/-- List K of R496. -/
def listK : List Ball :=
  ballRuns 4 (fun p => ballRun 16 (.camD p) ++ [.camPclk p, .camHs p, .camVs p, .camDe p, .camScl p, .camSda p])
  ++ ballRun 4 .camTrig ++ [.spiClk, .spiCsN] ++ ballRun 4 .spiIo
  ++ [.jtagTck, .jtagTms, .jtagTdi, .jtagTdo, .jtagTrstN, .vss, .xtalIn, .xtalOut, .vss, .ref10mIn]

/-- The twelve digital groups of list M. -/
def listMDigital : List (List Ball) :=
  [ ballRun 7 .pwrEn ++ ballRun 7 .pwrPg ++ [.engRstOut, .engWake, .engAuto],
    [.sysRstN, .testMode],
    ballRun 2 .safeIn ++ ballRun 4 .hvIlk,
    ballRun 6 .tsbEn,
    ballRun 8 .seqIn ++ ballRun 8 .seqOut ++ ballRun 6 .wgOut ++ [.tosIn],
    ballRun 4 .consScl ++ ballRun 4 .consSda,
    ballRuns 8 (fun n => ballRun 6 (.drvPwm n) ++ [.drvFlt n]),
    ballRun 2 .brkGate,
    ballRuns 8 (fun n => ballRun 11 (.stp n)),
    ballRun 24 .hvEn ++ ballRun 24 .hvArc,
    ballRun 4 .fusGate ++ [.fusZc],
    ballRuns 8 (fun n => ballRun 8 (.pos n)) ]

/-- The analog balls of list M. -/
def listMAnalog : List Ball :=
  ballRuns 8 (fun n => ballRun 3 (.drvIs n)) ++ ballRun 24 .hvRef ++ ballRun 24 .hvVmon ++ ballRun 24 .hvImon ++ ballRun 16 .fusTh
  ++ ballRun 2 .brkIsns ++ ballRun 2 .vbusSns ++ [.vrefAdc]

/-- List M of R496. -/
def listM : List Ball :=
  (listMDigital.map (fun g => g ++ [.vss])).flatten ++ List.replicate 8 .vinMach ++ List.replicate 4 .vcapMach
  ++ afterSix 0 listMAnalog ++ List.replicate 26 .vss

/-- List D of R496. -/
def listD : List Ball :=
  ballRuns 4 (fun c => ballRuns 2 (fun k =>
    ballRuns 10 (fun g => ballRun 4 (fun i => .ddrDq c (40 * k + 4 * g + i)) ++ [.ddrDqsP c (10 * k + g), .ddrDqsN c (10 * k + g), .vss])
    ++ ballRun 14 (fun i => .ddrCa c (14 * k + i)) ++ [.ddrCsN c (2 * k), .ddrCsN c (2 * k + 1), .ddrCkP c k, .ddrCkN c k, .vss]))
  ++ ballRun 4 .ddrZq ++ ballRun 4 .ddrResetN ++ ballRun 4 .ddrAlertN ++ List.replicate 95 .vss

/-- List Z of R496. -/
def listZ : List Ball :=
  List.replicate 72 .vddHl075 ++ List.replicate 48 .vddHl12 ++ List.replicate 30 .vddSram ++ List.replicate 220 .vddCore
  ++ List.replicate 30 .vddSram ++ List.replicate 96 .vddqDdr ++ List.replicate 24 .vddIo ++ List.replicate 16 .vddCam
  ++ List.replicate 64 .vss

/-- Place in the fill order of a serpentine block of rows of `w` sites: row `r` and column `c` of the block from 0. -/
def serpentine (w r c : Nat) : Nat := w * r + (if r % 2 = 0 then c else w - 1 - c)

/-- Ball of triplet `t`, column `c` of it, in row `r` of block H (Table 17.12). -/
def ballH (r t c : Nat) : Ball :=
  let l := 8 * (r - 1) + t / 2
  if c = 2 then .vss
  else if t % 2 = 0 then (if c = 0 then .hlTxP l else .hlTxN l)
  else (if c = 0 then .hlRxP l else .hlRxN l)

/-- The ball at a row and a column of the grid, both counted from 1 (R494 to R496, Table 17.12); none outside it. -/
def ballAt (row col : Nat) : Option Ball :=
  if row < 1 ∨ 55 < row ∨ col < 1 ∨ 55 < col then none
  else if (row = 1 ∨ row = 55) ∧ (col = 1 ∨ col = 55) then some .nc
  else if row ≤ 12 ∧ 2 ≤ col ∧ col ≤ 49 then some (ballH row ((col - 2) / 3) ((col - 2) % 3))
  else if row ≤ 12 ∧ col = 1 ∨ row = 1 then some .vss
  else if row ≤ 17 ∧ 50 ≤ col then
    [Ball.peTxP (row - 2), .peTxN (row - 2), .vss, .peRxP (row - 2), .peRxN (row - 2), .vss][col - 50]?
  else if row = 18 ∧ 50 ≤ col then [Ball.peRefclkP, .peRefclkN, .vss, .pePerstN, .vss, .vss][col - 50]?
  else if row ≤ 36 ∧ 50 ≤ col then listK[serpentine 6 (row - 19) (col - 50)]?
  else if row ≤ 36 ∧ col ≤ 12 then listD[serpentine 12 (row - 13) (col - 1)]?
  else if row ≤ 36 then
    if (col - 13) % 3 = 2 then some .vss
    else
      let c := (col - 13) / 3 * 2 + (col - 13) % 3
      listZ[serpentine 25 (row - 13) c]?
  else if 29 ≤ col then listM[serpentine 27 (row - 37) (col - 29)]?
  else listD[288 + serpentine 28 (row - 37) (col - 1) - (if row = 55 then 1 else 0)]?

end Sys2Proof.Machine
end

