-- ==== Sys2Proof/Machine/Electrical.lean ====
section
/-! DEFINITION. The electrical and thermal data of the package (R498 to R510, Tables 17.2 to 17.11): the limits, supplies, levels,
analog codes, timing, power and thermal resistances that the board sees, as numbers. They change no state of the block. -/

namespace Sys2Proof.Machine

/-- A range in mV. -/
structure Range where
  lo : Int
  hi : Int
  deriving DecidableEq, Repr

/-- A voltage lies in a range. -/
def Range.has (r : Range) (mv : Int) : Bool := decide (r.lo ≤ mv ∧ mv ≤ r.hi)

/-! Ratings and supplies (R498, R499). -/

/-- Items of Table 17.2. -/
inductive AbsItem where
  | coreRails | hl12 | vddqDdr | vddIo | vddCam | vinMach | machineDigital | machineAnalog | camera
  /-- Balls at VDD_IO level, with VDD_IO in mV; 0 while unpowered. -/
  | ioLevel (vddIo : Nat)
  deriving DecidableEq, Repr

/-- Absolute maximum voltages in mV (Table 17.2). -/
def absMax (i : AbsItem) : Range :=
  match i with
  | .coreRails => ⟨-300, 950⟩
  | .hl12 => ⟨-300, 1400⟩
  | .vddqDdr => ⟨-300, 1300⟩
  | .vddIo => ⟨-300, 2100⟩
  | .vddCam => ⟨-300, 3800⟩
  | .vinMach => ⟨-300, 65000⟩
  | .machineDigital => ⟨-300, 5500⟩
  | .machineAnalog => ⟨-300, 3600⟩
  | .camera => ⟨-300, 3600⟩
  | .ioLevel v => ⟨-300, if v = 0 then 2100 else (v : Int) + 300⟩

/-- The other limits of Table 17.2: injected current of an analog input and of all together, µA; storage, °C; ESD, V: human body model,
that of the head-link and PCI Express balls, and charged device model; peak reflow, °C, and moisture sensitivity level. -/
def injectMax : Nat × Nat := (5000, 25000)
def storageC : Int × Int := (-55, 150)
def esdHbm : Nat × Nat := (2000, 1000)
def esdCdm : Nat := 250
def reflowC : Nat × Nat := (250, 3)

/-- The rails of Table 17.3. -/
inductive Rail where
  | core | sram | hl075 | hl12 | ddr | io | cam | vinMach
  deriving DecidableEq, Repr

/-- Operating ranges of a rail in mV (Table 17.3); VDD_CAM has two. -/
def railRanges (r : Rail) : List Range :=
  match r with
  | .core => [⟨720, 850⟩]
  | .sram => [⟨780, 820⟩]
  | .hl075 => [⟨730, 770⟩]
  | .hl12 => [⟨1160, 1240⟩]
  | .ddr => [⟨1067, 1133⟩]
  | .io => [⟨1710, 1890⟩]
  | .cam => [⟨1710, 1890⟩, ⟨3135, 3465⟩]
  | .vinMach => [⟨6000, 48000⟩]

/-- Largest ripple, peak to peak, up to 20 MHz, in mV, and largest current in mA (Table 17.3). -/
def railLimits (r : Rail) : Nat × Nat :=
  match r with
  | .core => (15, 85000)
  | .sram => (15, 8000)
  | .hl075 => (10, 12000)
  | .hl12 => (10, 2000)
  | .ddr => (20, 4000)
  | .io => (50, 500)
  | .cam => (50, 200)
  | .vinMach => (1000, 800)

/-- A rail operates as Table 17.3 gives. -/
def railOk (r : Rail) (mv rippleMv ma : Nat) : Bool :=
  (railRanges r).any (fun x => x.has mv) && decide (rippleMv ≤ (railLimits r).1 ∧ ma ≤ (railLimits r).2)

/-- A rail's rise from 10 % to 90 %, in µs after its PWR_EN (R499). -/
def riseOk (us : Nat) : Bool := decide (100 ≤ us ∧ us ≤ 5000)

/-- A change of VDD_CORE in service, mV over µs (R500). -/
def coreStepOk (mv us : Nat) : Bool := decide (mv ≤ us)

/-! Levels and codes (R502 to R504). -/

/-- I/O levels of Table 17.4. -/
inductive IoLevel where
  | lvcmos18 | lvcmos33 | machine
  deriving DecidableEq, Repr

/-- VIL maximum, VIH minimum, hysteresis, VOL maximum and VOH minimum in mV, and leakage in µA, for a supply in mV (Table 17.4). -/
structure IoLimits where
  vil : Nat
  vih : Nat
  hyst : Nat
  vol : Nat
  voh : Nat
  leakUa : Nat
  deriving DecidableEq, Repr

def ioLimits (l : IoLevel) (v : Nat) : IoLimits :=
  match l with
  | .lvcmos18 => { vil := v * 35 / 100, vih := (v * 65 + 99) / 100, hyst := 100, vol := 450, voh := v - 450, leakUa := 5 }
  | .lvcmos33 => { vil := 800, vih := 2000, hyst := 150, vol := 400, voh := 2400, leakUa := 5 }
  | .machine => { vil := 800, vih := 2000, hyst := 200, vol := 400, voh := 2400, leakUa := 10 }

/-- The open-drain balls (Table 17.4): hysteresis in mV at a supply, VOL maximum in mV, and its current in mA for a camera and for a
consumable bus. -/
def openDrain (v : Nat) : Nat × Nat × Nat × Nat := (v / 10, 400, 20, 3)

/-- The logic level that an input reads at a voltage; none between the limits (Table 17.4). -/
def inputLevel (l : IoLimits) (mv : Nat) : Option Bool := if mv ≤ l.vil then some false else if l.vih ≤ mv then some true else none

/-- The code of an analog input: linear over its range, and the end code beyond it (R504); `µv` and the full scale in the same unit. -/
def analogCode (bits full uv : Nat) : Nat := Nat.min (2 ^ bits - 1) (uv * 2 ^ bits / Nat.max 1 full)

/-- Bits, full scale in mV, and time between conversions in ns of an analog input (Table 17.5); FUS_TH is a ratio to VREF_ADC. -/
def analogInput (b : Ball) : Option (Nat × Nat × Nat) :=
  match b with
  | .drvIs _ _ => some (16, 3000, 500)
  | .hvVmon _ => some (12, 3000, 10000)
  | .hvImon _ => some (12, 3000, 10000)
  | .fusTh _ => some (12, 3000, 1000000)
  | .brkIsns _ => some (12, 3000, 1000)
  | .vbusSns _ => some (12, 3000, 1000)
  | _ => none

/-- The voltage of an HV_REF code in µV (Table 17.5): 14 bits over 0 to 3.0 V. -/
def hvRefUv (code : Nat) : Nat := code * 3000000 / 16384

/-! Timing (R505 to R508). -/

/-- Differential voltage limits of a position pair in mV, least and most, by mode: 1 incremental, 2 sin/cos, 3 resolver, 4 SSI
(Table 17.6). -/
def posDifferential (mode : Nat) : Nat × Nat :=
  match mode with
  | 1 => (200, 5000)
  | 2 => (400, 1600)
  | 3 => (400, 2400)
  | _ => (200, 5000)

/-- Common mode in mV, least separation of A and B edges for the full count rate and least Z pulse, ns; the 2.5 ns sample in ps; SSI
sampling after the rising clock edge and the round trip allowed at 10 MHz, ns (Table 17.6). -/
def posCommonMode : Range := ⟨300, 4700⟩
def posEdgeNs : Nat := 50
def posZNs : Nat := 25
def posSamplePs : Nat := 2500
def ssiSampleNs : Nat := 50
def ssiRoundTripNs : Nat := 40

/-- Edges of A and B at two times in ps fall in one sample: a fault of R174 (Table 17.6). -/
def sameSample (a b : Nat) : Bool := a / posSamplePs == b / posSamplePs

/-- Camera port timing in ps for a level in mV: setup, hold, and CAM_TRIG rise and fall (Table 17.7). -/
def camTimingPs (level : Nat) : Nat × Nat × Nat := if level = 1800 then (1000, 600, 2000) else (1200, 800, 2500)

/-- CAMp_PCLK at most, MHz; its duty in percent; input capacitance, pF; the delay of CAM_TRIG from the boundary in mode 3 and its
tolerance, ns (Table 17.7). -/
def pclkMhz : Nat := 200
def pclkDuty : Nat × Nat := (45, 55)
def camInputPf : Nat := 4
def camTrigDelayNs : Nat × Nat := (100, 5)

/-- Clock inputs (Table 17.8): frequency in Hz and tolerance in ppm of the crystal, of REF10M_IN and of PE_REFCLK (its tolerance is that
of its own specification). -/
def xtalHz : Nat × Nat := (25000000, 20)
def ref10mHz : Nat × Nat := (10000000, 10)
def peRefclkHz : Nat := 100000000

/-- Head-link jitter in 0.01 UI (Table 17.9): transmit total and random, receive tolerance and its sinusoidal part; least return loss,
dB; PCI Express channel loss at 16 GHz, dB; the resistor of DDR_ZQ, Ω. -/
def hlJitter : Nat × Nat × Nat × Nat := (28, 1, 45, 15)
def hlReturnLossDb : Nat := 10
def peLossDb : Nat := 36
def ddrZqOhm : Nat := 240

/-! Power and heat (R509, R510). -/

/-- Modes of Table 17.10. -/
inductive PowerMode where
  | full | noPage | idle | off
  deriving DecidableEq, Repr

/-- Typical and maximum power of the engine die, at VDD_CORE up to 0.80 V or above it, and of the machine die, in mW (Table 17.10). -/
def enginePower (m : PowerMode) (above800 : Bool) : Nat × Nat :=
  match m with
  | .full => (74000, if above800 then 96000 else 92000)
  | .noPage => (14000, 20000)
  | .idle => (8000, 12000)
  | .off => (0, 0)

def machinePower (m : PowerMode) : Nat × Nat := if m = .off then (1800, 3000) else (2500, 4000)

/-- The mode a state is in: off, IDLE, or RUN with or without a page exposing. -/
def powerMode (s : State) : PowerMode :=
  if !engOn s then .off else if s.fw.power == .idle then .idle else if anyLive s then .full else .noPage

/-- The maximum of Table 17.10 as the sum over the rails of Table 17.3, mV times mA, in mW. -/
def railPower : Nat := (800 * 85000 + 800 * 8000 + 750 * 12000 + 1200 * 2000 + 1100 * 4000 + 1800 * 500 + 3300 * 200) / 1000

/-- θJC and θJB in 0.01 °C/W of the engine die and of the machine die (Table 17.11). -/
def thetaEngine : Nat × Nat := (8, 180)
def thetaMachine : Nat × Nat := (150, 600)

/-- Lid flatness, µm; load on the lid, N; mass, g (Table 17.11). -/
def lidUm : Nat := 50
def lidLoadN : Nat := 400
def massG : Nat := 28

/-- Both dies stay within −40 °C to 125 °C junction (R510), 1/16 °C. -/
def junctionOk (t : Int) : Bool := decide (-640 ≤ t ∧ t ≤ 2000)

/-- Junction temperature in m°C of a die with `theta` 0.01 °C/W to the lid and `mw` of power, under a thermal interface and on a sink,
both in 0.01 °C/W, that carries `total` mW into air at `air` m°C (R510). -/
def junction (theta interface sink mw total : Nat) (air : Int) : Int :=
  air + ((total * sink + mw * (theta + interface) : Nat) : Int) / 100

/-! Boundary scan (R488). -/

/-- A signal ball has a boundary cell: not those of the SerDes, PCI Express and DDR5, nor analog balls, supplies and test access. -/
def boundaryCell (b : Ball) : Bool :=
  match b with
  | .hlTxP _ | .hlTxN _ | .hlRxP _ | .hlRxN _ => false
  | .peTxP _ | .peTxN _ | .peRxP _ | .peRxN _ | .peRefclkP | .peRefclkN | .pePerstN => false
  | .ddrDq _ _ | .ddrDqsP _ _ | .ddrDqsN _ _ | .ddrCa _ _ | .ddrCsN _ _ | .ddrCkP _ _ | .ddrCkN _ _ => false
  | .ddrZq _ | .ddrResetN _ | .ddrAlertN _ => false
  | .nc | .vss | .avssMach | .vinMach | .vcapMach | .vddCore | .vddSram | .vddHl075 | .vddHl12 | .vddqDdr | .vddIo | .vddCam => false
  | .jtagTck | .jtagTms | .jtagTdi | .jtagTdo | .jtagTrstN | .xtalIn | .xtalOut | .ref10mIn | .vrefAdc => false
  | .hvRef _ => false
  | b => (analogInput b).isNone

end Sys2Proof.Machine
end

