-- ==== Sys2Proof/Machine/Registers.lean ====
section
/-! DEFINITION. What a host read of a BAR0 register returns (R5 to R7, R42, Tables 2.4, 2.8, 2.10, 4.2): the view that the register
tables give of the state. A read through it has no effect; the two registers whose read acts, TIME_LO and RESUME_LO, have rows. -/

namespace Sys2Proof.Machine

/-- The identity block (Table 2.4). -/
def identRead (s : State) (off : Nat) : Nat :=
  match off with
  | 0x000 => Config.vendorId.toNat + fld 0x6400 16 16
  | 0x004 => 0x02B1
  | 0x008 => releaseWord s
  | 0x00C => fld s.fw.st.code 0 3 + fld (s.fw.bank.getD 0) 4 1 + fld (b2n s.fw.machineOk) 8 1
  | 0x010 => bits s.board.serial.toNat 0 32
  | 0x014 => bits s.board.serial.toNat 32 32
  | 0x018 => spoolWord s
  | 0x01C => ctrVal s 0x0100 0
  | 0x020 => nowNs s % 2 ^ 32
  | 0x024 => s.host.timeHi.toNat
  | 0x028 => s.host.scratch.toNat
  | 0x030 => s.host.accErr.toNat
  | 0x034 => ctrVal s 0x0101 0
  | 0x038 => s.host.accErrAddr.toNat + fld (b2n s.host.accErrBar) 31 1
  | 0x040 => fld (b2n s.host.diagEn) 0 1 + fld s.host.diagRegion.toNat 4 2
  | _ => 0

/-- The code of a slot state (Table 2.7). -/
def SlotState.code : SlotState → Nat
  | .idle => 0 | .posted => 1 | .active => 2 | .done => 3

/-- The doorbell and slot state block (Table 2.8); DOORBELL is write-only. -/
def slotRegRead (s : State) (off : Nat) : Nat :=
  match off with
  | 0x004 => (s.host.slots.map (fun q => q.st.code)).foldr (fun c a => c + 4 * a) 0
  | 0x008 => s.host.slotDone.toNat
  | 0x00C => s.host.outstanding.length
  | _ => 0

/-- The interrupt and event ring block (Table 2.10). -/
def ringRegRead (s : State) (off : Nat) : Nat :=
  let h := s.host
  match off with
  | 0x000 => h.evrBaseLo.toNat
  | 0x004 => h.evrBaseHi.toNat
  | 0x008 => fld (b2n h.evrEn) 0 1 + fld h.log2Size.toNat 8 5 + fld (b2n h.shadowEn) 16 1
  | 0x00C => h.evrWrite.toNat
  | 0x010 => h.evrRead.toNat
  | 0x014 => h.shadowLo.toNat
  | 0x018 => h.shadowHi.toNat
  | 0x01C => h.modCount.toNat + fld h.modTimer.toNat 16 16
  | 0x020 => h.intStatus.toNat
  | 0x024 => h.intEn.toNat
  | 0x028 => h.backlog.length
  | 0x02C => ctrVal s 0x0102 0
  | 0xC00 => bits h.pba.toNat 0 32
  | 0xC04 => bits h.pba.toNat 32 32
  | _ => if 0x800 ≤ off ∧ off < 0xC00 then (msixWord h ((off - 0x800) / 4)).toNat else 0

/-- A Mule channel's registers (Table 4.2). -/
def muleRegRead (s : State) (ch off : Nat) : Nat :=
  let c := chan s ch
  match off with
  | 0x00 => c.ringLo.toNat
  | 0x04 => c.ringHi.toNat
  | 0x08 => fld (b2n c.en) 0 1 + fld c.log2Size.toNat 8 5 + fld (b2n c.irqEn) 17 1
  | 0x0C => c.tail.toNat
  | 0x10 => c.head.toNat
  | 0x14 => fld (match c.st with | .unbound => 0 | .stopped => 1 | .run => 2) 0 2 + fld (b2n c.pio) 4 1 + fld c.cause 8 8
  | 0x18 => chanResume s ch % 2 ^ 32
  | 0x1C => c.resumeHi.toNat
  | 0x20 => ((c.page.bind (pageOf s)).map (fun p => p.id.toNat)).getD 0
  | 0x24 => c.int.toNat
  | 0x28 => ctrVal s 0x0311 ch
  | 0x2C => pioFree c
  | _ => 0

/-- A 32-bit read of BAR0 (Table 2.3); reserved offsets read 0 (R42). A 64-bit read is two of them, lower address first (R41). -/
def regRead (s : State) (off : Nat) : Word :=
  BitVec.ofNat 32 (
    if off < 0x1000 then identRead s off
    else if off < 0x2000 then wordAt (((s.host.slots[(off - 0x1000) / 256]?).map Slot.words).getD []) ((off - 0x1000) % 256 / 4)
    else if off < 0x3000 then slotRegRead s (off - 0x2000)
    else if off < 0x4000 then ringRegRead s (off - 0x3000)
    else if off < 0x4400 then muleRegRead s ((off - 0x4000) / 64) ((off - 0x4000) % 64)
    else if 0x5000 ≤ off ∧ off < 0x6000 ∧ off % 256 = 0 then (chan s ((off - 0x5000) / 256)).appended % 2 ^ 32
    else 0)

/-- A word of the function's configuration header (Table 2.1): identity, the enables of the Command register, class and revision, and the
BARs with their types; every other field reads 0. The places are those of a PCI Express type 0 header (PRESUMED, log entry 81). -/
def pciRead (s : State) (off : Nat) : Word :=
  let c := s.host.pci
  BitVec.ofNat 32 (match off with
    | 0x00 => Config.vendorId.toNat + fld 0x6400 16 16
    | 0x04 => fld (b2n c.memSpace) 1 1 + fld (b2n c.busMaster) 2 1
    | 0x08 => 0xB1 + fld 0x118000 8 24
    | 0x10 => bits c.bar0 0 32 + 4
    | 0x14 => bits c.bar0 32 32
    | 0x18 => bits c.bar2 0 32 + 12
    | 0x1C => bits c.bar2 32 32
    | _ => 0)

/-- The bytes of a memory write the device sends with one request: the max payload size the host has set, at most 512 (Table 2.1). -/
def maxPayload (s : State) : Nat := Nat.min 512 s.host.pci.mps

end Sys2Proof.Machine
end

