-- ==== Sys2Proof/Tests/Base.lean ====
section
/-! SUPPORT. Small states that the tests start from. -/

namespace Sys2Proof.Machine

/-- Both dies run, the engine die is out of reset, firmware is READY, and the host has turned memory space on. -/
def readyState : State :=
  { State.reset with
    host := { State.reset.host with pci := { State.reset.host.pci with memSpace := true } }
    sup := { State.reset.sup with power := { State.reset.sup.power with por := false, phase := .on, engRst := false } }
    fw := { State.reset.fw with st := .ready } }

/-- Slot 0 is POSTED with a command: its code and its parameter words. -/
def post (code : Nat) (ps : List Word) (s : State) : State :=
  let ws := [BitVec.ofNat 32 code, BitVec.ofNat 32 ps.length] ++ ps ++ List.replicate (62 - ps.length) 0
  { s with host := { s.host with slots := s.host.slots.set 0 { words := ws, st := .posted }, order := [0] } }

/-- The words of slot 0. -/
def words0 (s : State) : List Word := ((s.host.slots[0]?).map Slot.words).getD []

/-- The event ring is enabled and reachable. -/
def ringState : State :=
  { readyState with host := { readyState.host with evrEn := true, log2Size := 6, pci := { readyState.host.pci with busMaster := true }, evrBaseLo := 0x1000 } }

end Sys2Proof.Machine
end

