-- ==== Sys2Proof/Tests/Slice0.lean ====
section
/-! SUPPORT. Tests: ill-formed terms that the checks refuse, worked examples of the spec, and for every statement with hypotheses states
and operands that meet them together. -/

open Sys2Proof Sys2Proof.Machine

namespace Sys2Proof.Tests

set_option Elab.async false

/-! Well-formedness. -/

/-- Every check of Instr.wf refuses an ill-formed term (part 1). -/
theorem test_wf_refuses_1 : ([
    .registerWrite 0x2 0, .mailboxSlotWrite 16 0 [], .mailboxSlotWrite 0 64 [0], .hostInterfaceReset 4,
    .hostLinkRetrain 6 16, .hostLinkRetrain 0 16, .hostLinkRetrain 5 3, .pciePowerStateChange false {} { mps := 64 } {}, .pioWindowWrite 0 [0, 0, 0],
    .muleEnWrite 16 0, .muleStopWrite 16 0, .muleTailWrite 16 0, .muleResumeLoRead 16, .pioWindowWrite 16 [],
    .muleDescriptorFetch 16, .muleReadCompletion 16 0 ⟨[], false⟩, .muleReadTimeout 16, .ingestRecord 16, .posSample 8 0 0 0,
    .velocityStopTimeout 6, .zEdge 8 0, .strobeCommit 96, .blockFetch 28 0 0 0, .blockFetch 0 96 0 0,
    .blockDecodeDone 28 0 [] ⟨0, 0⟩] : List Instr).all (fun i => !i.wf) = true := by decide

/-- Every check of Instr.wf refuses an ill-formed term (part 2). -/
theorem test_wf_refuses_2 : ([
    .blockDecodeDone 0 96 [] ⟨0, 0⟩, .bandLineDone 28 0 0 0, .bandLineRelease 28 0, .bandLineRelease 0 96, .engineHang 28,
    .replayDone 28 [] ⟨0, 0⟩, .selfTestDone 28 false, .engineWarmupDone 28, .lineFrameStart 96 false, .prbsSlotSend 96,
    .codewordRx 96 [], .statusFrameRx 96, .mgmtResponseRx 96, .mgmtRetryTimeout 96, .probeTimer 96, .echoRx 96 [] 0,
    .probeTimeout 96, .prbsSlotRx 96, .acquirePeakTimer 96 0, .acquireRateTimer 96, .offlineRetryTimer 96,
    .mgmtOnlyRetryTimer 96, .fastExitTimeout 96, .linkErrorWindow 96 0] : List Instr).all (fun i => !i.wf) = true := by decide

/-- Every check of Instr.wf refuses an ill-formed term (part 3). -/
theorem test_wf_refuses_3 : ([
    .tilePowerDelayExpiry 6, .recordWrite 0 0, .recordWrite 5 0, .consAuthTimer 32, .consChipResponse 32 [] false,
    .consBusyRetry 32, .consIncrement 32, .camFrameStart 4 ⟨true, 0⟩, .camLine 4 ⟨0, [], []⟩, .camPipeLineDone 2 ⟨[], 0⟩, .camPipeLineDone 0 ⟨[], 32⟩, .camTrigPeriod 4,
    .camI2c 257 [], .calWindowTimeout 5 0, .calWindowTimeout 3 6, .calWindowTimeout 4 8, .calInterval 5 0, .calInterval 3 6,
    .calInterval 4 8, .loopTick (List.replicate 25 0) [] 0, .loopTick [] (List.replicate 25 0) 0, .loopTick [] [] (2 ^ 64),
    .seqInEdge 8 false, .hvArcEdge 24, .hvArcHoldExpiry 24] : List Instr).all (fun i => !i.wf) = true := by decide

/-- Every check of Instr.wf refuses an ill-formed term (part 4). -/
theorem test_wf_refuses_4 : ([
    .hvComplianceEnd 24, .thermistorSample (List.replicate 17 0), .thermistorSample [65537], .fuserComparatorTrip 4,
    .pwmPeriod 8 0 0 0, .drvFaultInput 8, .axisStopTimeout 8, .axisAlignDone 8, .busSample 2 0 0, .busSample 0 4096 0,
    .busSample 0 0 4096, .chopperDetectTimeout 2, .vbusHardTrip 2, .microstep 8, .stepHoldTimeout 8,
    .switchEdge 8 0 false false, .switchEdge 0 3 false false, .chatterWindowEnd 8 0, .chatterWindowEnd 0 3,
    .scrubRead 5 0 0 false, .scrubRead 12 0 0 false, .scrubLateTimeout 7, .scrubLateTimeout 12, .ddrSweepStart 4 ⟨0, 0⟩] : List Instr).all (fun i => !i.wf) = true := by decide

/-- Every check of Instr.wf refuses an ill-formed term (part 5). -/
theorem test_wf_refuses_5 : ([
    .ddrSweepPause 4 false false [], .chkScanDone 2 false, .safeInEdge 2, .hvInterlockChange 4 false, .powerSeqStep 7,
    .pwrPgLoss 7, .jtagInstruction false 4, .blockLock 96 [], .idleEnterRx ⟨96, []⟩, .safeInHealthy 2, .consBusTimeout 32,
    .prbsCheckerSync true 2 [], .prbsCheckerSync false 96 []] : List Instr).all (fun i => !i.wf) = true := by decide

/-- Operands at the ends of their ranges are well-formed. -/
theorem test_wf_takes_the_ends : ([.mailboxSlotWrite 15 63 [0], .posSample 7 0 0 0, .pciePowerStateChange true {} {} {}, .pioWindowWrite 15 [0, 0, 0, 0], .camPipeLineDone 1 ⟨[], 31⟩, .zEdge 7 0, .lineFrameStart 95 false, .recordWrite 4 0,
    .calWindowTimeout 3 5, .calWindowTimeout 4 7, .scrubRead 11 0 0 false, .prbsCheckerSync true 1 [], .camI2c 256 [],
    .busSample 1 4095 4095, .registerWrite 4 0] : List Instr).all Instr.wf = true := by decide

/-! Worked examples of the spec. -/

/-- Table 13.7: the check value of each CRC on the nine digits. -/
theorem test_crc_checks : (List.range 4).map (fun a => scanCrc a none ((List.range 9).map (fun i => BitVec.ofNat 8 (49 + i))))
    = [0xE3069283, 0xCBF43926, 0x29B1, 0x6C40DF5F0B497347] := by decide +kernel

/-- Table 3.8: the worked block. -/
theorem test_codec_example : encodeRows 1 [[40, 42, 42, 42, 90]] = [0x00, 0x00, 0x09, 0x12, 0x0A, 0x20] := by decide +kernel

/-- Table 5.4, steps 1 to 9: the worked column's place in the source. -/
theorem test_map_example :
    let g : TileGeom := { xoff := 40, xscale := 150, skew := -96, bow := 32 }
    colX64 g 5 20 = 1291541 ∧ srcX64 1291541 600 = 610177 ∧ bandMap false 600 20160 5 = (9492, 2000)
      ∧ (colD g 20, colDInt g 20, colDFrac g 20) = (126, 1, 62) ∧ srcY64 1000 62 600 20 = 30207
      ∧ kernelAt 0 1 = (-31, 4093, 34, 0) := by decide +kernel

/-- Table 5.4, steps 10 to 15: its value, its tone and its dose. -/
theorem test_tone_example :
    resampleLine (-31, 4093, 34, 0) 120 124 130 131 = 1993 ∧ resampleLine (-31, 4093, 34, 0) 118 122 128 132 = 1961
      ∧ toneOut [0, 0, 0, 0, 0, 0, 0, 1800, 2030, 0, 0, 0, 0, 0, 0, 0, 0] 1962 = 1953
      ∧ screenDose { k := 4, d := [0, 70, 135, 198, 255] } 1953 150 = 135 := by decide +kernel

/-- Table 6.4: the split of the worked tile. -/
theorem test_split_example :
    let a := splitTile { rank := 6410, regHost := -7, rb := 258 }
    (a.ia, a.ta, a.ib, a.tb) = (98, 131, 102, 133) := by decide +kernel

/-- Tables 10.5 and 10.6: the inverse of the response at the eight means, the four errors, and the knots of cell 50. -/
theorem test_calibration_example :
    [51960, 39880, 28400, 20100, 52010, 39900, 28450, 20080].map
        (responseInv [(512, 52000), (1536, 40000), (2560, 29000), (3584, 20000)]) = [515, 1547, 2628, 3573, 511, 1545, 2623, 3575]
      ∧ [acceptError 8 (-5) (-7), acceptError 8 7 11, acceptError 8 28 25, acceptError 8 (-7) (-11)] = [0, 9, 27, -9]
      ∧ (List.range 17).map (knotCorr [0, -9, -27, 9]) = [0, 0, 0, -2, -5, -7, -9, -14, -18, -23, -27, -18, -9, 0, 9, 9, 9] := by
  decide +kernel

/-- Table 11.3: slot 20 in automatic, with the two writes of the example queued and the error at 3,277. -/
def retuned : State :=
  setLoop 20 (fun l => { l with
    configured := true, auto := true, fresh := false, acc := 16000 * 32768, out := 16000, sp := 3277
    coef := [8192, 655, 0, 0, 0, 0, 32767], queue := [(0, 16384), (1, 328)] }) readyState

theorem test_retune_example :
    (loopOf (loopSample 20 retuned) 20).out = 17704 ∧ (loopOf (loopSample 20 retuned) 20).acc = 526434435
      ∧ (loopOf (loopSample 20 (loopSample 20 retuned)) 20).out = 17737 := by decide +kernel

/-- §12, worked example: the duty clamp, the usable windows, and the two setpoints in Q15. -/
theorem test_drive_example :
    let c : DrvCfg := { dt := 50, twin := 20, fpwm := 20 }
    dClamp c = 31129 ∧ (usable c 31900, usable c 20000, usable c 1500) = (false, true, true)
      ∧ scaleQ15 (-120000) 1000000 = -3932 ∧ scaleQ15 300000 1000000 = 9830 := by decide +kernel

/-- The forecast of §14: 14 W + 10 W × S × f ÷ 100,000, in microwatts, at 80,000 lines/s. -/
theorem test_forecast_example : forecastPower State.reset 4 80000 = 46000000 ∧ forecastPower State.reset 6 80000 = 62000000 := by
  decide +kernel

/-- The example of R496: balls of the grid, and the four lists fill their blocks. -/
theorem test_ball_map :
    [ballAt 1 2, ballAt 1 3, ballAt 12 47, ballAt 12 48, ballAt 2 50, ballAt 18 53, ballAt 19 50, ballAt 37 29]
        = [some (.hlTxP 0), some (.hlTxN 0), some (.hlRxP 95), some (.hlRxN 95), some (.peTxP 0), some .pePerstN, some (.camD 0 0), some (.pwrEn 0)]
      ∧ [ballAt 13 1, ballAt 13 12, ballAt 14 12, ballAt 13 13, ballAt 13 15, ballAt 55 55]
        = [some (.ddrDq 0 0), some (.ddrDqsP 0 1), some (.ddrDqsN 0 1), some .vddHl075, some .vss, some .nc]
      ∧ (listK.length, listM.length, listD.length, listZ.length) = (108, 512, 819, 600) := by decide +kernel

/-- Table 2.4 and Table 2.10 at reset. -/
theorem test_registers_at_reset : regRead State.reset 0x3008 = 0x600 ∧ regRead State.reset 0x301C = 1 := by decide +kernel

/-! Witnesses of the statements. -/

theorem wit_EmptyQueueIdles_1 : State.reset.pending = [] ∧ fwReady State.reset = false := by decide
theorem wit_EmptyQueueIdles_2 : readyState.pending = [] ∧ fwReady readyState = true ∧ loadingScreen readyState = none
    ∧ readyState.loop.loads = [] := by decide

theorem wit_EveryStepKeepsTheBounds : Bounded State.reset := ⟨by decide, by decide, by decide, by decide⟩

theorem wit_RunsKeepTheBounds : Bounded State.reset ∧ reaches 0 State.reset State.reset :=
  ⟨⟨by decide, by decide, by decide, by decide⟩, rfl⟩

def fullState (code : Nat) (ps : List Word) : State :=
  let s := post code ps readyState
  { s with host := { s.host with outstanding := List.replicate 60 { oid := 0, slot := 1, word0 := 0, cls := .background, pageId := 0 } } }

theorem wit_ServingChecksInOrder_none : takeable readyState = none := by decide
theorem wit_ServingChecksInOrder_unknown : takeable (post 0x0199 [] readyState) = some (0, words0 (post 0x0199 [] readyState))
    ∧ knownCode (bits (wordAt (words0 (post 0x0199 [] readyState)) 0) 0 16) = false := by decide
theorem wit_ServingChecksInOrder_param : takeable (post 0x0104 [1] readyState) = some (0, words0 (post 0x0104 [1] readyState))
    ∧ knownCode 0x0104 = true ∧ bits (wordAt (words0 (post 0x0104 [1] readyState)) 0) 0 16 = 0x0104
    ∧ paramsOk [] (words0 (post 0x0104 [1] readyState)) = false := by decide
theorem wit_ServingChecksInOrder_busy : takeable (fullState 0x0404 [1]) = some (0, words0 (fullState 0x0404 [1]))
    ∧ knownCode 0x0404 = true ∧ bits (wordAt (words0 (fullState 0x0404 [1])) 0) 0 16 = 0x0404
    ∧ paramsOk [0x3F] (words0 (fullState 0x0404 [1])) = true ∧ 60 ≤ (fullState 0x0404 [1]).host.outstanding.length := by decide
theorem wit_ServingChecksInOrder_run : takeable (post 0x0404 [1] readyState) = some (0, words0 (post 0x0404 [1] readyState))
    ∧ knownCode 0x0404 = true ∧ bits (wordAt (words0 (post 0x0404 [1] readyState)) 0) 0 16 = 0x0404
    ∧ paramsOk [0x3F] (words0 (post 0x0404 [1] readyState)) = true
    ∧ (post 0x0404 [1] readyState).host.outstanding.length < 60 := by decide

theorem wit_ResponseIsWritten : ∃ q, readyState.host.slots[0]? = some q ∧ bitOf (wordAt q.words 0) 16 = false :=
  ⟨{}, by decide, by decide⟩
theorem wit_ResponseIsWritten_irq : ∃ q, (post 0x10102 [] readyState).host.slots[0]? = some q ∧ bitOf (wordAt q.words 0) 16 = true :=
  ⟨_, rfl, by decide⟩

theorem wit_EventReachesRingOrBacklog_ring : engOn ringState = true ∧ ringOpen (envOf ringState) ringState.host = true
    ∧ ringState.host.backlog = [] ∧ ringState.host.shadowEn = false := by decide
theorem wit_EventReachesRingOrBacklog_shadow :
    let s := { ringState with host := { ringState.host with shadowEn := true, shadowLo := 0x10 } }
    engOn s = true ∧ ringOpen (envOf s) s.host = true ∧ s.host.backlog = [] ∧ s.host.shadowEn = true := by decide
theorem wit_EventReachesRingOrBacklog_backlog : engOn readyState = true
    ∧ ¬ (ringOpen (envOf readyState) readyState.host = true ∧ readyState.host.backlog = []) ∧ readyState.host.backlog.length < 1024 := by decide
theorem wit_EventReachesRingOrBacklog_lost :
    ∃ l : List EventRec, 1024 ≤ l.length ∧ engOn { readyState with host := { readyState.host with backlog := l } } = true :=
  ⟨List.replicate 1024 { time := 0, code := 0, source := 0, pageId := 0, line := 0, d0 := 0, d1 := 0, d2 := 0 },
   Nat.le_of_eq List.length_replicate.symm, rfl⟩

theorem wit_CountersFollowTheirClass_w : (ctrDesc 0x0100).map CtrDesc.cls = some .w := by decide
theorem wit_CountersFollowTheirClass_s : (ctrDesc 0x0302).map CtrDesc.cls = some .s ∧ (ctrDesc 0x0302).map CtrDesc.width = some 32
    ∧ engOn readyState = true ∧ readyState.host.backlog.length < 1023 ∧ ctrKey 0x0302 0 ≠ ctrKey 0x0F07 0 := by decide

theorem wit_RegisterWrites : barOn readyState = true ∧ regListed 0x02C = false ∧ readyState.host.evrEn = false := by decide
theorem wit_RegisterWrites_locked : barOn ringState = true ∧ ringState.host.evrEn = true := by decide
theorem wit_RegisterWrites_off : barOn State.reset = false := by decide

theorem wit_AccessErrors : barOn readyState = true ∧ regListed 0x6000 = false ∧ regListed 0x5000 = true := by decide

theorem wit_TimeRead : barOn readyState = true ∧ readyState.host.diagEn = false := by decide
theorem wit_DiagRead :
    let s := { readyState with host := { readyState.host with diagEn := true } }
    barOn s = true ∧ s.host.diagEn = true ∧ s.host.diagRegion = 0 ∧ (67108863 : Nat) < 2 ^ 26 := by decide

theorem wit_MailboxSlots : barOn readyState = true ∧ (15 : Nat) < 16 ∧ (60 : Nat) + [(1 : Word), 2, 3, 4].length ≤ 64 ∧ hostOwns readyState 15 = true := by decide
theorem wit_MailboxSlots_owned : barOn (post 0x0102 [] readyState) = true ∧ hostOwns (post 0x0102 [] readyState) 0 = false := by decide

theorem wit_RingControl_enable : barOn readyState = true ∧ (1 : Word).getLsbD 0 = true ∧ readyState.host.evrEn = false
    ∧ readyState.host.backlog = [] := by decide
theorem wit_RingControl_on : barOn ringState = true ∧ ringState.host.evrEn = true := by decide
theorem wit_RingControl_index : ringSize ringState.host < (ringState.host.evrWrite - (1 : Word)).toNat
    ∧ (ringState.host.evrWrite - (0xFFFFFFC0 : Word)).toNat ≤ ringSize ringState.host := by decide

theorem wit_Backlog_drain : ∃ r : EventRec, let s := { ringState with host := { ringState.host with backlog := [r] } }
    engOn s = true ∧ s.host.backlog = [r] ∧ ringOpen (envOf s) s.host = true ∧ s.host.lostSince = 0 ∧ s.host.shadowEn = false :=
  ⟨{ time := 0, code := 0, source := 0, pageId := 0, line := 0, d0 := 0, d1 := 0, d2 := 0 }, by decide⟩
theorem wit_Backlog_closed : engOn readyState = true ∧ ringOpen (envOf readyState) readyState.host = false := by decide
theorem wit_ModTimer : let s := { readyState with host := { readyState.host with firstUnsignalled := some 0, modTimer := 0xFFFF } }
    engOn s = true ∧ s.host.firstUnsignalled = some 0 ∧ s.host.modTimer ≠ 0 := by decide

theorem wit_HostLinkChanges : engOn readyState = true ∧ (3 : Nat) < 4 ∧ (5 : Nat) ≤ 5 ∧ (16 : Nat) ∈ [1, 2, 4, 8, 16]
    ∧ readyState.host.linkUp = true ∧ PciCfg.wf { memSpace := true, bar2 := 2 ^ 26, mrrs := 4096 } = true := by decide

def muleState (ch : Nat) (f : MuleChan → MuleChan) : State := setChan ch f ringState
theorem wit_Mule_en : let s := muleState 15 (fun c => { c with st := .stopped })
    barOn s = true ∧ s.spool.chans.length = 16 ∧ (1 : Word).getLsbD 0 = true ∧ (chan s 15).en = false ∧ (chan s 15).st ≠ .unbound := by decide
theorem wit_Mule_unbound : barOn ringState = true ∧ ringState.spool.chans.length = 16 ∧ (chan ringState 0).en = false
    ∧ (chan ringState 0).st = .unbound := by decide
theorem wit_Mule_run : let s := muleState 15 (fun c => { c with st := .run, en := true, pio := true, page := some 0 })
    (chan s 15).en = true ∧ (chan s 15).st = .run ∧ (chan s 15).desc = none ∧ (chan s 15).pio = true
    ∧ ((16 : Word) - (chan s 15).head).toNat ≤ muleN (chan s 15) ∧ muleN (chan s 15) < ((17 : Word) - (chan s 15).head).toNat
    ∧ (List.replicate 8 (0 : Byte)).length ≤ pioFree (chan s 15) := by decide

theorem wit_MuleFetch_ok : let s := muleState 15 (fun c => { c with st := .run, en := true, tail := 1 })
    let s := { s with hostMem := memWrite [] 8 [4] }
    engOn s = true ∧ canFetch s 15 = true ∧ (hostRead s (descAddr (chan s 15)) 24).map descOk = some true := by decide +kernel
theorem wit_MuleFetch_bad : let s := muleState 15 (fun c => { c with st := .run, en := true, tail := 1 })
    engOn s = true ∧ canFetch s 15 = true ∧ (hostRead s (descAddr (chan s 15)) 24).map descOk = some false := by decide +kernel
theorem wit_MuleRead : let d : DescRun := { addr := 4, len := 8, fixed := false, irq := false, stop := false, requests := [(4, 8)], asked := 8 }
    let s := muleState 15 (fun c => { c with desc := some d })
    engOn s = true ∧ (chan s 15).desc = some d ∧ d.requests = (4, 8) :: [] ∧ 15 < s.spool.chans.length
    ∧ d.fixed = false ∧ (7 : Nat) ≤ 8 ∧ hostOk s 4 7 = true ∧ d.got + 7 < d.len
    ∧ hostOk { s with hostBad := [(4, 5)] } 4 7 = false := by decide
theorem wit_MuleReadFixed : let d : DescRun := { addr := 4, len := 8, fixed := true, irq := false, stop := false, requests := [(4, 8)], asked := 8 }
    let s := muleState 15 (fun c => { c with desc := some d })
    engOn s = true ∧ (chan s 15).desc = some d ∧ d.requests = (4, 8) :: [] ∧ 15 < s.spool.chans.length
    ∧ d.fixed = true ∧ [(1 : Byte), 2, 3].length ≤ 8 ∧ d.got + [(1 : Byte), 2, 3].length < d.len := by decide
def pageState (st : PageSt) (i : Ingest) : State :=
  let s := muleState 0 (fun c => { c with st := .run, en := true, page := some 0 })
  { s with page := { s.page with pages := [{ key := 0, id := 7, preverify := false, trust := false, planes := 1, st := st }], nextKey := 1 }
           spool := { s.spool with ingests := [i], objs := [{ sid := 0, planes := 1 }] } }
def recState (buf : List Byte) : State := setChan 0 (fun c => { c with buf := buf }) (pageState .queued { page := 0, sid := 0 })
def pageHdr (bad : Nat) : List Byte :=
  let h := leBytes 2 0xFA01 ++ leBytes 2 32 ++ [0, BitVec.ofNat 8 (2 + bad), 1, 0] ++ leBytes 4 7 ++ leBytes 4 100 ++ List.replicate 12 0
  h ++ leBytes 4 (crc32c h)
/-- A record is ready at the head of channel 0, and its checks answer `v`. -/
def ingestReady (s : State) (v : Nat) : Prop :=
  ∃ p i o n, engOn s = true ∧ (chan s 0).st = .run ∧ (chan s 0).holdUntil ≤ s.now ∧ recReady s 0 = true ∧ ingestWaits s = false ∧ (chan s 0).page = some 0
    ∧ pageOf s 0 = some p ∧ ingestOf s 0 = some i ∧ pageObj s 0 = some o ∧ recLen (chan s 0).buf = some n ∧ s.test.injections = []
    ∧ (judgeRecord p o ((chan s 0).buf.take n)).1 = v
theorem wit_Ingest_pass : ingestReady (recState (pageHdr 0)) 0 :=
  ⟨_, _, _, _, by decide, by decide, by decide, by decide +kernel, by decide, by decide, rfl, rfl, rfl, rfl, by decide, by decide +kernel⟩
theorem wit_Ingest_refuse : ingestReady (recState ([0x01, 0xFA] ++ List.replicate 30 0)) 1 :=
  ⟨_, _, _, _, by decide, by decide, by decide, by decide +kernel, by decide, by decide, rfl, rfl, rfl, rfl, by decide, by decide +kernel⟩
theorem wit_Ingest_fail : ingestReady (recState (pageHdr 1)) 2 :=
  ⟨_, _, _, _, by decide, by decide, by decide, by decide +kernel, by decide, by decide, rfl, rfl, rfl, rfl, by decide, by decide +kernel⟩
def verifyBlock : BlockRec :=
  { hdr := List.replicate 40 0, block := 0, alive := 0, coding := 4, rows := 1, outSize := 1, compLen := 1, crcOrig := crc32c [9], extent := 0, offset := 0, payload := [9] }
def verifyStream : PbStream := { plane := 0, band := 0, colFirst := 0, colCount := 1, blocks := 1, recs := [verifyBlock] }
def verifyState : State :=
  let s := pageState .queued { page := 0, sid := 0, st := .verifying }
  { s with spool := { s.spool with objs := [{ sid := 0, planes := 1, streams := [verifyStream] }] }
           exp := { s.exp with engines := s.exp.engines.map (fun e => { e with st := .spare }) } }
theorem wit_Preverify : ∃ i p o, engOn verifyState = true ∧ (verifyEngine verifyState i).isSome = true
    ∧ verifyState.spool.ingests.find? (fun i => i.st == .verifying) = some i ∧ pageOf verifyState i.page = some p
    ∧ objOf verifyState i.sid = some o ∧ (pageBlocks o p.planes)[i.verified]? = some (verifyStream, verifyBlock) ∧ i.retry = none
    ∧ (laneChecks verifyStream verifyBlock [9] 0).check = 0 :=
  ⟨_, _, _, by decide, by decide +kernel, rfl, rfl, rfl, by decide +kernel, rfl, by decide +kernel⟩

def spoolState (st : PageSt) (h : Option Nat) : State :=
  { readyState with
    page := { readyState.page with pages := [{ key := 0, id := 7, preverify := false, trust := false, planes := 1, st := st }], nextKey := 1 }
    spool := { readyState.spool with ingests := [{ page := 0, sid := 0 }], objs := [{ sid := 0, planes := 1 }],
                                       retains := (h.map (fun h => { handle := h, page := 0, sid := 0, planes := 1 })).toList } }
theorem wit_SpoolBind : let s := post 0x0305 [7, 0x10F] (spoolState .queued none)
    ∃ p i, Accepts s 0x0305 [allBits, 0x10F] 0 (words0 s) ∧ findPage s (par (words0 s) 2) = some p ∧ ingestOf s p.key = some i ∧ p.st = .queued
      ∧ i.st = .receiving ∧ boundTo s p.key = none ∧ (chan s (bits (par (words0 s) 3) 0 4)).st = .unbound :=
  ⟨_, _, by unfold Accepts; decide +kernel, rfl, rfl, rfl, rfl, by decide, by decide⟩
theorem wit_SpoolUnbind : let s := post 0x0306 [15] (setChan 15 (fun c => { c with st := .stopped }) readyState)
    Accepts s 0x0306 [0xF] 0 (words0 s) ∧ (chan s (par (words0 s) 2)).st = .stopped := by unfold Accepts; decide +kernel
theorem wit_SpoolStatus : let s := post 0x0307 [7] (spoolState .queued none)
    Accepts s 0x0307 [allBits] 0 (words0 s) ∧ (findPage s (par (words0 s) 2)).isSome = true := by unfold Accepts; decide +kernel
theorem wit_SpoolInfo : Accepts (post 0x0308 [] readyState) 0x0308 [] 0 (words0 (post 0x0308 [] readyState)) := by unfold Accepts; decide +kernel
theorem wit_SpoolRetain (h : Option Nat) (e : h = some 255 ∨ h = none) : let s := post 0x0309 [7] (spoolState .spooled h)
    ∃ p o, Accepts s 0x0309 [allBits] 0 (words0 s) ∧ findPage s (par (words0 s) 2) = some p ∧ p.st = .spooled ∧ pageObj s p.key = some o
      ∧ (retentionOf s p.key).map Retention.handle = h
      ∧ (h = none → (List.range 256).find? (fun h => !(s.spool.retains.map Retention.handle).contains h) = some 0) := by
  rcases e with e | e <;> subst e <;> exact ⟨_, _, by unfold Accepts; decide +kernel, rfl, rfl, rfl, rfl, by decide +kernel⟩
theorem wit_SpoolRepeat (v : Word) (e : v = 0x101 ∨ v = 0) : let s := post 0x030A [255, 9, v] (spoolState .queued (some 255))
    ∃ r o, Accepts s 0x030A [0xFF, allBits, 0x3F03] 0 (words0 s) ∧ retentionBy s (par (words0 s) 2) = some r ∧ objOf s r.sid = some o
      ∧ maskDiff (if bits (par (words0 s) 4) 8 6 = 0 then r.planes else bits (par (words0 s) 4) 8 6) r.planes = 0 := by
  rcases e with e | e <;> subst e <;> exact ⟨_, _, by unfold Accepts; decide +kernel, rfl, rfl, by decide +kernel⟩
theorem wit_SpoolRelease : let s := post 0x030B [255] (spoolState .queued (some 255))
    Accepts s 0x030B [0xFF] 0 (words0 s) ∧ (retentionBy s (par (words0 s) 2)).isSome = true := by unfold Accepts; decide +kernel

theorem wit_Bandmap : let s := post 0x0301 [0x012C012C, 0, 1048576] readyState
    Accepts s 0x0301 [allBits, 3, allBits] 0 (words0 s) ∧ bitOf (par (words0 s) 3) 0 = false ∧ 300 ≤ bits (par (words0 s) 2) 0 16
      ∧ par (words0 s) 4 ≤ 1048576 := by unfold Accepts; decide +kernel
theorem wit_Bandmap_dose : let s := post 0x0301 [0, 1, 1] readyState
    Accepts s 0x0301 [allBits, 3, allBits] 0 (words0 s) ∧ bitOf (par (words0 s) 3) 0 = true ∧ bits (par (words0 s) 2) 0 16 = 0
      ∧ 1 ≤ par (words0 s) 4 := by unfold Accepts; decide +kernel
theorem wit_Compress : let s := post 0x0302 [0, 0, 0x00102105, 0, 0, 0, 4, 0, 135288] readyState
    Accepts s 0x0302 [allBits, allBits, 0xF71F3FFF, 0xFF0F, allBits, allBits, allBits, allBits, allBits, 0x3FFFF] 0 (words0 s)
      ∧ bits (par (words0 s) 4) 0 14 = 8453 ∧ bits (par (words0 s) 4) 16 5 = 16 ∧ bits (par (words0 s) 11) 0 18 = 0 ∧ par (words0 s) 8 % 4 = 0
      ∧ 40 + 16 * 8453 + padLen (40 + 16 * 8453) ≤ par (words0 s) 10 ∧ jobCount s < 16 := by unfold Accepts; decide +kernel
theorem wit_Verify : let s := post 0x0304 [0, 0, 8453] readyState
    Accepts s 0x0304 [allBits, allBits, 0x3FFF, allBits, allBits, allBits] 0 (words0 s) ∧ bits (par (words0 s) 4) 0 14 ≤ 8453
      ∧ 1 ≤ bits (par (words0 s) 4) 0 14 ∧ jobCount s < 16 := by unfold Accepts; decide +kernel
theorem wit_Flush : let j : CodecJob := { oid := 0, work := .compress [] }
    let s := post 0x0303 [0] (setJobs [j] readyState)
    Accepts s 0x0303 [1] 0 (words0 s) ∧ par (words0 s) 2 = 0 ∧ s.spool.jobs = [j] ∧ j.abandoned = false := by unfold Accepts; decide +kernel
theorem wit_Job : let s := setJobs [{ oid := 0, work := .compress [], running := true }] readyState
    fwReady s = true ∧ engOn s = true ∧ s.spool.jobs = [{ oid := 0, work := .compress [], running := true }] := by decide

def onePage (st : PageSt) : State :=
  { readyState with page := { readyState.page with
      pages := [{ key := 0, id := 7, preverify := false, trust := false, planes := 1, st := st }], nextKey := 1 } }
theorem wit_PageAnnounce : let s := post 0x0201 [7, 3, 0x3F] readyState
    Accepts s 0x0201 [allBits, 3, 0x3F] 0 (words0 s) ∧ par (words0 s) 4 ≠ 0 := by unfold Accepts; decide +kernel
theorem wit_PageStatus : let s := post 0x0204 [7, 0, 0, 0] (onePage .queued)
    Accepts s 0x0204 [allBits, 1, allBits, allBits] 0 (words0 s) ∧ (statusPage s (words0 s)).isSome = true := by unfold Accepts; decide +kernel
theorem wit_PageWithdraw (st : PageSt) (h : st = .queued ∨ st = .active) : let s := post 0x0203 [7] (onePage st)
    ∃ p, Accepts s 0x0203 [allBits] 0 (words0 s) ∧ findPage s (par (words0 s) 2) = some p ∧ p.live = (st == .active)
      ∧ boundTo s p.key = none := by
  rcases h with h | h <;> subst h <;> exact ⟨_, by unfold Accepts; decide +kernel, rfl, rfl, rfl⟩
theorem wit_PageConfig (st : PageSt) (h : st = .queued ∨ st = .active) :
    let s := post 0x0205 ([0x500, 0x3F00, 0] ++ List.replicate 15 0) (onePage st)
    Accepts s 0x0205 ([0x10701, 0x3F3F, 3] ++ List.replicate 15 allBits) 0 (words0 s) ∧ pageCfgOk s (pageCfgOf (words0 s)) = true
      ∧ anyLive s = (st == .active) := by
  rcases h with h | h <;> subst h <;> unfold Accepts <;> decide +kernel
theorem wit_PageGap (v : Word) (h : v = 0 ∨ v = 0x00010020 ∨ v = 0x01000020) (w : Option Hold)
    (e : w = none ∨ w = some { lines := 64, common := false, mask := 2 }) :
    let s := post 0x0206 [v] { readyState with page := { readyState.page with hold := w } }
    Accepts s 0x0206 [0x3F01FFFF] 0 (words0 s) ∧ s.page.hold = w
      ∧ (v ≠ 0 → bits (par (words0 s) 2) 0 16 = 32 ∧ (bitOf (par (words0 s) 2) 16 = true ∨ bits (par (words0 s) 2) 24 6 ≠ 0)) := by
  rcases h with h | h | h <;> rcases e with e | e <;> subst h e <;> exact ⟨by unfold Accepts; decide +kernel, rfl, by decide +kernel⟩
theorem wit_PageSpoil (st : PageSt) (h : st = .queued ∨ st = .active) : let s := post 0x0207 [7] (onePage st)
    ∃ p, Accepts s 0x0207 [allBits] 0 (words0 s) ∧ findPage s (par (words0 s) 2) = some p ∧ p.running = (st == .active) := by
  rcases h with h | h <;> subst h <;> exact ⟨_, by unfold Accepts; decide +kernel, rfl, rfl⟩

def startState (web : Bool) (ps : List Page) : State :=
  { readyState with page := { readyState.page with pages := ps, cfg := { readyState.page.cfg with web := web } } }
theorem wit_Tos_none : engOn (startState false []) = true ∧ waitingPage (atTime 5 (startState false [])) = none := by decide
theorem wit_Tos_early : let p : Page := { key := 0, id := 7, preverify := false, trust := false, planes := 1, st := .admitted }
    let u := atTime 5 (startState false [p])
    engOn u = true ∧ waitingPage u = some p ∧ startEarly u p = true := by decide +kernel
theorem wit_Tos_start (h : Option Hold) (e : h = none ∨ h = some { lines := 64, common := true, mask := 0 }) :
    let p : Page := { key := 0, id := 7, preverify := false, trust := false, planes := 1, st := .admitted }
    let q : Page := { key := 1, id := 8, preverify := false, trust := false, planes := 1, st := .active }
    let u := atTime 5 (setTrk 0 (fun t => { t with en := true, cpl := 0x10000 })
      { startState false [p, q] with page := { (startState false [p, q]).page with
          cfg := { readyState.page.cfg with offsets := [512, 0, 0, 0, 0, 0] }, hold := h, lastActive := some 1 } })
    engOn u = true ∧ waitingPage u = some p ∧ startEarly u p = false ∧ (holdSays u p = .broken ↔ h ≠ none) := by
  rcases e with e | e <;> subst e <;> decide +kernel
def inputState (mode good : Nat) (fault : Bool) : State :=
  setIn 7 (fun p => { p with mode := mode, good := good, fault := fault }) readyState
theorem wit_PosSample (good : Nat) (fault : Bool) (h : (good = 0 ∧ fault = false) ∨ (good = 6 ∧ fault = true) ∨ (good = 7 ∧ fault = true)) :
    let p := posIn (inputState 1 good fault) 7
    macOn (inputState 1 good fault) = true ∧ p.mode = 1 ∧ p.filter * 5000 ≤ 5000 ∧ sampleBad p 1 5000 (sampleRaw p 1 0) = false
      ∧ p.fault = fault ∧ p.good = good := by
  rcases h with h | h | h <;> obtain ⟨rfl, rfl⟩ := h <;> decide
theorem wit_PosSample_bad : let p := posIn (inputState 2 0 false) 7
    p.mode = 2 ∧ p.nextAt ≤ 0 ∧ sampleBad p 0 399 (sampleRaw p 0 0) = true ∧ sampleBad p 0 400 (sampleRaw p 0 0) = false := by decide
theorem wit_PosSample_timed : let p := posIn (inputState 5 0 false) 7
    p.mode = 5 ∧ p.nextAt ≤ 0 ∧ sampleBad p 0 0 (sampleRaw p 0 0) = false ∧ p.fault = false := by decide
theorem wit_VelocityStop : let s := setTrk 5 (fun t => { t with en := true, samples := [(1, 2)] }) readyState
    engOn s = true ∧ (trk s 5).en = true ∧ (trk s 5).samples.head? = some (1, 2) := by decide
theorem wit_Strobe : let s := setDly 95 (fun d => { d with nextStrobe := 0 }) (setPort 95 (fun p => { p with st := .online, awaits := [{ k := 0, imgA := 0, imgB := 0 }] })
      (setTrk 5 (fun t => { t with en := true, k := -1, cpl := 0x10000, samples := (List.range 8).map (fun (n : Nat) => ((-100 - n : Int), (800000000 - 100000000 * n : Nat))) }) readyState))
    engOn s = true ∧ (port s 95).st = .online ∧ (trk s (stOf 95)).en = true ∧ (dly s 95).nextStrobe ≤ (trk s (stOf 95)).k + 1
      ∧ (port s 95).awaits.find? (fun a => a.k == (dly s 95).nextStrobe) = some { k := 0, imgA := 0, imgB := 0 } ∧ (strobeSend s 95 (dly s 95).nextStrobe).isSome = true := by decide +kernel
theorem wit_TimeRef (l : Bool) (h : l = true ∨ l = false) : let s := { readyState with pos := { readyState.pos with refExt := true, locked := l } }
    engOn s = true ∧ s.pos.refExt = true ∧ s.pos.locked = l := by rcases h with h | h <;> subst h <;> decide

def gapState (scope : Option Nat) : State :=
  { readyState with page := { readyState.page with gapPending := [{ work := .mask 5, scope := scope, nextWanted := 9, oid := none }] } }
theorem wit_GapStart : let g : GapItem := { work := .mask 5, scope := some 32, nextWanted := 9, oid := none }
    let s := gapState (some 32)
    fwReady s = true ∧ s.page.admitWaits = [] ∧ gapRemain s g = some none ∧ s.now ≤ g.nextWanted ∧
      (s.page.gapPending.filter (fun g => !s.page.gapRunning.any (fun r => r.item.scope == g.scope))).find?
        (fun g => gapNext s g.scope == some g) = some g := by decide +kernel
theorem wit_GapDone : let s := { readyState with page := { readyState.page with gapRunning := [{ item := { work := .mask 5, scope := none, nextWanted := 9, oid := none }, extent := 32, count := 0 }] } }
    engOn s = true ∧ (s.page.gapRunning.find? (fun r => r.item.work != .handover)).isSome = true := by decide

theorem wit_Sys : let m (c : Nat) : State := post c [1, 2] readyState
    let z (c : Nat) : State := post c [] readyState
    Accepts (m 0x0102) 0x0102 (List.replicate 62 allBits) 0 (words0 (m 0x0102)) ∧ Accepts (z 0x0101) 0x0101 [] 0 (words0 (z 0x0101))
      ∧ Accepts (z 0x0103) 0x0103 [] 0 (words0 (z 0x0103)) ∧ Accepts (z 0x0104) 0x0104 [] 0 (words0 (z 0x0104))
      ∧ Accepts (z 0x0105) 0x0105 [] 0 (words0 (z 0x0105)) := by unfold Accepts; decide +kernel

theorem wit_ExpPlain (c : Nat) (h : c = 0x0401 ∨ c = 0x0406) : Accepts (post c [] readyState) c [] 0 (words0 (post c [] readyState)) := by
  rcases h with h | h <;> subst h <;> unfold Accepts <;> decide +kernel
theorem geomValid_zero (t : Nat) : geomValid {} t = true := by
  simp [geomValid, colX64, colD, floorDiv]
theorem wit_ExpGeom : let s := post 0x0402 (0x00020501 :: List.replicate 32 0) readyState
    Accepts s 0x0402 (0x00030701 :: List.replicate 32 allBits) 0 (words0 s) ∧ bits (par (words0 s) 2) 8 3 = 5 ∧ bits (par (words0 s) 2) 16 2 = 2
      ∧ (∀ t, t < 16 → geomInRange (geomParam (words0 s) t) = true ∧ geomParam (words0 s) t = {}) ∧ geomInUse s 1 5 = false
      ∧ 1 < s.exp.banks.length := by
  unfold Accepts; decide +kernel
theorem wit_ExpScreen : let s := post 0x0403 [0x501, 0x02000200, 0x00FF01FF, 0x01FF01FF, 0, 0, 0] readyState
    Accepts s 0x0403 [0x701, 0x03FF03FF, 0x00FF01FF, 0x01FF01FF, allBits, allBits, allBits] 0 (words0 s) ∧ bits (par (words0 s) 3) 0 10 = 512
      ∧ bits (par (words0 s) 5) 16 9 < bits (par (words0 s) 3) 16 10 ∧ bits (par (words0 s) 4) 0 9 < 512 ∧ bits (par (words0 s) 4) 16 8 ≠ 0
      ∧ screenInUse s 1 5 = false := by unfold Accepts; decide +kernel
theorem wit_ExpTone : let s := post 0x0404 [0x3F] readyState
    Accepts s 0x0404 [0x3F] 0 (words0 s) ∧ s.exp.neutral.any (fun n => n.stations &&& bits (par (words0 s) 2) 0 6 != 0) = false := by unfold Accepts; decide +kernel
theorem wit_ExpPolicy : let s := post 0x0405 [0x00143F12, 0x01020E10] readyState
    Accepts s 0x0405 [0x00FFFFFF, 0x0F03FFFF] 0 (words0 s) ∧ zeroOrIn 18 63 (bits (par (words0 s) 2) 0 8) = true
      ∧ zeroOrIn 1 63 (bits (par (words0 s) 2) 8 8) = true ∧ zeroOrIn 2 20 (bits (par (words0 s) 2) 16 8) = true
      ∧ zeroOrIn 1 3600 (bits (par (words0 s) 3) 0 16) = true ∧ bitOf (par (words0 s) 3) 16 = false := by unfold Accepts; decide +kernel
theorem wit_ExpForecast : let s := post 0x0407 [0x010186A0, 0x00020000] readyState
    Accepts s 0x0407 [0x3F01FFFF, 0x00033FFF] 0 (words0 s) ∧ bits (par (words0 s) 2) 0 17 = 100000 ∧ bits (par (words0 s) 3) 16 2 = 2 := by
  unfold Accepts; decide +kernel
theorem wit_ExpEngine (v : Word) (st : EngSt) (h : (v = 0x1B ∧ st = .spare) ∨ (v = 0x11B ∧ st = .spare) ∨ (v = 0x21B ∧ st = .off)) :
    let s := post 0x0408 [v] (setEng 27 (fun g => { g with st := st }) readyState)
    Accepts s 0x0408 [0x31F] 0 (words0 s) ∧ bits (par (words0 s) 2) 0 5 = 27 ∧ (eng s 27).move = none ∧ (eng s 27).st = st
      ∧ bits (par (words0 s) 2) 8 2 = v.toNat / 256 := by
  rcases h with h | h | h <;> obtain ⟨rfl, rfl⟩ := h <;> unfold Accepts <;> decide +kernel

def laneState (f : Lane → Lane) : State :=
  { readyState with
    page := { readyState.page with pages := [{ key := 0, id := 7, preverify := false, trust := false, planes := 1, st := .active, started := true, lines := 1 }] }
    spool := { readyState.spool with ingests := [{ page := 0, sid := 0 }], objs := [{ sid := 0, planes := 1, streams := [verifyStream], planeHdrs := [{ plane := 0, dose := true, ppiX := 0, ppiY := 0, width := 1, height := 1 }] }] }
    exp := { readyState.exp with lanes := [f { engine := 27, page := 0, tile := 0, start := 0, next := 0, fetchNext := 0 }] } }
theorem wit_BlockFetch : let s := laneState id
    ∃ l p t, engOn s = true ∧ fetchLane s 27 0 = some l ∧ pageOf s l.page = some p ∧ tileStream s l.page 0 = some t
      ∧ 16 * l.fetchNext < lowLine s p t l + ringLines t.colCount :=
  ⟨{ engine := 27, page := 0, tile := 0, start := 0, next := 0, fetchNext := 0 }, _, _, by decide, by decide +kernel, rfl, rfl, by decide +kernel⟩
theorem wit_BlockFetch_lost : let s := { laneState id with spool := { (laneState id).spool with
      objs := [{ sid := 0, planes := 1, streams := [{ verifyStream with recs := [] }] }] } }
    ∃ l t, fetchLane s 27 0 = some l ∧ tileStream s l.page 0 = some t ∧ t.recs.find? (fun r => r.block == l.fetchNext) = none :=
  ⟨{ engine := 27, page := 0, tile := 0, start := 0, next := 0, fetchNext := 0 }, _, by decide +kernel, rfl, rfl⟩
theorem wit_BlockDecode : let s := laneState (fun l => { l with fetchNext := 1, inLane := some 0 })
    ∃ l p t r, s.exp.lanes.find? (fun l => l.engine == 27 && l.tile == 0 && l.inLane.isSome) = some l ∧ l.inLane = some 0
      ∧ pageOf s l.page = some p ∧ tileStream s l.page 0 = some t ∧ t.recs.find? (fun r => r.block == 0) = some r
      ∧ 16 * 0 + rowsOf t 0 ≤ lowLine s p t l + ringLines t.colCount ∧ (laneChecks t r [9] 0).check = 0 ∧ (laneChecks t r [8] 0).check ≠ 0 :=
  ⟨_, _, _, _, rfl, rfl, rfl, rfl, rfl, by decide +kernel, by decide +kernel, by decide +kernel⟩
theorem wit_BandLine : let s := setTrk 0 (fun t => { t with en := true, k := 100 }) (laneState (fun l => { l with fetchNext := 1, inLane := some 0 }))
    (∃ x, pipeReady s 27 = some x ∧ screenLost s x.2.1 x.1.tile x.2.2 = false) ∧ hasWork s 27 = true := ⟨⟨_, rfl, by decide +kernel⟩, by decide +kernel⟩
theorem wit_BandLineRelease : let s := laneState (fun l => { l with waiting := [0], passed := [0], next := 1 })
    ∃ l p, s.exp.lanes.find? (fun l => l.engine == 27 && l.tile == 0 && !l.waiting.isEmpty) = some l ∧ pageOf s l.page = some p
      ∧ l.waiting.head? = some 0 ∧ (blocksDrawn s p 0 0).all (fun b => l.passed.contains b) = true := ⟨_, _, rfl, rfl, rfl, by decide +kernel⟩
def replayState (e : Option Nat) : State :=
  let s := laneState (fun l => { l with failed := [0] })
  setEng 0 (fun g => { g with st := .spare, testEnd := none, replay := e.map (fun _ => 0) })
    { s with exp := { s.exp with replays := [{ rid := 0, cause := 9, failing := none, page := 0, tile := 0, block := some 0, lines := [0], engine := e }] } }
theorem wit_ReplayStart : (∃ r, replayWaiting (replayState none) = [r]) ∧ pickOther (replayState none) [] = some 0 :=
  ⟨⟨_, List.mergeSort_singleton _⟩, by decide +kernel⟩
theorem wit_ReplayDone : let s := replayState (some 0)
    ∃ r p t q, s.exp.replays.find? (fun r => r.block.isSome && r.engine == some 0 && (eng s 0).replay == some r.rid) = some r ∧ r.block = some 0
      ∧ pageOf s r.page = some p ∧ tileStream s r.page r.tile = some t ∧ t.recs.find? (fun q => q.block == 0) = some q
      ∧ (laneChecks t q [9] 0).check = 0 ∧ r.failing = none := ⟨_, _, _, _, rfl, rfl, rfl, rfl, rfl, by decide +kernel, rfl⟩
theorem wit_SelfTest : engOn readyState = true ∧ (eng readyState 27).testEnd = some 1500000000 ∧ (eng readyState 27).st = .test
    ∧ 27 < readyState.exp.engines.length := by decide
theorem wit_Warmup : let s := setEng 27 (fun g => { g with st := .warming, quartet := some 3, testEnd := none }) readyState
    (eng s 27).st = .warming ∧ (eng s 27).quartet.isSome = true ∧ (eng s 27).move = none
      ∧ ∀ x, x ∈ engineList → x ≠ 27 → (eng s x).quartet ≠ (eng s 27).quartet := by decide +kernel
theorem wit_Rotation_start : let s0 := laneState id
    let s1 := { s0 with fw := { s0.fw with power := .run } }
    let s := setEng 26 (fun g => { g with st := .spare, testEnd := none }) (setEng 27 (fun g => { g with st := .active, quartet := some 0, testEnd := none }) s1)
    engOn s = true ∧ s.exp.rotateOff = false ∧ s.fw.power = .run ∧ s.exp.rotation = none ∧ s.now ≤ s.exp.nextRotate ∧ pickSpare s 28 = some 26
      ∧ rotationOut s = some 27
      ∧ (eng s 27).quartet = some 0 ∧ (quartetHead { s with now := s.exp.nextRotate, exp := { s.exp with
        nextRotate := s.exp.nextRotate + s.exp.rotate * 1000000000000 } } 0).isSome = true := by decide +kernel
theorem wit_Rotation : let s := { readyState with fw := { readyState.fw with power := .run } }
    engOn s = true ∧ s.exp.rotateOff = false ∧ s.fw.power = .run ∧ pickSpare s 28 = none ∧ s.now ≤ s.exp.nextRotate := by decide +kernel

theorem wit_PosInput : let s := post 0x0501 [0x177, 0x13F0A, 0xFFFF0064, 20000000, 0xFF] readyState
    let t := setTrk 0 (fun t => { t with en := true, input := 7 }) s
    Accepts s 0x0501 [0x177, 0x13F0F, 0xFFFF00FF, allBits, 0xFF] 0 (words0 s) ∧ bits (par (words0 s) 2) 0 3 = 7
      ∧ (followers s 7).isEmpty = true ∧ axisAuto s 7 = false ∧ (followers t 7).isEmpty = false := by unfold Accepts; decide +kernel
theorem wit_PosInput_ok : inputOk (words0 (post 0x0501 [0x117, 0, 0, 20000000, 0xFF] readyState)) = true := by decide +kernel
theorem wit_PosTrack (v : Word) (h : v = 0xF0075 ∨ v = 0xF0175) : let s := post 0x0502 [v, 0x10000, 10] readyState
    Accepts s 0x0502 [0xF0177, allBits, 0xFFFF] 0 (words0 s) ∧ bits (par (words0 s) 2) 0 3 = 5 ∧ par (words0 s) 3 = 0x10000
      ∧ bits (par (words0 s) 4) 0 16 = 10 ∧ stationLive s 5 = false ∧ (posIn s 7).mode ≠ 5 := by
  rcases h with h | h <;> subst h <;> unfold Accepts <;> decide +kernel
theorem wit_PosTrack_fits : cplFits { readyState.page.cfg with stations := 0 } 5 0x10000 = true := by decide
theorem wit_PosStatus : let s := post 0x0503 [5] readyState
    Accepts s 0x0503 [7] 0 (words0 s) ∧ par (words0 s) 2 ≤ 5 := by unfold Accepts; decide +kernel
theorem wit_PosDelay : let s := post 0x0504 (5 :: List.replicate 8 0x0400FC00) readyState
    Accepts s 0x0504 (7 :: List.replicate 8 allBits) 0 (words0 s) ∧ par (words0 s) 2 = 5
      ∧ ∀ t, t < 16 → -1024 ≤ sbits (par (words0 s) (3 + t / 2)) (16 * (t % 2)) 16 ∧ sbits (par (words0 s) (3 + t / 2)) (16 * (t % 2)) 16 ≤ 1024 := by
  unfold Accepts; decide +kernel
def maskState (st : PageSt) : State :=
  post 0x0505 [0, 0, 0, 0] { onePage st with host := { readyState.host with pci := { readyState.host.pci with busMaster := true } } }
theorem wit_PosMask (st : PageSt) (h : st = .queued ∨ st = .active) : Accepts (maskState st) 0x0505 [0x107, allBits, allBits, allBits] 0 (words0 (maskState st))
    ∧ bits (par (words0 (maskState st)) 2) 0 3 = 0 ∧ (hostRead (maskState st) (par64 (words0 (maskState st)) 3) 1024).isSome = true
    ∧ stationLive (maskState st) 0 = (st == .active) := by
  rcases h with h | h <;> subst h <;> unfold Accepts <;> decide +kernel
theorem wit_PosOverride : let s := post 0x0506 (0x3C05 :: List.replicate 60 0x3FFFF) readyState
    Accepts s 0x0506 (0x3F07 :: List.replicate 60 0x3FFFF) 0 (words0 s) ∧ bits (par (words0 s) 2) 0 3 = 5 ∧ bits (par (words0 s) 2) 8 6 = 60
      ∧ (s.pos.overQueue.getD 5 []).length + 60 ≤ 4096 := by unfold Accepts; decide +kernel
theorem wit_PosLatency : let s := post 0x0507 [95] readyState
    Accepts s 0x0507 [0x7F] 0 (words0 s) ∧ par (words0 s) 2 ≤ 95 := by unfold Accepts; decide +kernel
theorem wit_TimeConfig (st : PageSt) (h : st = .queued ∨ st = .active) : let s := post 0x0508 [1] (onePage st)
    Accepts s 0x0508 [1] 0 (words0 s) ∧ anyLive s = (st == .active) := by rcases h with h | h <;> subst h <;> unfold Accepts <;> decide +kernel

def frameOf (k : Int) : LineFrame :=
  { tile := 95, k := k, supA := false, supB := false, noStrobe := false, resync := false, alive := 0, ta := 0, tb := 0, period := 0,
    imgA := 0, imgB := 0, dose := [], crc := 0 }
def portState (f : Port → Port) : State := setPort 95 f readyState
def rxOf (b : List Byte) : List (Byte × Bool) := (b ++ leBytes 4 (crc32c b)).map (fun x => (x, true))
theorem wit_Lane_frame : (port (portState (fun p => { p with frames := [frameOf 3] })) 95).frames = [frameOf 3] := by decide
theorem wit_Lane_slot : let s := setTrk 5 (fun t => { t with en := true }) (portState (fun p => { p with st := .online }))
    slotAllowed (txDrain 95 s) 95 = true ∧ (trk (txDrain 95 s) (stOf 95)).en = true := by decide +kernel
theorem wit_Lane_codeword : let s := portState (fun p => { p with st := .acquire, blockLock := true })
    let ws := (List.replicate 85 ([false, true] ++ List.replicate 64 false)).flatten
    let bs := blocksOf ws.length ws
    let u := forList bs s (fun b s => if listens (port s 95) then hdrNote 95 (b.1 != b.2.1) s else s)
    listens (port s 95) = true ∧ (port s 95).blockLock = true ∧ countBy (fun (b : Bool × Bool × List Bool) => !(b.1 && !b.2.1)) bs = 85
      ∧ listens (port u 95) = true ∧ (port u 95).blockLock = true ∧ (port u 95).cwLock = false ∧ (port u 95).flips = []  := by decide +kernel
theorem wit_Lane_status (good : Bool) (st : LinkSt) (h : (good = false ∧ st = .online) ∨ (good = true ∧ st = .identify) ∨ (good = true ∧ st = .online)) :
    let f := if good then rxOf (0x11 :: List.replicate 45 0) else List.replicate 50 (0x11, true)
    let s := portState (fun p => { p with st := st, rxQ := [f], awaits := [{ k := 0, imgA := 0, imgB := 0 }] })
    ∃ u, popRx 95 0x11 s = some (f, u) ∧ tailCrcOk (f.map (fun x => x.1)) = good ∧ linkHeld (port u 95).st = true
      ∧ (port (dnCounts 95 (readStatus (f.map (fun x => x.1))) u) 95).st = st
      ∧ (good = true → statusRows 95 (readStatus (f.map (fun x => x.1))) (dnCounts 95 (readStatus (f.map (fun x => x.1))) u) ≠ []) := by
  rcases h with h | h | h <;> obtain ⟨rfl, rfl⟩ := h <;>
    exact ⟨_, rfl, by decide +kernel, by decide +kernel, by decide +kernel, by decide +kernel⟩
theorem wit_Lane_response (good : Bool) (h : good = false ∨ good = true) :
    let f := if good then rxOf (0x12 :: List.replicate 15 0) else List.replicate 20 (0x12, true)
    let s := portState (fun p => { p with st := .online, rxQ := [f], mgmt := [{ seq := 0, op := 2, addr := 0, count := 0, data := [], use := .thresholds, due := 9 }] })
    ∃ u, popRx 95 0x12 s = some (f, u) ∧ tailCrcOk (f.map (fun x => x.1)) = good
      ∧ (good = true → ((port u 95).mgmt.find? (fun r => r.seq == leAt (f.map (fun x => x.1)) 7 1)).isSome = true) := by
  rcases h with h | h <;> subst h <;> exact ⟨_, rfl, by decide +kernel, by decide +kernel⟩
theorem wit_Lane_retry (n : Nat) (h : n = 3 ∨ n = 4) : let r : MgmtReq := { seq := 0, op := 2, addr := 0, count := 0, data := [], use := .thresholds, sends := n, due := 9 }
    (port (portState (fun p => { p with mgmt := [r] })) 95).mgmt = [r] := by rcases h with h | h <;> subst h <;> decide
theorem wit_Lane_prbs (c : Nat) (h : c = 1 ∨ c = 6) : let f := List.replicate 9 ((0x04 : Byte), true)
    let s := portState (fun p => { p with prbs := c, rxQ := [f] })
    ∃ u, popRx 95 0x04 s = some (f, u) ∧ (port u 95).prbs = c := by rcases h with h | h <;> subst h <;> exact ⟨_, rfl, rfl⟩
theorem wit_Lane_echo : let s := portState (fun p => { p with st := .online, probes := [(7, 100)] })
    let b := setBytes 0xB6 0 7
    (port s 95).probes.find? (fun q => q.1 == leAt b 2 2) = some (7, 100) ∧ setOk 0xB6 b = true ∧ 1000 ≤ 100 + 10 * usPs
      ∧ reports (port s 95).st = true ∧ setOk 0xB6 [0, 0, 7, 0] = false := by decide +kernel

theorem wit_Lane_states (l : LinkSt) (h : Bool) (_ : l ∈ [LinkSt.online, .acquire, .offline, .mgmtOnly, .idle]) :
    let s := portState (fun p => { p with st := l, acqHalfTried := h, probes := [(1, 2)], exitAt := some 3 })
    (port s 95).st = l ∧ (port s 95).acqHalfTried = h ∧ (port s 95).probes = [(1, 2)] ∧ (port s 95).exitAt = some 3
      ∧ 95 < s.link.ports.length ∧ setOk 0xB7 (setBytes 0xB7 0 0) = true ∧ setOk 0xB7 [] = false :=
  ⟨rfl, rfl, rfl, rfl, by simp only [portState, setPort_length]; decide, by decide +kernel, by decide⟩
theorem wit_Lane_window (n : Nat) (h : n = 1000 ∨ n = 1001) : let p := port (portState (fun p => { p with st := .online, wUpCorr := n })) 95
    p.st = .online ∧ decide (p.retrainCorr < p.wUpCorr ∨ p.uncorrLimit ≤ p.wUpUnc) = decide (n = 1001)
      ∧ decide (p.retrainCorr < p.wDnCorr ∨ p.uncorrLimit ≤ p.wDnUnc) = false := by rcases h with h | h <;> subst h <;> decide

theorem wit_LinkRead (c : Nat) (h : c = 0x0601 ∨ c = 0x0605) : let s := post c [95] readyState
    Accepts s c [0x7F] 0 (words0 s) ∧ par (words0 s) 2 = 95 := by rcases h with h | h <;> subst h <;> unfold Accepts <;> decide +kernel
theorem wit_LinkTrain (st : PageSt) (h : st = .queued ∨ st = .active) : let s := post 0x0602 [0x10F] (setPort 15 (fun p => { p with st := .online }) (onePage st))
    Accepts s 0x0602 [0x17F] 0 (words0 s) ∧ bits (par (words0 s) 2) 0 7 = 15 ∧ (port s 15).st = .online
      ∧ stationLive s (stOf 15) = (st == .active) := by rcases h with h | h <;> subst h <;> unfold Accepts <;> decide +kernel
theorem wit_LinkConfig : let s := post 0x0603 [95, 0x140A0E, 6, 0xFFFFFF, 0x2710FF] readyState
    Accepts s 0x0603 [0x17F, 0x1F0F1F, 7, 0xFFFFFF, 0xFFFFFF] 0 (words0 s) ∧ linkConfigOk (words0 s) = true ∧ bitOf (par (words0 s) 2) 8 = false
      ∧ bits (par (words0 s) 2) 0 7 < s.link.ports.length := by unfold Accepts; decide +kernel
theorem wit_LinkEnable (v : Word) (h : v = 0 ∨ v = 1 ∨ v = 2 ∨ v = 3) : let s := post 0x0604 [v, 1, 0, 0] readyState
    Accepts s 0x0604 [3, allBits, allBits, allBits] 0 (words0 s) ∧ par (words0 s) 2 % 4 = v.toNat
      ∧ (maskLanes (words0 s)).any (fun g => stationLive s (stOf g)) = false := by
  rcases h with h | h | h | h <;> subst h <;> unfold Accepts <;> decide +kernel
theorem wit_LinkEnable_live : let s := post 0x0604 [0, 1, 0, 0] (onePage .active)
    Accepts s 0x0604 [3, allBits, allBits, allBits] 0 (words0 s) ∧ par (words0 s) 2 % 4 = 0
      ∧ (maskLanes (words0 s)).any (fun g => stationLive s (stOf g)) = true := by unfold Accepts; decide +kernel

theorem wit_TileInfo : let s := post 0x0701 [95] (setTile 95 (fun t => { t with hdr := some (factoryOf []) }) readyState)
    Accepts s 0x0701 [0x7F] 0 (words0 s) ∧ par (words0 s) 2 = 95 ∧ (tileOf s 95).hdr.isSome = true := by unfold Accepts; decide +kernel
theorem wit_TileThermal : let s := post 0x0702 [0x20, 0x02800500, 160] readyState
    Accepts s 0x0702 [0x3F, allBits, 0xFFFF] 0 (words0 s) ∧ bitList 6 (par (words0 s) 2) = [5]
      ∧ marginsOk (newMargins s 5 (bits (par (words0 s) 3) 0 16) (bits (par (words0 s) 3) 16 16) (par (words0 s) 4)) = true
      ∧ 5 < s.tile.margins.length := by unfold Accepts; decide +kernel
theorem wit_TileMem : let s := post 0x0703 ([0x15F, 7968, 224] ++ List.replicate 56 0) (portState (fun p => { p with st := .online }))
    Accepts s 0x0703 ([0x17F, 0x1FFF, 0xFF] ++ List.replicate 56 allBits) 0 (words0 s) ∧ bits (par (words0 s) 2) 0 7 = 95
      ∧ par (words0 s) 4 = 224 ∧ par (words0 s) 3 + par (words0 s) 4 = 8192 ∧ (port s 95).legacy = false ∧ linkHeld (port s 95).st = true := by
  unfold Accepts; decide +kernel
theorem wit_RecDiscard : let s := post 0x0704 [3, 52] readyState
    Accepts s 0x0704 [7, 0xFFFF] 0 (words0 s) ∧ locOk (par (words0 s) 2) (par (words0 s) 3) = true := by unfold Accepts; decide +kernel
theorem wit_TilePower (v : Word) (st : PageSt) (h : (v = 0x300 ∧ st = .queued) ∨ (v = 0 ∧ st = .queued) ∨ (v = 0 ∧ st = .active)) :
    let s := post 0x0705 [v, 1000] (onePage st)
    Accepts s 0x0705 [0x307, 0x3FF] 0 (words0 s) ∧ bits (par (words0 s) 2) 0 3 = 0 ∧ par (words0 s) 3 = 1000
      ∧ bitOf (par (words0 s) 2) 8 = (v == 0x300) ∧ stationLive s 0 = (st == .active) := by
  rcases h with h | h | h <;> obtain ⟨rfl, rfl⟩ := h <;> unfold Accepts <;> decide +kernel
theorem wit_TileDelay : ((setTsb 5 (fun t => { t with delayEnd := some 9 }) readyState).tile.tsb[5]?).bind TileSideband.delayEnd = some 9 := by decide
theorem wit_RecordWrite (w : List (Nat × Nat)) (h : w = [] ∨ w = [(196608, 7)]) : let s := { readyState with tile := { readyState.tile with
      dirty := [{ kind := 3, location := 0 }], lastWrite := w } }
    s.tile.dirty.contains { kind := 3, location := 0 } = true ∧ recMayWrite s 3 0 = true ∧ (recObject s 3 0).isSome = true
      ∧ mapGet s.tile.lastWrite (3 * 65536 + 0) = if w = [] then none else some 7 := by rcases h with h | h <;> subst h <;> decide

theorem wit_CtrRead : let s := post 0x0F01 [0x0200, 0x10000] readyState
    Accepts s 0x0F01 [0xFFFF, 0x1FFFFF] 0 (words0 s) ∧ bits (par (words0 s) 3) 16 5 = 1
      ∧ ∃ d, ctrDesc (bits (par (words0 s) 2) 0 16) = some d ∧ ctrInst d.per (bits (par (words0 s) 3) 0 16 + 0) = true :=
  ⟨by unfold Accepts; decide +kernel, by decide +kernel, _, rfl, by decide +kernel⟩
theorem wit_CtrClear (id : Word) (h : id = 0x0201 ∨ id = 0x0200) : let s := post 0x0F02 [id, 0, 0xFFFF] readyState
    Accepts s 0x0F02 [0xFFFF, 0xFFFF, 0xFFFF] 0 (words0 s) ∧ bits (par (words0 s) 4) 0 16 = 0xFFFF
      ∧ ∃ d, ctrDesc (bits (par (words0 s) 2) 0 16) = some d ∧ ctrInst d.per (bits (par (words0 s) 3) 0 16 + 0) = true
        ∧ (d.cls = .s ↔ id = 0x0201) := by
  rcases h with h | h <;> subst h <;> exact ⟨by unfold Accepts; decide +kernel, by decide +kernel, _, rfl, by decide +kernel, by decide +kernel⟩
theorem wit_TestPrbs (v : Word) (h : v = 0 ∨ v = 0x2001 ∨ v = 2 ∨ v = 3) :
    let r : Option RawPrbs := if v = 0x2001 then none else some { pattern := 2, half := false, nearEnd := false }
    let s := post 0x0F03 [v, 1, 0, 0] (setRaw 0 r readyState)
    Accepts s 0x0F03 [0x7303, allBits, allBits, allBits] 0 (words0 s) ∧ bits (par (words0 s) 2) 0 2 = v.toNat % 4 ∧ maskLanes (words0 s) = [0]
      ∧ rawOf s 0 = r ∧ (port s 0).st = .off ∧ (v = 0x2001 → bits (par (words0 s) 2) 12 3 = 2) := by
  rcases h with h | h | h | h <;> subst h <;> unfold Accepts <;> decide +kernel
theorem wit_InjArm (v : Word) (h : v = 0x5F00 ∨ v = 0x15F00) : let s := post 0x0F04 [v, 0, 0, 0x10001, 0, 0, 0] readyState
    Accepts s 0x0F04 [0x1077F03, 0xFF, allBits, allBits, 0xFFFF, allBits, 0xFFFF] 0 (words0 s) ∧ bits (par (words0 s) 2) 8 7 = 95
      ∧ injTarget (bits (par (words0 s) 2) 0 2) (bits (par (words0 s) 2) 8 7) = true ∧ bits (par (words0 s) 2) 16 3 = v.toNat / 65536
      ∧ bits (par (words0 s) 5) 0 16 = 1 ∧ bits (par (words0 s) 5) 16 16 = 1
      ∧ injLive s (bits (par (words0 s) 2) 0 2) (bits (par (words0 s) 2) 8 7) = false := by
  rcases h with h | h <;> subst h <;> unfold Accepts <;> decide +kernel
theorem wit_Spine : engOn readyState = true ∧ macOn readyState = true ∧ readyState.test.injections = [] := by decide
theorem wit_RawPrbs : (rawOf (setRaw 95 (some { pattern := 2, half := false, nearEnd := false }) readyState) 95).isSome = true := by decide

theorem wit_ConsStatus : let s := post 0x0710 [31] readyState
    Accepts s 0x0710 [0x1F] 0 (words0 s) := by unfold Accepts; decide +kernel
theorem wit_ConsBind : let s := post 0x0711 [0x3F1F, 1, 1000000000] readyState
    Accepts s 0x0711 [0x3F1F, 1, allBits] 0 (words0 s) ∧ par (words0 s) 4 = 1000000000 := by unfold Accepts; decide +kernel
theorem wit_ConsAuth : let s := post 0x0712 [0xFFFFFFFF] readyState
    Accepts s 0x0712 [allBits] 0 (words0 s) := by unfold Accepts; decide +kernel
theorem wit_ConsOtp : let s := post 0x0713 (4 :: List.replicate 16 0) readyState
    Accepts s 0x0713 (7 :: List.replicate 16 allBits) 0 (words0 s) ∧ par (words0 s) 2 = 4 ∧ (octets (words0 s) 11 8).all (· == 0) = true
      ∧ s.tile.master = none := by unfold Accepts; decide +kernel
def consState (f : ConsSlot → ConsSlot) : State :=
  setCons 31 f { readyState with tile := { readyState.tile with master := some [] } }
theorem wit_Cons_due : let s := consState (fun c => { c with st := .authenticated, pending := 1, retryAt := some 9, busy := 50 })
    fwReady s = true ∧ (slotOf s 31).st = .authenticated ∧ (slotOf s 31).pending ≠ 0 ∧ (slotOf s 31).req = .none
      ∧ s.tile.master.isSome = true ∧ (slotOf s 31).retryAt = some 9 ∧ 50 ≤ (slotOf s 31).busy ∧ 31 < s.tile.slots.length := by decide
theorem wit_Cons_reading (n : Nat) (h : n = 1 ∨ n = 2) : let s := consState (fun c => { c with req := .cert, crcBad := n, busy := 49, retryAt := some 9 })
    (slotOf s 31).req ≠ .none ∧ (slotOf s 31).crcBad = n ∧ (slotOf s 31).busy < 50 := by rcases h with h | h <;> subst h <;> decide
theorem wit_Cons_data : let good := [(0 : Byte), 0, 0] ++ leBytes 2 (crc16Ccitt [0, 0, 0])
    leAt good 0 1 ≠ 0xFF ∧ leAt good (3 + leAt good 1 2) 2 = crc16Ccitt (good.take (3 + leAt good 1 2)) ∧ good.length = leAt good 1 2 + 5
      ∧ leAt [(0xFF : Byte)] 0 1 = 0xFF ∧ leAt [(0 : Byte)] 0 1 ≠ 0xFF ∧ ¬ [(0 : Byte)].length = leAt [0] 1 2 + 5 := by decide +kernel

def camState (en linescan : Bool) : State :=
  let s := setPortCam 3 (fun q => { q with
    en := en, shadow := { q.shadow with timing := { q.shadow.timing with linescan := linescan, hWidth := 64, vHeight := 64 } }
    cfg := { q.cfg with timing := { q.cfg.timing with linescan := linescan } } }) readyState
  { s with fw := { s.fw with power := .run }, board := { s.board with vddCam := 1620 } }
theorem wit_Cam_frame : let s := camState true false
    engOn s = true ∧ s.fw.power = .run ∧ (camPort s 3).en = true ∧ (camPort s 3).cfg.timing.linescan = false
      ∧ (camPort s 3).cfg.timing.vsLow = false := by decide
theorem wit_Cam_line (r : Nat) (h : r = 3 ∨ r = 4) :
    let f : CamFrame := { no := 0, time := 0, cfg := {}, bufs := [], statBuf := none, skip := 0, expect := 4, received := r, line := 0 }
    let s := setPortCam 3 (fun q => { q with open_ := true, frames := [f], line := { q.line with st := 2, keep := true } }) (camState true false)
    openFrame (camPort (setCamLine 3 (fun r => { r with st := 0, px := [] }) s) 3) = some f ∧ (camPort s 3).line.st = 2
      ∧ (camPort s 3).line.keep = true ∧ f.received = r := by
  rcases h with h | h <;> subst h <;> decide
theorem wit_Cam_pipe : let s := setPipe 1 (fun q => { q with cur := some (3, { frame := 0, pixels := [] }) }) readyState
    (s.cam.pipes.getD 1 {}).cur = some (3, { frame := 0, pixels := [] }) := by decide
theorem wit_Cam_trig : (camTrig (setTrig 3 (fun g => { g with mode := 2 }) readyState) 3).mode = 2 ∧ engOn (setTrig 3 (fun g => { g with mode := 2 }) readyState) = true := by decide
theorem wit_CamPort (en : Bool) (h : en = true ∨ en = false) : let s := post 0x0801 [0x100013, 0, 0x00010010, 0] (camState en false)
    let t : CamTiming := { dbits := 16, hWidth := 16, vHeight := 1, linescan := false }
    let c := (camPort s 3).shadow
    Accepts s 0x0801 [0x1F3FF3, allBits, 0xFFFF7FFF, 0x7] 0 (words0 s) ∧ bits (par (words0 s) 2) 0 2 = 3 ∧ bits (par (words0 s) 2) 16 5 = 16
      ∧ bits (par (words0 s) 4) 0 15 = 16 ∧ bits (par (words0 s) 4) 16 16 = 1 ∧ c.stats.en = false ∧ c.streams.all (fun x => !x.en) = true
      ∧ t.linescan = false ∧ bitOf (par (words0 s) 2) 4 = true ∧ (camLevel s.board.vddCam).isSome = true ∧ (camPort s 3).en = en := by
  rcases h with h | h <;> subst h <;> unfold Accepts <;> decide +kernel
theorem wit_CamMosaic : let s := post 0x0802 [3, 0, 0] readyState
    Accepts s 0x0802 [0x03030303, 0x3FFFFFFF, 0x3FFFF] 0 (words0 s) ∧ bits (par (words0 s) 2) 8 2 = 0
      ∧ (camPort s 3).shadow.stats.en = false ∧ (camPort s 3).shadow.streams.all (fun x => !x.en) = true := by unfold Accepts; decide +kernel
theorem wit_CamStream : let s := post 0x0803 [0x103, 0, 0x00100010, 0x0101, 0, 0, 0x1000, 2, 0, 0, 0] (camState false false)
    let ws := words0 s
    let c : StreamCfg := {
      en := bitOf (par ws 2) 8, chan := bits (par ws 2) 12 3, wide := bitOf (par ws 2) 16, x0 := bits (par ws 3) 0 16, y0 := bits (par ws 3) 16 16,
      cw := bits (par ws 4) 0 16, ch := bits (par ws 4) 16 16, fx := bits (par ws 5) 0 5, fy := bits (par ws 5) 8 5,
      base := par64 ws 6, bufSize := par ws 8, nbuf := bits (par ws 9) 0 8, consumer := par64 ws 10, evN := bits (par ws 12) 0 16 }
    Accepts s 0x0803 [0x17133, allBits, allBits, 0x1F1F, allBits, allBits, allBits, 0xFF, allBits, allBits, 0xFFFF] 0 ws
      ∧ streamOk (camPort s 3).shadow.timing (camPort s 3).shadow.mosaic c = true ∧ streamHas (camPort s 3).shadow.mosaic c = true := by
  unfold Accepts; decide +kernel
theorem wit_CamStats : let s := post 0x0804 ([0x103, 0x00100010, 0, 0, 2, 0, 0, 0] ++ List.replicate 32 0) (camState false false)
    let ws := words0 s
    let c : StatsCfg := {
      en := bitOf (par ws 2) 8, chan := bits (par ws 2) 12 3, hist := bitOf (par ws 2) 16, zw := bits (par ws 3) 0 16, zh := bits (par ws 3) 16 16,
      base := par64 ws 4, nbuf := bits (par ws 6) 0 8, consumer := par64 ws 7, evN := bits (par ws 9) 0 16, wins := [] }
    Accepts s 0x0804 ([0x1F17103, allBits, allBits, allBits, 0xFF, allBits, allBits, 0xFFFF] ++ (List.replicate 16 [allBits, 0x03FF03FF]).flatten) 0 ws
      ∧ bits (par ws 2) 20 5 = 0 ∧ (∀ i, i < 32 → par ws (10 + i) = 0)
      ∧ statsOk (camPort s 3).shadow.timing c = true ∧ statsHas (camPort s 3).shadow.mosaic c = true := by unfold Accepts; decide +kernel
theorem wit_CamStatus : let s := post 0x0805 [3] readyState
    Accepts s 0x0805 [0x3] 0 (words0 s) := by unfold Accepts; decide +kernel
theorem wit_CamTrigger (v : Word) (h : v = 0x5133 ∨ v = 0x23 ∨ v = 0x13) : let s := post 0x0806 [v, 1000, 0, 100000] readyState
    Accepts s 0x0806 [0x7133, allBits, allBits, 0x1FFFF] 0 (words0 s) ∧ par (words0 s) 3 = 1000 ∧ bits (par (words0 s) 5) 0 17 = 100000
      ∧ bits (par (words0 s) 2) 12 3 ≤ 5 ∧ bits (par (words0 s) 2) 4 2 = v.toNat / 16 % 4 := by
  rcases h with h | h | h <;> subst h <;> unfold Accepts <;> decide +kernel
theorem wit_CamI2c : let s := post 0x0807 ([0x7F0203, 0x4040] ++ List.replicate 16 0) readyState
    Accepts s 0x0807 ([0x7F0303, 0xFFFF] ++ List.replicate 16 allBits) 0 (words0 s) ∧ bits (par (words0 s) 2) 8 2 = 2
      ∧ bits (par (words0 s) 3) 0 8 = 64 ∧ bits (par (words0 s) 3) 8 8 = 64 := by unfold Accepts; decide +kernel

def calState (f : CalRun → CalRun) : State := setCal 4 0 f readyState
theorem wit_CalView (v : Word) (h : v = 3 ∨ v = 0x513) : let s := post 0x0901 [v, 0x3FFFF &&& 0x36DB6, 0, 1048576, 0x7FFFFFFF, 0] readyState
    Accepts s 0x0901 [0x713, 0x3FFFF, allBits, allBits, allBits, 0xFFFF] 0 (words0 s) ∧ bitOf (par (words0 s) 2) 4 = (v == 0x513)
      ∧ ¬ 7 ∈ (List.range 6).map (fun st => bits (par (words0 s) 3) (3 * st) 3) ∧ par (words0 s) 5 = 1048576 ∧ par (words0 s) 6 < 2 ^ 31
      ∧ s.cal.runs = [] := by rcases h with h | h <;> subst h <;> unfold Accepts <;> decide +kernel
theorem wit_CalView_port : let s := setTrig 0 (fun g => { g with mode := 3, period := 1, station := 5 }) (setPortCam 3 (fun q => { q with en := true, cfg := { q.cfg with timing := { q.cfg.timing with linescan := true } } }) readyState)
    viewPortOk s 3 5 = true := by decide
theorem wit_CalConfig : let s := post 0x0902 [5, 0, 0, 0, 0, 0, 0xFFF0000] readyState
    let f (w lo len : Nat) : Nat := bits (par (words0 s) w) lo len
    Accepts s 0x0902 [0x7, 0xFFFFFF07, 0xFFFF00FF, 0x0FFFFFFF, allBits, 0x0FFFF01F, 0x0FFF0FFF] 0 (words0 s) ∧ bits (par (words0 s) 2) 0 3 = 5
      ∧ f 3 0 3 ≤ 5 ∧ (zeroOrIn 64 255 (f 3 8 8) && zeroOrIn 4 255 (f 3 16 16) && zeroOrIn 1 64 (f 4 0 8) && zeroOrIn 64 2048 (f 4 16 16)
        && zeroOrIn 16 1024 (f 5 0 16) && zeroOrIn 1 64 (f 5 16 8) && zeroOrIn 10 1000 (f 6 0 16) && zeroOrIn 1 3600 (f 6 16 16)
        && zeroOrIn 4 16 (f 7 0 5) && zeroOrIn 16 4096 (f 7 12 16) && zeroOrIn 1 1023 (f 8 0 12) && zeroOrIn 256 4095 (f 8 16 12)) = true
      ∧ s.cal.runs = [] := by unfold Accepts; decide +kernel
theorem wit_CalStart : let s := post 0x0903 [0x10400, 1] readyState
    Accepts s 0x0903 [0x10707, 0xFFFF] 0 (words0 s) ∧ bits (par (words0 s) 2) 8 3 = 4 ∧ bits (par (words0 s) 3) 0 16 ≠ 0
      ∧ (calOf s 4 0).phase = .idle ∧ (calOf s 4 0).applying = false := by unfold Accepts; decide +kernel
theorem wit_CalStop : let s := post 0x0904 [0x400] (calState (fun r => { r with phase := .collecting }))
    Accepts s 0x0904 [0x707] 0 (words0 s) ∧ bits (par (words0 s) 2) 8 3 = 4 ∧ (calOf s 4 0).phase ≠ .idle := by unfold Accepts; decide +kernel
theorem wit_CalResult : let s := post 0x0905 [0x305] readyState
    Accepts s 0x0905 [0x707] 0 (words0 s) ∧ bits (par (words0 s) 2) 8 3 = 3 ∧ bits (par (words0 s) 2) 0 3 = 5 := by unfold Accepts; decide +kernel
theorem wit_CalWindow : let s := calState (fun r => { r with phase := .collecting, openedAt := some 9, cur := 1, nextAt := some 8, continuous := true })
    (calOf s 4 0).phase = .collecting ∧ (calOf s 4 0).openedAt = some 9 ∧ (calOf s 4 0).nextAt = some 8 ∧ (calOf s 4 0).continuous = true
      ∧ (calOf s 4 0).stopped = false := by decide

def loopState (f : LoopState → LoopState) : State := { readyState with loop := f readyState.loop }
def hvLoop (f : LoopSlot → LoopSlot) (g : HvChan → HvChan) : State :=
  setHv 23 g (setLoop 63 (fun l => f { l with configured := true, outKind := 1, outIdx := 23 }) readyState)
def waitStep : ProgStep := { w0 := 0x0100 + 5, w1 := 1 + 9 * 256, w2 := 0, w3 := 0x10000 }
theorem wit_LoopTick : macOn readyState = true := by decide
theorem wit_HvArcEdge : let s := hvLoop id id
    macOn s = true ∧ (hvOf s 23).latched = false ∧ (s.now :: (hvOf s 23).arcs.filter (fun t => decide (s.now < t + 1000000000000))).length ≤ (hvOf s 23).arcMax
      ∧ loopOfHv s 23 = some 63 := by decide
theorem wit_HvArcEdge_latch : let s := hvLoop id (fun h => { h with arcs := [0], arcMax := 1 })
    macOn s = true ∧ (hvOf s 23).latched = false
      ∧ (hvOf s 23).arcMax < (s.now :: (hvOf s 23).arcs.filter (fun t => decide (s.now < t + 1000000000000))).length := by decide
theorem wit_HvArcHold (b : Bool) : let s := hvLoop (fun l => { l with arcUntil := some 7, arcAuto := b }) id
    loopOfHv s 23 = some 63 ∧ (loopOf s 63).arcUntil = some 7 ∧ (loopOf s 63).arcAuto = b := by cases b <;> decide
theorem wit_HvCompliance : let s := setHv 23 (fun h => { h with episode := true, belowSince := some 5 }) readyState
    (hvOf s 23).episode = true ∧ (hvOf s 23).belowSince = some 5 := by decide
theorem wit_FusZc : let s := setZone 3 (fun z => { z with configured := true, zeroCross := true, tripEn := true }) readyState
    macOn s = true ∧ (List.range 4).filter (fun z => (zoneOf s z).configured && (zoneOf s z).zeroCross && !(zoneOf s z).stopped) ≠ []
      ∧ (zoneOf s 3).tripEn = true := by decide
theorem wit_ProgStep : let i : Instance := { page := 0, prog := 31, steps := [waitStep], need := 0, started := 0, prevAt := 0, expiry := some 3 }
    let s := loopState (fun l => { l with instances := [i] })
    s.loop.instances[0]? = some i ∧ i.steps[i.next]? = some waitStep ∧ stepTimeout waitStep ≠ 0 ∧ i.expiry = some 3 := by decide
theorem wit_SeqIn : macOn readyState = true ∧ 7 < readyState.loop.seqIn.length ∧ (readyState.loop.seqIn[7]?).isSome = true := by decide

theorem wit_LoopConfig : let s := post 0x0A01 [63, 0x7063F05 &&& 0xFFFF0705, 0x3F04, 0x40005, 1, 0, 32767] readyState
    let f (w lo len : Nat) : Nat := bits (par (words0 s) w) lo len
    Accepts s 0x0A01 [0x3F, allBits, 0xFFFF, allBits, allBits, allBits, 0xFFFF] 0 (words0 s) ∧ bits (par (words0 s) 2) 0 6 = 63
      ∧ sourcesOk (f 3 0 8) (f 3 8 8) (f 3 16 8) (f 3 24 8) (f 4 0 8) (f 4 8 8) (par (words0 s) 6) = true ∧ f 5 0 16 = 5 ∧ f 5 16 16 = 4
      ∧ f 8 0 16 = 32767 ∧ loopProtected s 63 = false ∧ (loopOf s 63).auto = false := by unfold Accepts; decide +kernel
theorem wit_LoopCoef : let s := post 0x0A02 [0x23F, 0xFFFF0005, 0x60006] readyState
    let cs := (List.range 2).map (fun i => coefParam (par (words0 s) (3 + i)))
    Accepts s 0x0A02 (0x1F3F :: List.replicate 16 0xFFFF0007) 0 (words0 s) ∧ bits (par (words0 s) 2) 0 6 = 63 ∧ bits (par (words0 s) 2) 8 5 = 2
      ∧ (∀ i, i < 16 → 2 ≤ i → par (words0 s) (3 + i) = 0)
      ∧ coefsOk 63 cs ((loopOf s 63).queue.foldl (fun (c : List Int) w => c.set w.1 w.2) (loopOf s 63).coef) = true
      ∧ (loopOf s 63).queue.length + 2 ≤ 16 := by unfold Accepts; decide +kernel
theorem wit_LoopMode (v : Word) (h : v = 0x108 ∨ v = 0x208) : let s := post 0x0A03 [v, 0x8000] readyState
    Accepts s 0x0A03 [0x33F, 0xFFFF] 0 (words0 s) ∧ bits (par (words0 s) 2) 0 6 = 8 ∧ bitOf (par (words0 s) 2) 8 = (v == 0x108)
      ∧ (loopOf s 8).outKind = 0 ∧ sourcesBad s (loopOf s 8) = false ∧ loopProtected s 8 = false := by
  rcases h with h | h <;> subst h <;> unfold Accepts <;> decide +kernel
theorem wit_LoopSetpoint : let s := post 0x0A04 [8, 0x8000, 32767] readyState
    Accepts s 0x0A04 [0x3F, 0xFFFF, 0xFFFF] 0 (words0 s) ∧ bits (par (words0 s) 2) 0 6 = 8 ∧ bits (par (words0 s) 4) 0 16 = 32767 := by
  unfold Accepts; decide +kernel
theorem wit_LoopStatus (v : Word) (h : v = 7 ∨ v = 8) : let s := post 0x0A05 [v] readyState
    Accepts s 0x0A05 [0x3F] 0 (words0 s) := by rcases h with h | h <;> subst h <;> unfold Accepts <;> decide +kernel
theorem wit_HvConfig : let s := post 0x0A06 [0x317, 0, 0x7FFF0000, 255] readyState
    Accepts s 0x0A06 [0x71F, 0xFFFF, allBits, 0xFF] 0 (words0 s) ∧ bits (par (words0 s) 2) 0 5 = 23 ∧ bitOf (par (words0 s) 2) 8 = true
      ∧ zeroOrIn 1 1000 (bits (par (words0 s) 4) 0 16) = true ∧ zeroOrIn 1 32767 (bits (par (words0 s) 4) 16 16) = true
      ∧ (hvOf s 23).en = false := by unfold Accepts; decide +kernel
theorem wit_HvDisable : let s := post 0x0A06 [0x017, 0, 0, 0] (hvLoop id (fun h => { h with en := true }))
    Accepts s 0x0A06 [0x71F, 0xFFFF, allBits, 0xFF] 0 (words0 s) ∧ bits (par (words0 s) 2) 0 5 = 23 ∧ bitOf (par (words0 s) 2) 8 = false
      ∧ (hvOf s 23).en = true ∧ loopOfHv s 23 = some 63 ∧ loopProtected s 63 = false := by unfold Accepts; decide +kernel
theorem wit_FusConfig : let s := post 0x0A07 [0x33, 0x13880064, 2000, 0x2710000F, 10000, 4700, 0x4200] readyState
    let f (w lo len : Nat) : Nat := bits (par (words0 s) w) lo len
    Accepts s 0x0A07 [0x33, allBits, 0xFFFF, 0xFFFF000F, allBits, allBits, 0x73FF] 0 (words0 s) ∧ f 3 0 16 = 100 ∧ f 3 16 16 = 5000
      ∧ f 4 0 16 = 2000 ∧ f 5 16 16 = 10000 ∧ fuserLoopsOff s = true := by unfold Accepts; decide +kernel
theorem wit_ProgLoad : let s := post 0x0A08 [31, 0x1000, 0, 0] readyState
    Accepts s 0x0A08 [0x1F, allBits, allBits, allBits] 0 (words0 s) ∧ progBound s (bits (par (words0 s) 2) 0 5) = false := by unfold Accepts; decide +kernel
theorem wit_ProgStatus : let s := post 0x0A09 [31] readyState
    Accepts s 0x0A09 [0x1F] 0 (words0 s) := by unfold Accepts; decide +kernel
theorem wit_SeqIo (v : Word) (h : v = 0x707 ∨ v = 0x407) : let s := post 0x0A0A [v, 10000] readyState
    Accepts s 0x0A0A [0x707, 0xFFFFFF] 0 (words0 s) ∧ bitOf (par (words0 s) 2) 8 = (v == 0x707) ∧ par (words0 s) 3 = 10000 := by
  rcases h with h | h <;> subst h <;> unfold Accepts <;> decide +kernel

def axisState (f : Drive → Drive) : State := setDrv 7 f readyState
def slotState (f : Drive → Drive) : State :=
  setDrv 7 f (setLoop 63 (fun l => { l with configured := true, outKind := 3, outIdx := 7, fbKind := 4, fbIdx := 5 }) readyState)
theorem wit_AxisConfig (q : DrvSt) (h : q = .off ∨ q = .disabled ∨ q = .fault) :
    let s := post 0x0B01 [0x10057, 1, 0x640000, 0x40505, 0x7FFF, 0, 0, 0xA003F, 0] (slotState (fun d => { d with st := q }))
    let ws := words0 s
    Accepts s 0x0B01 [0x3F1F77, 0xFFFFFF, 0x7FFFFF, 0x3F07FFFF, allBits, allBits, allBits, 0xFFFF003F, 0xFFF] 0 ws
      ∧ bits (par ws 2) 0 3 = 7 ∧ bits (par ws 2) 4 3 = 5 ∧ bits (par ws 2) 16 6 = 1 ∧ bits (par ws 3) 0 24 = 1 ∧ bits (par ws 4) 16 7 = 100
      ∧ bits (par ws 5) 0 8 = 5 ∧ bits (par ws 5) 8 8 = 5 ∧ bits (par ws 5) 16 3 = 4 ∧ bits (par ws 6) 0 16 = 32767
      ∧ bits (par ws 9) 16 16 = 10 ∧ bits (par ws 9) 0 6 = 63 ∧ bitOf (par ws 2) 9 = false := by
  rcases h with h | h | h <;> subst h <;> unfold Accepts <;> decide +kernel
theorem wit_AxisConfig_slot : sslotOk (slotState id) 63 7 5 = true := by decide
theorem wit_AxisAdvance : let s := post 0x0B02 ([7, 31] ++ List.replicate 16 0x80007FFF) readyState
    Accepts s 0x0B02 ([7, allBits] ++ List.replicate 16 allBits) 0 (words0 s) ∧ par (words0 s) 3 = 31 := by unfold Accepts; decide +kernel
theorem wit_AxisAlign : let s := post 0x0B03 [7, 0xA7FFF] (axisState (fun d => { d with st := .disabled, omegaValid := true }))
    Accepts s 0x0B03 [7, allBits] 0 (words0 s) ∧ bits (par (words0 s) 2) 0 3 = 7
      ∧ alignOk (bits (par (words0 s) 3) 0 16) (bits (par (words0 s) 3) 16 16) = true ∧ (drv s 7).cfg.absolute = false
      ∧ (drv s 7).st = .disabled ∧ standing (drv s 7) = true := by unfold Accepts; decide +kernel
theorem wit_AxisEnable (v : Word) (q : DrvSt) (h : (v = 7 ∧ q = .run) ∨ (v = 0x107 ∧ q = .disabled) ∨ (v = 0x207 ∧ q = .fault)) :
    let s := post 0x0B04 [v] (axisState (fun d => { d with st := q, aligned := true, cfg := { d.cfg with absolute := false } }))
    Accepts s 0x0B04 [0x307] 0 (words0 s) ∧ bits (par (words0 s) 2) 0 3 = 7 ∧ bits (par (words0 s) 2) 8 2 = v.toNat / 256 ∧ (drv s 7).st = q
      ∧ offsetRuns s 7 = false ∧ loopProtected s (drv s 7).cfg.sslot = false ∧ commAligned s (drv s 7) = true := by
  rcases h with ⟨h, g⟩ | ⟨h, g⟩ | ⟨h, g⟩ <;> subst h <;> subst g <;> unfold Accepts <;> decide +kernel
theorem wit_AxisStart (q : DrvSt) (h : q = .run ∨ q = .disabled) :
    let s := post 0x0B05 [7, 0x80000000, 0x7FFF0001, 0x13880001] (axisState (fun d => { d with st := q, omegaValid := true }))
    Accepts s 0x0B05 [7, allBits, allBits, allBits] 0 (words0 s) ∧ bits (par (words0 s) 2) 0 3 = 7 ∧ bits (par (words0 s) 4) 0 16 = 1
      ∧ bits (par (words0 s) 4) 16 16 = 32767 ∧ offsetRuns s 7 = false ∧ (drv s 7).st = q
      ∧ alignOk (bits (par (words0 s) 5) 0 16) (bits (par (words0 s) 5) 16 16) = true ∧ standing (drv s 7) = true := by
  rcases h with h | h <;> subst h <;> unfold Accepts <;> decide +kernel
theorem wit_AxisStatus : let s := post 0x0B06 [7] readyState
    Accepts s 0x0B06 [7] 0 (words0 s) := by unfold Accepts; decide +kernel
theorem wit_AxisBus : let s := post 0x0B07 [0x101, 0x0FFD0FFE, 0xFFF, 0x27100005] readyState
    let x := busOf s 1
    Accepts s 0x0B07 [0x301, 0x0FFF0FFF, 0x0FFF0FFF, allBits] 0 (words0 s) ∧ bits (par (words0 s) 2) 0 1 = 1 ∧ bitOf (par (words0 s) 2) 8 = true
      ∧ zeroOrIn 5 1000 (bits (par (words0 s) 5) 0 16) = true ∧ zeroOrIn 50 10000 (bits (par (words0 s) 5) 16 16) = true
      ∧ orKeep (bits (par (words0 s) 3) 0 12) x.vOn = 4094 ∧ orKeep (bits (par (words0 s) 3) 16 12) x.vOff = 4093
      ∧ orKeep (bits (par (words0 s) 4) 0 12) x.vHard = 4095 ∧ x.vbus < 4093 ∧ busQuiet s 1 = true := by unfold Accepts; decide +kernel

def stepState (f : Stepper → Stepper) : State := setStp 7 (fun x => f { x with cfg := { x.cfg with active := 7 } }) readyState
theorem wit_StepConfig : let s := post 0x0B10 [0x707107, 1, 0, 0, 0x640064, 0x022710, 1000, 0] readyState
    let ws := words0 s
    Accepts s 0x0B10 [0x737107, allBits, allBits, allBits, 0xFF00FF, 0xFF3FFF, 0x3FF, allBits] 0 ws ∧ bits (par ws 3) 16 16 = 0
      ∧ bits (par ws 3) 0 16 = 1 ∧ bits (par ws 6) 0 8 = 100 ∧ bits (par ws 6) 16 8 = 100 ∧ bits (par ws 7) 0 14 = 10000
      ∧ bits (par ws 7) 16 8 = 2 ∧ bits (par ws 8) 0 10 = 1000 := by unfold Accepts; decide +kernel
theorem wit_StepMove (q : StepSt) (h : q = .disabled ∨ q = .homing) :
    let s := post 0x0B11 [7, 0xFFFFFFFF, 5, 5, 1, 1] (stepState (fun x => { x with st := q }))
    Accepts s 0x0B11 [7, allBits, allBits, allBits, allBits, allBits] 0 (words0 s) ∧ bits (par (words0 s) 2) 0 3 = 7
      ∧ par (words0 s) 5 = 5 ∧ par (words0 s) 4 = 5 ∧ moveRefused s 7 (posDiff (par (words0 s) 3) (stp s 7).pos) = false
      ∧ (stp s 7).st.moves = (q == .homing) := by rcases h with h | h <;> subst h <;> unfold Accepts <;> decide +kernel
theorem wit_StepHome (v : Word) (h : v = 7 ∨ v = 0x107) : let s := post 0x0B12 [v, 5, 1, 9, 1000, 0, 3] (stepState (fun x => { x with st := .idle }))
    Accepts s 0x0B12 [0x107, allBits, allBits, allBits, allBits, allBits, allBits] 0 (words0 s) ∧ bits (par (words0 s) 2) 0 3 = 7
      ∧ moveRefused s 7 1 = false ∧ moveRefused s 7 (-1) = false ∧ (stp s 7).homing = none := by
  rcases h with h | h <;> subst h <;> unfold Accepts <;> decide +kernel
theorem wit_StepStop (v : Word) (q : StepSt) (h : v = 0x307 ∨ v = 7) (g : q = .idle ∨ q = .moving ∨ q = .homing) :
    let s := post 0x0B13 [v] (stepState (fun x => { x with
      st := q
      homing := if q = .homing then some { oid := 0, neg := false, fast := 1, creep := 1, backoff := 0, max := 9, homePos := 0, dec := 1 } else none }))
    Accepts s 0x0B13 [0x307] 0 (words0 s) ∧ bits (par (words0 s) 2) 0 3 = 7 ∧ bitOf (par (words0 s) 2) 8 = (v == 0x307)
      ∧ (stp s 7).st.moves = (q != .idle) ∧ (stp s 7).homing.isSome = (q == .homing) := by
  rcases h with h | h <;> rcases g with g | g | g <;> subst h <;> subst g <;> unfold Accepts <;> decide +kernel
theorem wit_StepStatus : let s := post 0x0B14 [7] readyState
    Accepts s 0x0B14 [7] 0 (words0 s) := by unfold Accepts; decide +kernel

theorem wit_PwmPeriod (q : DrvSt) (h : q = .disabled ∨ q = .run) : let s := axisState (fun d => { d with st := q })
    macOn s = true ∧ (drv s 7).st ≠ .off := by rcases h with h | h <;> subst h <;> decide
theorem wit_PwmPeriod_over : overCurrent { cfg := { oc := 32767 } } true false false (32768, 0, 0) = true
    ∧ overCurrent { cfg := { oc := 32767 } } true true true (32767, -32767, 0) = false := by decide
theorem wit_AlignDone (q : Option (Int × Nat × Nat)) (h : q = none ∨ q = some (0, 1, 1)) :
    let g : AlignRun := { alignI := 1, hold := 10, began := 0, oid := none, start := q }
    let s := axisState (fun d => { d with st := .aligning, align := some g })
    (drv s 7).st = .aligning ∧ (drv s 7).align = some g := by rcases h with h | h <;> subst h <;> decide
theorem wit_Chopper : let s := setBus 1 (fun x => { x with lowSince := some 4 }) readyState
    macOn s = true ∧ chopperDue (busOf s 1) = some 5000004 := by decide
theorem wit_Microstep : let s := stepState (fun x => { x with st := .moving, nextAt := some 8 })
    macOn s = true ∧ (stp s 7).nextAt = some 8 ∧ (stp s 7).st.moves = true := by decide
theorem wit_StepHold : let s := stepState (fun x => { x with st := .idle, holdAt := some 8 })
    macOn s = true ∧ (stp s 7).holdAt = some 8 ∧ (stp s 7).st = .idle := by decide
theorem wit_SwitchEdge (b : Bool) : let s := setSwitch 7 2 (fun w => { w with raw := some (b, 5, 9) }) (stepState (fun x => { x with st := .disabled }))
    macOn s = true ∧ (stp s 7).st ≠ .off ∧ ((stp s 7).switches.getD 2 {}).raw = some (b, 5, 9) ∧ ((stp s 7).switches.getD 2 {}).level = false := by
  cases b <;> decide
theorem wit_Chatter : let s := setSwitch 7 2 (fun w => { w with chatter := true, edges := [9, 8, 7] }) (stepState id)
    macOn s = true ∧ ((stp s 7).switches.getD 2 {}).chatter = true
      ∧ ((stp s 7).switches.getD 2 {}).edges[(stp s 7).cfg.chatEdges]? = some 7 := by decide

theorem wit_MemStatus (v : Word) (h : v = 4 ∨ v = 8 ∨ v = 11) : let s := post 0x0C01 [v] readyState
    Accepts s 0x0C01 [0xF] 0 (words0 s) ∧ par (words0 s) 2 = v.toNat := by rcases h with h | h | h <;> subst h <;> unfold Accepts <;> decide +kernel
theorem wit_MemConfig : let s := post 0x0C02 [0xA80001, 0x3E8080F, 0xFFFFFFFF] readyState
    let f (w lo len : Nat) : Nat := bits (par (words0 s) w) lo len
    Accepts s 0x0C02 [0xFFFFFF, 0xFFFFFF0F, allBits] 0 (words0 s)
      ∧ (zeroOrIn 1 3600 (f 2 0 16) && zeroOrIn 1 168 (f 2 16 8) && zeroOrIn 2 15 (f 3 0 4) && zeroOrIn 8 16 (f 3 8 8) && zeroOrIn 20 1000 (f 3 16 16)
        && zeroOrIn 100 0xFFFFFFFF (par (words0 s) 4)) = true ∧ s.spool.extents.isEmpty = true := by unfold Accepts; decide +kernel
theorem wit_MemFill : let s := post 0x0C03 [1, 2, 15] readyState
    Accepts s 0x0C03 [allBits, allBits, 0xF] 0 (words0 s) := by unfold Accepts; decide +kernel
theorem wit_MemTrain : let s := post 0x0C06 [0x403] readyState
    Accepts s 0x0C06 [0x703] 0 (words0 s) ∧ bits (par (words0 s) 2) 8 3 = 4 ∧ anyLive s = false ∧ memRuns s (8 + bits (par (words0 s) 2) 0 2) = true
      ∧ s.mem.train = none := by unfold Accepts; decide +kernel
theorem wit_ChkScan (v : Word) (h : v = 3 ∨ v = 0x10103) : let s := post 0x0C08 [v, 0, 0, 1, 0, 0, 0, 0] readyState
    Accepts s 0x0C08 [0x10303, allBits, allBits, allBits, allBits, 0xFFFF, allBits, allBits] 0 (words0 s)
      ∧ bits (par (words0 s) 2) 8 2 = (if v = 3 then 0 else 1) ∧ par (words0 s) 5 = 1 ∧ par (words0 s) 7 % 16 < 4
      ∧ par64 (words0 s) 3 + 1 ≤ (diagRegion 0).1 := by rcases h with h | h <;> subst h <;> unfold Accepts <;> decide +kernel
theorem wit_ChkScan_page : let s := post 0x0C08 [0x200, 0, 0, 0, 7, 0xF00, 0, 0] (onePage .admitted)
    ∃ p, Accepts s 0x0C08 [0x10303, allBits, allBits, allBits, allBits, 0xFFFF, allBits, allBits] 0 (words0 s)
      ∧ bits (par (words0 s) 2) 8 2 = 2 ∧ bits (par (words0 s) 7) 0 8 = 0 ∧ bits (par (words0 s) 7) 8 8 = 15
      ∧ findPage s (par (words0 s) 6) = some p ∧ p.st ≠ .queued ∧ bitOf p.planes (bits (par (words0 s) 7) 0 8) = true := by
  refine ⟨{ key := 0, id := 7, preverify := false, trust := false, planes := 1, st := .admitted }, ?_⟩; unfold Accepts; decide +kernel

def memState (f : MemState → MemState) : State := { readyState with mem := f readyState.mem, fw := { readyState.fw with power := .run } }
def sweepState (f : DdrChan → DdrChan) : State := setDdr 3 f (memState id)
theorem wit_ScrubRead (v : Nat) (h : v = 4 ∨ v = 11) : let s := memState id
    engOn s = true ∧ s.fw.power = .run ∧ memRuns s v = true := by rcases h with h | h <;> subst h <;> decide
theorem wit_DdrSweep : let s := sweepState id
    engOn s = true ∧ s.fw.power = .run ∧ (ddr s 3).st = .inUse ∧ (ddr s 3).sweep = none ∧ s.mem.train.map TrainJob.chan ≠ some 3 := by decide
theorem wit_DdrPause : let s := sweepState (fun d => { d with sweep := some {} })
    engOn s = true ∧ (ddr s 3).sweep.isSome = true := by decide
theorem wit_Migrate : let t := sweepState (fun d => { d with st := .failing })
    let s := { t with spool := { t.spool with extents := [{ no := 0, channels := 15 }] } }
    engOn s = true ∧ migrateNext s = some { no := 0, channels := 15 } ∧ extentsFree s ≠ 0 := by decide
theorem wit_FillDone : let s := memState (fun m => { m with fills := [{ oid := 0, pattern := 1, channels := 0 }] })
    engOn s = true ∧ fillAt s { oid := 0, pattern := 1, channels := 0 } = none := by decide +kernel
theorem wit_TrainDone : let s := memState (fun m => { m with train := some { oid := some 0, chan := 3, rate := 4 } })
    engOn s = true ∧ s.mem.train = some { oid := some 0, chan := 3, rate := 4 } := by decide
theorem wit_ScanDone : let j : ScanJob := { oid := 0, words := [0, 0, 0, 1], engine := some 1 }
    let t := memState (fun m => { m with scans := [j] })
    let s := { t with host := { t.host with pci := { t.host.pci with busMaster := true } } }
    engOn s = true ∧ s.mem.scans.find? (fun j => j.engine == some 1) = some j ∧ bits (scanPar j 2) 8 2 = 0
      ∧ scanData s j = (0, some [0]) := by decide +kernel

def supState (f : SupState → SupState) : State := { readyState with sup := f readyState.sup }
def tripState : State := supState (fun u => { u with safeIn := [{}, { high := false }], safeLowAt := some 3 })
theorem wit_Watchdog : macOn readyState = true ∧ engOn readyState = true ∧ readyState.fw.st = .ready := by decide
theorem wit_SafeIn : readyState.sup.safeIn[1]? = some ({} : SafeChan) ∧ readyState.sup.safeIn.all SafeChan.high = true ∧ readyState.sup.safeLowAt = none := by decide
theorem wit_SafeIn_open : macOn tripState = true ∧ tripState.sup.safeIn[0]? = some ({} : SafeChan) ∧ tripState.sup.safeIn.all SafeChan.high = false
    ∧ tripState.sup.safeIn[1]? = some ({ high := false } : SafeChan) ∧ tripState.sup.safeLowAt = some 3 := by decide
theorem wit_Interlock (b : Bool) : let s := supState (fun u => { u with ilks := [{}, {}, {}, { level := b, mask := 0x800000 }] })
    macOn s = true ∧ s.sup.ilks[3]? = some { level := b, mask := 0x800000 } ∧ ilkOpen { level := b, mask := 0x800000 } = !b := by cases b <;> decide
theorem wit_DieTemp : hottestAt { sensors := [{ value := 2160 }, { value := 2400, excluded := true }] } = some (2160, 0)
    ∧ hottestAt { sensors := [{ excluded := true }] } = none := by decide

def powerState (f : PowerState → PowerState) : State := withPower f readyState
theorem wit_Por (b : Bool) : let s := powerState (fun p => { p with por := b, vinSince := some 3 })
    s.sup.power.vinSince = some 3 ∧ s.sup.power.por = b := by cases b <;> decide
theorem wit_EngWake : let s := powerState (fun p => { p with phase := .off })
    macOn s = true ∧ s.sup.power.phase = .off := by decide
theorem wit_EngWake_parked : let s := { readyState with fw := { readyState.fw with parked := true } }
    macOn s = true ∧ s.sup.power.phase ≠ .off ∧ engOn s = true ∧ s.fw.parked = true := by decide
theorem wit_PowerSeq (r : Nat) (h : r = 0 ∨ r = 5 ∨ r = 6) : (powerState (fun p => { p with phase := .up r })).sup.power.phase = .up r
    ∧ (powerState (fun p => { p with phase := .down r })).sup.power.phase = .down r := by rcases h with h | h | h <;> subst h <;> decide
theorem wit_PgLoss (q : PwrPhase) (h : q = .on ∨ q = .up 6) : (powerState (fun p => { p with phase := q, pg := 0x7F })).sup.power.pg.getLsbD 6 = true := by
  rcases h with h | h <;> subst h <;> decide
theorem wit_AutoRestart : let t := powerState (fun p => { p with phase := .off, restarts := [0, 0] })
    let s := { t with sup := { t.sup with autoRestart := true } }
    macOn s = true ∧ s.sup.autoRestart = true ∧ s.sup.power.phase = .off ∧ s.sup.power.why = .loss
      ∧ (s.sup.power.restarts.filter (fun x => decide (Nat.max s.now (s.sup.power.offAt + 1000000000000) < x + 3600000000000000))).length = 2 := by
  decide

theorem wit_SupStatus (c : Nat) (h : c = 0x0D01 ∨ c = 0x0D04) : let s := post c [] readyState
    Accepts s c [] 0 (words0 s) := by rcases h with h | h <;> subst h <;> unfold Accepts <;> decide +kernel
theorem wit_SupConfig : let s := post 0x0D02 [0x105E0, 0xA012C, 15, 0xFFFFFF, 0, 0, 0, 1] readyState
    Accepts s 0x0D02 [0x105E0, 0x0FFF0FFF, 0xF, 0xFFFFFF, 0xFFFFFF, 0xFFFFFF, 0xFFFFFF, 1] 0 (words0 s)
      ∧ zeroOrIn 300 2400 (bits (par (words0 s) 3) 0 12) = true ∧ zeroOrIn 10 1000 (bits (par (words0 s) 3) 16 12) = true := by
  unfold Accepts; decide +kernel
theorem wit_SupOutput (v : Word) (h : v = 0x1702 ∨ v = 0x10008) : let s := post 0x0D03 [v, 1] readyState
    Accepts s 0x0D03 [0x17F0F, 3] 0 (words0 s) ∧ groupSize (bits (par (words0 s) 2) 0 4) ≠ 0
      ∧ (bitOf (par (words0 s) 2) 16 = true ∨ bits (par (words0 s) 2) 8 7 < groupSize (bits (par (words0 s) 2) 0 4))
      ∧ par (words0 s) 3 ≤ groupAction (bits (par (words0 s) 2) 0 4) ∧ s.sup.safe = false := by
  rcases h with h | h <;> subst h <;> unfold Accepts <;> decide +kernel
theorem wit_SupClear : let s := post 0x0D05 [] (supState (fun u => { u with safe := true, latched := 0x800, tripAt := some 0 }))
    Accepts s 0x0D05 [] 0 (words0 s) ∧ s.sup.safe = true ∧ presentMask s = 0 := by unfold Accepts; decide +kernel
theorem wit_SupLog : let s := post 0x0D06 [63] readyState
    Accepts s 0x0D06 [0x3F] 0 (words0 s) := by unfold Accepts; decide +kernel
theorem wit_ThermStatus (v : Word) (h : v = 0 ∨ v = 1) : let s := post 0x0D07 [v] readyState
    Accepts s 0x0D07 [1] 0 (words0 s) ∧ hottestAt (therm s (bitOf (par (words0 s) 2) 0)) = some (0, 0) := by
  rcases h with h | h <;> subst h <;> unfold Accepts <;> decide +kernel
theorem wit_ThermConfig : let s := post 0x0D08 [0x7D6E3C, 0x27C7B, 2000, 0] readyState
    Accepts s 0x0D08 [0xFFFFFF, 0xFFFFFF, 0xFFFF, allBits] 0 (words0 s) ∧ thermOk (thermWanted (words0 s) s.sup) = true ∧ zeroOrIn 2 30 (bits (par (words0 s) 3) 16 8) = true
      ∧ zeroOrIn 50 2000 (par (words0 s) 4) = true ∧ thermLow (bits (par (words0 s) 2) 16 8) s.sup.engine = false
      ∧ thermLow (bits (par (words0 s) 3) 8 8) s.sup.machine = false := by unfold Accepts; decide +kernel

def fwState (f : FwState → FwState) : State := { readyState with fw := f readyState.fw }
def hostFwState (f : FwState → FwState) : State := { fwState f with host := { readyState.host with pci := { readyState.host.pci with busMaster := true } } }
theorem wit_Boot (b : Bool) : let s := fwState (fun f => { f with st := .boot, bank := if b then some 0 else none, recover := b, parked := false })
    engOn s = true ∧ s.fw.st = .boot ∧ s.fw.bank = (if b then some 0 else none) ∧ s.fw.parked = false ∧ s.fw.recover = b ∧ bitOf s.board.ddrMask.toNat 0 = true := by cases b <;> decide
theorem wit_Ready_cold : let s := fwState (fun f => { f with st := .boot, bank := some 1, recover := false })
    engOn s = true ∧ s.fw.st = .boot ∧ s.fw.bank = some 1 ∧ bitOf s.board.ddrMask.toNat 0 = true ∧ s.fw.recover = false := by decide
theorem wit_Heartbeat : fwReady readyState = true := by decide
theorem wit_CoreRestart : let s := fwState (fun f => { f with st := .fault, resetSince := some 4 })
    engOn s = true ∧ s.fw.st = .fault ∧ s.fw.resetSince = some 4 := by decide
theorem wit_FwLoadDone (k : Nat) (h : k = 0 ∨ k = crc32c [0]) :
    let s := hostFwState (fun f => { f with bank := some 0, boot := [{ gen := 0, committed := 0, valid := true }], load := some { oid := 0, addr := 0, bytes := 1, crc := k } })
    fwReady s = true ∧ s.fw.load.isSome = true ∧ standby s = some 1
      ∧ hostRead (withFw (fun f => { f with load := none }) s) 0 1 = some [0] ∧ crc32c [0] ≠ 0 := by
  rcases h with h | h <;> subst h <;> decide +kernel
theorem wit_FwLoadDone_dma :
    let s := fwState (fun f => { f with bank := some 0, boot := [{ gen := 0, committed := 0, valid := true }], load := some { oid := 0, addr := 0, bytes := 1, crc := 0 } })
    fwReady s = true ∧ s.fw.load.isSome = true ∧ standby s = some 1 ∧ hostRead (withFw (fun f => { f with load := none }) s) 0 1 = none := by decide +kernel
theorem wit_Preload : let s := fwState (fun f => { f with bank := some 0, boot := [{ gen := 0, committed := 0, valid := true }], activate := some { oid := 0 } })
    fwReady s = true ∧ s.fw.activate = some { oid := 0 } ∧ standby s = some 1 := by decide
theorem wit_Handover : let t := fwState (fun f => { f with st := .handover })
    let r : GapRun := { item := { work := .handover, scope := none, oid := none, nextWanted := 0 }, extent := 0 }
    let s := { t with page := { t.page with gapRunning := [r] } }
    engOn s = true ∧ s.fw.st = .handover ∧ s.page.gapRunning.find? (fun r => r.item.work == .handover) = some r := by decide
theorem wit_PowerDown : let s := fwState (fun f => { f with standbyDue := true })
    engOn s = true ∧ s.fw.standbyDue = true := by decide
theorem wit_WakeTimer : let s := withPower (fun p => { p with phase := .off }) (fwState (fun f => { f with power := .standby, wakeAt := some 7 }))
    macOn s = true ∧ s.fw.power = .standby ∧ s.sup.power.phase = .off ∧ s.fw.wakeAt = some 7 := by decide

def bankState (b : Nat) : State := fwState (fun f => { f with
    bank := some b, boot := [{ gen := 0, committed := 0, valid := true }], power := .run
    banks := [{ hdr := none, sound := true }, { hdr := some { patch := 0, minor := 0, major := 2, keyIdx := 0, build := 0, svn := 63 }, sound := true }] })
theorem wit_FwStatus (c : Nat) (h : c = 0x0E01 ∨ c = 0x0E05) : let s := post c [] (bankState 0)
    Accepts s c [] 0 (words0 s) ∧ lifeMay s = true := by rcases h with h | h <;> subst h <;> unfold Accepts <;> decide +kernel
theorem wit_FwLoad : let s := post 0x0E02 [0, 0, 3145856, 1] (bankState 0)
    Accepts s 0x0E02 [allBits, allBits, allBits, allBits] 0 (words0 s) ∧ par (words0 s) 4 = 3145856 ∧ (standby s).isSome = true
      ∧ s.fw.activate = none ∧ s.fw.load = none := by unfold Accepts; decide +kernel
theorem wit_FwActivate : let s := post 0x0E03 [] (bankState 0)
    Accepts s 0x0E03 [] 0 (words0 s) ∧ standby s = some 1 ∧ bankOk s 1 = true ∧ s.fw.load = none ∧ s.fw.activate = none := by
  unfold Accepts; decide +kernel
theorem wit_FwCommit (v : Word) (h : v = 0 ∨ v = 1) : let s := post 0x0E04 [v] (bankState 1)
    Accepts s 0x0E04 [1] 0 (words0 s) ∧ s.fw.bank = some 1 ∧ committed s = 0 := by rcases h with h | h <;> subst h <;> unfold Accepts <;> decide +kernel
theorem wit_LifeStandby : let s := post 0x0E06 [0xFFFFFFFF] (bankState 0)
    Accepts s 0x0E06 [allBits] 0 (words0 s) ∧ lifeMay s = true := by unfold Accepts; decide +kernel
theorem wit_LifeWake : let s := post 0x0E07 [] (fwState (fun f => { f with power := .idle }))
    Accepts s 0x0E07 [] 0 (words0 s) ∧ s.fw.power = .idle := by unfold Accepts; decide +kernel

theorem wit_ResetLoops : macOn readyState = true ∧ (0x0AFF : Nat) / 256 = 0x0A := by decide

theorem wit_ResetMachine : macOn readyState = true ∧ readyState.sup.ilks.length = 4 := by decide

theorem wit_Doorbell (x : SlotState) (h : x = .idle ∨ x = .done ∨ x = .posted ∨ x = .active) :
    let s := { readyState with host := { readyState.host with slots := readyState.host.slots.set 15 { st := x } } }
    barOn s = true ∧ s.host.slots[15]? = some { st := x } := by rcases h with h | h | h | h <;> subst h <;> decide

theorem wit_LoopArithmetic : sat40 (-32768 * -32768) = 1073741824 ∧ sat40 (2 ^ 39) = 549755813887 ∧ sat40 (-(2 ^ 39) - 1) = -549755813888 := by decide

theorem wit_Coefficient : let s := setLoop 63 (fun l => { l with queue := [(6, 5), (0, 1)] }) readyState
    63 < s.loop.slots.length ∧ (loopOf s 63).queue = (6, 5) :: [(0, 1)] ∧ (loopOf s 8).queue = [] := by decide

theorem wit_SafeState : let s := post 0x0D04 [] (supState (fun u => { u with safe := true, latched := 2 }))
    Accepts s 0x0D04 [] 0 (words0 s) ∧ s.sup.safe = true ∧ causeEnabled s 8 = true ∧ causeEnabled s 5 = false := by unfold Accepts; decide +kernel

theorem wit_Outputs :
    macOn { readyState with sup := { readyState.sup with power := { readyState.sup.power with por := true } } } = false
      ∧ (let s := setHv 3 (fun h => { h with configured := true, en := true, ref := 9 }) readyState
         macOn s = true ∧ s.sup.safe = false ∧ (hvOf s 3).configured = true ∧ hvEnPin s 3 = .active ∧ hvRefPin s 3 = .code 9
           ∧ (hvOf s 4).configured = false ∧ (zoneOf s 0).configured = false ∧ (s.loop.seqOut.getD 0 {}).driven = false
           ∧ s.page.wgOut.getD 0 .highZ = .highZ ∧ (s.tile.tsb.getD 0 {}).driven = false ∧ (drv s 0).st = .off ∧ (stp s 0).st = .off)
      ∧ (let s := setHv 23 (fun h => { h with configured := true }) readyState
         let s := setZone 3 (fun z => { z with configured := true }) s
         let s := { s with
           loop := { s.loop with seqOut := updAt s.loop.seqOut 7 (fun o => { o with driven := true, active := true }) }
           page := { s.page with wgOut := List.replicate 6 .active }
           tile := { s.tile with tsb := updAt s.tile.tsb 5 (fun t => { t with driven := true, on := true }) }
           motion := { s.motion with steppers := updAt s.motion.steppers 7 (fun x => { x with st := .idle }) }
           sup := { s.sup with safe := true, actions := [(1 * 128 + 7, 1), (2 * 128 + 23, 1), (5 * 128 + 7, 2), (6 * 128 + 5, 2), (8 * 128 + 5, 1)] } }
         macOn s = true ∧ s.sup.safe = true ∧ (hvOf s 23).configured = true ∧ hvRefPin s 23 = .code 0 ∧ hvEnPin s 23 = .highZ
           ∧ (zoneOf s 3).configured = true ∧ fusGatePin s 3 = .highZ ∧ (s.loop.seqOut.getD 7 {}).driven = true ∧ seqOutPin s 7 = .active
           ∧ s.page.wgOut.getD 5 .highZ ≠ .highZ ∧ wgOutPin s 5 = .active ∧ (s.tile.tsb.getD 5 {}).driven = true ∧ tsbPin s 5 = .inactive
           ∧ (stp s 7).st ≠ .off ∧ stepPins s 7 = List.replicate 4 .inactive) := by decide +kernel

theorem wit_MemTest_sram (v : Word) (h : v = 0 ∨ v = 0x80 ∨ v = 3 ∨ v = 7) : let s := post 0x0C04 [4, 511, 5, 6, v] readyState
    Accepts s 0x0C04 [0xF, allBits, allBits, allBits, 0xFF, allBits, allBits, allBits, allBits] 0 (words0 s) ∧ par (words0 s) 2 = 4
      ∧ memRuns s 4 = true ∧ par (words0 s) 3 = 511
      ∧ (codeRead false (testHits false (bits (par (words0 s) 6) 0 8)) 0).1 = if v = 0 then 0 else if v = 0x80 then 1 else if v = 3 then 2 else 3 := by
  rcases h with h | h | h | h <;> subst h <;> unfold Accepts <;> decide +kernel
theorem wit_MemTest_dram : let s := post 0x0C04 [11, 131071, 5, 6, 0, 0, 0, 0, 0xF0000000] readyState
    Accepts s 0x0C04 [0xF, allBits, allBits, allBits, 0xFF, allBits, allBits, allBits, allBits] 0 (words0 s) ∧ par (words0 s) 2 = 11
      ∧ memRuns s 11 = true ∧ par (words0 s) 3 = 131071
      ∧ (codeRead true (testHits true (par64 (words0 s) 7 + 2 ^ 64 * par64 (words0 s) 9)) 0).1 = 1 := by unfold Accepts; decide +kernel
theorem wit_MemRate (r : Word) (h : r = 0 ∨ r = 4) : let s := post 0x0C05 [r] (forRange 4 readyState (fun c s => setDdr c (fun d => { d with st := .inUse, sets := 1 }) s))
    Accepts s 0x0C05 [7] 0 (words0 s) ∧ par (words0 s) 2 = r.toNat ∧ (bitList 4 (ddrMask s)).length = 4
      ∧ (r = 0 → (∀ c, c ∈ bitList 4 (ddrMask s) → bitOf (ddr s c).sets (par (words0 s) 2) = true) ∧ gapAtOnce (taken s) (.ddrRate 0) = true)
      ∧ (r = 4 → ∃ c, c ∈ bitList 4 (ddrMask s) ∧ bitOf (ddr s c).sets (par (words0 s) 2) = false) := by
  rcases h with h | h <;> subst h
  · unfold Accepts; decide +kernel
  · exact ⟨by unfold Accepts; decide +kernel, by decide +kernel, by decide +kernel, by decide, fun _ => ⟨0, by decide +kernel, by decide +kernel⟩⟩
theorem wit_MemRate_later : let s := post 0x0C05 [0] { readyState with page := { readyState.page with admitWaits := [{ oid := 0, id := 0, word3 := 0 }] } }
    Accepts s 0x0C05 [7] 0 (words0 s) ∧ par (words0 s) 2 = 0 ∧ (∀ c, c ∈ bitList 4 (ddrMask s) → bitOf (ddr s c).sets (par (words0 s) 2) = true)
      ∧ gapAtOnce (taken s) (.ddrRate 0) = false := by unfold Accepts; decide +kernel
theorem wit_MemRetire (m : Bool) : let s := post 0x0C07 [3] (forRange 4 readyState (fun c s => setDdr c (fun d => { d with st := if m || c = 3 then .inUse else .retired }) s))
    let v := chanFailing 3 4 (taken s)
    Accepts s 0x0C07 [3] 0 (words0 s) ∧ par (words0 s) 2 = 3 ∧ memRuns s 11 = true ∧ (ddr s 3).st ≠ .failing ∧ (ddr s 3).oid = none
      ∧ (2 ≤ popCount 4 (ddrMask s) ↔ m = true) ∧ extentsOn v 3 = 0 ∧ gapAtOnce v (.retire 3) = true := by
  cases m <;> unfold Accepts <;> decide +kernel

end Sys2Proof.Tests
end

section
/-! SUPPORT. The page commands once the firmware has taken them: what each reads is not changed by taking the slot, and what each of its
cases answers (R14, R20, R27, R34, R35). -/

namespace Sys2Proof.Machine

/-! Taking the slot moves only the ring order, which no reading of the page commands looks at. -/

@[simp] theorem taken_findPage (s : State) (id : Nat) : findPage (taken s) id = findPage s id := rfl
@[simp] theorem taken_anyLive (s : State) : anyLive (taken s) = anyLive s := rfl
@[simp] theorem taken_boundTo (s : State) (key : Nat) : boundTo (taken s) key = boundTo s key := rfl
@[simp] theorem taken_firstStation (s : State) (p : Page) : firstStation (taken s) p = firstStation s p := rfl
@[simp] theorem taken_stationLine (s : State) (st : Nat) : stationLine (taken s) st = stationLine s st := rfl
@[simp] theorem taken_statusPage (s : State) (ws : List Word) : statusPage (taken s) ws = statusPage s ws := rfl
@[simp] theorem taken_pageCfgOk (s : State) (c : PageConfig) : pageCfgOk (taken s) c = pageCfgOk s c := rfl
@[simp] theorem taken_admitDefers (s : State) : admitDefers (taken s) = admitDefers s := rfl
@[simp] theorem taken_admitScreen (s : State) (id w3 : Nat) : admitScreen id w3 (taken s) = admitScreen id w3 s := rfl
@[simp] theorem taken_admitReasons (s : State) (p : Page) (program : Nat) : admitReasons (taken s) p program = admitReasons s p program := rfl

section
variable {code : Nat} {cls : CmdClass} {masks : List Nat} {body : List Word → State → Ans} {s u : State} {n : Nat} {ws : List Word}

/-- The next state of an accepted command whose work succeeds at once: ST_OK with its results. -/
theorem serve_next_ok {results : List Nat} (a : Accepts s code masks n ws) (k : knownCode code = true)
    (b : body ws (taken s) = { st := u, results := results }) :
    (.next (serve code cls masks body s) : Host.Outcome State Fault Refusal) = .next (okReply n results u) := by
  rw [serve_now code cls masks body s n ws a k u stOk results b (by decide) (by decide)]

/-- The next state of an accepted command whose work refuses it: the status alone, on the state with the slot taken. -/
theorem serve_next_refused {status : Nat} (a : Accepts s code masks n ws) (k : knownCode code = true)
    (b : body ws (taken s) = .refuse (taken s) status) (d : status ≠ stDeferred) (e : status ≠ stPending) :
    (.next (serve code cls masks body s) : Host.Outcome State Fault Refusal) = .next (respond n status [] (taken s)) := by
  rw [serve_now code cls masks body s n ws a k (taken s) status [] b d e]

end

section
variable {s : State} {n : Nat} {ws : List Word} {p : Page}

/-! PAGE.ANNOUNCE. -/

theorem execPageAnnounce_creates (a : Accepts s 0x0201 [allBits, 3, 0x3F] n ws) (planes : par ws 4 ≠ 0) :
    execPageAnnounce s = .next (okReply n [] (pageNew (BitVec.ofNat 32 (par ws 2)) (bitOf (par ws 3) 0) (bitOf (par ws 3) 1) (par ws 4)
      (fun key s => { s with spool := { s.spool with objs := s.spool.objs ++ [{ sid := key, planes := par ws 4 }] } })
      (fun key => { page := key, sid := key }) (taken s))) :=
  serve_next_ok a rfl (if_neg planes)

/-! PAGE.ADMIT. -/

/-- An admission that passes the screening with no reason against it makes the page ADMITTED. -/
theorem admitWeigh_admits {id w3 : Nat} (screen : admitScreen id w3 s = .ok p) (reasons : admitReasons s p (bits w3 8 8) = 0) :
    admitWeigh id w3 s = (admitPage p w3 s, stOk, two (admitPage p w3 s).page.admissions) := by
  simp [admitWeigh, screen, reasons]

/-- An admission that passes the screening with a reason against it leaves the state and returns the reasons. -/
theorem admitWeigh_refuses {id w3 : Nat} (screen : admitScreen id w3 s = .ok p) (reasons : admitReasons s p (bits w3 8 8) ≠ 0) :
    admitWeigh id w3 s = (s, stAdmitRefused, [admitReasons s p (bits w3 8 8)]) := by
  simp [admitWeigh, screen, reasons]

/-- PAGE.ADMIT that passes the screening and is not deferred answers as the admission is weighed. -/
theorem execPageAdmit_weighs {u : State} {status : Nat} {results : List Nat} (a : Accepts s 0x0202 [allBits, 0xFF03] n ws)
    (screen : admitScreen (par ws 2) (par ws 3) s = .ok p) (noDefer : admitDefers s = false)
    (weigh : admitWeigh (par ws 2) (par ws 3) (taken s) = (u, status, results)) (d : status ≠ stDeferred) (e : status ≠ stPending) :
    execPageAdmit s = .next (respond n status results u) := by
  refine congrArg _ (serve_now _ _ _ _ s n ws a rfl u status results ?_ d e)
  simp [screen, noDefer, weigh]

theorem execPageAdmit_admits (a : Accepts s 0x0202 [allBits, 0xFF03] n ws) (screen : admitScreen (par ws 2) (par ws 3) s = .ok p)
    (noDefer : admitDefers s = false) (reasons : admitReasons s p (bits (par ws 3) 8 8) = 0) :
    execPageAdmit s = .next (okReply n (two (admitPage p (par ws 3) (taken s)).page.admissions) (admitPage p (par ws 3) (taken s))) :=
  execPageAdmit_weighs a screen noDefer (admitWeigh_admits (s := taken s) screen reasons) (by decide) (by decide)

theorem execPageAdmit_refuses (a : Accepts s 0x0202 [allBits, 0xFF03] n ws) (screen : admitScreen (par ws 2) (par ws 3) s = .ok p)
    (noDefer : admitDefers s = false) (reasons : admitReasons s p (bits (par ws 3) 8 8) ≠ 0) :
    execPageAdmit s = .next (respond n stAdmitRefused [admitReasons s p (bits (par ws 3) 8 8)] (taken s)) :=
  execPageAdmit_weighs a screen noDefer (admitWeigh_refuses (s := taken s) screen reasons) (by decide) (by decide)

/-! PAGE.WITHDRAW. -/

theorem execPageWithdraw_unbound (a : Accepts s 0x0203 [allBits] n ws) (page : findPage s (par ws 2) = some p) (live : p.live = false)
    (unbound : boundTo s p.key = none) :
    execPageWithdraw s = .next (okReply n [] (trimPages (endIngest p.key (pageTo p.key .withdrawn dev 0 (taken s))))) :=
  serve_next_ok a rfl (by simp [page, live, unbound])

theorem execPageWithdraw_locked (a : Accepts s 0x0203 [allBits] n ws) (page : findPage s (par ws 2) = some p) (live : p.live = true) :
    execPageWithdraw s = .next (respond n stPageLocked [] (taken s)) :=
  serve_next_refused a rfl (by simp [page, live]) (by decide) (by decide)

/-! PAGE.STATUS. -/

theorem execPageStatus_reports (a : Accepts s 0x0204 [allBits, 1, allBits, allBits] n ws) (page : statusPage s ws = some p) :
    execPageStatus s = .next (okReply n ([fld p.st.code 0 3 + fld (b2n p.spoiled) 8 1 + fld (b2n p.suspect) 9 1 + fld p.firstReason 16 8,
      fld p.reasonMask 0 16 + fld p.firstStation 16 3, p.firstLineNo] ++ two p.admission) (taken s)) :=
  serve_next_ok a rfl (by simp [page])

/-! PAGE.CONFIG. -/

theorem execPageConfig_takesEffect (a : Accepts s 0x0205 ([0x10701, 0x3F3F, 3] ++ List.replicate 15 allBits) n ws)
    (limits : pageCfgOk s (pageCfgOf ws) = true) (live : anyLive s = false) :
    execPageConfig s = .next (okReply n [] (pageConfigure (pageCfgOf ws) (taken s))) :=
  serve_next_ok a rfl (by simp [limits, live])

theorem execPageConfig_liveRefused (a : Accepts s 0x0205 ([0x10701, 0x3F3F, 3] ++ List.replicate 15 allBits) n ws)
    (limits : pageCfgOk s (pageCfgOf ws) = true) (live : anyLive s = true) :
    execPageConfig s = .next (respond n stState [] (taken s)) :=
  serve_next_refused a rfl (by simp [limits, live]) (by decide) (by decide)

/-! PAGE.GAP. -/

/-- The state with the slot taken and a hold in place of the one that waits. -/
def withHold (s : State) (h : Option Hold) : State := { taken s with page := { s.page with hold := h } }

/-- The hold that PAGE.GAP's word spells (Table 1.7). -/
def gapHoldOf (ws : List Word) : Hold :=
  { lines := bits (par ws 2) 0 16, common := bitOf (par ws 2) 16, mask := bits (par ws 2) 24 6 }

/-- A hold joined with the one that waits: the longer length, both scopes (R27). -/
def Hold.join (g h : Hold) : Hold := { lines := Nat.max g.lines h.lines, common := g.common || h.common, mask := g.mask ||| h.mask }

theorem execPageGap_cancels (a : Accepts s 0x0206 [0x3F01FFFF] n ws) (len : (gapHoldOf ws).lines = 0) :
    execPageGap s = .next (okReply n [] (withHold s none)) :=
  serve_next_ok a rfl (if_pos len)

/-- PAGE.GAP of at least 32 lines with a scope leaves its hold, joined to the one that waits if there is one. -/
theorem execPageGap_holds (a : Accepts s 0x0206 [0x3F01FFFF] n ws) (len : 32 ≤ (gapHoldOf ws).lines)
    (scope : (gapHoldOf ws).common = true ∨ (gapHoldOf ws).mask ≠ 0) :
    execPageGap s = .next (okReply n [] (withHold s (some (s.page.hold.elim (gapHoldOf ws) (gapHoldOf ws).join)))) := by
  have nonzero : (gapHoldOf ws).lines ≠ 0 := by omega
  have legal : ¬ ((gapHoldOf ws).lines < 32 ∨ (¬ (gapHoldOf ws).common = true ∧ (gapHoldOf ws).mask = 0)) := by
    rintro (short | ⟨station, empty⟩)
    · omega
    · exact scope.elim station (· empty)
  refine serve_next_ok a rfl ((if_neg nonzero).trans ((if_neg legal).trans ?_))
  cases waits : s.page.hold <;> simp [waits] <;> rfl

/-! PAGE.SPOIL. -/

theorem execPageSpoil_spoils (a : Accepts s 0x0207 [allBits] n ws) (page : findPage s (par ws 2) = some p) (running : p.running = true) :
    execPageSpoil s
      = .next (okReply n [] (spoilNow p.key 10 (firstStation s p) (stationLine s (firstStation s p)) (taken s))) :=
  serve_next_ok a rfl (by simp [page, running])

theorem execPageSpoil_notRunning (a : Accepts s 0x0207 [allBits] n ws) (page : findPage s (par ws 2) = some p) (running : p.running = false) :
    execPageSpoil s = .next (respond n stState [] (taken s)) :=
  serve_next_refused a rfl (by simp [page, running]) (by decide) (by decide)

end

/-- Settles O22: every case of every page command is one of the lemmas above, on the command's own row of `exec`. -/
theorem pageCommandsComplete : Obligations.PageCommandsComplete := by
  unfold Obligations.PageCommandsComplete
  intro s n ws
  refine ⟨execPageAnnounce_creates, ?admission, ?withdraw, fun a p page => execPageStatus_reports a page, ?config, ?gap, ?spoil⟩
  case admission =>
    intro a p screen noDefer
    refine ⟨execPageAdmit_admits a screen noDefer, ?_⟩
    rintro m nonzero rfl
    exact execPageAdmit_refuses a screen noDefer nonzero
  case withdraw =>
    intro a p page
    exact ⟨execPageWithdraw_unbound a page, execPageWithdraw_locked a page⟩
  case config =>
    intro a limits
    exact ⟨execPageConfig_takesEffect a limits, execPageConfig_liveRefused a limits⟩
  case gap =>
    intro a len common mask hold
    refine ⟨execPageGap_cancels a, fun long scope waits => ?_, fun long scope h waits => ?_⟩
    · exact (execPageGap_holds a long scope).trans (by rw [waits]; rfl)
    · exact (execPageGap_holds a long scope).trans (by rw [waits]; rfl)
  case spoil =>
    intro a p page
    exact ⟨execPageSpoil_spoils a page, execPageSpoil_notRunning a page⟩

end Sys2Proof.Machine
end

section
/-! SUPPORT. Start events, the rows of the position inputs, the strobes and the time reference: each row where its part runs, and what each of
its cases does (R17, R18, R172 to R174, R180, R181, R196). -/

namespace Sys2Proof.Machine

/-! TOS_EDGE. -/

/-- What an active edge of TOS_IN does at the instant of the edge in sheet mode (R17, R18). -/
def tosStart (s : State) : State :=
  match waitingPage s with
  | none => sheetBlank 0 s
  | some p =>
    if startEarly s p then sheetBlank 1 s
    else if holdSays s p = .broken then sheetBlank 2 s
    else startAccept p s

section
variable {s : State} {p : Page}

theorem execTosEdge_sheet (t : Nat) (on : engOn s = true) (sheet : s.page.cfg.web = false) :
    execTosEdge t s = .next (tosStart (atTime t s)) :=
  congrArg _ (when_pos _ _ s (by simp [on, sheet]))

theorem tosStart_noPage (waits : waitingPage s = none) : tosStart s = sheetBlank 0 s := by simp [tosStart, waits]

theorem tosStart_early (waits : waitingPage s = some p) (early : startEarly s p = true) : tosStart s = sheetBlank 1 s := by
  simp [tosStart, waits, early]

theorem tosStart_held (waits : waitingPage s = some p) (early : startEarly s p = false) (hold : holdSays s p = .broken) :
    tosStart s = sheetBlank 2 s := by
  simp [tosStart, waits, early, hold]

theorem tosStart_accepts (waits : waitingPage s = some p) (early : startEarly s p = false) (hold : holdSays s p ≠ .broken) :
    tosStart s = startAccept p s := by
  simp [tosStart, waits, early, hold]

end

/-! POS_SAMPLE. -/

/-- An input takes a sample at time `t`: an SSI input drives its clock, and the raw count, the phase and the time of the next sample are
noted; a good first sample is where relative modes start to count (R172). -/
def takeSample (i a t raw : Nat) (bad : Bool) (s : State) : State :=
  setIn i (fun p => { p with
      raw := raw, phase := if p.mode = 1 then a % 4 else a % 65536, nextAt := t + samplePs p
      last := if p.fresh && !bad then raw else p.last, fresh := p.fresh && bad })
    (when ((posIn s i).mode == 4) (emit (.posDrive i ((posIn s i).ssiClk * 100000) (posIn s i).nbits)) (atTime t s))

/-- The raw count that a sample leaves: as its signals give it, or as it was after a frame with a bad start or stop bit or a change of
both levels at once (R172, R174). -/
def rawAfter (p : PosInput) (a b t : Nat) (bad : Bool) : Nat :=
  if (p.mode = 4 ∧ b = 0) ∨ (p.mode = 1 ∧ bad) then p.raw else sampleRaw p a t

/-- What follows a good sample of an input: used without a fault, only counted among the first 7 of one in fault, and the eighth ends
the fault and is used (R174). -/
def goodSample (i t : Nat) (p : PosInput) (s : State) : State :=
  if !p.fault then useSample i t s
  else if p.good + 1 < 8 then setIn i (fun p => { p with good := p.good + 1 }) s
  else useSample i t (setIn i (fun p => { p with fault := false, good := 0 }) s)

section
variable {s : State} {i a b t : Nat} {p : PosInput}

theorem goodSample_noFault (fault : p.fault = false) : goodSample i t p s = useSample i t s := by simp [goodSample, fault]

theorem goodSample_counted (fault : p.fault = true) (few : p.good < 7) :
    goodSample i t p s = setIn i (fun p => { p with good := p.good + 1 }) s := by
  have few : p.good + 1 < 8 := by omega
  simp [goodSample, fault, few]

theorem goodSample_endsFault (fault : p.fault = true) (enough : 7 ≤ p.good) :
    goodSample i t p s = useSample i t (setIn i (fun p => { p with fault := false, good := 0 }) s) := by
  have enough : ¬ p.good + 1 < 8 := by omega
  simp [goodSample, fault, enough]

/-- A good sample leaves the raw count that its signals give: an SSI frame with a bad start or stop bit is no good sample (R174). -/
theorem rawAfter_good (good : sampleBad p a b (sampleRaw p a t) = false) : rawAfter p a b t false = sampleRaw p a t := by
  have noBadFrame : ¬ (p.mode = 4 ∧ b = 0) := by
    rintro ⟨ssi, rfl⟩
    simp [sampleBad, ssi] at good
  simp [rawAfter, noBadFrame]

/-- A sample of an input in use that is neither within the glitch filter nor before the input's next sample (R172). -/
structure SampleTaken (s : State) (i b t : Nat) : Prop where
  on : macOn s = true
  input : i < 8
  used : (posIn s i).mode ≠ 0
  outlasts : (posIn s i).mode = 1 → (posIn s i).filter * 5000 ≤ b
  due : (posIn s i).mode ≠ 1 → (posIn s i).nextAt ≤ t

/-- POS_SAMPLE of a sample that is taken: the raw count it leaves, then the fault or the use of the sample. -/
theorem execPosSample_taken (h : SampleTaken s i b t) {bad : Bool}
    (isBad : sampleBad (posIn s i) a b (sampleRaw (posIn s i) a t) = bad) :
    let u := takeSample i a t (rawAfter (posIn s i) a b t bad) bad s
    execPosSample i a b t s = .next (if bad then inputFault i (posIn s i).mode u else goodSample i t (posIn s i) u) := by
  subst isBad
  have onTime : (if (posIn s i).mode = 1 then decide (b < (posIn s i).filter * 5000) else decide (t < (posIn s i).nextAt)) = false := by
    split
    case isTrue level => simpa using h.outlasts level
    case isFalse timed => simpa using h.due timed
  exact congrArg _ (when_pos _ _ s (by simp [h.on, h.input, h.used, onTime]))

/-- A bad sample is a fault of the input; a double change of levels and a bad frame leave the raw count. -/
theorem execPosSample_bad (h : SampleTaken s i b t) (bad : sampleBad (posIn s i) a b (sampleRaw (posIn s i) a t) = true) :
    execPosSample i a b t s = .next (inputFault i (posIn s i).mode (takeSample i a t
      (if ((posIn s i).mode = 4 ∧ b = 0) ∨ (posIn s i).mode = 1 then (posIn s i).raw else sampleRaw (posIn s i) a t) true s)) := by
  simpa only [rawAfter, and_true, if_true] using execPosSample_taken h bad

/-- A good sample sets the raw count that its signals give. -/
theorem execPosSample_good (h : SampleTaken s i b t) (good : sampleBad (posIn s i) a b (sampleRaw (posIn s i) a t) = false) :
    execPosSample i a b t s = .next (goodSample i t (posIn s i) (takeSample i a t (sampleRaw (posIn s i) a t) false s)) := by
  simpa only [rawAfter_good good, Bool.false_eq_true, if_false] using execPosSample_taken h good

end

section
variable {s : State} {i t : Nat}

/-! VELOCITY_STOP_TIMEOUT. -/

theorem execVelocityStopTimeout_drops {x : Int × Nat} (on : engOn s = true) (en : (trk s i).en = true)
    (newest : (trk s i).samples.head? = some x) :
    execVelocityStopTimeout i s = .next (setTrk i dropVel (atTime (x.2 + (trk s i).stopTo * usPs) s)) := by
  simp [execVelocityStopTimeout, newest, on, en]

/-! Z_EDGE. -/

/-- A tracker on the input notes its extended position as that of the Z edge; another does nothing (R172). -/
def latchZ (i : Nat) (tr : Tracker) : Tracker := if tr.input = i then { tr with zPos := tr.ext } else tr

/-- Every tracker after a change of all. -/
theorem trk_mapTrackers (f : Tracker → Tracker) (st : Nat) (h : st < s.pos.trackers.length) :
    trk { s with pos := { s.pos with trackers := s.pos.trackers.map f } } st = f (trk s st) := by
  simp [trk, List.getD, h]

theorem execZEdge_latches (on : macOn s = true) (incremental : (posIn s i).mode = 1) :
    execZEdge i t s = .next { atTime t s with pos := { s.pos with trackers := s.pos.trackers.map (latchZ i) } } :=
  congrArg _ (when_pos _ _ s (by simp [on, incremental]))

/-! STROBE_COMMIT. -/

theorem execStrobeCommit_strobes {b : Int} {a : Await} (on : engOn s = true) (online : (port s i).st = .online) (en : (trk s (stOf i)).en = true)
    (due : (dly s i).nextStrobe ≤ (trk s (stOf i)).k + 1) (framed : (port s i).awaits.find? (fun a => a.k == (dly s i).nextStrobe) = some a)
    (kept : a.lost = false) (shown : a.blank = false) (send : strobeSend s i (dly s i).nextStrobe = some b) :
    execStrobeCommit i s = .next (setDly i (fun d => { d with nextStrobe := (dly s i).nextStrobe + 1 })
      (strobeOut i (dly s i).nextStrobe (strobePhase b).1 (strobePhase b).2
        (atTime ((strobePhase b).1 * 6400 + (strobePhase b).2 * 100) s))) := by
  simp [execStrobeCommit, on, online, en, due, framed, kept, shown, send]

/-! TIME_REF_LOSS and TIME_REF_LOCK. -/

theorem execTimeRefLoss_unlocks (on : engOn s = true) (ext : s.pos.refExt = true) (locked : s.pos.locked = true) :
    execTimeRefLoss s = .next (raise 0x0506 dev 0 0 0 1 0 { s with pos := { s.pos with locked := false } }) :=
  congrArg _ (when_pos _ _ s (by simp [on, ext, locked]))

theorem execTimeRefLock_locks (on : engOn s = true) (ext : s.pos.refExt = true) (locked : s.pos.locked = false) :
    execTimeRefLock s = .next (raise 0x0506 dev 0 0 1 1 0 { s with pos := { s.pos with locked := true } }) :=
  congrArg _ (when_pos _ _ s (by simp [on, ext, locked]))

end

/-- Settles O23: every case of every row is one of the lemmas above, on the row's own arm of `exec`. -/
theorem startEventsAndPositionInputs : Obligations.StartEventsAndPositionInputs := by
  unfold Obligations.StartEventsAndPositionInputs
  intro s i t
  refine ⟨?tos, ?sample, fun x => execVelocityStopTimeout_drops, ?zEdge,
    fun b on online en due a framed kept shown send => execStrobeCommit_strobes on online en due framed kept shown send,
    fun on ext => ⟨execTimeRefLoss_unlocks on ext, execTimeRefLock_locks on ext⟩⟩
  case tos =>
    intro on sheet
    have edge := execTosEdge_sheet t on sheet
    refine ⟨fun waits => edge.trans ?_, fun p waits early => edge.trans ?_, fun p waits early hold => edge.trans ?_,
      fun p waits early hold => edge.trans ?_⟩
    · rw [tosStart_noPage waits]
    · rw [tosStart_early waits early]
    · rw [tosStart_held waits early hold]
    · rw [tosStart_accepts waits early hold]
  case sample =>
    intro a b on input p used outlasts due
    have h : SampleTaken s i b t := ⟨on, input, used, outlasts, due⟩
    refine ⟨execPosSample_bad h, fun good => ?_⟩
    have step := execPosSample_good h good
    refine ⟨fun fault => step.trans ?_, fun fault few => step.trans ?_, fun fault enough => step.trans ?_⟩
    · rw [goodSample_noFault fault]; rfl
    · rw [goodSample_counted fault few]; rfl
    · rw [goodSample_endsFault fault enough]; rfl
  case zEdge =>
    intro on incremental
    exact ⟨_, execZEdge_latches on incremental, fun st h => trk_mapTrackers (latchZ i) st h⟩

end Sys2Proof.Machine
end

section
/-! SUPPORT. The bounds of the host interface along a run: at reset, over one step, over any number of steps (R51, R55 to R57). -/

namespace Sys2Proof.Machine

/-- Every command of the table completes within the bounds: each row's own meaning keeps them. -/
theorem exec_Bounded (c : Instr) (s : State) (hb : Bounded s) : NextBounded (exec c s) :=
  match c with
  | .registerWrite off v => execRegisterWrite_Bounded off v s hb
  | .badSizeAccess write off => execBadSizeAccess_Bounded write off s hb
  | .reservedAddrAccess write off => execReservedAddrAccess_Bounded write off s hb
  | .timeLoRead => execTimeLoRead_Bounded s hb
  | .bar2Read off err => execBar2Read_Bounded off err s hb
  | .bar2Write off => execBar2Write_Bounded off s hb
  | .mailboxSlotWrite slot word ws => execMailboxSlotWrite_Bounded slot word ws s hb
  | .doorbell v => execDoorbell_Bounded v s hb
  | .evrEnWrite v => execEvrEnWrite_Bounded v s hb
  | .evrReadWrite v => execEvrReadWrite_Bounded v s hb
  | .eventBacklogDrain => execEventBacklogDrain_Bounded s hb
  | .modTimerExpiry => execModTimerExpiry_Bounded s hb
  | .hostInterfaceReset kind => execHostInterfaceReset_Bounded kind s hb
  | .hostLinkRetrain speed width => execHostLinkRetrain_Bounded speed width s hb
  | .pciePowerStateChange d3hot base dev caps => execPciePowerStateChange_Bounded d3hot base dev caps s hb
  | .muleEnWrite ch v => execMuleEnWrite_Bounded ch v s hb
  | .muleStopWrite ch v => execMuleStopWrite_Bounded ch v s hb
  | .muleTailWrite ch v => execMuleTailWrite_Bounded ch v s hb
  | .muleResumeLoRead ch => execMuleResumeLoRead_Bounded ch s hb
  | .pioWindowWrite ch ws => execPioWindowWrite_Bounded ch ws s hb
  | .muleDescriptorFetch ch => execMuleDescriptorFetch_Bounded ch s hb
  | .muleReadCompletion ch len reply => execMuleReadCompletion_Bounded ch len reply s hb
  | .muleReadTimeout ch => execMuleReadTimeout_Bounded ch s hb
  | .ingestRecord ch => execIngestRecord_Bounded ch s hb
  | .preverifyBlock seen fault => execPreverifyBlock_Bounded seen fault s hb
  | .pageAnnounce => execPageAnnounce_Bounded s hb
  | .pageAdmit => execPageAdmit_Bounded s hb
  | .pageWithdraw => execPageWithdraw_Bounded s hb
  | .pageStatus => execPageStatus_Bounded s hb
  | .pageConfig => execPageConfig_Bounded s hb
  | .pageGap => execPageGap_Bounded s hb
  | .pageSpoil => execPageSpoil_Bounded s hb
  | .tosEdge t => execTosEdge_Bounded t s hb
  | .posSample input a b t => execPosSample_Bounded input a b t s hb
  | .velocityStopTimeout station => execVelocityStopTimeout_Bounded station s hb
  | .zEdge input t => execZEdge_Bounded input t s hb
  | .strobeCommit lane => execStrobeCommit_Bounded lane s hb
  | .timeRefLoss => execTimeRefLoss_Bounded s hb
  | .timeRefLock => execTimeRefLock_Bounded s hb
  | .gapItemStart => execGapItemStart_Bounded s hb
  | .gapItemDone tests eyes => execGapItemDone_Bounded tests eyes s hb
  | .gapWantedRepeat => execGapWantedRepeat_Bounded s hb
  | .sysIdentify => execSysIdentify_Bounded s hb
  | .sysPing => execSysPing_Bounded s hb
  | .sysTime => execSysTime_Bounded s hb
  | .sysStatus => execSysStatus_Bounded s hb
  | .sysPending => execSysPending_Bounded s hb
  | .streamBandmap => execStreamBandmap_Bounded s hb
  | .codecCompress => execCodecCompress_Bounded s hb
  | .codecFlush => execCodecFlush_Bounded s hb
  | .codecVerify => execCodecVerify_Bounded s hb
  | .codecJobStart => execCodecJobStart_Bounded s hb
  | .codecJobDone => execCodecJobDone_Bounded s hb
  | .spoolBind => execSpoolBind_Bounded s hb
  | .spoolUnbind => execSpoolUnbind_Bounded s hb
  | .spoolStatus => execSpoolStatus_Bounded s hb
  | .spoolInfo => execSpoolInfo_Bounded s hb
  | .spoolRetain => execSpoolRetain_Bounded s hb
  | .spoolRepeat => execSpoolRepeat_Bounded s hb
  | .spoolRelease => execSpoolRelease_Bounded s hb
  | .expStatus => execExpStatus_Bounded s hb
  | .expGeomLoad => execExpGeomLoad_Bounded s hb
  | .expScreenLoad => execExpScreenLoad_Bounded s hb
  | .expToneNeutral => execExpToneNeutral_Bounded s hb
  | .expPolicy => execExpPolicy_Bounded s hb
  | .expSlack => execExpSlack_Bounded s hb
  | .expForecast => execExpForecast_Bounded s hb
  | .expEngine => execExpEngine_Bounded s hb
  | .blockFetch engine tile err bit => execBlockFetch_Bounded engine tile err bit s hb
  | .blockDecodeDone engine tile seen run => execBlockDecodeDone_Bounded engine tile seen run s hb
  | .bandLineDone engine dur check place => execBandLineDone_Bounded engine dur check place s hb
  | .bandLineRelease engine tile => execBandLineRelease_Bounded engine tile s hb
  | .engineHang engine => execEngineHang_Bounded engine s hb
  | .replayStart => execReplayStart_Bounded s hb
  | .replayDone engine seen run => execReplayDone_Bounded engine seen run s hb
  | .selfTestDone engine ok => execSelfTestDone_Bounded engine ok s hb
  | .engineWarmupDone engine => execEngineWarmupDone_Bounded engine s hb
  | .rotationTimer => execRotationTimer_Bounded s hb
  | .posInput => execPosInput_Bounded s hb
  | .posTrack => execPosTrack_Bounded s hb
  | .posStatus => execPosStatus_Bounded s hb
  | .posDelay => execPosDelay_Bounded s hb
  | .posMask => execPosMask_Bounded s hb
  | .posOverride => execPosOverride_Bounded s hb
  | .posLatency => execPosLatency_Bounded s hb
  | .timeConfig => execTimeConfig_Bounded s hb
  | .lineFrameStart lane poison => execLineFrameStart_Bounded lane poison s hb
  | .prbsSlotSend lane => execPrbsSlotSend_Bounded lane s hb
  | .codewordRx lane ws => execCodewordRx_Bounded lane ws s hb
  | .statusFrameRx lane => execStatusFrameRx_Bounded lane s hb
  | .mgmtResponseRx lane => execMgmtResponseRx_Bounded lane s hb
  | .mgmtRetryTimeout lane => execMgmtRetryTimeout_Bounded lane s hb
  | .probeTimer lane => execProbeTimer_Bounded lane s hb
  | .echoRx lane bytes t => execEchoRx_Bounded lane bytes t s hb
  | .probeTimeout lane => execProbeTimeout_Bounded lane s hb
  | .prbsSlotRx lane => execPrbsSlotRx_Bounded lane s hb
  | .acquirePeakTimer lane eye => execAcquirePeakTimer_Bounded lane eye s hb
  | .acquireRateTimer lane => execAcquireRateTimer_Bounded lane s hb
  | .offlineRetryTimer lane => execOfflineRetryTimer_Bounded lane s hb
  | .mgmtOnlyRetryTimer lane => execMgmtOnlyRetryTimer_Bounded lane s hb
  | .fastExitTimeout lane => execFastExitTimeout_Bounded lane s hb
  | .linkErrorWindow lane eye => execLinkErrorWindow_Bounded lane eye s hb
  | .linkStatus => execLinkStatus_Bounded s hb
  | .linkTrain => execLinkTrain_Bounded s hb
  | .linkConfig => execLinkConfig_Bounded s hb
  | .linkEnable => execLinkEnable_Bounded s hb
  | .linkErrors => execLinkErrors_Bounded s hb
  | .tileInfo => execTileInfo_Bounded s hb
  | .tileThermal => execTileThermal_Bounded s hb
  | .tileMem => execTileMem_Bounded s hb
  | .recDiscard => execRecDiscard_Bounded s hb
  | .tilePower => execTilePower_Bounded s hb
  | .tilePowerDelayExpiry station => execTilePowerDelayExpiry_Bounded station s hb
  | .recordWrite kind location => execRecordWrite_Bounded kind location s hb
  | .consStatus => execConsStatus_Bounded s hb
  | .consBind => execConsBind_Bounded s hb
  | .consAuth => execConsAuth_Bounded s hb
  | .consOtpKey => execConsOtpKey_Bounded s hb
  | .consPoll acks => execConsPoll_Bounded acks s hb
  | .consAuthTimer slot => execConsAuthTimer_Bounded slot s hb
  | .consChipResponse slot data ok => execConsChipResponse_Bounded slot data ok s hb
  | .consBusyRetry slot => execConsBusyRetry_Bounded slot s hb
  | .consIncrement slot => execConsIncrement_Bounded slot s hb
  | .camFrameStart port vs => execCamFrameStart_Bounded port vs s hb
  | .camLine port clocks => execCamLine_Bounded port clocks s hb
  | .camPipeLineDone pipe line => execCamPipeLineDone_Bounded pipe line s hb
  | .camTrigPeriod trig => execCamTrigPeriod_Bounded trig s hb
  | .camPort => execCamPort_Bounded s hb
  | .camMosaic => execCamMosaic_Bounded s hb
  | .camStream => execCamStream_Bounded s hb
  | .camStats => execCamStats_Bounded s hb
  | .camStatus => execCamStatus_Bounded s hb
  | .camTrigger => execCamTrigger_Bounded s hb
  | .camI2c acks data => execCamI2c_Bounded acks data s hb
  | .calView => execCalView_Bounded s hb
  | .calConfig => execCalConfig_Bounded s hb
  | .calStart => execCalStart_Bounded s hb
  | .calStop => execCalStop_Bounded s hb
  | .calResult => execCalResult_Bounded s hb
  | .calWindowTimeout kind subject => execCalWindowTimeout_Bounded kind subject s hb
  | .calInterval kind subject => execCalInterval_Bounded kind subject s hb
  | .loopTick vmon imon overruns => execLoopTick_Bounded vmon imon overruns s hb
  | .progStepTimeout inst => execProgStepTimeout_Bounded inst s hb
  | .progInstanceExpiry inst => execProgInstanceExpiry_Bounded inst s hb
  | .seqInEdge input level => execSeqInEdge_Bounded input level s hb
  | .hvArcEdge chan => execHvArcEdge_Bounded chan s hb
  | .hvArcHoldExpiry chan => execHvArcHoldExpiry_Bounded chan s hb
  | .hvComplianceEnd chan => execHvComplianceEnd_Bounded chan s hb
  | .thermistorSample codes => execThermistorSample_Bounded codes s hb
  | .fusZcEdge => execFusZcEdge_Bounded s hb
  | .fusZcTimeout => execFusZcTimeout_Bounded s hb
  | .fuserComparatorTrip zone => execFuserComparatorTrip_Bounded zone s hb
  | .loopConfig => execLoopConfig_Bounded s hb
  | .loopCoef => execLoopCoef_Bounded s hb
  | .loopMode => execLoopMode_Bounded s hb
  | .loopSetpoint => execLoopSetpoint_Bounded s hb
  | .loopStatus => execLoopStatus_Bounded s hb
  | .hvConfig => execHvConfig_Bounded s hb
  | .fusConfig => execFusConfig_Bounded s hb
  | .progLoad => execProgLoad_Bounded s hb
  | .progStatus => execProgStatus_Bounded s hb
  | .seqIo => execSeqIo_Bounded s hb
  | .pwmPeriod axis su sv sw => execPwmPeriod_Bounded axis su sv sw s hb
  | .drvFaultInput axis => execDrvFaultInput_Bounded axis s hb
  | .axisStopTimeout axis => execAxisStopTimeout_Bounded axis s hb
  | .axisAlignDone axis => execAxisAlignDone_Bounded axis s hb
  | .busSample bus vbus isns => execBusSample_Bounded bus vbus isns s hb
  | .chopperDetectTimeout bus => execChopperDetectTimeout_Bounded bus s hb
  | .vbusHardTrip bus => execVbusHardTrip_Bounded bus s hb
  | .microstep axis => execMicrostep_Bounded axis s hb
  | .stepHoldTimeout axis => execStepHoldTimeout_Bounded axis s hb
  | .switchEdge axis switch level accepted => execSwitchEdge_Bounded axis switch level accepted s hb
  | .chatterWindowEnd axis switch => execChatterWindowEnd_Bounded axis switch s hb
  | .axisConfig => execAxisConfig_Bounded s hb
  | .axisAdvance => execAxisAdvance_Bounded s hb
  | .axisAlign => execAxisAlign_Bounded s hb
  | .axisEnable => execAxisEnable_Bounded s hb
  | .axisStart => execAxisStart_Bounded s hb
  | .axisStatus => execAxisStatus_Bounded s hb
  | .axisBus => execAxisBus_Bounded s hb
  | .stepConfig => execStepConfig_Bounded s hb
  | .stepMove => execStepMove_Bounded s hb
  | .stepHome => execStepHome_Bounded s hb
  | .stepStop => execStepStop_Bounded s hb
  | .stepStatus => execStepStatus_Bounded s hb
  | .scrubRead store err bit dropped => execScrubRead_Bounded store err bit dropped s hb
  | .scrubLateTimeout store => execScrubLateTimeout_Bounded store s hb
  | .ddrSweepStart chan temps => execDdrSweepStart_Bounded chan temps s hb
  | .ddrSweepPause chan last found centre => execDdrSweepPause_Bounded chan last found centre s hb
  | .extentMigrate ok => execExtentMigrate_Bounded ok s hb
  | .memFillExtentDone => execMemFillExtentDone_Bounded s hb
  | .memTrainDone ok => execMemTrainDone_Bounded ok s hb
  | .chkScanDone engine err => execChkScanDone_Bounded engine err s hb
  | .memStatus => execMemStatus_Bounded s hb
  | .memConfig => execMemConfig_Bounded s hb
  | .memFill => execMemFill_Bounded s hb
  | .memTest => execMemTest_Bounded s hb
  | .memRate => execMemRate_Bounded s hb
  | .memTrain => execMemTrain_Bounded s hb
  | .memRetire => execMemRetire_Bounded s hb
  | .chkScan => execChkScan_Bounded s hb
  | .gooseWatchdogExpiry => execGooseWatchdogExpiry_Bounded s hb
  | .coreWatchdogExpiry => execCoreWatchdogExpiry_Bounded s hb
  | .safeInEdge chan => execSafeInEdge_Bounded chan s hb
  | .safeInDetailTimer => execSafeInDetailTimer_Bounded s hb
  | .hvInterlockChange ilk level => execHvInterlockChange_Bounded ilk level s hb
  | .vinSample code => execVinSample_Bounded code s hb
  | .machinePorAssert => execMachinePorAssert_Bounded s hb
  | .machinePorRelease => execMachinePorRelease_Bounded s hb
  | .sysRstN => execSysRstN_Bounded s hb
  | .engWake => execEngWake_Bounded s hb
  | .powerSeqStep rail => execPowerSeqStep_Bounded rail s hb
  | .powerSeqTimeout => execPowerSeqTimeout_Bounded s hb
  | .powerDownStep => execPowerDownStep_Bounded s hb
  | .pwrPgLoss rail => execPwrPgLoss_Bounded rail s hb
  | .engineAutoRestart => execEngineAutoRestart_Bounded s hb
  | .dieTempSample machine values => execDieTempSample_Bounded machine values s hb
  | .supStatus => execSupStatus_Bounded s hb
  | .supConfig => execSupConfig_Bounded s hb
  | .supOutput => execSupOutput_Bounded s hb
  | .supTrip => execSupTrip_Bounded s hb
  | .supClear => execSupClear_Bounded s hb
  | .supLog => execSupLog_Bounded s hb
  | .thermStatus => execThermStatus_Bounded s hb
  | .thermConfig => execThermConfig_Bounded s hb
  | .bootRomStart => execBootRomStart_Bounded s hb
  | .fwReady => execFwReady_Bounded s hb
  | .heartbeatTick => execHeartbeatTick_Bounded s hb
  | .coreRestart => execCoreRestart_Bounded s hb
  | .fwLoadDone => execFwLoadDone_Bounded s hb
  | .fwPreloadDone ok => execFwPreloadDone_Bounded ok s hb
  | .handoverComplete ok => execHandoverComplete_Bounded ok s hb
  | .wakeTimer => execWakeTimer_Bounded s hb
  | .fwStatus => execFwStatus_Bounded s hb
  | .fwLoad => execFwLoad_Bounded s hb
  | .fwActivate => execFwActivate_Bounded s hb
  | .fwCommit => execFwCommit_Bounded s hb
  | .lifeIdle => execLifeIdle_Bounded s hb
  | .lifeStandby => execLifeStandby_Bounded s hb
  | .lifeWake => execLifeWake_Bounded s hb
  | .ctrRead => execCtrRead_Bounded s hb
  | .ctrClear => execCtrClear_Bounded s hb
  | .testPrbs => execTestPrbs_Bounded s hb
  | .injArm => execInjArm_Bounded s hb
  | .spineFrameRx toMachine corrected ok => execSpineFrameRx_Bounded toMachine corrected ok s hb
  | .jtagInstruction machine code => execJtagInstruction_Bounded machine code s hb
  | .blockLock lane headers => execBlockLock_Bounded lane headers s hb
  | .idleEnterRx rx => execIdleEnterRx_Bounded rx s hb
  | .safeInHealthy chan => execSafeInHealthy_Bounded chan s hb
  | .consBusTimeout slot => execConsBusTimeout_Bounded slot s hb
  | .trialFailed => execTrialFailed_Bounded s hb
  | .lifecyclePowerDown => execLifecyclePowerDown_Bounded s hb
  | .prbsCheckerSync spine index bits => execPrbsCheckerSync_Bounded spine index bits s hb

/-- A step completes within the bounds: the front command where one waits, else the idle tick. -/
theorem step_Bounded (s : State) (hb : Bounded s) : NextBounded (step s) := by
  unfold step
  split
  case h_1 => exact NextBounded_next _ (idleTick_BoundedBy s hb)
  case h_2 c queue _ => exact exec_Bounded c _ (BoundedBy_congr hb rfl rfl)

/-- Settles O4: reset is the state of a host interface that nothing has been written to. -/
theorem boundsAtReset : Obligations.BoundsAtReset := by
  unfold Obligations.BoundsAtReset
  exact boundsOk_reset 0 0 [] rfl

/-- Settles O5: the front command or the idle tick keeps the bounds. -/
theorem everyStepKeepsTheBounds : Obligations.EveryStepKeepsTheBounds := by
  unfold Obligations.EveryStepKeepsTheBounds
  exact fun s hb => (step_Bounded s hb).all

/-- Some `n` steps from a state within the bounds complete. -/
theorem exists_reaches_of_Bounded (n : Nat) : ∀ s, Bounded s → ∃ t, reaches n s t := by
  induction n with
  | zero => exact fun s _ => ⟨s, rfl⟩
  | succ n ih =>
    intro s hb
    obtain ⟨u, first, hu⟩ := (step_Bounded s hb).all
    obtain ⟨t, rest⟩ := ih u hu
    exact ⟨t, u, first, rest⟩

/-- Whatever `n` steps reach from a state within the bounds is within them. -/
theorem Bounded_of_reaches (n : Nat) : ∀ s t, Bounded s → reaches n s t → Bounded t := by
  induction n with
  | zero => rintro s _ hb rfl; exact hb
  | succ n ih =>
    rintro s t hb ⟨u, first, rest⟩
    obtain ⟨v, same, hv⟩ := (step_Bounded s hb).all
    obtain rfl : v = u := Host.Outcome.next.inj (same.symm.trans first)
    exact ih v t hv rest

/-- Settles O6, by induction on the number of steps with the step lemma of O5. -/
theorem runsKeepTheBounds : Obligations.RunsKeepTheBounds := by
  unfold Obligations.RunsKeepTheBounds
  exact fun n s hb => ⟨exists_reaches_of_Bounded n s hb, fun t => Bounded_of_reaches n s t hb⟩

end Sys2Proof.Machine
end

section
/-! SUPPORT. The accesses of the host port: those that are not performed, the time and BAR2 reads, the ring's control registers
(R41, R42, R54, R56, R61, R63, R476). -/

namespace Sys2Proof.Machine

/-! Accesses that are not performed. -/

section
variable {off : Nat} {s : State}

theorem execBadSizeAccess_write (bar : barOn s = true) : execBadSizeAccess true off s = .next (accErr 0 off false s) :=
  congrArg _ (when_pos _ _ s bar)

theorem execBadSizeAccess_read (bar : barOn s = true) : execBadSizeAccess false off s = .next (accErr 0 off false (emit (.read 0) s)) :=
  congrArg _ (when_pos _ _ s bar)

theorem execReservedAddrAccess_unlisted (bar : barOn s = true) (unlisted : regListed off = false) (write : Bool) :
    execReservedAddrAccess write off s = .next (if write then accErr 1 off false s else emit (.read 0) s) :=
  congrArg _ (when_pos _ _ s (by simp [bar, unlisted]))

theorem execReservedAddrAccess_listed (listed : regListed off = true) (write : Bool) : execReservedAddrAccess write off s = .next s :=
  congrArg _ (when_neg _ _ s (by simp [listed]))

theorem execBar2Write_refused (bar : barOn s = true) : execBar2Write off s = .next (accErr 2 off true s) := congrArg _ (when_pos _ _ s bar)

end

/-- Settles O12: each access is its row of `exec` on a decoded BAR. -/
theorem accessErrorsAreRecorded : Obligations.AccessErrorsAreRecorded := by
  unfold Obligations.AccessErrorsAreRecorded
  intro off s bar
  exact ⟨execBadSizeAccess_write bar, execBadSizeAccess_read bar,
    fun unlisted => ⟨execReservedAddrAccess_unlisted bar unlisted true, execReservedAddrAccess_unlisted bar unlisted false⟩,
    fun listed write => execReservedAddrAccess_listed listed write, execBar2Write_refused bar⟩

/-! The time and the diagnostic window. -/

/-- The four bytes of the line store at `off` go out as the value of a read (R62). -/
def emitStoreWord (off : Nat) (s : State) : State :=
  emit (.read (BitVec.ofNat 32 (leNat ((List.range 4).map (fun i => storeByte s (off + i)))))) s

section
variable {off : Nat} {s : State}

theorem execTimeLoRead_latches (bar : barOn s = true) : execTimeLoRead s = .next { s with
    host := { s.host with timeHi := BitVec.ofNat 32 (s.now / 1000 / 2 ^ 32) }, out := .read (BitVec.ofNat 32 (s.now / 1000)) :: s.out } :=
  congrArg _ (when_pos _ _ s bar)

theorem execBar2Read_eq (bar : barOn s = true) (err : Nat) : execBar2Read off err s = .next (bar2Read (off - off % 4) err s) :=
  congrArg _ (when_pos _ _ s bar)

/-- Diagnostic reads are off: a read returns 0 (R61). -/
theorem bar2Read_disabled (err : Nat) (diag : s.host.diagEn = false) : bar2Read off err s = emit (.read 0) s := by simp [bar2Read, diag]

/-- A read of region 0 goes to the line store, by what was found of its word (R63, R396, R397). -/
theorem bar2Read_lineStore (err : Nat) (diag : s.host.diagEn = true) (region : s.host.diagRegion = 0) (inside : off < 2 ^ 26) :
    bar2Read off err s = if 72 < err then emit (.read 0xFFFFFFFF) (memUe false 0 (off / 8) 1 s)
      else emitStoreWord off (if err = 0 then s else memCe false 0 (off / 8) (err - 1) none s) := by
  have store : diagRegion s.host.diagRegion.toNat = (2 ^ 26, 0, 0) := by rw [region]; rfl
  have inRegion : ¬ 2 ^ 26 ≤ off := by omega
  simp only [bar2Read, store, diag, inRegion, Nat.zero_add, Bool.not_true, decide_false, Bool.or_self, Bool.false_eq_true, if_false, if_true,
    emitStoreWord]

end

/-- Settles O13: the latch of TIME_HI, and the cases of a BAR2 read. -/
theorem timeAndDiagnosticReads : Obligations.TimeAndDiagnosticReads := by
  unfold Obligations.TimeAndDiagnosticReads
  intro off s bar
  refine ⟨execTimeLoRead_latches bar, fun diag err => ?disabled, fun diag region inside => ?lineStore⟩
  case disabled => exact (execBar2Read_eq bar err).trans (congrArg _ (bar2Read_disabled err diag))
  case lineStore =>
    have read (err : Nat) := (execBar2Read_eq bar err).trans
      (congrArg _ (bar2Read_lineStore err diag region (Nat.lt_of_le_of_lt (Nat.sub_le off (off % 4)) inside)))
    refine ⟨read 0, fun b correctable => (read (1 + b)).trans ?_, fun e lost => (read e).trans ?_⟩
    · have found : 1 + b ≠ 0 := by omega
      have corrected : ¬ 72 < 1 + b := by omega
      rw [if_neg corrected, if_neg found, Nat.add_sub_cancel_left]
      rfl
    · rw [if_pos lost]

/-! The ring's control registers. -/

section
variable {v : Word} {s : State}

theorem execEvrEnWrite_enables (bar : barOn s = true) (en : v.getLsbD 0 = true) (off : s.host.evrEn = false) (empty : s.host.backlog = []) :
    execEvrEnWrite v s = .next { s with host := { s.host with
      evrEn := true, evrWrite := 0, evrRead := 0, shadowEn := v.getLsbD 16, log2Size := (v >>> 8).setWidth 5 } } := by
  refine congrArg _ ((when_pos _ _ s bar).trans ?_)
  simp only [evrEnWrite, en, off, Bool.false_eq_true, not_false_eq_true, and_self, if_true, if_false]
  exact drain_nil _ empty

theorem execEvrEnWrite_whileEnabled (bar : barOn s = true) (on : s.host.evrEn = true) :
    execEvrEnWrite v s = .next { s with host := { s.host with evrEn := v.getLsbD 0, shadowEn := v.getLsbD 16 } } := by
  refine congrArg _ ((when_pos _ _ s bar).trans ?_)
  simp only [evrEnWrite, on, not_true_eq_false, and_false, if_true, if_false]

/-- The base and shadow registers are locked while the ring is enabled (R54). -/
theorem execRegisterWrite_ringLocked (on : s.host.evrEn = true) {off : Nat}
    (locked : off = 0x3000 ∨ off = 0x3004 ∨ off = 0x3014 ∨ off = 0x3018) : execRegisterWrite off v s = .next s := by
  have kept : registerWrite off v s = s := by
    rcases locked with rfl | rfl | rfl | rfl <;> simp [registerWrite, regListed, ringRegWrite, on]
  exact congrArg _ (when_eq id _ (registerWrite off v) s kept)

theorem execEvrReadWrite_refused (bar : barOn s = true) (beyond : ringSize s.host < (s.host.evrWrite - v).toNat) :
    execEvrReadWrite v s = .next (accErr 5 0x3010 false s) :=
  (congrArg _ (when_pos _ _ s bar)).trans (congrArg _ (if_pos beyond))

theorem execEvrReadWrite_taken (bar : barOn s = true) (fits : (s.host.evrWrite - v).toNat ≤ ringSize s.host) (empty : s.host.backlog = []) :
    execEvrReadWrite v s = .next { s with host := { s.host with evrRead := v } } :=
  (congrArg _ (when_pos _ _ s bar)).trans (congrArg _ ((if_neg (Nat.not_lt.mpr fits)).trans (drain_nil _ empty)))

end

/-- Settles O15: EN, the locked registers and the consumer index, each where its condition holds. -/
theorem ringControlWrites : Obligations.RingControlWrites := by
  unfold Obligations.RingControlWrites
  intro v s bar
  exact ⟨execEvrEnWrite_enables bar, execEvrEnWrite_whileEnabled bar, fun on off locked => execRegisterWrite_ringLocked on locked,
    execEvrReadWrite_refused bar, execEvrReadWrite_taken bar⟩

end Sys2Proof.Machine
end

section
/-! SUPPORT. The mailbox slots: what a response leaves, what a doorbell does to the slots and the ring order, and the system commands
(R45 to R49, R66). -/

namespace Sys2Proof.Machine

/-! Events, interrupts and counters leave the slots, SLOT_DONE and the ring order. -/

/-- Two states of the host interface have the same slots, SLOT_DONE and ring order. -/
structure SameSlots (h h' : HostState) : Prop where
  slots : h.slots = h'.slots
  slotDone : h.slotDone = h'.slotDone
  order : h.order = h'.order

theorem SameSlots.trans {a b c : HostState} (h : SameSlots a b) (k : SameSlots b c) : SameSlots a c :=
  ⟨h.slots.trans k.slots, h.slotDone.trans k.slotDone, h.order.trans k.order⟩

theorem sinkMsix_sameSlots (e : SinkEnv) (v : Nat) (k : Sink) : SameSlots (sinkMsix e v k).host k.host := by
  unfold sinkMsix
  split
  · exact ⟨rfl, rfl, rfl⟩
  · split <;> exact ⟨rfl, rfl, rfl⟩

theorem sinkInt_sameSlots (e : SinkEnv) (v : Nat) (k : Sink) : SameSlots (sinkInt e v k).host k.host := by
  unfold sinkInt
  dsimp only
  split
  · exact (sinkMsix_sameSlots e v _).trans ⟨rfl, rfl, rfl⟩
  · exact ⟨rfl, rfl, rfl⟩

theorem moderate_sameSlots (e : SinkEnv) (k : Sink) : SameSlots (moderate e k).host k.host := by
  unfold moderate
  dsimp only
  split
  · exact (sinkInt_sameSlots e 1 _).trans ⟨rfl, rfl, rfl⟩
  · exact ⟨rfl, rfl, rfl⟩

theorem ringWrite_sameSlots (e : SinkEnv) (r : EventRec) (k : Sink) : SameSlots (ringWrite e r k).host k.host := by
  unfold ringWrite
  dsimp only
  refine (moderate_sameSlots e _).trans ?_
  split
  · exact (sinkInt_sameSlots e 2 _).trans ⟨rfl, rfl, rfl⟩
  · exact ⟨rfl, rfl, rfl⟩

theorem backlogPush_sameSlots (e : SinkEnv) (r : EventRec) (k : Sink) : SameSlots (backlogPush e r k).host k.host := by
  unfold backlogPush
  dsimp only
  refine (sinkInt_sameSlots e 3 _).trans ?_
  split <;> exact ⟨rfl, rfl, rfl⟩

theorem raise_sameSlots (c so p l d0 d1 d2 : Nat) (s : State) : SameSlots (raise c so p l d0 d1 d2 s).host s.host := by
  change SameSlots (sinkRaise _ _ (sinkOf s)).host s.host
  unfold sinkRaise
  split
  · exact ⟨rfl, rfl, rfl⟩
  · dsimp only
    split
    · exact (ringWrite_sameSlots _ _ _).trans ⟨rfl, rfl, rfl⟩
    · exact (backlogPush_sameSlots _ _ _).trans ⟨rfl, rfl, rfl⟩

theorem bump_sameSlots (id i n : Nat) (s : State) : SameSlots (bump id i n s).host s.host := by
  unfold bump
  dsimp only
  split
  · split
    · exact (raise_sameSlots _ _ _ _ _ _ _ _).trans (raise_sameSlots _ _ _ _ _ _ _ _)
    · exact raise_sameSlots _ _ _ _ _ _ _ _
  · exact ⟨rfl, rfl, rfl⟩

theorem accErr_sameSlots (bit off : Nat) (bar2 : Bool) (s : State) : SameSlots (accErr bit off bar2 s).host s.host :=
  (bump_sameSlots 0x0101 0 1 _).trans ⟨rfl, rfl, rfl⟩

/-! The response. -/

/-- A change of an element that is there. -/
theorem updAt_eq_set {α : Type} {l : List α} {i : Nat} {a : α} (f : α → α) (h : l[i]? = some a) : updAt l i f = l.set i (f a) := by
  obtain ⟨inside, rfl⟩ := List.getElem?_eq_some_iff.mp h
  have : Inhabited α := ⟨l[i]⟩
  simp [updAt, List.modify_eq_set, h]

/-- The state with a response in slot `n`, which held `q`: the slot is DONE and its SLOT_DONE bit is set (R47). -/
def slotAnswered (n : Nat) (q : Slot) (status : Nat) (results : List Nat) (s : State) : State :=
  { s with host := { s.host with
      slots := s.host.slots.set n (Slot.mk (responseWords q.words status results) .done), slotDone := s.host.slotDone ||| (1#16 <<< n) } }

section
variable {n status : Nat} {results : List Nat} {s : State} {q : Slot}

theorem respond_quiet (slot : s.host.slots[n]? = some q) (irq : bitOf (wordAt q.words 0) 16 = false) :
    respond n status results s = slotAnswered n q status results s := by
  simp [respond, slot, irq, updAt_eq_set _ slot, slotAnswered]

/-- With IRQ the response sets INT_STATUS.MBX, and vector 0 follows where it is enabled (R47, R59). -/
theorem respond_signals (slot : s.host.slots[n]? = some q) (irq : bitOf (wordAt q.words 0) 16 = true) :
    respond n status results s = (let u := slotAnswered n q status results s; withSink u (sinkInt (envOf u) 0 (sinkOf u))) := by
  simp [respond, slot, irq, updAt_eq_set _ slot, slotAnswered]

end

/-- Settles O8: without IRQ the response is all that changes, with IRQ the interrupt leaves the slots as they are. -/
theorem responseIsWritten : Obligations.ResponseIsWritten := by
  unfold Obligations.ResponseIsWritten
  intro n status results s q slot
  cases irq : bitOf (wordAt q.words 0) 16
  case false =>
    rw [respond_quiet slot irq]
    exact ⟨rfl, rfl, fun _ => rfl, nofun⟩
  case true =>
    rw [respond_signals slot irq]
    have same := sinkInt_sameSlots (envOf (slotAnswered n q status results s)) 0 (sinkOf (slotAnswered n q status results s))
    exact ⟨same.slots, same.slotDone, nofun, fun _ => ⟨by simp [withSink, sinkInt_keeps, sinkOf, slotAnswered], rfl⟩⟩

/-! The doorbell. -/

/-- A slot that the host rings: POSTED with its words kept, if the host owns it (R46). -/
def rungSlot (owned : Bool) (q : Slot) : Slot := if owned then { q with st := .posted } else q

@[simp] theorem rungSlot_false : rungSlot false = id := rfl
@[simp] theorem rungSlot_true : rungSlot true = fun q => { q with st := .posted } := rfl

theorem ringSlot_owned {n : Nat} {s : State} (own : hostOwns s n = true) : ringSlot n s = { s with host := { s.host with
    slots := updAt s.host.slots n (fun q => { q with st := .posted }), slotDone := s.host.slotDone &&& ~~~(1#16 <<< n),
    order := s.host.order ++ [n] } } :=
  if_pos own

theorem ringSlot_busy {n : Nat} {s : State} (own : hostOwns s n = false) : ringSlot n s = accErr 4 0x2000 false s :=
  if_neg (by simp [own])

/-- Ringing one slot: it joins the ring order if the host owns it. -/
theorem ringSlot_order (n : Nat) (s : State) : (ringSlot n s).host.order = s.host.order ++ [n].filter (hostOwns s) := by
  cases own : hostOwns s n
  · simp [ringSlot_busy own, (accErr_sameSlots 4 0x2000 false s).order, own]
  · simp [ringSlot_owned own, own]

/-- Ringing one slot: it is rung, and no other one changes. -/
theorem ringSlot_slots (n m : Nat) (s : State) :
    (ringSlot n s).host.slots[m]? = (s.host.slots[m]?).map (rungSlot (decide (m = n) && hostOwns s m)) := by
  by_cases same : m = n
  · subst same
    cases own : hostOwns s m
    · simp [ringSlot_busy own, (accErr_sameSlots 4 0x2000 false s).slots]
    · simp [ringSlot_owned own, updAt]
  · cases own : hostOwns s n
    · simp [ringSlot_busy own, (accErr_sameSlots 4 0x2000 false s).slots, same]
    · simp [ringSlot_owned own, updAt, same, Ne.symm same]

/-- Whether the host owns a slot is a matter of that slot alone. -/
theorem hostOwns_congr {s t : State} {n : Nat} (h : t.host.slots[n]? = s.host.slots[n]?) : hostOwns t n = hostOwns s n := by
  unfold hostOwns; rw [h]

theorem hostOwns_ringSlot_ne {n m : Nat} (s : State) (other : m ≠ n) : hostOwns (ringSlot n s) m = hostOwns s m :=
  hostOwns_congr (by simp [ringSlot_slots, other])

/-- Ringing several slots, none twice: those that the host owns join the ring order, each of them is rung and no other one changes. -/
theorem forList_ringSlot (l : List Nat) : ∀ s : State, l.Nodup →
    (forList l s ringSlot).host.order = s.host.order ++ l.filter (hostOwns s)
    ∧ ∀ m, (forList l s ringSlot).host.slots[m]? = (s.host.slots[m]?).map (rungSlot (l.contains m && hostOwns s m)) := by
  induction l with
  | nil => intro s _; simp [forList]
  | cons n l ih =>
    intro s distinct
    obtain ⟨fresh, distinct⟩ := List.nodup_cons.mp distinct
    obtain ⟨order, slots⟩ := ih (ringSlot n s) distinct
    have owners : l.filter (hostOwns (ringSlot n s)) = l.filter (hostOwns s) :=
      List.filter_congr (fun m inside => hostOwns_ringSlot_ne s (fun same => fresh (same ▸ inside)))
    refine ⟨?order, fun m => ?slot⟩
    case order =>
      change (forList l (ringSlot n s) ringSlot).host.order = _
      rw [order, owners, ringSlot_order, List.append_assoc, ← List.filter_append, List.singleton_append]
    case slot =>
      change (forList l (ringSlot n s) ringSlot).host.slots[m]? = _
      rw [slots, ringSlot_slots, Option.map_map]
      congr 1
      funext q
      by_cases same : m = n
      · subst same
        simp [fresh]
      · simp [same, hostOwns_ringSlot_ne]

theorem bitList_nodup (n w : Nat) : (bitList n w).Nodup := List.nodup_range.filter _

/-- The doorbell word with bit `n` alone rings slot `n`. -/
theorem bitList_doorbell : ∀ n < 16, bitList 16 (BitVec.ofNat 32 (2 ^ n)).toNat = [n] := by decide

section
variable {s : State} {n word : Nat} {ws : List Word}

theorem execDoorbell_rings (bar : barOn s = true) (v : Word) : execDoorbell v s = .next (forList (bitList 16 v.toNat) s ringSlot) :=
  congrArg _ (when_pos _ _ s bar)

theorem execDoorbell_one (bar : barOn s = true) (inside : n < 16) : execDoorbell (BitVec.ofNat 32 (2 ^ n)) s = .next (ringSlot n s) := by
  rw [execDoorbell_rings bar, bitList_doorbell n inside]; rfl

/-- The state with words written over those of slot `n`. -/
def slotWritten (n word : Nat) (ws : List Word) (s : State) : State :=
  { s with host := { s.host with slots := updAt s.host.slots n (fun q => { q with words := writeWords q.words word ws }) } }

theorem execMailboxSlotWrite_owned (bar : barOn s = true) (slot : n < 16) (fits : word + ws.length ≤ 64) (own : hostOwns s n = true) :
    execMailboxSlotWrite n word ws s = .next (slotWritten n word ws s) :=
  (congrArg _ (when_pos _ _ s (by simp [bar, slot, fits]))).trans (congrArg _ (if_pos own))

theorem execMailboxSlotWrite_refused (bar : barOn s = true) (slot : n < 16) (fits : word + ws.length ≤ 64) (own : hostOwns s n = false) :
    execMailboxSlotWrite n word ws s = .next (accErr 3 (0x1000 + 256 * n + 4 * word) false s) :=
  (congrArg _ (when_pos _ _ s (by simp [bar, slot, fits]))).trans (congrArg _ (if_neg (by simp [own])))

end

/-- Settles O14: the slot write by the slot's owner, and the doorbell by the list of rung slots. -/
theorem mailboxSlotsAndDoorbell : Obligations.MailboxSlotsAndDoorbell := by
  unfold Obligations.MailboxSlotsAndDoorbell
  intro s bar
  refine ⟨fun n word ws slot fits => ⟨execMailboxSlotWrite_owned bar slot fits, execMailboxSlotWrite_refused bar slot fits⟩, fun v => ?_⟩
  obtain ⟨order, slots⟩ := forList_ringSlot (bitList 16 v.toNat) s (bitList_nodup 16 v.toNat)
  exact ⟨_, execDoorbell_rings bar v, order, slots⟩

/-! One slot's doorbell. -/

theorem hostOwns_iff {s : State} {n : Nat} {q : Slot} (slot : s.host.slots[n]? = some q) :
    hostOwns s n = true ↔ q.st = .idle ∨ q.st = .done := by
  simp [hostOwns, slot]

/-- A slot in POSTED or ACTIVE is not the host's. -/
theorem hostOwns_busy {s : State} {n : Nat} {q : Slot} (slot : s.host.slots[n]? = some q) (busy : q.st = .posted ∨ q.st = .active) :
    hostOwns s n = false := by
  rcases busy with st | st <;> simp [hostOwns, slot, st]

/-- Ringing a slot clears its own SLOT_DONE bit and no other. -/
theorem ringSlot_slotDone {n : Nat} {s : State} (inside : n < 16) (own : hostOwns s n = true) (m : Nat) :
    (ringSlot n s).host.slotDone.getLsbD m = (decide (m ≠ n) && s.host.slotDone.getLsbD m) := by
  rw [ringSlot_owned own]
  by_cases low : m < 16
  · rcases Nat.lt_trichotomy m n with less | rfl | more
    · simp [low, less, Nat.ne_of_lt less]
    · simp
    · have ne : m ≠ n := by omega
      have pos : m - n ≠ 0 := by omega
      simp [low, ne, pos]
  · simp [BitVec.getLsbD_of_ge _ m (Nat.not_lt.mp low)]

/-- Settles O51: ringing one slot, and ringing it after the host has rewritten it. -/
theorem doorbellPostsASlot : Obligations.DoorbellPostsASlot := by
  unfold Obligations.DoorbellPostsASlot
  intro s n q bar inside slot
  refine ⟨fun owned => ?posts, fun busy => ?refuses, fun done full ws t whole written => ?rewritten⟩
  case posts =>
    have own := (hostOwns_iff slot).mpr owned
    refine ⟨_, execDoorbell_one bar inside, ?_, ?_, ?_, fun m other => ⟨?_, ?_⟩⟩
    · simp [ringSlot_slots, slot, own]
    · simp [ringSlot_slotDone inside own]
    · simp [ringSlot_order, own]
    · simp [ringSlot_slots, other]
    · simp [ringSlot_slotDone inside own, other]
  case refuses =>
    exact (execDoorbell_one bar inside).trans (congrArg _ (ringSlot_busy (hostOwns_busy slot busy)))
  case rewritten =>
    have own := (hostOwns_iff slot).mpr (.inr done)
    have fits : 0 + ws.length ≤ 64 := by omega
    obtain rfl : slotWritten n 0 ws s = t :=
      Host.Outcome.next.inj ((execMailboxSlotWrite_owned bar inside fits own).symm.trans written)
    have rewrote : (slotWritten n 0 ws s).host.slots[n]? = some { words := ws, st := .done } := by
      simp [slotWritten, updAt, slot, writeWords, done, full, whole]
    refine ⟨_, execDoorbell_one bar inside, ?_⟩
    simp [ringSlot_slots, rewrote, (hostOwns_iff rewrote).mpr]

/-! The system commands. -/

section
variable {s : State} {n : Nat} {ws : List Word}

theorem execSysIdentify_answers (a : Accepts s 0x0101 [] n ws) : execSysIdentify s = .next (okReply n
    ([Config.vendorId.toNat + 0x64000000, 0x02B1, releaseWord s, ((s.fw.running.map ImgHdr.build).getD 0)]
      ++ two s.board.serial.toNat ++ [spoolWord s, 0x3F + fld 28 8 8]) (taken s)) :=
  serve_next_ok a rfl rfl

theorem execSysPing_answers (a : Accepts s 0x0102 (List.replicate 62 allBits) n ws) :
    execSysPing s = .next (okReply n ((List.range (plen ws)).map (fun i => wordAt ws (i + 2))) (taken s)) :=
  serve_next_ok a rfl rfl

theorem execSysTime_answers (a : Accepts s 0x0103 [] n ws) :
    execSysTime s = .next (okReply n (two (nowNs s) ++ [fld (b2n s.pos.refExt) 0 2 + fld (b2n s.pos.locked) 8 1]) (taken s)) :=
  serve_next_ok a rfl rfl

theorem execSysStatus_answers (a : Accepts s 0x0104 [] n ws) : execSysStatus s = .next (okReply n (sysStatus (taken s)) (taken s)) :=
  serve_next_ok a rfl rfl

theorem execSysPending_answers (a : Accepts s 0x0105 [] n ws) :
    execSysPending s = .next (okReply n (s.host.outstanding.length :: s.host.outstanding.map pendingWord) (taken s)) :=
  serve_next_ok a rfl rfl

end

/-- Settles O25: each command's answer reads what taking the slot leaves as it is. -/
theorem systemCommandsAnswer : Obligations.SystemCommandsAnswer := by
  unfold Obligations.SystemCommandsAnswer
  intro s n ws
  exact ⟨execSysIdentify_answers, execSysPing_answers, execSysTime_answers, execSysStatus_answers, execSysPending_answers⟩

end Sys2Proof.Machine
end

section
/-! SUPPORT. MEM.TEST, MEM.RATE and MEM.RETIRE once the firmware has taken them: what each reads is not changed by taking the slot, and what
each of its cases answers (R411, R414, R416, R418, R419). -/

namespace Sys2Proof.Machine

@[simp] theorem taken_ddr (s : State) (c : Nat) : ddr (taken s) c = ddr s c := rfl
@[simp] theorem taken_memRuns (s : State) (m : Nat) : memRuns (taken s) m = memRuns s m := rfl

/-! MEM.TEST. -/

/-- The mask of MEM.TEST's words: check bits of an SRAM word, check symbols of a DRAM word (Table 13.9). -/
def memTestMask (ws : List Word) : Nat :=
  if decide (8 ≤ par ws 2) then par64 ws 7 + 2 ^ 64 * par64 ws 9 else bits (par ws 6) 0 8

/-- The state with a test word of MEM.TEST's memory and offset stored (R419). -/
def memTestPut (ws : List Word) (read left : Nat) (s : State) : State :=
  testWrite (decide (8 ≤ par ws 2)) (if decide (8 ≤ par ws 2) then par ws 2 - 8 else par ws 2)
    { offset := par ws 3, data := BitVec.ofNat 64 read, mask := left } s

section
variable {s : State} {n : Nat} {ws : List Word}

section
variable {bit read : Nat} {u : State}
  (a : Accepts s 0x0C04 [0xF, allBits, allBits, allBits, 0xFF, allBits, allBits, allBits, allBits] n ws)
  (runs : memRuns s (par ws 2) = true) (inside : par ws 3 < (if decide (8 ≤ par ws 2) then 131072 else 512))
include a runs inside

/-- MEM.TEST of a memory in use inside its test area answers what its word is found to be, stores it and counts. -/
theorem execMemTest_answers {found : Nat}
    (finds : testFound (decide (8 ≤ par ws 2)) (par64 ws 4) (memTestMask ws) (taken s) = ((found, bit, read), u)) :
    let v := memTestPut ws read (if found = 2 then memTestMask ws else 0) u
    execMemTest s = .next (okReply n (two read ++ [found + (if found = 1 then fld bit 8 8 else 0)])
      (if found = 1 then tick 0x0C00 (par ws 2) v else if found = 2 then tick 0x0C01 (par ws 2) v else v)) := by
  refine serve_next_ok a rfl ?_
  have legal : ¬ (!memRuns (taken s) (par ws 2) || decide ((if decide (8 ≤ par ws 2) then 131072 else 512) ≤ par ws 3)) = true := by
    simpa [runs] using inside
  refine (if_neg legal).trans ?_
  unfold memTestMask at finds
  simp only [finds, memTestPut, memTestMask]

theorem execMemTest_clean (finds : testFound (decide (8 ≤ par ws 2)) (par64 ws 4) (memTestMask ws) (taken s) = ((0, bit, read), u)) :
    execMemTest s = .next (okReply n (two read ++ [0]) (memTestPut ws read 0 u)) := by
  simpa using execMemTest_answers a runs inside finds

theorem execMemTest_corrected (finds : testFound (decide (8 ≤ par ws 2)) (par64 ws 4) (memTestMask ws) (taken s) = ((1, bit, read), u)) :
    execMemTest s = .next (okReply n (two read ++ [1 + fld bit 8 8]) (tick 0x0C00 (par ws 2) (memTestPut ws read 0 u))) := by
  simpa using execMemTest_answers a runs inside finds

theorem execMemTest_uncorrectable (finds : testFound (decide (8 ≤ par ws 2)) (par64 ws 4) (memTestMask ws) (taken s) = ((2, bit, read), u)) :
    execMemTest s = .next (okReply n (two read ++ [2]) (tick 0x0C01 (par ws 2) (memTestPut ws read (memTestMask ws) u))) := by
  simpa using execMemTest_answers a runs inside finds

end

/-- Where the code decides what a word with these bits wrong is found to be, that is what MEM.TEST finds (R394, R395). -/
theorem testFound_decided {dram : Bool} {data mask found read : Nat} (is : (codeRead dram (testHits dram mask) 0).1 = found)
    (decided : found ≠ 3) (reads : (if found = 2 then 0 else data) = read) :
    testFound dram data mask s = ((found, (codeRead dram (testHits dram mask) 0).2, read), s) := by
  simp [testFound, is, decided, reads]

/-- Where the code's columns decide, MEM.TEST finds the word corrected, or uncorrectable and read as 0 (DESIGN CHOICE, log entry 55). -/
theorem testFound_free {dram : Bool} {data mask : Nat} (free : (codeRead dram (testHits dram mask) 0).1 = 3) :
    ∃ bit read u, testFound dram data mask s = ((1, bit, read), u) ∨ testFound dram data mask s = ((2, bit, 0), u) := by
  simp only [testFound, free, if_true]
  rcases Nat.mod_two_eq_zero_or_one (drawNat s).2 with even | odd
  · exact ⟨_, _, _, .inl (by rw [even])⟩
  · exact ⟨_, 0, _, .inr (by rw [odd]; rfl)⟩

/-! MEM.RATE. -/

/-- A common-scope command whose gap is there is done when it answers. -/
theorem gapAsk_atOnce {w : GapWork} (now : gapAtOnce s w = true) : gapAsk w s = gapNow w s := if_pos now

/-- Else its work waits for the gap. -/
theorem gapAsk_waits {w : GapWork} (later : gapAtOnce s w = false) :
    gapAsk w s = { st := gapPend w none (some s.host.nextOid) s, status := stDeferred } := if_neg (by simp [later])

section
variable (a : Accepts s 0x0C05 [7] n ws) (rate : par ws 2 ≤ 4)
include a rate

theorem execMemRate_noSet (lacks : ∃ c, c ∈ bitList 4 (ddrMask s) ∧ bitOf (ddr s c).sets (par ws 2) = false) :
    execMemRate s = .next (respond n 0x0C01 [] (taken s)) := by
  have lacks : (bitList 4 (ddrMask s)).any (fun c => !bitOf (ddr s c).sets (par ws 2)) = true := by simpa using lacks
  exact serve_next_refused a rfl ((if_neg (Nat.not_lt.mpr rate)).trans (if_pos lacks)) (by decide) (by decide)

variable (trained : ∀ c, c ∈ bitList 4 (ddrMask s) → bitOf (ddr s c).sets (par ws 2) = true)
include trained

/-- MEM.RATE to a rate that every channel has trained answers as its work asks for the common gap. -/
theorem execMemRate_asks : execMemRate s = .next (answer n ws s.host.nextOid (gapAsk (.ddrRate (par ws 2)) (taken s))) := by
  have trained : ¬ (bitList 4 (ddrMask s)).any (fun c => !bitOf (ddr s c).sets (par ws 2)) = true := by simpa using trained
  refine congrArg _ ((serve_run _ _ _ _ s n ws a rfl).trans (congrArg _ ?_))
  exact (if_neg (Nat.not_lt.mpr rate)).trans (if_neg trained)

theorem execMemRate_atOnce (now : gapAtOnce (taken s) (.ddrRate (par ws 2)) = true) :
    execMemRate s = .next (okReply n [] (gapNow (.ddrRate (par ws 2)) (taken s)).st) := by
  rw [execMemRate_asks a rate trained, gapAsk_atOnce now]
  rfl

theorem execMemRate_waits (later : gapAtOnce (taken s) (.ddrRate (par ws 2)) = false) : execMemRate s
    = .next (deferredReply n ws s.host.nextOid (gapPend (.ddrRate (par ws 2)) none (some s.host.nextOid) (taken s))) := by
  rw [execMemRate_asks a rate trained, gapAsk_waits later]
  rfl

end

/-! MEM.RETIRE. -/

/-- The state with a channel FAILING: as it was where the channel already is (R414). -/
def madeFailing (c : Nat) (s : State) : State := if (ddr s c).st = .failing then s else chanFailing c 4 s

/-- The retirement of a channel waits under the name `oid`, pending for its gap once no extent is left on the channel (R416). -/
def retireNamed (c oid : Nat) (s : State) : State :=
  let w := retirePend c (setDdr c (fun d => { d with oid := some oid }) s)
  { w with page := { w.page with gapPending := w.page.gapPending.map (fun g => if g.work = .retire c then { g with oid := some oid } else g) } }

section
variable (a : Accepts s 0x0C07 [3] n ws) (runs : memRuns s (8 + par ws 2) = true)
include a runs

theorem execMemRetire_last (last : popCount 4 (ddrMask s) ≤ 1) : execMemRetire s = .next (respond n 0x0C02 [] (taken s)) :=
  serve_next_refused a rfl ((if_neg (by simp [runs])).trans (if_pos last)) (by decide) (by decide)

variable (others : 2 ≤ popCount 4 (ddrMask s)) (unnamed : (ddr s (par ws 2)).oid = none)
include others unnamed

/-- MEM.RETIRE of a channel that is not the last and not named yet makes it FAILING, and retires it at once or under a name. -/
theorem execMemRetire_retires : execMemRetire s = .next (answer n ws s.host.nextOid (
    let v := madeFailing (par ws 2) (taken s)
    if extentsOn v (par ws 2) = 0 ∧ gapAtOnce v (.retire (par ws 2)) = true then gapNow (.retire (par ws 2)) v
    else { st := retireNamed (par ws 2) v.host.nextOid v, status := stDeferred })) := by
  refine congrArg _ ((serve_run _ _ _ _ s n ws a rfl).trans (congrArg _ ?_))
  exact (if_neg (by simp [runs])).trans ((if_neg (Nat.not_le.mpr others)).trans (if_neg (by simp [unnamed])))

theorem execMemRetire_atOnce (now : extentsOn (madeFailing (par ws 2) (taken s)) (par ws 2) = 0
      ∧ gapAtOnce (madeFailing (par ws 2) (taken s)) (.retire (par ws 2)) = true) :
    execMemRetire s = .next (okReply n [] (gapNow (.retire (par ws 2)) (madeFailing (par ws 2) (taken s))).st) := by
  rw [execMemRetire_retires a runs others unnamed]
  exact congrArg _ (congrArg _ (if_pos now))

theorem execMemRetire_waits (later : ¬ (extentsOn (madeFailing (par ws 2) (taken s)) (par ws 2) = 0
      ∧ gapAtOnce (madeFailing (par ws 2) (taken s)) (.retire (par ws 2)) = true)) :
    execMemRetire s = .next (deferredReply n ws s.host.nextOid
      (retireNamed (par ws 2) (madeFailing (par ws 2) (taken s)).host.nextOid (madeFailing (par ws 2) (taken s)))) := by
  rw [execMemRetire_retires a runs others unnamed]
  exact congrArg _ (congrArg _ (if_neg later))

end
end

/-- Settles O56: each command's cases are the lemmas above. -/
theorem memoryTestRateAndRetire : Obligations.MemoryTestRateAndRetire := by
  unfold Obligations.MemoryTestRateAndRetire
  intro s n ws
  refine ⟨fun a runs inside => ?test, fun a rate => ⟨execMemRate_noSet a rate, fun trained =>
    ⟨execMemRate_atOnce a rate trained, execMemRate_waits a rate trained⟩⟩, fun a runs => ?retire⟩
  case test =>
    refine ⟨fun clean => ?_, fun corrected => ?_, fun lost => ?_, fun free => ?_⟩
    · exact execMemTest_clean a runs inside (testFound_decided clean (by decide) rfl)
    · exact execMemTest_corrected a runs inside (testFound_decided corrected (by decide) rfl)
    · exact execMemTest_uncorrectable a runs inside (testFound_decided lost (by decide) rfl)
    · obtain ⟨bit, read, u, corrected | lost⟩ := testFound_free (s := taken s) free
      · exact ⟨read, bit, u, .inl (execMemTest_corrected a runs inside corrected)⟩
      · exact ⟨read, bit, u, .inr (execMemTest_uncorrectable a runs inside lost)⟩
  case retire =>
    exact ⟨execMemRetire_last a runs, fun others unnamed => ⟨fun empty now => execMemRetire_atOnce a runs others unnamed ⟨empty, now⟩,
      execMemRetire_waits a runs others unnamed⟩⟩

end Sys2Proof.Machine
end

section
/-! SUPPORT. The rows of the Mule channels and of ingest, each where its part runs: a descriptor fetched, read data and their failures, a
record at the head of the stream, a block of pre-verification (R89, R108 to R110, R116, R121). -/

namespace Sys2Proof.Machine

/-! MULE_DESCRIPTOR_FETCH. -/

section
variable {ch : Nat} {s : State} {bytes : List Byte}
  (can : canFetch s ch = true) (read : hostRead s (descAddr (chan s ch)) 24 = some bytes)
include can read

theorem execMuleDescriptorFetch_wellFormed (formed : descOk bytes = true) :
    execMuleDescriptorFetch ch s = .next (sendReads ch (descRun bytes) s) := by
  simp [execMuleDescriptorFetch, can, read, formed]

theorem execMuleDescriptorFetch_illFormed (formed : descOk bytes = false) : execMuleDescriptorFetch ch s
    = .next (muleStop ch 9 (descDone ch 0 stBadParam 0 9 (bitOf (leAt bytes 12 4) 1) s)) := by
  simp [execMuleDescriptorFetch, can, read, formed]

end

/-! Read requests and their completions. -/

/-- Sending read requests moves neither the descriptor's length nor the bytes it has got. -/
theorem issueReads_len_got (mrrs : Nat) (d : DescRun) : (issueReads mrrs d).len = d.len ∧ (issueReads mrrs d).got = d.got := by
  refine iterate_keeps (fun e => e.len = d.len ∧ e.got = d.got) _ (fun e f sent kept => ?_) 64 d ⟨rfl, rfl⟩
  split at sent
  · cases sent
    exact kept
  · cases sent

/-- Of the spool, sending read requests moves the channel's descriptor alone. -/
theorem sendReads_spool (ch : Nat) (d : DescRun) (s : State) : (sendReads ch d s).spool
    = (setChan ch (fun c => { c with desc := some (issueReads s.host.pci.mrrs d) }) s).spool := by
  refine forList_keeps (fun t : State => t.spool = (setChan ch _ s).spool) _ _ _ rfl ?_
  intro _ _ kept
  exact kept

/-- A channel that sends its reads works on the descriptor with those requests outstanding. -/
theorem sendReads_desc {ch : Nat} {s : State} (d : DescRun) (known : ch < s.spool.chans.length) :
    (chan (sendReads ch d s) ch).desc = some (issueReads s.host.pci.mrrs d) := by
  have sent : chan (sendReads ch d s) ch = chan (setChan ch _ s) ch := congrArg (fun p => p.chans.getD ch {}) (sendReads_spool ch d s)
  rw [sent, chan_setChan_same ch _ s known]

/-- A descriptor with bytes still to come does not end. -/
theorem descEnd_more {ch : Nat} {s : State} {d : DescRun} (desc : (chan s ch).desc = some d) (more : d.got < d.len) : descEnd ch s = s := by
  simp [descEnd, desc, more]

/-- A channel that sends its reads with bytes still to come goes on with its descriptor. -/
theorem descEnd_sendReads {ch : Nat} {s : State} {d : DescRun} (known : ch < s.spool.chans.length) (more : d.got < d.len) :
    descEnd ch (sendReads ch d s) = sendReads ch d s := by
  obtain ⟨len, got⟩ := issueReads_len_got s.host.pci.mrrs d
  exact descEnd_more (sendReads_desc d known) (by omega)

/-- The bytes with which a reply of `m` answers a request for `n` (R109). -/
def readCount (d : DescRun) (n m : Nat) (reply : ReadReply) : Nat := Nat.min n (if d.fixed then reply.fifo.length else m)

/-- The stream bytes of a reply of `k` bytes to a request at `a`: those that ADDR returned with FIXED, else host memory's (R109). -/
def readBytes (d : DescRun) (a k : Nat) (reply : ReadReply) (s : State) : List Byte :=
  if d.fixed then reply.fifo.take k else memRead s.hostMem a k

section
variable {ch a n : Nat} {s : State} {d : DescRun} {rest : List (Nat × Nat)}
  (on : engOn s = true) (inside : ch < 16) (desc : (chan s ch).desc = some d) (requests : d.requests = (a, n) :: rest)
include on inside desc requests

/-- A reply to the oldest request fails, or adds its bytes to the stream and lets the descriptor go on. -/
theorem execMuleReadCompletion_answers (m : Nat) (reply : ReadReply) : execMuleReadCompletion ch m reply s = .next (
    let k := readCount d n m reply
    if reply.err || !(d.fixed || hostOk s a k) then muleEnd ch stDmaFault 0 8 s
    else descEnd ch (sendReads ch (takeRead a n k rest d) (setChan ch (fun c => { c with buf := c.buf ++ readBytes d a k reply s }) s))) := by
  refine congrArg _ ((when_pos _ _ s (by simp [on, inside])).trans ?_)
  simp only [desc, requests]
  rfl

/-- A reply with an error, or from where the host supplies no data, ends the descriptor with a host memory error. -/
theorem execMuleReadCompletion_fails {m : Nat} {reply : ReadReply}
    (fails : (reply.err || !(d.fixed || hostOk s a (readCount d n m reply))) = true) :
    execMuleReadCompletion ch m reply s = .next (muleEnd ch stDmaFault 0 8 s) :=
  (execMuleReadCompletion_answers on inside desc requests m reply).trans (congrArg _ (if_pos fails))

/-- A reply of `k` bytes `bs` that leaves bytes to come adds them to the stream, and the channel sends further requests. -/
theorem execMuleReadCompletion_goesOn {m k : Nat} {reply : ReadReply} {bs : List Byte} (count : readCount d n m reply = k)
    (supplied : (reply.err || !(d.fixed || hostOk s a k)) = false) (bytes : readBytes d a k reply s = bs)
    (known : ch < s.spool.chans.length) (more : d.got + k < d.len) : execMuleReadCompletion ch m reply s
      = .next (sendReads ch (takeRead a n k rest d) (setChan ch (fun c => { c with buf := c.buf ++ bs }) s)) := by
  subst count bytes
  refine (execMuleReadCompletion_answers on inside desc requests m reply).trans (congrArg _ ?_)
  exact (if_neg (ne_true_of_eq_false supplied)).trans (descEnd_sendReads (by simpa using known) more)

theorem execMuleReadCompletion_memory {m : Nat} {fifo : List Byte} (plain : d.fixed = false) (short : m ≤ n) (ok : hostOk s a m = true)
    (known : ch < s.spool.chans.length) (more : d.got + m < d.len) : execMuleReadCompletion ch m { fifo := fifo, err := false } s
      = .next (sendReads ch (takeRead a n m rest d) (setChan ch (fun c => { c with buf := c.buf ++ memRead s.hostMem a m }) s)) :=
  execMuleReadCompletion_goesOn on inside desc requests (by simp [readCount, plain, short]) (by simp [ok]) (by simp [readBytes, plain]) known more

theorem execMuleReadCompletion_fixed {m : Nat} {fifo : List Byte} (fixed : d.fixed = true) (short : fifo.length ≤ n)
    (known : ch < s.spool.chans.length) (more : d.got + fifo.length < d.len) : execMuleReadCompletion ch m { fifo := fifo, err := false } s
      = .next (sendReads ch (takeRead a n fifo.length rest d) (setChan ch (fun c => { c with buf := c.buf ++ fifo }) s)) :=
  execMuleReadCompletion_goesOn on inside desc requests (by simp [readCount, fixed, short]) (by simp [fixed]) (by simp [readBytes, fixed]) known more

theorem execMuleReadCompletion_unreadable {m : Nat} {fifo : List Byte} (plain : d.fixed = false) (short : m ≤ n) (bad : hostOk s a m = false) :
    execMuleReadCompletion ch m { fifo := fifo, err := false } s = .next (muleEnd ch stDmaFault 0 8 s) :=
  execMuleReadCompletion_fails on inside desc requests (by simp [readCount, plain, short, bad])

/-- MULE_READ_TIMEOUT while a request is outstanding ends the descriptor with a host memory error. -/
theorem execMuleReadTimeout_fails : execMuleReadTimeout ch s = .next (muleEnd ch stDmaFault 0 8 s) := by
  simp [execMuleReadTimeout, on, inside, desc, requests]

end

/-! INGEST_RECORD. -/

/-- What ingest does with a record of header `h` and payload, `n` bytes in all, for which the checks of Table 3.9 answer `v` (R89, R114). -/
def ingestVerdict (ch : Nat) (p : Page) (i : Ingest) (v : Nat × Nat) (h payload : List Byte) (n : Nat) (s : State) : State :=
  if v.1 = 0 then ingestAccept ch p i h payload n s
  else if v.1 = 1 ∨ v.1 = 8 then ingestRefuse ch p i v.1 h v.2 s
  else muleEnd ch (checkStatus v.1) v.1 5 (ingestFail p.key v.1 (recPlace h).1 (recPlace h).2.1 (recPlace h).2.2 ch false s)

theorem injOf_unarmed {s : State} (unarmed : s.test.injections = []) (kind index : Nat) : injOf s kind index = none := by
  simp [injOf, unarmed]

/-- With no injection armed a record is judged as it stands in the stream. -/
theorem ingestHead_unarmed {s : State} (unarmed : s.test.injections = []) (ch : Nat) (p : Page) (i : Ingest) (o : SpoolObj) (n : Nat) :
    let raw := (chan s ch).buf.take n
    let h := raw.take (recHdrLen (leAt raw 0 2))
    ingestHead ch p i o n s
      = ingestVerdict ch p i (judgeRecord p o raw) h (slice raw 40 (if leAt h 0 2 = 0xFA04 then leAt h 24 4 else 0)) n s := by
  simp [ingestHead, injOffer, injOf_unarmed unarmed, ingestVerdict]

/-- INGEST_RECORD on a channel in RUN with a record ready acts on the record at the head of its stream. -/
theorem execIngestRecord_acts {ch key n : Nat} {s : State} {p : Page} {i : Ingest} {o : SpoolObj} (on : engOn s = true) (inside : ch < 16)
    (run : (chan s ch).st = .run) (held : (chan s ch).holdUntil ≤ s.now) (ready : recReady s ch = true) (free : ingestWaits s = false)
    (bound : (chan s ch).page = some key) (page : pageOf s key = some p) (context : ingestOf s key = some i) (obj : pageObj s key = some o)
    (len : recLen (chan s ch).buf = some n) : execIngestRecord ch s = .next (ingestHead ch p i o n s) := by
  simp [execIngestRecord, on, inside, run, held, ready, free, bound, page, context, obj, len]

/-! PREVERIFY_BLOCK. -/

/-- PREVERIFY_BLOCK with no fault, of a block whose first decode passes, moves on. -/
theorem execPreverifyBlock_passes {s : State} {i : Ingest} {p : Page} {o : SpoolObj} {t : PbStream} {r : BlockRec} {seen : List Byte}
    (on : engOn s = true) (engine : (verifyEngine s i).isSome = true)
    (oldest : s.spool.ingests.find? (fun i => i.st == .verifying) = some i) (page : pageOf s i.page = some p) (obj : objOf s i.sid = some o)
    (block : (pageBlocks o p.planes)[i.verified]? = some (t, r)) (first : i.retry = none) (passes : (laneChecks t r seen 0).check = 0) :
    execPreverifyBlock seen 0 s = .next (verifyNext i.page (pageBlocks o p.planes).length s) := by
  obtain ⟨e, engine⟩ := Option.isSome_iff_exists.mp engine
  simp [execPreverifyBlock, on, oldest, page, obj, engine, block, first, passes]

/-- Settles O19: each row's cases are the lemmas above; a record's verdict is the first, second or third branch of `ingestVerdict`. -/
theorem muleTransfersAndIngest : Obligations.MuleTransfersAndIngest := by
  unfold Obligations.MuleTransfersAndIngest
  intro ch s on inside
  refine ⟨?fetch, ?reads, ?record, ?verify⟩
  case fetch =>
    intro can bytes read
    exact ⟨execMuleDescriptorFetch_wellFormed can read, execMuleDescriptorFetch_illFormed can read⟩
  case reads =>
    intro d a n rest desc requests known
    exact ⟨fun m fifo plain short ok more => execMuleReadCompletion_memory on inside desc requests plain short ok known more,
      fun m fifo fixed short more => execMuleReadCompletion_fixed on inside desc requests fixed short known more,
      fun m fifo => execMuleReadCompletion_fails on inside desc requests rfl,
      fun m fifo plain short bad => execMuleReadCompletion_unreadable on inside desc requests plain short bad,
      execMuleReadTimeout_fails on inside desc requests⟩
  case record =>
    intro key p i o n run held ready free bound page context obj len unarmed raw h v
    have acts : exec (.ingestRecord ch) s = .next (ingestVerdict ch p i v h (slice raw 40 (if leAt h 0 2 = 0xFA04 then leAt h 24 4 else 0)) n s) :=
      (execIngestRecord_acts on inside run held ready free bound page context obj len).trans
        (congrArg _ (ingestHead_unarmed unarmed ch p i o n))
    refine ⟨fun pass => ?_, fun refused => ?_, fun fail no1 no8 => ?_⟩
    · exact acts.trans (congrArg _ (if_pos pass))
    · have fail : v.1 ≠ 0 := by omega
      exact acts.trans (congrArg _ ((if_neg fail).trans (if_pos refused)))
    · exact acts.trans (congrArg _ ((if_neg fail).trans (if_neg (by simp [no1, no8]))))
  case verify =>
    intro i p o t r seen engine oldest page obj block first passes
    exact execPreverifyBlock_passes on engine oldest page obj block first passes

end Sys2Proof.Machine
end

section
/-! SUPPORT. STREAM.BANDMAP and the compressor: what each command answers once the firmware has taken it, which queue settles as it is, and
what the rows of a job do (R92, R93, R96 to R99). -/

namespace Sys2Proof.Machine

@[simp] theorem setJobs_jobs (l : List CodecJob) (s : State) : (setJobs l s).spool.jobs = l := rfl

/-- The next state of an accepted command whose work goes on in the background: ST_PENDING, the command outstanding. -/
theorem serve_next_pending {code : Nat} {cls : CmdClass} {masks : List Nat} {body : List Word → State → Ans} {s u : State} {n : Nat}
    {ws : List Word} (a : Accepts s code masks n ws) (k : knownCode code = true) (b : body ws (taken s) = { st := u, status := stPending }) :
    (.next (serve code cls masks body s) : Host.Outcome State Fault Refusal) = .next (pendingReply n ws s.host.nextOid u) :=
  congrArg _ (serve_later code cls masks body s n ws a k u stPending b (.inr rfl))

/-! The commands. -/

/-- A job joins a queue that has room behind those queued (R96). -/
theorem codecQueue_joins {s : State} (work : CodecWork) (room : jobCount s < 16) :
    codecQueue work s = { st := setJobs (s.spool.jobs ++ [{ oid := s.host.nextOid, work := work }]) s, status := stPending } :=
  if_neg (Nat.not_le.mpr room)

section
variable {s : State} {n : Nat} {ws : List Word}

/-- STREAM.BANDMAP of a legal request answers the plane's size, its blocks and its bands (R92). -/
theorem execStreamBandmap_answers (a : Accepts s 0x0301 [allBits, 3, allBits] n ws)
    (dose : bitOf (par ws 3) 0 = true → bits (par ws 2) 0 16 = 0 ∧ bits (par ws 2) 16 16 = 0)
    (plain : bitOf (par ws 3) 0 = false →
      300 ≤ bits (par ws 2) 0 16 ∧ bits (par ws 2) 0 16 ≤ 2540 ∧ 300 ≤ bits (par ws 2) 16 16 ∧ bits (par ws 2) 16 16 ≤ 2540)
    (nonempty : 1 ≤ par ws 4) (few : par ws 4 ≤ 1048576) :
    let px := bits (par ws 2) 0 16
    let d := planeDims (bitOf (par ws 3) 0) (bitOf (par ws 3) 1) (par ws 4) px (bits (par ws 2) 16 16)
    execStreamBandmap s = .next (okReply n ([d.1, d.2, ceilDiv d.2 16]
      ++ ((List.range 16).map (fun t => [(bandMap (bitOf (par ws 3) 0) px d.1 t).1, (bandMap (bitOf (par ws 3) 0) px d.1 t).2])).flatten)
      (taken s)) := by
  have lines : ¬ par ws 4 < 1 ∧ ¬ 1048576 < par ws 4 := by omega
  refine serve_next_ok a rfl (if_neg ?_)
  cases kind : bitOf (par ws 3) 0
  · simp [plain kind, lines]
  · simp [dose kind, lines]

/-- CODEC.COMPRESS of legal parameters puts its job behind those queued (R93, R96). -/
theorem execCodecCompress_queues
    (a : Accepts s 0x0302 [allBits, allBits, 0xF71F3FFF, 0xFF0F, allBits, allBits, allBits, allBits, allBits, 0x3FFFF] n ws)
    (cols : 1 ≤ bits (par ws 4) 0 14 ∧ bits (par ws 4) 0 14 ≤ 8453) (rows : 1 ≤ bits (par ws 4) 16 5 ∧ bits (par ws 4) 16 5 ≤ 16)
    (plane : bits (par ws 4) 24 3 ≤ 5) (coding : bits (par ws 5) 0 3 ≤ 4)
    (stride : bits (par ws 11) 0 18 = 0 ∨ bits (par ws 4) 0 14 ≤ bits (par ws 11) 0 18) (aligned : par ws 8 % 4 = 0)
    (fits : 40 + bits (par ws 4) 16 5 * bits (par ws 4) 0 14 + padLen (40 + bits (par ws 4) 16 5 * bits (par ws 4) 0 14) ≤ par ws 10)
    (room : jobCount s < 16) : execCodecCompress s = .next (pendingReply n ws s.host.nextOid
      (setJobs (s.spool.jobs ++ [{ oid := s.host.nextOid, work := .compress (parWords ws 10) }]) (taken s))) := by
  refine serve_next_pending a rfl ((if_neg ?_).trans (codecQueue_joins (s := taken s) _ room))
  omega

/-- CODEC.VERIFY of legal parameters puts its job behind those queued (R96, R99). -/
theorem execCodecVerify_queues (a : Accepts s 0x0304 [allBits, allBits, 0x3FFF, allBits, allBits, allBits] n ws)
    (cols : 1 ≤ bits (par ws 4) 0 14 ∧ bits (par ws 4) 0 14 ≤ 8453) (room : jobCount s < 16) :
    execCodecVerify s = .next (pendingReply n ws s.host.nextOid
      (setJobs (s.spool.jobs ++ [{ oid := s.host.nextOid, work := .verify (parWords ws 6) }]) (taken s))) := by
  refine serve_next_pending a rfl ((if_neg ?_).trans (codecQueue_joins (s := taken s) _ room))
  omega

/-- A queue whose head is a job to run is settled (R97). -/
theorem codecSettle_compressHead {j : CodecJob} {t : List CodecJob} {w : List Word} (jobs : s.spool.jobs = j :: t)
    (work : j.work = .compress w) (keeps : j.abandoned = false) : codecSettle s = s :=
  iterate_none codecSettleOne _ s (by simp [codecSettleOne, jobs, work, keeps])

/-- CODEC.FLUSH in drain mode takes its place behind the jobs queued, and waits there while the head has to run. -/
theorem execCodecFlush_waits {j : CodecJob} {t : List CodecJob} {w : List Word} (a : Accepts s 0x0303 [1] n ws) (drains : par ws 2 = 0)
    (jobs : s.spool.jobs = j :: t) (work : j.work = .compress w) (keeps : j.abandoned = false) :
    execCodecFlush s = .next (pendingReply n ws s.host.nextOid
      (setJobs (s.spool.jobs ++ [{ oid := s.host.nextOid, work := .flush 0 }]) (taken s))) := by
  have waits := codecSettle_compressHead (t := t ++ [{ oid := s.host.nextOid, work := .flush 0 }])
    (s := pendingReply n ws s.host.nextOid (setJobs (s.spool.jobs ++ [{ oid := s.host.nextOid, work := .flush 0 }]) (taken s)))
    (by simp [jobs]) work keeps
  refine (congrArg (fun u => Host.Outcome.next (codecSettle u))
    (serve_later 0x0303 .background [1] _ s n ws a rfl _ stPending ?_ (.inr rfl))).trans (congrArg _ waits)
  simp [drains]

end

/-! The rows of a job. -/

section
variable {s : State} {j : CodecJob} {t : List CodecJob}

theorem execCodecJobStart_runs (ready : fwReady s = true) (jobs : s.spool.jobs = j :: t) :
    execCodecJobStart s = .next (setJobs ({ j with running := true } :: t) s) := by
  simp [execCodecJobStart, ready, jobs]

section
variable (on : engOn s = true) (jobs : s.spool.jobs = j :: t) (running : j.running = true)
include on jobs running

/-- A job that a host-interface reset met ends with a host memory error, whatever its work (R98). -/
theorem execCodecJobDone_doomed (doomed : j.doomed = true) :
    execCodecJobDone s = .next (codecSettle (jobFinish j.oid { st := setJobs t s, status := 0x0306 })) := by
  simp [execCodecJobDone, on, jobs, running, doomed, jobFault]

variable {w : List Word} (spared : j.doomed = false)
include spared

theorem execCodecJobDone_compress (work : j.work = .compress w) :
    execCodecJobDone s = .next (codecSettle (jobFinish j.oid (compressJob w (setJobs t s)))) := by
  simp [execCodecJobDone, on, jobs, running, spared, work]

theorem execCodecJobDone_verify (work : j.work = .verify w) :
    execCodecJobDone s = .next (codecSettle (jobFinish j.oid (verifyJob w (setJobs t s)))) := by
  simp [execCodecJobDone, on, jobs, running, spared, work]

end
end

/-- Settles O21: each command's answer and each row of a job is one of the lemmas above. -/
theorem compressorCommandsAndJobs : Obligations.CompressorCommandsAndJobs := by
  unfold Obligations.CompressorCommandsAndJobs
  intro s n ws
  refine ⟨execStreamBandmap_answers, ?compress, ?verify, ?flush, fun j t => execCodecJobStart_runs, ?done⟩
  case compress =>
    intro a b rows stride b1 b2 r1 r2 plane coding wide aligned fits room
    exact execCodecCompress_queues a ⟨b1, b2⟩ ⟨r1, r2⟩ plane coding wide aligned fits room
  case verify =>
    intro a b1 b2 room
    exact execCodecVerify_queues a ⟨b1, b2⟩ room
  case flush =>
    intro a drains j t w jobs work keeps
    exact execCodecFlush_waits a drains jobs work keeps
  case done =>
    intro j t w on jobs running
    exact ⟨execCodecJobDone_doomed on jobs running, execCodecJobDone_compress on jobs running, execCodecJobDone_verify on jobs running⟩

end Sys2Proof.Machine
end

section
/-! SUPPORT. The registers of a Mule channel: what a write of its control word, of TAIL and of its PIO window and a read of RESUME do, and
that each leaves the other channels alone (Table 4.2, R103, R105, R110, R113). -/

namespace Sys2Proof.Machine

/-! What interrupts, events and stops leave of the channels. -/

/-- The channels are read from the spool alone. -/
theorem chan_of_spool {s t : State} (same : t.spool = s.spool) (c : Nat) : chan t c = chan s c := by rw [chan, same, chan]

/-- INT with further bits set (R107). -/
def MuleChan.interrupted (mask : BitVec 4) (c : MuleChan) : MuleChan := { c with int := c.int ||| mask }

section
variable {ch : Nat} {s : State}

/-- Of the channels, an interrupt sets the INT bits alone. -/
theorem chan_muleInt (mask : BitVec 4) (c : Nat) : chan (muleInt ch mask s) c = chan (setChan ch (.interrupted mask) s) c := by
  refine chan_of_spool ?_ c
  unfold muleInt
  dsimp only
  split
  · exact msix_spool _ _
  · rfl

/-- A stop at the host's demand (cause 2 of Table 4.4) leaves the channel STOPPED, its EN 0 and its page bound. -/
theorem chan_muleStop_hostStop (known : ch < s.spool.chans.length) : chan (muleStop ch 2 s) ch = { chan s ch with
    en := false, st := .stopped, cause := 2, stopReq := false, desc := none, buf := [], holdUntil := 0,
    int := (chan s ch).int ||| 0b0010 } := by
  refine (chan_of_spool (raise_spool ..) ch).trans ((chan_muleInt 0b0010 ch).trans ?_)
  exact (chan_setChan_same ch _ _ (by simpa using known)).trans (congrArg (MuleChan.interrupted _) (chan_setChan_same ch _ s known))

theorem chan_muleStop_ne (cause : Nat) {c : Nat} (other : c ≠ ch) : chan (muleStop ch cause s) c = chan s c := by
  refine (chan_of_spool (raise_spool ..) c).trans ((chan_muleInt _ c).trans ((chan_setChan_ne ch c _ _ other.symm).trans ?_))
  split
  · exact (chan_of_spool (tick_spool ..) c).trans (chan_setChan_ne ch c _ s other.symm)
  · exact chan_setChan_ne ch c _ s other.symm

theorem muleEnd_idle (idle : (chan s ch).desc = none) (status check cause : Nat) :
    muleEnd ch status check cause s = muleStop ch cause s := by
  simp [muleEnd, idle]

end

/-! The control word. -/

/-- A control word's settings: IRQ_EN, and LOG2_SIZE where EN is 0 (R105). -/
def MuleChan.configured (v : Word) (c : MuleChan) : MuleChan :=
  { c with irqEn := v.getLsbD 17, log2Size := if c.en then c.log2Size else (v >>> 8).setWidth 5 }

/-- A channel that enters RUN: HEAD and TAIL 0, nothing in its stream (R105). -/
def MuleChan.started (c : MuleChan) : MuleChan :=
  { c with en := true, st := .run, head := 0, tail := 0, desc := none, buf := [], stopReq := false }

section
variable {ch : Nat} {v : Word} {s : State}

/-- EN set on a channel with EN 0 starts it if it is bound. -/
theorem muleCtrl_enables (en : v.getLsbD 0 = true) (off : (chan s ch).en = false) : muleCtrl ch v s
    = if (chan s ch).st = .unbound then setChan ch (.configured v) s else setChan ch .started (setChan ch (.configured v) s) :=
  if_pos ⟨en, by simp [off]⟩

/-- STOP set on a channel in RUN with no descriptor in progress stops it with cause 2. -/
theorem muleCtrl_stops (stop : v.getLsbD 16 = true) (on : (chan s ch).en = true) (run : (chan s ch).st = .run)
    (idle : (chan s ch).desc = none) (known : ch < s.spool.chans.length) :
    muleCtrl ch v s = muleStop ch 2 (setChan ch (.configured v) s) := by
  have idle' : (chan (setChan ch (.configured v) s) ch).desc = none := by rw [chan_setChan_same ch _ s known]; exact idle
  calc muleCtrl ch v s
      = muleEnd ch stOk 0 2 (setChan ch (.configured v) s) :=
        (if_neg (by simp [on])).trans ((if_pos ⟨run, .inr stop⟩).trans (if_pos (by simp [idle])))
    _ = muleStop ch 2 (setChan ch (.configured v) s) := muleEnd_idle idle' ..

end

/-! The rows of the channel's registers. -/

section
variable {ch : Nat} {v : Word} {s : State} (bar : barOn s = true) (inside : ch < 16)
include bar inside

theorem execMuleEnWrite_eq : execMuleEnWrite ch v s = .next (muleCtrl ch v s) := congrArg _ (when_pos _ _ s (by simp [bar, inside]))

theorem execMuleStopWrite_eq : execMuleStopWrite ch v s = .next (muleCtrl ch (v ||| 0x10000) s) :=
  congrArg _ (when_pos _ _ s (by simp [bar, inside]))

theorem execMuleTailWrite_eq : execMuleTailWrite ch v s = .next (muleTail ch v s) := congrArg _ (when_pos _ _ s (by simp [bar, inside]))

theorem execMuleEnWrite_starts (en : v.getLsbD 0 = true) (off : (chan s ch).en = false) (bound : (chan s ch).st ≠ .unbound) :
    execMuleEnWrite ch v s = .next (setChan ch .started (setChan ch (.configured v) s)) :=
  (execMuleEnWrite_eq bar inside).trans (congrArg _ ((muleCtrl_enables en off).trans (if_neg bound)))

theorem execMuleEnWrite_unbound (en : v.getLsbD 0 = true) (off : (chan s ch).en = false) (unbound : (chan s ch).st = .unbound) :
    execMuleEnWrite ch v s = .next (setChan ch (.configured v) s) :=
  (execMuleEnWrite_eq bar inside).trans (congrArg _ ((muleCtrl_enables en off).trans (if_pos unbound)))

theorem execMuleStopWrite_stops (on : (chan s ch).en = true) (run : (chan s ch).st = .run) (idle : (chan s ch).desc = none)
    (known : ch < s.spool.chans.length) :
    execMuleStopWrite ch v s = .next (muleStop ch 2 (setChan ch (.configured (v ||| 0x10000)) s)) :=
  (execMuleStopWrite_eq bar inside).trans (congrArg _ (muleCtrl_stops (by simp) on run idle known))

theorem execMuleTailWrite_taken (on : (chan s ch).en = true) (fits : (v - (chan s ch).head).toNat ≤ muleN (chan s ch)) :
    execMuleTailWrite ch v s = .next (setChan ch (fun c => { c with tail := v }) s) :=
  (execMuleTailWrite_eq bar inside).trans (congrArg _ (if_neg (by simpa [on] using fits)))

theorem execMuleTailWrite_discarded (unfit : (chan s ch).en = false ∨ muleN (chan s ch) < (v - (chan s ch).head).toNat) :
    execMuleTailWrite ch v s = .next s :=
  (execMuleTailWrite_eq bar inside).trans (congrArg _ (if_pos (by simpa using unfit)))

theorem execMuleResumeLoRead_latches : execMuleResumeLoRead ch s = .next {
    setChan ch (fun c => { c with resumeHi := BitVec.ofNat 32 (chanResume s ch / 2 ^ 32) }) s with
      out := .read (BitVec.ofNat 32 (chanResume s ch)) :: s.out } :=
  congrArg _ (when_pos _ _ s (by simp [bar, inside]))

theorem execPioWindowWrite_appends {bs : List Byte} (run : (chan s ch).st = .run) (pio : (chan s ch).pio = true)
    (size : bs.length ∈ [4, 8]) (room : bs.length ≤ pioFree (chan s ch)) : execPioWindowWrite ch bs s
      = .next (setChan ch (fun c => { c with buf := c.buf ++ bs, appended := (c.appended + bs.length) % 2 ^ 32 }) s) := by
  have access : bs.length = 4 ∨ bs.length = 8 := by simpa using size
  refine congrArg _ ((when_pos _ _ s (by simpa [bar, inside] using access)).trans ?_)
  exact (if_neg (by simp [run, pio])).trans (if_neg (Nat.not_lt.mpr room))

end

/-- Settles O18: each write and read is its lemma above; what it leaves of the channels is read back from the channel it set. -/
theorem muleChannelRegisters : Obligations.MuleChannelRegisters := by
  unfold Obligations.MuleChannelRegisters
  intro ch v bs s bar inside chans
  have known : ch < s.spool.chans.length := by omega
  refine ⟨fun en off bound => ?starts, fun en off unbound => ?unbound, fun on run idle => ?stops,
    execMuleTailWrite_taken bar inside, execMuleTailWrite_discarded bar inside, execMuleResumeLoRead_latches bar inside,
    execPioWindowWrite_appends bar inside⟩
  case starts =>
    refine ⟨_, execMuleEnWrite_starts bar inside en off bound, ?_⟩
    rw [chan_setChan_same ch _ _ (by simpa using known), chan_setChan_same ch _ s known]
    refine ⟨rfl, rfl, rfl, rfl, rfl, by simp [MuleChan.started, MuleChan.configured, off], rfl, fun c other => ?_⟩
    rw [chan_setChan_ne ch c _ _ other.symm, chan_setChan_ne ch c _ s other.symm]
  case unbound =>
    refine ⟨_, execMuleEnWrite_unbound bar inside en off unbound, ?_⟩
    rw [chan_setChan_same ch _ s known]
    exact ⟨off, unbound, fun c other => chan_setChan_ne ch c _ s other.symm⟩
  case stops =>
    refine ⟨_, execMuleStopWrite_stops bar inside on run idle known, ?_⟩
    rw [chan_muleStop_hostStop (by simpa using known), chan_setChan_same ch _ s known]
    exact ⟨rfl, rfl, rfl, rfl, fun c other => (chan_muleStop_ne 2 other).trans (chan_setChan_ne ch c _ s other.symm)⟩

end Sys2Proof.Machine
end

section
/-! SUPPORT. The spool commands once the firmware has taken them: what each reads is not changed by taking the slot, and what each answers
(R104, R122, R124, R125). -/

namespace Sys2Proof.Machine

@[simp] theorem taken_chan (s : State) (ch : Nat) : chan (taken s) ch = chan s ch := rfl
@[simp] theorem taken_ingestOf (s : State) (key : Nat) : ingestOf (taken s) key = ingestOf s key := rfl
@[simp] theorem taken_objOf (s : State) (sid : Nat) : objOf (taken s) sid = objOf s sid := rfl
@[simp] theorem taken_pageObj (s : State) (key : Nat) : pageObj (taken s) key = pageObj s key := rfl
@[simp] theorem taken_retentionOf (s : State) (key : Nat) : retentionOf (taken s) key = retentionOf s key := rfl
@[simp] theorem taken_retentionBy (s : State) (h : Nat) : retentionBy (taken s) h = retentionBy s h := rfl

section
variable {s : State} {n : Nat} {ws : List Word} {p : Page}

/-! SPOOL.BIND and SPOOL.UNBIND. -/

theorem execSpoolBind_binds {i : Ingest} (a : Accepts s 0x0305 [allBits, 0x10F] n ws) (page : findPage s (par ws 2) = some p)
    (context : ingestOf s p.key = some i) (queued : p.st = .queued) (receiving : i.st = .receiving) (unbound : boundTo s p.key = none)
    (free : (chan s (bits (par ws 3) 0 4)).st = .unbound) :
    execSpoolBind s = .next (okReply n (two i.resume) (setChan (bits (par ws 3) 0 4) (fun c => { c with
      st := .stopped, page := some p.key, pio := bitOf (par ws 3) 8, appended := 0, buf := [], desc := none, stopReq := false }) (taken s))) :=
  serve_next_ok a rfl (by simp [page, context, queued, receiving, unbound, free])

theorem execSpoolUnbind_frees (a : Accepts s 0x0306 [0xF] n ws) (stopped : (chan s (par ws 2)).st = .stopped) :
    execSpoolUnbind s = .next (okReply n (two (chanResume s (par ws 2))) (setChan (par ws 2) (fun c => { c with
      st := .unbound, page := none, pio := false, buf := [] }) (taken s))) :=
  serve_next_ok a rfl (if_neg (by simp [stopped]))

/-! SPOOL.STATUS and SPOOL.INFO. -/

/-- The words of SPOOL.STATUS for a page (R124). -/
def spoolStatusWords (s : State) (p : Page) : List Nat :=
  let i := (ingestOf s p.key).getD { page := p.key, sid := p.key }
  let bound := boundTo s p.key
  let handle := (retentionOf s p.key).map Retention.handle
  [fld i.st.code 0 2 + fld (bound.getD 0) 4 4 + fld (b2n bound.isSome) 8 1 + fld (b2n handle.isSome) 16 1 + fld (handle.getD 0) 24 8]
    ++ two i.resume ++ [i.accepted, i.verified, (((objOf s i.sid).map objExtents).getD []).length,
      fld i.failCheck 0 8 + fld i.failPlane 8 8 + fld i.failBand 16 8, i.failBlock]

theorem execSpoolStatus_reports (a : Accepts s 0x0307 [allBits] n ws) (page : findPage s (par ws 2) = some p) :
    execSpoolStatus s = .next (okReply n (spoolStatusWords s p) (taken s)) :=
  serve_next_ok a rfl (by simp [page, spoolStatusWords])

theorem execSpoolInfo_reports (a : Accepts s 0x0308 [] n ws) : execSpoolInfo s = .next (okReply n
    [extentsTotal s, extentsFree s, entriesFree s, printBudget (popCount 4 (ddrMask s)) (ddrRate s), s.spool.retains.length] (taken s)) :=
  serve_next_ok a rfl rfl

/-! SPOOL.RETAIN, SPOOL.REPEAT and SPOOL.RELEASE. -/

section
variable {o : SpoolObj} (a : Accepts s 0x0309 [allBits] n ws) (page : findPage s (par ws 2) = some p)
  (printable : (p.live || p.st == .spooled) = true) (obj : pageObj s p.key = some o)
include a page printable obj

theorem execSpoolRetain_held {r : Retention} (held : retentionOf s p.key = some r) :
    execSpoolRetain s = .next (okReply n [r.handle] (taken s)) :=
  serve_next_ok a rfl (by
    simp only [taken_findPage, taken_pageObj, taken_retentionOf, page, printable, obj, held, Bool.not_true, Bool.false_eq_true, if_false])

theorem execSpoolRetain_retains {h : Nat} (fresh : retentionOf s p.key = none)
    (lowest : (List.range 256).find? (fun h => !(s.spool.retains.map Retention.handle).contains h) = some h) :
    execSpoolRetain s = .next (okReply n [h] { taken s with spool := { s.spool with
      retains := s.spool.retains ++ [{ handle := h, page := p.key, sid := o.sid, planes := p.planes }] } }) :=
  serve_next_ok a rfl (by
    simp only [taken_findPage, taken_pageObj, taken_retentionOf, taken_spool, page, printable, obj, fresh, lowest, Bool.not_true, Bool.false_eq_true,
      if_false])

end

/-- The planes that SPOOL.REPEAT asks for: with none named, those of the retained page (R122). -/
def repeatPlanes (ws : List Word) (r : Retention) : Nat := if bits (par ws 4) 8 6 = 0 then r.planes else bits (par ws 4) 8 6

/-- The new page that SPOOL.REPEAT makes on the object of a retention, its ingest context in state `st` with every block accepted. -/
def repeatPage (ws : List Word) (r : Retention) (o : SpoolObj) (st : IngestSt) (s : State) : State :=
  pageNew (BitVec.ofNat 32 (par ws 3)) (bitOf (par ws 4) 0) (bitOf (par ws 4) 1) (repeatPlanes ws r) (fun _ s => s)
    (fun key => { page := key, sid := r.sid, st := st, accepted := (pageBlocks o (repeatPlanes ws r)).length }) s

/-- The key of the page that SPOOL.REPEAT has made is the one that was next. -/
theorem repeatPage_key (ws : List Word) (r : Retention) (o : SpoolObj) (st : IngestSt) (s : State) :
    (repeatPage ws r o st s).page.nextKey - 1 = s.page.nextKey := Nat.add_sub_cancel ..

section
variable {r : Retention} {o : SpoolObj} (a : Accepts s 0x030A [0xFF, allBits, 0x3F03] n ws) (retained : retentionBy s (par ws 2) = some r)
  (obj : objOf s r.sid = some o) (had : maskDiff (repeatPlanes ws r) r.planes = 0)
include a retained obj had

theorem execSpoolRepeat_verifies (verify : bitOf (par ws 4) 0 = true) :
    execSpoolRepeat s = .next (okReply n [] (repeatPage ws r o .verifying (taken s))) := by
  refine serve_next_ok a rfl ?_
  unfold repeatPlanes at had
  simp [retained, had, obj, verify, repeatPage, repeatPlanes]

theorem execSpoolRepeat_spools (noVerify : bitOf (par ws 4) 0 = false) :
    execSpoolRepeat s = .next (okReply n [] (pageSpooled s.page.nextKey (repeatPage ws r o .receiving (taken s)))) := by
  refine serve_next_ok a rfl ?_
  rw [← taken_page, ← repeatPage_key ws r o .receiving]
  unfold repeatPlanes at had
  simp [retained, had, obj, noVerify, repeatPage, repeatPlanes]

end

theorem execSpoolRelease_releases {r : Retention} (a : Accepts s 0x030B [0xFF] n ws) (retained : retentionBy s (par ws 2) = some r) :
    execSpoolRelease s = .next (okReply n [] (freeObj r.sid { taken s with spool := { s.spool with
      retains := s.spool.retains.filter (fun q => q.handle != r.handle) } })) :=
  serve_next_ok a rfl (by simp [retained])

end

/-- Settles O20: every case of every spool command is one of the lemmas above, on the command's own row of `exec`. -/
theorem spoolCommandsComplete : Obligations.SpoolCommandsComplete := by
  unfold Obligations.SpoolCommandsComplete
  intro s n ws
  refine ⟨fun a p i => execSpoolBind_binds a, execSpoolUnbind_frees, fun a p page => ⟨_, ?length, execSpoolStatus_reports a page⟩,
    execSpoolInfo_reports, fun a p o page printable obj => ?retain, fun a r o retained obj => ?repeats, fun a r => execSpoolRelease_releases a⟩
  case length => rfl
  case retain =>
    have printable : (p.live || p.st == .spooled) = true := by simpa using printable
    exact ⟨fun r => execSpoolRetain_held a page printable obj, fun h => execSpoolRetain_retains a page printable obj⟩
  case repeats =>
    intro planes had new
    exact ⟨execSpoolRepeat_verifies a retained obj had, execSpoolRepeat_spools a retained obj had⟩

end Sys2Proof.Machine
end

section
/-! SUPPORT. The expansion commands once the firmware has taken them: what each reads is not changed by taking the slot, and what each answers
(R142, R160, R165 to R168). -/

namespace Sys2Proof.Machine

@[simp] theorem taken_eng (s : State) (e : Nat) : eng (taken s) e = eng s e := rfl
@[simp] theorem taken_geomInUse (s : State) (bank st : Nat) : geomInUse (taken s) bank st = geomInUse s bank st := rfl
@[simp] theorem taken_screenInUse (s : State) (bank plane : Nat) : screenInUse (taken s) bank plane = screenInUse s bank plane := rfl

section
variable {s : State} {n : Nat} {ws : List Word}

/-! EXP.STATUS, EXP.SLACK and EXP.FORECAST. -/

theorem execExpStatus_reports (a : Accepts s 0x0401 [] n ws) :
    ∃ r, r.length = 12 ∧ execExpStatus s = .next (okReply n r (taken s)) :=
  ⟨_, rfl, serve_next_ok a rfl rfl⟩

theorem execExpSlack_restarts (a : Accepts s 0x0406 [] n ws) :
    ∃ r, r.length = 12 ∧ execExpSlack s = .next (okReply n r { taken s with exp := { s.exp with
      slack := s.exp.slack.map (fun k => { k with least := none, replays := 0 }) } }) :=
  ⟨_, rfl, serve_next_ok a rfl rfl⟩

/-- EXP.FORECAST of a legal rate and 1 or 2 blocks answers the terms, the forecast pipe rate and the required rate for the union of its
stations and the live ones (R166; the union is DEDUCED, log entry 25). -/
theorem execExpForecast_forecasts (a : Accepts s 0x0407 [0x3F01FFFF, 0x00033FFF] n ws)
    (legalRate : 1 ≤ bits (par ws 2) 0 17 ∧ bits (par ws 2) 0 17 ≤ 100000)
    (perPixel : 1 ≤ bits (par ws 3) 16 2 ∧ bits (par ws 3) 16 2 ≤ 2) :
    let m := taken s
    let rate := bits (par ws 2) 0 17
    let stations := bits (par ws 2) 24 6 ||| liveStations m
    let steps := if bits (par ws 3) 0 14 = 0 then 2 * 4096 else 2 * bits (par ws 3) 0 14 * bits (par ws 3) 16 2
    let t := slackTerms m stations rate (steps * rate * 25400) (liveSpoolDemand m)
    let e := slowest Engine.rMeas m
    let q := forecastFactor m stations rate e
    execExpForecast s = .next (okReply n [b2n t.1 + 2 * b2n t.2.1 + 4 * b2n t.2.2,
      (if q.2 ≤ 0 then 0 else (pipeRate m e * q.1 / q.2).toNat), 16384 * rate * (100 + s.exp.margin) / 100000000] m) :=
  serve_next_ok a rfl (if_neg (by omega))

/-! EXP.GEOM_LOAD. -/

/-- A geometry bank with a station's 16 tiles and its kernel stored (R142). -/
def GeomBank.loaded (b : GeomBank) (st k : Nat) (gs : List TileGeom) : GeomBank :=
  { tiles := (List.range 96).map (fun g => if g / 16 = st then gs.getD (g % 16) {} else b.tiles.getD g {}), kernel := b.kernel.set st k }

theorem GeomBank.loaded_tiles (b : GeomBank) (st k : Nat) (gs : List TileGeom) {g : Nat} (h : g < 96) :
    (b.loaded st k gs).tiles.getD g {} = if g / 16 = st then gs.getD (g % 16) {} else b.tiles.getD g {} := by
  simp [GeomBank.loaded, List.getD, h]

/-- The state with a station's geometry stored in a bank. -/
def geomStored (bank st k : Nat) (gs : List TileGeom) (s : State) : State :=
  { s with exp := { s.exp with banks := s.exp.banks.set bank ((s.exp.banks.getD bank {}).loaded st k gs) } }

theorem geomStored_bank {bank : Nat} (st k : Nat) (gs : List TileGeom) (h : bank < s.exp.banks.length) :
    (geomStored bank st k gs s).exp.banks.getD bank {} = (s.exp.banks.getD bank {}).loaded st k gs := by
  simp [geomStored, List.getD, h]

theorem geomStored_otherBank {bank b : Nat} (st k : Nat) (gs : List TileGeom) (h : b ≠ bank) :
    (geomStored bank st k gs s).exp.banks.getD b {} = s.exp.banks.getD b {} := by
  simp [geomStored, List.getD, List.getElem?_set_ne h.symm]

/-- EXP.GEOM_LOAD of valid geometry for a station whose bank is not in use stores it. -/
theorem execExpGeomLoad_stores (a : Accepts s 0x0402 (0x00030701 :: List.replicate 32 allBits) n ws) (station : bits (par ws 2) 8 3 ≤ 5)
    (kernel : bits (par ws 2) 16 2 ≠ 3) (valid : ∀ t, t < 16 → geomInRange (geomParam ws t) = true ∧ geomValid (geomParam ws t) t = true)
    (unused : geomInUse s (bits (par ws 2) 0 1) (bits (par ws 2) 8 3) = false) :
    execExpGeomLoad s = .next (okReply n [0xFF] (geomStored (bits (par ws 2) 0 1) (bits (par ws 2) 8 3) (bits (par ws 2) 16 2)
      ((List.range 16).map (geomParam ws)) (taken s))) := by
  have inRange : ((List.range 16).map (geomParam ws)).all geomInRange = true := by
    simpa using fun t h => (valid t h).1
  have noneInvalid : (List.range 16).find? (fun t => !geomValid (((List.range 16).map (geomParam ws)).getD t {}) t) = none := by
    simp only [List.find?_eq_none, List.mem_range]
    intro t h
    simp [List.getD, h, (valid t h).2]
  refine serve_next_ok a rfl ((if_neg (by simp [inRange, kernel, Nat.not_lt.mpr station])).trans ((if_neg (by simp [unused])).trans ?_))
  simp only [noneInvalid]
  rfl

/-! EXP.SCREEN_LOAD and EXP.TONE_NEUTRAL. -/

/-- EXP.SCREEN_LOAD of a screen that is not in use enters the load behind those of that screen. -/
theorem execExpScreenLoad_loads (a : Accepts s 0x0403 [0x701, 0x03FF03FF, 0x00FF01FF, 0x01FF01FF, allBits, allBits, allBits] n ws)
    (plane : bits (par ws 2) 8 3 ≤ 5) (width : 1 ≤ bits (par ws 3) 0 10 ∧ bits (par ws 3) 0 10 ≤ 512)
    (height : 1 ≤ bits (par ws 3) 16 10 ∧ bits (par ws 3) 16 10 ≤ 512) (shift : bits (par ws 4) 0 9 < bits (par ws 3) 0 10)
    (levels : bits (par ws 4) 16 8 ≠ 0) (startX : bits (par ws 5) 0 9 < bits (par ws 3) 0 10)
    (startY : bits (par ws 5) 16 9 < bits (par ws 3) 16 10) (unused : screenInUse s (bits (par ws 2) 0 1) (bits (par ws 2) 8 3) = false) :
    execExpScreenLoad s = .next (pendingReply n ws s.host.nextOid { taken s with exp := { s.exp with
      screens := updAt s.exp.screens (6 * bits (par ws 2) 0 1 + bits (par ws 2) 8 3) (fun c => { c with
        loading := c.loading ++ [(s.host.nextOid, (List.range 7).map (fun i => BitVec.ofNat 32 (par ws (i + 2))))] }) } }) :=
  serve_next_pending a rfl ((if_neg (by omega)).trans (if_neg (by simp [unused])))

/-- EXP.TONE_NEUTRAL of stations that none is running for discards their tone updates and enters the command among those running. -/
theorem execExpToneNeutral_enters (a : Accepts s 0x0404 [0x3F] n ws)
    (free : s.exp.neutral.any (fun n => n.stations &&& bits (par ws 2) 0 6 != 0) = false) :
    let mask := bits (par ws 2) 0 6
    let u := forList (bitList 6 mask) (taken s) (fun st s => calReset st 0xFFFF (· == 0) s)
    execExpToneNeutral s = .next (pendingReply n ws s.host.nextOid { u with exp := { u.exp with
      toneReqs := u.exp.toneReqs.filter (fun r => !bitOf mask r.station)
      neutral := u.exp.neutral ++ [{ oid := u.host.nextOid, stations := mask }] } }) :=
  serve_next_pending a rfl (if_neg (ne_true_of_eq_false free))

/-! EXP.POLICY. -/

/-- The policy with each field of EXP.POLICY's two words that is not 0 taken; a rotation period or a rotation that is new starts at `now`
(R168). -/
def ExpState.withPolicy (x : ExpState) (a b now : Nat) : ExpState :=
  let off := if bitOf b 16 then true else if bitOf b 17 then false else x.rotateOff
  let rot := orKeep (bits b 0 16) x.rotate
  { x with
    stall := orKeep (bits a 0 8) x.stall, slackThr := orKeep (bits a 8 8) x.slackThr, margin := orKeep (bits a 16 8) x.margin
    rotate := rot, rotateOff := off, fenceLimit := orKeep (bits b 24 4) x.fenceLimit
    nextRotate := if (x.rotateOff && !off) || rot != x.rotate then now + rot * 1000000000000 else x.nextRotate }

theorem ExpState.withPolicy_rotateOff (x : ExpState) (a b now : Nat) :
    (x.withPolicy a b now).rotateOff = (bitOf b 16 || (x.rotateOff && !bitOf b 17)) := by
  unfold ExpState.withPolicy
  cases bitOf b 16 <;> cases bitOf b 17 <;> simp

theorem execExpPolicy_takes (a : Accepts s 0x0405 [0x00FFFFFF, 0x0F03FFFF] n ws) (stall : zeroOrIn 18 63 (bits (par ws 2) 0 8) = true)
    (threshold : zeroOrIn 1 63 (bits (par ws 2) 8 8) = true) (margin : zeroOrIn 2 20 (bits (par ws 2) 16 8) = true)
    (rotate : zeroOrIn 1 3600 (bits (par ws 3) 0 16) = true) (oneWay : bitOf (par ws 3) 16 = false ∨ bitOf (par ws 3) 17 = false) :
    let u : State := { taken s with exp := s.exp.withPolicy (par ws 2) (par ws 3) s.now }
    execExpPolicy s = .next (okReply n [fld u.exp.stall 0 8 + fld u.exp.slackThr 8 8 + fld u.exp.margin 16 8,
      fld u.exp.rotate 0 16 + fld (b2n u.exp.rotateOff) 16 1 + fld u.exp.fenceLimit 24 4] u) := by
  refine serve_next_ok a rfl (if_neg ?_)
  rcases oneWay with on | off
  · simp [stall, threshold, margin, rotate, on]
  · simp [stall, threshold, margin, rotate, off]

/-! EXP.ENGINE. -/

/-- The state with a command entered among those outstanding on an engine (R168). -/
def engOwned (e oid : Nat) (s : State) : State := setEng e (fun g => { g with oids := g.oids ++ [oid] }) s

section
variable (a : Accepts s 0x0408 [0x31F] n ws) (known : bits (par ws 2) 0 5 ≤ 27) (still : (eng s (bits (par ws 2) 0 5)).move = none)
include a known still

/-- EXP.ENGINE 0 fences a SPARE engine for cause 10. -/
theorem execExpEngine_fences (act : bits (par ws 2) 8 2 = 0) (spare : (eng s (bits (par ws 2) 0 5)).st = .spare) :
    execExpEngine s = .next (pendingReply n ws s.host.nextOid
      (movesNow (engFail (bits (par ws 2) 0 5) 10 true (engOwned (bits (par ws 2) 0 5) s.host.nextOid (taken s))))) :=
  serve_next_pending a rfl (by simp [act, Nat.not_lt.mpr known, still, spare, engOwned])

/-- EXP.ENGINE 1 takes a SPARE engine into TEST, for its self-test (Table 5.12). -/
theorem execExpEngine_tests (act : bits (par ws 2) 8 2 = 1) (spare : (eng s (bits (par ws 2) 0 5)).st = .spare) :
    execExpEngine s = .next (pendingReply n ws s.host.nextOid
      (movesNow (engFail (bits (par ws 2) 0 5) 0 false (engOwned (bits (par ws 2) 0 5) s.host.nextOid (taken s))))) :=
  serve_next_pending a rfl (by simp [act, Nat.not_lt.mpr known, still, spare, engOwned])

/-- EXP.ENGINE 2 starts the self-test of an OFF engine. -/
theorem execExpEngine_restores (act : bits (par ws 2) 8 2 = 2) (off : (eng s (bits (par ws 2) 0 5)).st = .off) :
    execExpEngine s = .next (pendingReply n ws s.host.nextOid (startTest (bits (par ws 2) 0 5)
      (setEng (bits (par ws 2) 0 5) (fun g => { g with st := .fenced, toOff := false }) (engOwned (bits (par ws 2) 0 5) s.host.nextOid (taken s))))) :=
  serve_next_pending a rfl (by simp [act, Nat.not_lt.mpr known, still, off, engOwned])

end
end

/-- Settles O26: every case of every expansion command is one of the lemmas above, on the command's own row of `exec`. -/
theorem expansionCommandsComplete : Obligations.ExpansionCommandsComplete := by
  unfold Obligations.ExpansionCommandsComplete
  intro s n ws
  refine ⟨execExpStatus_reports, ?geometry, ?screen, execExpToneNeutral_enters, ?policy, execExpSlack_restarts, ?forecast, ?engine⟩
  case geometry =>
    intro a bank st k g station kernel valid unused
    refine ⟨_, execExpGeomLoad_stores a station kernel valid unused, rfl, fun b other => geomStored_otherBank (s := taken s) _ _ _ other, fun known => ?_⟩
    rw [geomStored_bank (s := taken s) _ _ _ known]
    refine ⟨fun t h => ?_, fun x h other => ?_, rfl⟩
    · have ofStation : (16 * st + t) / 16 = st ∧ (16 * st + t) % 16 = t := by omega
      rw [GeomBank.loaded_tiles _ _ _ _ (by omega), if_pos ofStation.1, ofStation.2]
      simp [List.getD, h, g]
    · rw [GeomBank.loaded_tiles _ _ _ _ h, if_neg other]
      rfl
  case screen =>
    intro a bank plane w h planes w1 w512 h1 h512 shift levels startX startY unused
    exact execExpScreenLoad_loads a planes ⟨w1, w512⟩ ⟨h1, h512⟩ shift levels startX startY unused
  case policy =>
    intro a p q stall threshold margin rotate oneWay
    exact ⟨_, execExpPolicy_takes a stall threshold margin rotate oneWay, rfl, rfl, rfl, rfl, rfl, ExpState.withPolicy_rotateOff .., rfl⟩
  case forecast =>
    intro a rate r1 r2 p1 p2
    exact execExpForecast_forecasts a ⟨r1, r2⟩ ⟨p1, p2⟩
  case engine =>
    intro a e own known still
    exact ⟨execExpEngine_fences a known still, execExpEngine_tests a known still, execExpEngine_restores a known still⟩

end Sys2Proof.Machine
end

section
/-! SUPPORT. The rows of the expansion engines, each where the engine die runs: lanes, pipes and releases, faults and replays, self-tests,
warm-ups and rotations (R133, R134, R137, R138, R154, R155, R158, R160, R162, R163). -/

namespace Sys2Proof.Machine

section
variable {s : State} {e tile : Nat} (on : engOn s = true)
include on

/-! BLOCK_FETCH and BLOCK_DECODE_DONE. -/

section
variable {l : Lane} {p : Page} {t : PbStream}

/-- A lane with its next block in it, and the one after that the next to fetch. -/
def Lane.withNext (l : Lane) (b : Nat) : Lane := { l with fetchNext := b + 1, inLane := some b }

section
variable (lane : fetchLane s e tile = some l) (page : pageOf s l.page = some p) (stream : tileStream s l.page tile = some t)
  (room : 16 * l.fetchNext < lowLine s p t l + ringLines t.colCount)
include lane page stream room

/-- BLOCK_FETCH without a read error brings the next block into the lane. -/
theorem execBlockFetch_fetches (bit : Nat) :
    execBlockFetch e tile 0 bit s = .next (setLane e l.page tile (fun x => x.withNext l.fetchNext) s) := by
  refine congrArg _ ((when_pos _ _ s on).trans ?_)
  simp only [lane, page, stream, room, if_true]
  rfl

/-- BLOCK_FETCH of an uncorrectable word fails the block for cause 9. -/
theorem execBlockFetch_loses (bit : Nat) (unplaced : t.recs.find? (fun r => r.block == l.fetchNext) = none) :
    execBlockFetch e tile 2 bit s
      = .next (blockFail l p l.fetchNext 9 none (setLane e l.page tile (fun x => x.withNext l.fetchNext) s)) := by
  refine congrArg _ ((when_pos _ _ s on).trans ?_)
  simp only [lane, page, stream, room, if_true, unplaced]
  rfl

end

section
variable {b dur : Nat} {r : BlockRec} {seen : List Byte}
  (lane : s.exp.lanes.find? (fun l => l.engine == e && l.tile == tile && l.inLane.isSome) = some l) (block : l.inLane = some b)
  (page : pageOf s l.page = some p) (stream : tileStream s l.page tile = some t) (record : t.recs.find? (fun r => r.block == b) = some r)
  (room : 16 * b + rowsOf t b ≤ lowLine s p t l + ringLines t.colCount)
include lane block page stream record room

theorem execBlockDecodeDone_passes (pass : (laneChecks t r seen 0).check = 0) :
    execBlockDecodeDone e tile seen { fault := 0, dur := dur } s = .next (setLane e l.page tile (fun x => { x with
        inLane := none, passed := b :: x.passed.filter (fun y => decide (lowLine s p t l / 16 ≤ y + 12)) })
      (setEng e (measureLane (tile % 4) (decodeSteps t r) dur) s)) := by
  refine congrArg _ ((when_pos _ _ s on).trans ?_)
  simp [lane, page, stream, block, record, Nat.not_lt.mpr room, pass]

theorem execBlockDecodeDone_fails (fail : (laneChecks t r seen 0).check ≠ 0) :
    execBlockDecodeDone e tile seen { fault := 0, dur := dur } s
      = .next (blockFail l p b (checkCause (laneChecks t r seen 0).check) (some {
          check := (laneChecks t r seen 0).check, index := (laneChecks t r seen 0).index, pixels := (laneChecks t r seen 0).pixels }) s) := by
  refine congrArg _ ((when_pos _ _ s on).trans ?_)
  simp [lane, page, stream, block, record, Nat.not_lt.mpr room, fail]

end
end

/-! BAND_LINE_DONE, BAND_LINE_RELEASE and ENGINE_HANG. -/

section
variable {x : Lane × Page × Nat} (ready : pipeReady s e = some x)
include ready

theorem execBandLineDone_produces (dur place : Nat) (whole : screenLost s x.2.1 x.1.tile x.2.2 = false) :
    execBandLineDone e dur 0 place s = .next (produce e x.1 x.2.1 x.2.2 dur none s) := by
  refine congrArg _ ((when_pos _ _ s on).trans ?_)
  simp [ready, whole]

/-- BAND_LINE_DONE with check 1 (dual-rail) or 2 (residue or comparator) failed fences the engine for that cause (Table 5.6). -/
theorem execBandLineDone_fences (dur place : Nat) {check : Nat} (hardware : check = 1 ∨ check = 2) :
    execBandLineDone e dur check place s = .next (engFail e check true s) := by
  refine congrArg _ ((when_pos _ _ s on).trans ?_)
  simp only [ready, hardware, if_true]

end

theorem execBandLineRelease_releases {l : Lane} {p : Page} {n : Nat}
    (lane : s.exp.lanes.find? (fun l => l.engine == e && l.tile == tile && !l.waiting.isEmpty) = some l) (page : pageOf s l.page = some p)
    (oldest : l.waiting.head? = some n) (passed : (blocksDrawn s p tile n).all (fun b => l.passed.contains b) = true) :
    execBandLineRelease e tile s = .next (releaseLine p tile n e s) := by
  refine congrArg _ ((when_pos _ _ s on).trans ?_)
  simp only [lane, page, oldest, passed, if_true]

theorem execEngineHang_fences (work : hasWork s e = true) : execEngineHang e s = .next (movesNow (engFail e 3 true s)) := by
  simp [execEngineHang, on, work]

/-! REPLAY_START and REPLAY_DONE. -/

theorem execReplayStart_starts {r : Replay} {rs : List Replay} {x : Nat} (waiting : replayWaiting s = r :: rs)
    (engine : pickOther s (r.failing.toList ++ r.tried) = some x) :
    let u := setEng x (fun g => { g with replay := some r.rid, testEnd := none }) s
    execReplayStart s = .next { u with exp := { u.exp with replays := s.exp.replays.map (fun q =>
      if q.rid = r.rid then { q with engine := some x, attempts := q.attempts + 1, tried := x :: q.tried } else q) } } := by
  refine congrArg _ ((when_pos _ _ s on).trans ?_)
  simp only [waiting, engine]
  rfl

/-- REPLAY_DONE of a block that passes, with no engine named as the one that failed it, takes the replay's result. -/
theorem execReplayDone_passes {r : Replay} {p : Page} {t : PbStream} {b dur : Nat} {q : BlockRec} {seen : List Byte}
    (replay : s.exp.replays.find? (fun r => r.block.isSome && r.engine == some e && (eng s e).replay == some r.rid) = some r)
    (block : r.block = some b) (page : pageOf s r.page = some p) (stream : tileStream s r.page r.tile = some t)
    (record : t.recs.find? (fun q => q.block == b) = some q) (pass : (laneChecks t q seen 0).check = 0) (blameless : r.failing = none) :
    execReplayDone e seen { fault := 0, dur := dur } s = .next (replayPass r p t b [] 0 e dur s) := by
  refine congrArg _ ((when_pos _ _ s on).trans ?_)
  simp [replay, block, page, stream, record, pass, blameless]

end

/-! SELF_TEST_DONE. -/

/-- The state when the self-test of an engine that ends at `t` has ended and is counted, its result not yet used (R163). -/
def testEnded (e t : Nat) (s : State) : State := tick 0x0404 0 (setEng e (fun g => { g with testEnd := none }) (atTime t s))

@[simp] theorem tick_eng (id i : Nat) (s : State) (e : Nat) : eng (tick id i s) e = eng s e := by simp [eng]
@[simp] theorem atTime_eng (t : Nat) (s : State) (e : Nat) : eng (atTime t s) e = eng s e := rfl

@[simp] theorem testEnded_now (e t : Nat) (s : State) : (testEnded e t s).now = Nat.max s.now t := by simp [testEnded]

@[simp] theorem testEnded_length (e t : Nat) (s : State) : (testEnded e t s).exp.engines.length = s.exp.engines.length := by simp [testEnded]

@[simp] theorem noteFence_length (e : Nat) (s : State) : (noteFence e s).exp.engines.length = s.exp.engines.length := by simp [noteFence]

section
variable {s : State} {e t : Nat} (on : engOn s = true) (running : (eng s e).testEnd = some t) (test : (eng s e).st = .test)
include on running test

theorem execSelfTestDone_passes : execSelfTestDone e true s = .next (giveUnserved (engSettle e
    (setEng e (fun g => { g with st := .spare, passedAt := Nat.max s.now t }) (testEnded e t s)))) := by
  refine congrArg _ ((when_pos _ _ s on).trans ?_)
  rw [← testEnded_now e t s]
  simp only [running, atTime_eng, test]
  simp [testEnded]

/-- The state with an engine whose self-test has failed turned off: its fence is counted (R160; the case of an engine in TEST, log entry 34). -/
def failedOff (e : Nat) (s : State) : State := setEng e (fun g => { g with st := .off, toOff := false }) (noteFence e (tick 0x0405 0 s))

theorem execSelfTestDone_fails : execSelfTestDone e false s = .next (giveUnserved (engSettle e
    (raise 0x0402 e 0 0 11 (eng (failedOff e (testEnded e t s)) e).fences.length 5 (failedOff e (testEnded e t s))))) := by
  refine congrArg _ ((when_pos _ _ s on).trans ?_)
  simp only [running, atTime_eng, test]
  simp [testEnded, failedOff]

end

theorem failedOff_off {s : State} {e : Nat} (known : e < s.exp.engines.length) : (eng (failedOff e s) e).st = .off := by
  rw [failedOff, eng_setEng_same _ _ _ (by simpa using known)]

/-! ENGINE_WARMUP_DONE. -/

theorem execEngineWarmupDone_activates {s : State} {e : Nat} (on : engOn s = true) (warming : (eng s e).st = .warming)
    (carries : (eng s e).quartet.isSome = true) (still : (eng s e).move = none)
    (alone : ∀ x, x ∈ engineList → x ≠ e → (eng s x).quartet ≠ (eng s e).quartet) :
    execEngineWarmupDone e s = .next (engSettle e (setEng e (fun g => { g with st := .active }) s)) := by
  have alone : engineList.all (fun x => x == e || (eng s x).quartet != (eng s e).quartet) = true := by
    simp only [List.all_eq_true, Bool.or_eq_true, beq_iff_eq, bne_iff_ne]
    exact fun x listed => Decidable.or_iff_not_imp_left.mpr (alone x listed)
  exact congrArg _ (when_pos _ _ s (by simp [on, warming, carries, still, alone]))

/-! ROTATION_TIMER. -/

/-- The state at time `now` with the next rotation due at `next` (R162). -/
def rotationAt (now next : Nat) (s : State) : State := { s with now := now, exp := { s.exp with nextRotate := next } }

/-! Choosing engines looks neither at the time nor at when the next rotation is due. -/

theorem rotationAt_eng (now next : Nat) (s : State) (e : Nat) : eng (rotationAt now next s) e = eng s e := rfl
theorem rotationAt_rotation (now next : Nat) (s : State) : (rotationAt now next s).exp.rotation = s.exp.rotation := rfl
theorem rotationAt_pickSpare (now next : Nat) (s : State) (avoid : Nat) : pickSpare (rotationAt now next s) avoid = pickSpare s avoid := rfl
theorem rotationAt_rotationOut (now next : Nat) (s : State) : rotationOut (rotationAt now next s) = rotationOut s := rfl

section
variable {s : State}

/-- ROTATION_TIMER moves to the time of the rotation that is due, sets the next a period later, and starts the rotation where it can. -/
theorem execRotationTimer_due (on : engOn s = true) (rotates : s.exp.rotateOff = false) (run : s.fw.power = .run)
    (ahead : s.now ≤ s.exp.nextRotate) : execRotationTimer s = .next (rotationStart
      (rotationAt s.exp.nextRotate (s.exp.nextRotate + s.exp.rotate * 1000000000000) s)) := by
  refine congrArg _ ((when_pos _ _ s (by simp [on, rotates, run])).trans ?_)
  have now : Nat.max s.now s.exp.nextRotate = s.exp.nextRotate := Nat.max_eq_right ahead
  simp only [atTime, now, rotationAt]

/-- Without a spare engine no rotation starts. -/
theorem rotationStart_noSpare (noSpare : pickSpare s 28 = none) : rotationStart s = s := by
  unfold rotationStart
  split
  case h_1 spare _ => simp [noSpare] at spare
  case h_2 => rfl

/-- With none under way, a spare engine, one to send out and a band-line to hand over at, a rotation starts. -/
theorem rotationStart_starts {inn out q n : Nat} {page : Page} (idle : s.exp.rotation = none) (spare : pickSpare s 28 = some inn)
    (leaves : rotationOut s = some out) (carries : (eng s out).quartet = some q) (head : quartetHead s q = some (page, n)) :
    let v := rotateLanes out inn q page (n + 16) (engTake inn .warming (some q) s)
    rotationStart s = { v with exp := { v.exp with
      rotation := some { out := out, inn := inn, quartet := q, page := page.key, h := n + 16 } } } := by
  simp [rotationStart, idle, spare, leaves, carries, head]

section
variable (on : engOn s = true) (rotates : s.exp.rotateOff = false) (run : s.fw.power = .run) (ahead : s.now ≤ s.exp.nextRotate)
include on rotates run ahead

theorem execRotationTimer_postpones (noSpare : pickSpare s 28 = none) : execRotationTimer s
    = .next (rotationAt s.exp.nextRotate (s.exp.nextRotate + s.exp.rotate * 1000000000000) s) :=
  (execRotationTimer_due on rotates run ahead).trans (congrArg _ (rotationStart_noSpare ((rotationAt_pickSpare _ _ s 28).trans noSpare)))

theorem execRotationTimer_starts {inn out q n : Nat} {page : Page} (idle : s.exp.rotation = none) (spare : pickSpare s 28 = some inn)
    (leaves : rotationOut s = some out) (carries : (eng s out).quartet = some q)
    (head : quartetHead (rotationAt s.exp.nextRotate (s.exp.nextRotate + s.exp.rotate * 1000000000000) s) q = some (page, n)) :
    let v := rotateLanes out inn q page (n + 16) (engTake inn .warming (some q)
      (rotationAt s.exp.nextRotate (s.exp.nextRotate + s.exp.rotate * 1000000000000) s))
    execRotationTimer s = .next { v with exp := { v.exp with
      rotation := some { out := out, inn := inn, quartet := q, page := page.key, h := n + 16 } } } :=
  (execRotationTimer_due on rotates run ahead).trans (congrArg _ (rotationStart_starts ((rotationAt_rotation _ _ s).trans idle)
    ((rotationAt_pickSpare _ _ s 28).trans spare) ((rotationAt_rotationOut _ _ s).trans leaves)
    ((congrArg Engine.quartet (rotationAt_eng _ _ s out)).trans carries) head))

end
end

/-- Settles O27: each row's cases are the lemmas above. -/
theorem enginesCarryTheirLanes : Obligations.EnginesCarryTheirLanes := by
  unfold Obligations.EnginesCarryTheirLanes
  intro s e tile on
  refine ⟨fun l p t lane page stream room => ?fetch, fun l p t b r seen dur lane block page stream record room => ?decode,
    fun x dur place ready => ?done, fun l p n => execBandLineRelease_releases on, execEngineHang_fences on,
    fun r rs x => execReplayStart_starts on, fun r p t b q seen dur => execReplayDone_passes on, fun t running test known => ?test,
    execEngineWarmupDone_activates on, fun rotates run noSpare ahead => execRotationTimer_postpones on rotates run ahead noSpare,
    fun inn out q page n rotates run idle ahead => execRotationTimer_starts on rotates run ahead idle⟩
  case fetch => exact ⟨execBlockFetch_fetches on lane page stream room, execBlockFetch_loses on lane page stream room⟩
  case decode =>
    exact ⟨execBlockDecodeDone_passes on lane block page stream record room, execBlockDecodeDone_fails on lane block page stream record room⟩
  case done =>
    exact ⟨execBandLineDone_produces on ready dur place, execBandLineDone_fences on ready dur place (.inl rfl),
      execBandLineDone_fences on ready dur place (.inr rfl)⟩
  case test =>
    exact ⟨execSelfTestDone_passes on running test, _, _, execSelfTestDone_fails on running test, failedOff_off (by simpa using known)⟩

end Sys2Proof.Machine
end

section
/-! SUPPORT. The position commands once the firmware has taken them: what each reads is not changed by taking the slot, and what each answers
(R172, R175, R185, R191 to R193, R200). -/

namespace Sys2Proof.Machine

@[simp] theorem taken_posIn (s : State) (i : Nat) : posIn (taken s) i = posIn s i := rfl
@[simp] theorem taken_followers (s : State) (i : Nat) : followers (taken s) i = followers s i := rfl
@[simp] theorem taken_axisAuto (s : State) (i : Nat) : axisAuto (taken s) i = axisAuto s i := rfl
@[simp] theorem taken_stationLive (s : State) (st : Nat) : stationLive (taken s) st = stationLive s st := rfl
@[simp] theorem taken_hostRead (s : State) (a len : Nat) : hostRead (taken s) a len = hostRead s a len := rfl

/-- Configuring or starting a tracker leaves the position inputs. -/
theorem setTrk_posIn (st : Nat) (f : Tracker → Tracker) (s : State) (i : Nat) : posIn (setTrk st f s) i = posIn s i := rfl

/-- The next state of an accepted command whose work waits for a service gap: ST_DEFERRED, the command outstanding. -/
theorem serve_next_deferred {code : Nat} {cls : CmdClass} {masks : List Nat} {body : List Word → State → Ans} {s u : State} {n : Nat}
    {ws : List Word} (a : Accepts s code masks n ws) (k : knownCode code = true) (b : body ws (taken s) = { st := u, status := stDeferred }) :
    (.next (serve code cls masks body s) : Host.Outcome State Fault Refusal) = .next (deferredReply n ws s.host.nextOid u) :=
  congrArg _ (serve_later code cls masks body s n ws a k u stDeferred b (.inl rfl))

section
variable {s : State} {n : Nat} {ws : List Word}

/-! POS.INPUT. -/

section
variable (a : Accepts s 0x0501 [0x177, 0x13F0F, 0xFFFF00FF, allBits, 0xFF] n ws) (legal : inputOk ws = true)
include a legal

/-- POS.INPUT of an input that nothing follows sets its fields, clears its fault, and awaits a first sample unless the input is timed. -/
theorem execPosInput_takes (noTracker : (followers s (bits (par ws 2) 0 3)).isEmpty = true) (noAxis : axisAuto s (bits (par ws 2) 0 3) = false) :
    let i := bits (par ws 2) 0 3
    ∃ f, execPosInput s = .next (okReply n [] (drvUnalign i (setIn i f
          (when (bits (par ws 2) 4 3 == 3) (emit (.posDrive i (par ws 5) 0)) (taken s)))))
      ∧ ∀ p, (f p).mode = bits (par ws 2) 4 3 ∧ (f p).invert = bitOf (par ws 2) 8 ∧ (f p).interp = bits (par ws 3) 0 4
        ∧ (f p).nbits = bits (par ws 3) 8 6 ∧ (f p).gray = bitOf (par ws 3) 16 ∧ (f p).rate = par ws 5 ∧ (f p).fault = false
        ∧ (f p).filter = bits (par ws 6) 0 8 ∧ (f p).fresh = (bits (par ws 2) 4 3 != 5) := by
  refine ⟨_, serve_next_ok a rfl ((if_neg ?legal).trans (if_neg ?free)), fun p => ⟨rfl, rfl, rfl, rfl, rfl, rfl, rfl, rfl, rfl⟩⟩
  case legal => simp [legal]
  case free => simp [noTracker, noAxis]

theorem execPosInput_followed
    (followed : (followers s (bits (par ws 2) 0 3)).isEmpty = false ∨ axisAuto s (bits (par ws 2) 0 3) = true) :
    execPosInput s = .next (respond n stState [] (taken s)) := by
  refine serve_next_refused a rfl ((if_neg ?legal).trans (if_pos ?followed)) (by decide) (by decide)
  case legal => simp [legal]
  case followed => simpa using followed

end

/-! POS.TRACK. -/

/-- A tracker stopped with its fields as POS.TRACK's words spell them (Table 6.6). -/
def Tracker.configured (ws : List Word) (t : Tracker) : Tracker :=
  dropVel { t with
    en := false, input := bits (par ws 2) 4 3, jw := bits (par ws 2) 16 4, cpl := par ws 3
    stopTo := if bits (par ws 4) 0 16 = 0 then 1000 else bits (par ws 4) 0 16
    stopped := false, inExcursion := false, bTimes := [], lastB := none }

/-- Boundary 0 of a station is where its tracker stands. -/
def Tracker.originHere (t : Tracker) : Tracker := { t with en := true, origin := t.ext, hwm := t.ext, k := -1 }

/-- A station's calm time counted in the line numbers that start again (R165). -/
def calmRestarted (st : Nat) (s : State) : State :=
  { s with exp := { s.exp with slack := updAt s.exp.slack st (fun q => { q with calmSince := q.calmSince - (trk s st).k - 1 }) } }

/-- POS.TRACK's fields are legal for its station, which has no live page (R20, R200, Table 6.6). -/
structure TrackLegal (s : State) (ws : List Word) : Prop where
  station : bits (par ws 2) 0 3 ≤ 5
  cpl : 0x10000 ≤ par ws 3
  stop : bits (par ws 4) 0 16 = 0 ∨ 10 ≤ bits (par ws 4) 0 16
  idle : stationLive s (bits (par ws 2) 0 3) = false
  fits : cplFits s.page.cfg (bits (par ws 2) 0 3) (par ws 3) = true

theorem TrackLegal.inRange (h : TrackLegal s ws) :
    ¬ (5 < bits (par ws 2) 0 3 ∨ par ws 3 < 0x10000 ∨ (0 < bits (par ws 4) 0 16 ∧ bits (par ws 4) 0 16 < 10)) := by
  obtain ⟨station, cpl, stop, -, -⟩ := h
  omega

theorem TrackLegal.allowed (h : TrackLegal s ws) :
    ¬ (stationLive (taken s) (bits (par ws 2) 0 3) || !cplFits (taken s).page.cfg (bits (par ws 2) 0 3) (par ws 3)) = true := by
  simp [h.idle, h.fits]

section
variable (a : Accepts s 0x0502 [0xF0177, allBits, 0xFFFF] n ws) (legal : TrackLegal s ws)
include a legal

theorem execPosTrack_stops (disable : bitOf (par ws 2) 8 = false) :
    execPosTrack s = .next (okReply n [] (movesNow (setTrk (bits (par ws 2) 0 3) (.configured ws) (taken s)))) :=
  serve_next_ok a rfl ((if_neg legal.inRange).trans ((if_neg legal.allowed).trans (if_pos (by simp [disable]))))

/-- POS.TRACK with EN on an input that is not timed starts the line where the tracker stands; boundary 0 fires now (log entry 27). -/
theorem execPosTrack_starts (enable : bitOf (par ws 2) 8 = true) (untimed : (posIn s (bits (par ws 2) 4 3)).mode ≠ 5) :
    let st := bits (par ws 2) 0 3
    execPosTrack s = .next (okReply n [] (fireBoundary st s.now (lineStart st
      (setTrk st .originHere (calmRestarted st (setTrk st (.configured ws) (taken s))))))) := by
  refine serve_next_ok a rfl ((if_neg legal.inRange).trans ((if_neg legal.allowed).trans ((if_neg (by simp [enable])).trans ?_)))
  simp only [setTrk_posIn, taken_posIn, untimed, false_and, if_false]
  rfl

end

/-! POS.STATUS and POS.LATENCY. -/

theorem execPosStatus_reports (a : Accepts s 0x0503 [7] n ws) (station : par ws 2 ≤ 5) :
    ∃ r, r.length = 13 ∧ execPosStatus s = .next (okReply n r (taken s)) :=
  ⟨_, rfl, serve_next_ok a rfl (if_neg (by omega))⟩

theorem execPosLatency_reports (a : Accepts s 0x0507 [0x7F] n ws) (tile : par ws 2 ≤ 95) :
    let d := dly s (par ws 2)
    execPosLatency s = .next (okReply n
      [fld (d.lat / 250) 0 16, fld (d.rtt / 250) 0 16, unsig d.ia 16 + unsig d.ib 16 * 65536, fld d.ta 0 8 + fld d.tb 8 8] (taken s)) :=
  serve_next_ok a rfl (if_neg (by omega))

/-! POS.DELAY. -/

/-- The delay of tile `t` of the station that POS.DELAY's words spell: the low half of a word, then the high half. -/
def delayOf (ws : List Word) (t : Nat) : Int := sbits (par ws (3 + t / 2)) (16 * (t % 2)) 16

/-- The state with REG_HOST of a station's 16 tiles set as POS.DELAY's words spell it. -/
def delaysSet (ws : List Word) (s : State) : State :=
  forRange 16 s (fun t s => regHost (16 * par ws 2 + t) (((List.range 16).map (delayOf ws)).getD t 0) s)

theorem execPosDelay_sets (a : Accepts s 0x0504 (7 :: List.replicate 8 allBits) n ws) (station : par ws 2 ≤ 5)
    (range : ∀ t, t < 16 → -1024 ≤ delayOf ws t ∧ delayOf ws t ≤ 1024) :
    execPosDelay s = .next (okReply n
      [maskOf ((List.range 16).filter (fun t => beyondTravel (dly (delaysSet ws (taken s)) (16 * par ws 2 + t))))]
      (delaysSet ws (taken s))) := by
  have inRange : ((List.range 16).map (delayOf ws)).any (fun v => decide (v < -1024 ∨ 1024 < v)) = false := by
    simpa using range
  refine serve_next_ok a rfl (if_neg ?_)
  rintro (beyond | outside)
  · omega
  · exact absurd (outside.symm.trans inRange) (by decide)

/-! POS.MASK. -/

/-- The state with a station's new table waiting for the station's gap (R192). -/
def maskPended (st : Nat) (stitch : Bool) (bs : List Byte) (s : State) : State :=
  gapPend (.mask st) (some (1 <<< st)) (some s.host.nextOid) { s with pos := { s.pos with
    maskWaits := s.pos.maskWaits ++ [{ station := st, stitch := stitch, bytes := bs, oid := s.host.nextOid }] } }

section
variable (a : Accepts s 0x0505 [0x107, allBits, allBits, allBits] n ws) (station : bits (par ws 2) 0 3 ≤ 5) {bs : List Byte}
  (table : hostRead s (par64 ws 3) (if bitOf (par ws 2) 8 then 7680 else 1024) = some bs)
include a station table

/-- POS.MASK of a table that is read answers by its CRC and by whether its station has a live page. -/
theorem execPosMask_reads : execPosMask s = .next (answer n ws s.host.nextOid (
    if crc32c bs ≠ par ws 5 then .refuse (taken s) stCheck
    else if !stationLive s (bits (par ws 2) 0 3) then { st := maskApply (bits (par ws 2) 0 3) (bitOf (par ws 2) 8) bs longAgo (taken s) }
    else { st := maskPended (bits (par ws 2) 0 3) (bitOf (par ws 2) 8) bs (taken s), status := stDeferred })) := by
  refine congrArg _ ((serve_run _ _ _ _ s n ws a rfl).trans (congrArg _ ((if_neg (Nat.not_lt.mpr station)).trans ?_)))
  simp only [taken_hostRead, table, taken_stationLive]
  rfl

theorem execPosMask_applies (crc : crc32c bs = par ws 5) (idle : stationLive s (bits (par ws 2) 0 3) = false) :
    execPosMask s = .next (okReply n [] (maskApply (bits (par ws 2) 0 3) (bitOf (par ws 2) 8) bs longAgo (taken s))) :=
  (execPosMask_reads a station table).trans (congrArg _ (congrArg _ ((if_neg (not_not_intro crc)).trans (if_pos (by simp [idle])))))

theorem execPosMask_waits (crc : crc32c bs = par ws 5) (live : stationLive s (bits (par ws 2) 0 3) = true) :
    execPosMask s = .next (deferredReply n ws s.host.nextOid (maskPended (bits (par ws 2) 0 3) (bitOf (par ws 2) 8) bs (taken s))) :=
  (execPosMask_reads a station table).trans (congrArg _ (congrArg _ ((if_neg (not_not_intro crc)).trans (if_neg (by simp [live])))))

theorem execPosMask_badCrc (crc : crc32c bs ≠ par ws 5) : execPosMask s = .next (respond n stCheck [] (taken s)) :=
  (execPosMask_reads a station table).trans (congrArg _ (congrArg _ (if_pos crc)))

end

/-! POS.OVERRIDE. -/

/-- The override entries that POS.OVERRIDE's words spell: a column and its code (R193, Table 6.6). -/
def overridesOf (ws : List Word) (k : Nat) : List (Nat × Nat) :=
  (List.range k).map (fun i => (bits (par ws (3 + i)) 0 16, bits (par ws (3 + i)) 16 2))

/-- POS.OVERRIDE of 1 to 60 entries with zeros behind them adds them to its station's queue, which has room (R193). -/
theorem execPosOverride_queues (a : Accepts s 0x0506 (0x3F07 :: List.replicate 60 0x3FFFF) n ws) (station : bits (par ws 2) 0 3 ≤ 5)
    (any : 1 ≤ bits (par ws 2) 8 6) (few : bits (par ws 2) 8 6 ≤ 60)
    (zeros : ∀ i, i < 60 - bits (par ws 2) 8 6 → par ws (3 + bits (par ws 2) 8 6 + i) = 0)
    (room : (s.pos.overQueue.getD (bits (par ws 2) 0 3) []).length + bits (par ws 2) 8 6 ≤ 4096) :
    let st := bits (par ws 2) 0 3
    let q := s.pos.overQueue.getD st []
    execPosOverride s = .next (okReply n [q.length + bits (par ws 2) 8 6] { taken s with pos := { s.pos with
      overQueue := s.pos.overQueue.set st (q ++ overridesOf ws (bits (par ws 2) 8 6)) } }) := by
  refine serve_next_ok a rfl ((if_neg ?legal).trans (if_neg (Nat.not_lt.mpr room)))
  case legal =>
    have zeros : (List.range (60 - bits (par ws 2) 8 6)).any (fun i => par ws (3 + bits (par ws 2) 8 6 + i) != 0) = false := by
      simpa using zeros
    rintro (_ | _ | _ | nonzero)
    case inr.inr.inr => exact absurd (nonzero.symm.trans zeros) (by decide)
    all_goals omega

/-! TIME.CONFIG. -/

section
variable (a : Accepts s 0x0508 [1] n ws)
include a

theorem execTimeConfig_selects (idle : anyLive s = false) :
    execTimeConfig s = .next (okReply n [] { taken s with pos := { s.pos with refExt := bitOf (par ws 2) 0, locked := true } }) :=
  serve_next_ok a rfl (if_neg (by simp [idle]))

theorem execTimeConfig_liveRefused (live : anyLive s = true) : execTimeConfig s = .next (respond n stState [] (taken s)) :=
  serve_next_refused a rfl (if_pos (by simp [live])) (by decide) (by decide)

end
end

/-- Settles O28: each command's cases are the lemmas above, on the command's own row of `exec`. -/
theorem positionCommandsComplete : Obligations.PositionCommandsComplete := by
  unfold Obligations.PositionCommandsComplete
  intro s n ws
  refine ⟨?input, ?track, execPosStatus_reports, execPosDelay_sets, ?mask, execPosOverride_queues, execPosLatency_reports, ?time⟩
  case input =>
    intro a legal
    exact ⟨execPosInput_takes a legal, execPosInput_followed a legal⟩
  case track =>
    intro a st i cpl sto station cplLegal stop idle fits
    have legal : TrackLegal s ws := ⟨station, cplLegal, stop, idle, fits⟩
    exact ⟨execPosTrack_stops a legal, execPosTrack_starts a legal⟩
  case mask =>
    intro a st stitch station bs table
    exact ⟨execPosMask_applies a station table, execPosMask_waits a station table, execPosMask_badCrc a station table⟩
  case time =>
    intro a
    exact ⟨execTimeConfig_selects a, execTimeConfig_liveRefused a⟩

end Sys2Proof.Machine
end

section
/-! SUPPORT. The timers of a head-link lane, its probes and its error window: each row where its lane waits for it, and what it does (R195, R219,
R227 to R232). -/

namespace Sys2Proof.Machine

section
variable {s : State} {g : Nat}

/-! Probes. -/

theorem execProbeTimer_probes (online : (port s g).st = .online) :
    let u := atTime (port s g).nextProbe s
    execProbeTimer g s = .next (probeSend g u.now (setPort g (fun p => { p with nextProbe := u.now + msPs }) u)) :=
  if_neg (not_not_intro online)

theorem execProbeTimeout_drops {q : Nat × Nat} {t : List (Nat × Nat)} (probes : (port s g).probes = q :: t) : execProbeTimeout g s
    = .next (measured g (tick 0x0606 g (setPort g (fun p => { p with probes := t }) (atTime (q.2 + 10 * usPs) s)))) := by
  simp only [execProbeTimeout, probes]

/-! Acquisition. -/

section
variable (acquire : (port s g).st = .acquire)
include acquire

theorem execAcquirePeakTimer_tries (eye : Nat) :
    let u := atTime (port s g).acqNext s
    let p := port s g
    let keep := p.blockLock && p.cwLock && p.frameLock
    execAcquirePeakTimer g eye s = .next (lockNote g (setPort g (fun p => { p with
      eye := eye, acqNext := u.now + 200 * usPs, acqTried := if keep then p.acqTried else p.acqTried + 1,
      devPeak := if keep then p.devPeak else p.acqTried % 16 }) u)) :=
  if_neg (not_not_intro acquire)

theorem execAcquireRateTimer_givesUp (tried : (port s g).acqHalfTried = true) : execAcquireRateTimer g s
    = .next (linkTo g .offline 7 (setPort g (fun p => { p with half := false }) (atTime (port s g).acqEnd s))) :=
  (if_neg (not_not_intro acquire)).trans (if_pos tried)

/-- A port that begins to acquire at half rate at time `now`: every lock dropped, its first peaking setting next (R228). -/
def Port.halfRate (peak now : Nat) (p : Port) : Port :=
  { txReset (rxReset p) with
    half := true, acqHalfTried := true, devPeak := peak, acqTried := 0, acqNext := now + 200 * usPs, acqEnd := now + 8 * msPs }

theorem execAcquireRateTimer_halves (untried : (port s g).acqHalfTried = false) :
    let u := atTime (port s g).acqEnd s
    execAcquireRateTimer g s = .next (setPort g (.halfRate (firstPeak u g) u.now) u) :=
  (if_neg (not_not_intro acquire)).trans (if_neg (by simp [untried]))

end

/-! Retries and the fast exit. -/

theorem execOfflineRetryTimer_retries (offline : (port s g).st = .offline) :
    execOfflineRetryTimer g s = .next (linkTo g .acquire 7 (atTime ((port s g).since + 10000 * msPs) s)) :=
  if_neg (not_not_intro offline)

theorem execMgmtOnlyRetryTimer_retries (mgmtOnly : (port s g).st = .mgmtOnly) :
    execMgmtOnlyRetryTimer g s = .next (linkTo g .acquire 7 (atTime ((port s g).since + 60000 * msPs) s)) :=
  if_neg (not_not_intro mgmtOnly)

theorem execFastExitTimeout_reacquires {t : Nat} (idle : (port s g).st = .idle) (exiting : (port s g).exitAt = some t) :
    execFastExitTimeout g s = .next (linkTo g .acquire 7 (atTime t s)) := by
  simp only [execFastExitTimeout, idle, exiting]

/-! The error window. -/

/-- The uplink's symbols corrected or codewords not correctable in a window are beyond their thresholds (R232). -/
def Port.upBeyond (p : Port) : Bool := decide (p.retrainCorr < p.wUpCorr ∨ p.uncorrLimit ≤ p.wUpUnc)

/-- The downlink's are. -/
def Port.downBeyond (p : Port) : Bool := decide (p.retrainCorr < p.wDnCorr ∨ p.uncorrLimit ≤ p.wDnUnc)

/-- The state when a lane's window has ended, its eye height is measured and the next window has begun. -/
def windowEnded (g eye : Nat) (s : State) : State :=
  windowRestart g (setPort g (fun p => { p with eye := eye }) (atTime ((port s g).winStart + (port s g).windowMs * msPs) s))

/-- The event EV_LINK_ERRORS of a lane whose window gave the values of `p` (Table 7.18). -/
def errorsRaised (g : Nat) (p : Port) (s : State) : State :=
  raise 0x0603 g 0 (stationLine s (stOf g)) (b2n p.upBeyond + 2 * b2n p.downBeyond) (p.wUpCorr + p.wDnCorr) (p.wUpUnc + p.wDnUnc) s

/-- A lane's retrain waits for its station's gap, once (R232, R233). -/
def retrainAsked (g : Nat) (s : State) : State :=
  if gapHas s (.retrain g) then s else gapPend (.retrain g) (some (1 <<< stOf g)) none s

section
variable (online : (port s g).st = .online) (eye : Nat)
include online

theorem execLinkErrorWindow_within (up : (port s g).upBeyond = false) (down : (port s g).downBeyond = false) :
    execLinkErrorWindow g eye s = .next (windowEnded g eye s) :=
  (if_neg (not_not_intro online)).trans (if_pos (show (!(port s g).upBeyond && !(port s g).downBeyond) = true by simp [up, down]))

theorem execLinkErrorWindow_beyond (beyond : (port s g).upBeyond = true ∨ (port s g).downBeyond = true) :
    execLinkErrorWindow g eye s = .next (retrainAsked g (errorsRaised g (port s g) (windowEnded g eye s))) :=
  (if_neg (not_not_intro online)).trans
    (if_neg (show ¬ (!(port s g).upBeyond && !(port s g).downBeyond) = true by rcases beyond with h | h <;> simp [h]))

end

/-! IDLE_ENTER_RX. -/

theorem execIdleEnterRx_notes {bytes : List Byte} (sound : setOk 0xB7 bytes = true) (idle : (port s g).st = .idle) :
    execIdleEnterRx { lane := g, bytes := bytes } s = .next (setPort g (fun p => { p with idleRx := true }) s) :=
  congrArg _ (if_pos (by simp [sound, idle]))

theorem execIdleEnterRx_ignored {bytes : List Byte} (ignored : setOk 0xB7 bytes = false ∨ (port s g).st ≠ .idle) :
    execIdleEnterRx { lane := g, bytes := bytes } s = .next s :=
  congrArg _ (if_neg (by rcases ignored with h | h <;> simp [h]))

end

/-- Settles O30: each timer's cases are the lemmas above; what half rate leaves is read back from the port that it set. -/
theorem laneTimersRunTheLink : Obligations.LaneTimersRunTheLink := by
  unfold Obligations.LaneTimersRunTheLink
  intro s g
  refine ⟨execProbeTimer_probes, fun q t => execProbeTimeout_drops, fun eye acquire => execAcquirePeakTimer_tries acquire eye, ?rate,
    execOfflineRetryTimer_retries, execMgmtOnlyRetryTimer_retries, fun t => execFastExitTimeout_reacquires, ?window,
    fun bytes => ⟨execIdleEnterRx_notes, execIdleEnterRx_ignored⟩⟩
  case rate =>
    intro acquire
    refine ⟨execAcquireRateTimer_givesUp acquire, fun untried known => ⟨_, execAcquireRateTimer_halves acquire untried, rfl, ?_⟩⟩
    rw [port_setPort_same g _ _ (show g < (atTime (port s g).acqEnd s).link.ports.length from known)]
    exact ⟨rfl, rfl, rfl, rfl, rfl, rfl, acquire, fun h other => port_setPort_ne g h _ _ other.symm⟩
  case window =>
    intro eye online
    exact ⟨execLinkErrorWindow_within online eye, execLinkErrorWindow_beyond online eye⟩

end Sys2Proof.Machine
end

section
/-! SUPPORT. What a head-link lane sends and receives: each row where the lane stands in its case, and what it does (R208, R215, R216, R219, R221
to R226). -/

namespace Sys2Proof.Machine

section
variable {s : State} {g : Nat}

/-! Sending. -/

/-- LINE_FRAME_START of a lane with a built frame takes it at the end of the frame in progress, counts it, and sends it (R215, R216). -/
theorem execLineFrameStart_sends {f : LineFrame} {t : List LineFrame} (frames : (port s g).frames = f :: t) (poison : Bool) :
    let u := tick 0x0602 g (atTime (port s g).busyUntil (setPort g (fun p => { p with frames := t }) s))
    let v := bump 0x0508 g (b2n f.supA + b2n f.supB) (when poison (tick 0x0603 g) u)
    execLineFrameStart g poison s = .next (txFrame g (lineBytes f poison) (some (unsig f.k 32))
      (((rowPages v g f.imgA ++ rowPages v g f.imgB).head?.map (fun p => p.id.toNat)).getD 0) v.now v) := by
  simp only [execLineFrameStart, frames]

/-- PRBS_SLOT_SEND of a lane whose slot is allowed once the frames that wait have gone, its station tracked: the slot goes out at once (R225). -/
theorem execPrbsSlotSend_sends (allowed : slotAllowed (txDrain g s) g = true) (tracked : (trk (txDrain g s) (stOf g)).en = true) :
    execPrbsSlotSend g s = .next (prbsSlot g (txDrain g s)) := by
  simp [execPrbsSlotSend, allowed, tracked]

/-! Codewords before codeword lock. -/

/-- How many data blocks are among a codeword's blocks. -/
def dataBlocks (ws : List Bool) : Nat := countBy (fun (b : Bool × Bool × List Bool) => !(b.1 && !b.2.1)) (blocksOf ws.length ws)

/-- The state when the sync headers of a codeword's blocks have been judged (R226, R228). -/
def headersJudged (g : Nat) (ws : List Bool) (s : State) : State :=
  forList (blocksOf ws.length ws) s (fun b s => if listens (port s g) then hdrNote g (b.1 != b.2.1) s else s)

/-- The descrambler's new state and the payloads of a codeword's blocks on a lane with nothing injected. -/
def codewordPayloads (g : Nat) (ws : List Bool) (s : State) : List Bool × List (Bool × List Bool) :=
  payloads (port (headersJudged g ws s) g).descr (blocksOf ws.length ws) []

/-- The state when a codeword's blocks have been descrambled. -/
def codewordTaken (g : Nat) (ws : List Bool) (s : State) : State :=
  setPort g (fun p => { p with descr := (codewordPayloads g ws s).1, flips := [] }) (headersJudged g ws s)

/-- A codeword counted: one corrected in `n` symbols as good, with lock at the third in a row, and one that cannot be corrected as bad (R208). -/
def codewordCounted (g : Nat) (s : State) : Option Nat → State
  | some n => lockNote g (setPort g (fun p => { p with cwBad := 0, cwGood := p.cwGood + 1, cwLock := p.cwLock || decide (3 ≤ p.cwGood + 1) })
      (setPort g (fun p => { p with wUpCorr := satAdd 32 p.wUpCorr n }) (bump 0x0600 g n s)))
  | none => setPort g (fun p => { p with cwBad := p.cwBad + 1, cwGood := 0 })
      (setPort g (fun p => { p with wUpUnc := satAdd 16 p.wUpUnc 1 }) (tick 0x0601 g s))

/-- A lane that takes the blocks `ws` as a codeword without having codeword lock: it listens in block lock, also once their headers are
judged, 85 of them are data blocks, and nothing is injected. -/
structure TakesUnlocked (g : Nat) (ws : List Bool) (s : State) : Prop where
  before : listens (port s g) = true ∧ (port s g).blockLock = true
  whole : dataBlocks ws = 85
  after : listens (port (headersJudged g ws s) g) = true ∧ (port (headersJudged g ws s) g).blockLock = true
  unlocked : (port (headersJudged g ws s) g).cwLock = false
  clean : (port (headersJudged g ws s) g).flips = []

theorem TakesUnlocked.arrives {ws : List Bool} (h : TakesUnlocked g ws s) :
    ¬ (!listens (port s g) || !(port s g).blockLock || decide (dataBlocks ws ≠ 85)) = true := by
  simp [h.before, h.whole]

theorem TakesUnlocked.stays {ws : List Bool} (h : TakesUnlocked g ws s) :
    ¬ (!listens (port (headersJudged g ws s) g) || !(port (headersJudged g ws s) g).blockLock) = true := by
  simp [h.after]

/-- Without codeword lock a codeword is decoded as it came and counted; its payload goes nowhere. -/
theorem execCodewordRx_counts {ws : List Bool} (takes : TakesUnlocked g ws s) :
    execCodewordRx g ws s = .next (codewordCounted g (codewordTaken g ws s) (decodeWord (codewordPayloads g ws s).2).2) := by
  refine (if_neg takes.arrives).trans ((if_neg takes.stays).trans ?_)
  simp only [← headersJudged.eq_1, takes.unlocked, takes.clean, Bool.false_and, Bool.false_eq_true, if_false, false_and,
    List.filter_nil, List.map_nil, ← codewordPayloads.eq_1, ← codewordTaken.eq_1]
  cases (decodeWord (codewordPayloads g ws s).2).2 with
  | some n => rfl
  | none => rfl

/-! Status frames. -/

section
variable {f : List (Byte × Bool)} {u : State}

section
variable (popped : popRx g 0x11 s = some (f, u))
include popped

theorem execStatusFrameRx_drops (corrupt : tailCrcOk (f.map (fun x => x.1)) = false) : execStatusFrameRx g s = .next u := by
  simp [execStatusFrameRx, popped, corrupt]

variable (sound : tailCrcOk (f.map (fun x => x.1)) = true) (held : linkHeld (port u g).st = true)
include sound held

theorem execStatusFrameRx_counts
    (silent : reports (port (dnCounts g (readStatus (f.map (fun x => x.1))) u) g).st = false) :
    let b := readStatus (f.map (fun x => x.1))
    execStatusFrameRx g s = .next (tileTemp g b false (dnCounts g b u)) := by
  simp [execStatusFrameRx, popped, sound, held, silent, forList]

/-- A status frame on a lane that reports whose rows are awaited gives the rows their results. -/
theorem execStatusFrameRx_givesResults :
    let b := readStatus (f.map (fun x => x.1))
    let v := dnCounts g b u
    let rows := statusRows g b v
    reports (port v g).st = true → rows ≠ [] → execStatusFrameRx g s
      = .next (forList rows (setPort g (fun p => { p with gapRun := 0 })
          (tileTemp g b (rows.any (fun r => r.2.1 == 7 || r.2.2 == 7)) v)) (fun r s => rowResults g r.1 r.2.1 r.2.2 s)) := by
  intro b v rows reporting awaited
  simp [execStatusFrameRx, popped, sound, held, b, v, rows, reporting, awaited]

end

/-! Management. -/

section
variable (popped : popRx g 0x12 s = some (f, u))
include popped

theorem execMgmtResponseRx_drops (corrupt : tailCrcOk (f.map (fun x => x.1)) = false) : execMgmtResponseRx g s = .next u := by
  simp [execMgmtResponseRx, popped, corrupt]

theorem execMgmtResponseRx_ends {r : MgmtReq} (sound : tailCrcOk (f.map (fun x => x.1)) = true)
    (asked : (port u g).mgmt.find? (fun r => r.seq == leAt (f.map (fun x => x.1)) 7 1) = some r) :
    let b := f.map (fun x => x.1)
    execMgmtResponseRx g s = .next (mgmtUse g r (leAt b 9 1) (slice b 16 (leAt b 10 2))
      (mgmtNext g (setPort g (fun p => { p with mgmt := p.mgmt.filter (fun q => q.seq != r.seq) }) u))) := by
  simp [execMgmtResponseRx, popped, sound, asked]

end

section
variable {r : MgmtReq} (outstanding : (port s g).mgmt = [r])
include outstanding

theorem execMgmtRetryTimeout_resends (again : r.sends < 4) :
    let u := atTime r.due s
    execMgmtRetryTimeout g s = .next (txOther g (mgmtBytes g r) (setPort g (fun p => { p with
      mgmt := p.mgmt.map (fun q => if q.seq = r.seq then { q with sends := q.sends + 1, due := u.now + 100 * usPs } else q) }) u)) := by
  simp only [execMgmtRetryTimeout, outstanding]
  exact if_pos again

theorem execMgmtRetryTimeout_fails (spent : 4 ≤ r.sends) :
    let v := setPort g (fun p => { p with mgmt := p.mgmt.filter (fun q => q.seq != r.seq) }) (atTime r.due s)
    execMgmtRetryTimeout g s = .next (mgmtNext g (mgmtFailed g r
      (raise 0x0604 g 0 (stationLine v (stOf g)) r.op r.addr r.seq (tick 0x0607 g v)))) := by
  simp only [execMgmtRetryTimeout, outstanding]
  exact if_neg (Nat.not_lt.mpr spent)

end

/-! PRBS slots. -/

/-- The check of a received byte of a PRBS slot: its bits where its codeword decoded, else a byte passed over (R224). -/
def prbsByte (pattern : Nat) (c : PrbsCount) (b : Byte × Bool) : PrbsCount :=
  if b.2 then (lsbBits 8 b.1.toNat).foldl (prbsCheck pattern) c else { c with chk := prbsSkip pattern c.chk 8 }

section
variable (popped : popRx g 0x04 s = some (f, u))
include popped

theorem execPrbsSlotRx_off (off : (port u g).prbs = 1) : execPrbsSlotRx g s = .next u := by
  simp only [execPrbsSlotRx, popped]
  exact if_pos off

theorem execPrbsSlotRx_checks (on : (port u g).prbs ≠ 1) :
    let c := (f.drop 6).foldl (prbsByte (port u g).prbs) { chk := (port u g).prbsChk }
    execPrbsSlotRx g s = .next (bump 0x060B g c.errs (bump 0x060A g c.bits (setPort g (fun p => { p with
      prbsLost := p.prbsLost + countBy (fun (b : Byte × Bool) => !b.2) (f.drop 6), prbsChk := c.chk
      wBits := satAdd 64 p.wBits c.bits, wErrs := satAdd 32 p.wErrs c.errs }) u))) := by
  simp only [execPrbsSlotRx, popped]
  exact if_neg on

end
end

/-! Echoes. -/

/-- A lane that reports is not measuring its round trip. -/
theorem ne_measure_of_reports {l : LinkSt} (reporting : reports l = true) : l ≠ .measure := by
  rintro rfl
  exact absurd reporting (by decide)

section
variable {bytes : List Byte} {q : Nat × Nat} (probe : (port s g).probes.find? (fun q => q.1 == leAt bytes 2 2) = some q)
include probe

/-- The time of a good echo within 10 µs, less its wait for its block boundary (log entry 88), is a reporting lane's new round trip (R219). -/
theorem execEchoRx_measures {t : Nat} (sound : setOk 0xB6 bytes = true) (inTime : t ≤ q.2 + 10 * usPs)
    (reporting : reports (port s g).st = true) :
    execEchoRx g bytes t s = .next (latencyNew g (t - q.2 - echoWait (bits (leAt bytes 1 1) 0 6))
      (setPort g (fun p => { p with probes := p.probes.filter (fun x => x.1 != q.1) }) (atTime t s))) := by
  simp [execEchoRx, probe, sound, Nat.not_lt.mpr inTime, ne_measure_of_reports reporting, reporting]

theorem execEchoRx_ignores {t : Nat} (corrupt : setOk 0xB6 bytes = false) : execEchoRx g bytes t s = .next s := by
  simp [execEchoRx, probe, corrupt]

end
end

/-- Settles O29: each row's cases are the lemmas above; a codeword's are whether it can be corrected. -/
theorem lanesSendAndReceive : Obligations.LanesSendAndReceive := by
  unfold Obligations.LanesSendAndReceive
  intro s g
  refine ⟨fun f t poison frames => execLineFrameStart_sends frames poison, execPrbsSlotSend_sends, fun hs => rfl, ?codeword, ?status,
    ?response, ?retry, ?slot, ?echo⟩
  case codeword =>
    intro ws bs u pl hears lock whole stillHears stillLock unlocked clean v
    refine (execCodewordRx_counts ⟨⟨hears, lock⟩, whole, ⟨stillHears, stillLock⟩, unlocked, clean⟩).trans ?_
    show Host.Outcome.next (codewordCounted g v (decodeWord pl.2).2) = _
    split
    case h_1 n corrected => rw [corrected, codewordCounted]
    case h_2 failed => rw [failed, codewordCounted]
  case status =>
    intro f u popped
    exact ⟨execStatusFrameRx_drops popped, execStatusFrameRx_counts popped, execStatusFrameRx_givesResults popped⟩
  case response =>
    intro f u popped
    exact ⟨execMgmtResponseRx_drops popped, fun r => execMgmtResponseRx_ends popped⟩
  case retry =>
    intro r outstanding
    exact ⟨execMgmtRetryTimeout_resends outstanding, execMgmtRetryTimeout_fails outstanding⟩
  case slot =>
    intro f u popped
    exact ⟨execPrbsSlotRx_off popped, execPrbsSlotRx_checks popped⟩
  case echo =>
    intro bytes t q probe
    exact ⟨execEchoRx_measures probe, execEchoRx_ignores probe⟩

end Sys2Proof.Machine
end

section
/-! SUPPORT. The link commands once the firmware has taken them: what each reads is not changed by taking the slot, and what each answers (R227,
R230, R231, R237 to R239). -/

namespace Sys2Proof.Machine

@[simp] theorem taken_port (s : State) (g : Nat) : port (taken s) g = port s g := rfl

section
variable {s : State} {n : Nat} {ws : List Word}

/-! LINK.STATUS and LINK.ERRORS. -/

theorem execLinkStatus_reports (a : Accepts s 0x0601 [0x7F] n ws) (lane : par ws 2 < 96) :
    ∃ r, r.length = 4 ∧ execLinkStatus s = .next (okReply n r (taken s)) :=
  ⟨_, rfl, serve_next_ok a rfl (if_neg (Nat.not_le.mpr lane))⟩

theorem execLinkErrors_reports (a : Accepts s 0x0605 [0x7F] n ws) (lane : par ws 2 < 96) :
    let p := port s (par ws 2)
    execLinkErrors s = .next (okReply n ([p.wUpCorr, p.wDnCorr, fld p.wUpUnc 0 16 + fld p.wDnUnc 16 16] ++ two p.wBits
      ++ [p.wErrs, (s.now - p.winStart) / msPs]) (windowRestart (par ws 2) (taken s))) :=
  serve_next_ok a rfl (if_neg (Nat.not_le.mpr lane))

/-! LINK.TRAIN. -/

/-- The lanes that LINK.TRAIN names: one, or its station's that are ONLINE besides. -/
def trainTiles (ws : List Word) (s : State) : List Nat :=
  let g := bits (par ws 2) 0 7
  if bitOf (par ws 2) 8 then (tilesOf (stOf g)).filter (fun h => (port s h).st == .online || h == g) else [g]

/-- Those lanes as a mask of the station's tiles. -/
def trainNamed (ws : List Word) (s : State) : Nat := maskOf ((trainTiles ws s).map (fun h => h % 16))

/-- The state with a retrain of each of those lanes waiting for the station's gap, save where one waits or is under way (log entry 36). -/
def trainsPended (ws : List Word) (s : State) : State :=
  forList (trainTiles ws s) s (fun h s => if gapHas s (.retrain h) || (port s h).st == .retrain then s
    else gapPend (.retrain h) (some (1 <<< stOf (bits (par ws 2) 0 7))) none s)

/-- The state with a LINK.TRAIN entered among those that wait for their lanes (R239). -/
def trainEntered (st named : Nat) (s : State) : State :=
  { s with link := { s.link with trains := s.link.trains ++ [{ oid := s.host.nextOid, station := st, named := named, left := named }] } }

section
variable (a : Accepts s 0x0602 [0x17F] n ws) (lane : bits (par ws 2) 0 7 < 96) (online : (port s (bits (par ws 2) 0 7)).st = .online)
include a lane online

/-- LINK.TRAIN of an ONLINE lane answers by whether its station has a live page (R237). -/
theorem execLinkTrain_answers : execLinkTrain s = .next (answer n ws s.host.nextOid (
    if !stationLive s (stOf (bits (par ws 2) 0 7)) then { st := trainsPended ws (taken s), results := [trainNamed ws s] }
    else { st := trainEntered (stOf (bits (par ws 2) 0 7)) (trainNamed ws s) (trainsPended ws (taken s)), status := stDeferred })) :=
  congrArg _ ((serve_run _ _ _ _ s n ws a rfl).trans (congrArg _ ((if_neg (Nat.not_le.mpr lane)).trans
    (if_neg (fun h => h.1 online)))))

theorem execLinkTrain_completes (idle : stationLive s (stOf (bits (par ws 2) 0 7)) = false) :
    execLinkTrain s = .next (okReply n [trainNamed ws s] (trainsPended ws (taken s))) :=
  (execLinkTrain_answers a lane online).trans (congrArg _ (congrArg _ (if_pos (by simp [idle]))))

theorem execLinkTrain_defers (live : stationLive s (stOf (bits (par ws 2) 0 7)) = true) :
    execLinkTrain s = .next (deferredReply n ws s.host.nextOid
      (trainEntered (stOf (bits (par ws 2) 0 7)) (trainNamed ws s) (trainsPended ws (taken s)))) :=
  (execLinkTrain_answers a lane online).trans (congrArg _ (congrArg _ (if_neg (by simp [live]))))

end

/-! LINK.CONFIG. -/

/-- A port as LINK.CONFIG's words set it: a field that is 0 leaves its value, and a new pattern starts its generator and checker again (R238). -/
def Port.configured (ws : List Word) (p : Port) : Port :=
  { p with
    swingNext := orKeep (bits (par ws 3) 0 5) p.swingNext, preNext := orKeep (bits (par ws 3) 8 4) p.preNext,
    postNext := orKeep (bits (par ws 3) 16 5) p.postNext, prbs := orKeep (bits (par ws 4) 0 3) p.prbs,
    retrainCorr := orKeep (bits (par ws 5) 0 24) p.retrainCorr,
    prbsChk := if bits (par ws 4) 0 3 = 0 then p.prbsChk else {},
    prbsReg := if bits (par ws 4) 0 3 = 0 then p.prbsReg else List.replicate 31 true,
    uncorrLimit := orKeep (bits (par ws 6) 0 8) p.uncorrLimit, windowMs := orKeep (bits (par ws 6) 8 16) p.windowMs }

theorem execLinkConfig_sets (a : Accepts s 0x0603 [0x17F, 0x1F0F1F, 7, 0xFFFFFF, 0xFFFFFF] n ws) (legal : linkConfigOk ws = true)
    (one : bitOf (par ws 2) 8 = false) :
    execLinkConfig s = .next (okReply n [] (setPort (bits (par ws 2) 0 7) (.configured ws) (taken s))) := by
  refine serve_next_ok a rfl ((if_neg (by simp [legal])).trans ?_)
  simp only [one]
  rfl

/-! LINK.ENABLE. -/

/-- The lanes of LINK.ENABLE's mask whose state is wanted. -/
def lanesIn (ws : List Word) (want : LinkSt → Bool) (s : State) : List Nat := (maskLanes ws).filter (fun g => want (port s g).st)

/-- An IDLE lane lets its exit run for at most 100 µs (R231). -/
def laneExit (g : Nat) (s : State) : State := setPort g (fun p => { p with exitAt := some (s.now + 100 * usPs) }) s

/-- Some lane of LINK.ENABLE's mask belongs to a station with a live page. -/
def namesLive (ws : List Word) (s : State) : Bool := (maskLanes ws).any (fun g => stationLive s (stOf g))

section
variable (a : Accepts s 0x0604 [3, allBits, allBits, allBits] n ws)
include a

theorem execLinkEnable_off (action : par ws 2 % 4 = 0) (idle : namesLive ws s = false) :
    execLinkEnable s = .next (okReply n (laneWords (lanesIn ws offable s)) (lanesOff (lanesIn ws offable s) (taken s))) := by
  refine serve_next_ok a rfl ?_
  simp only [action]
  exact if_neg (by simpa [namesLive] using idle)

theorem execLinkEnable_on (action : par ws 2 % 4 = 1) :
    execLinkEnable s = .next (okReply n (laneWords (lanesIn ws (· == .off) s)) (forList (lanesIn ws (· == .off) s) (taken s) laneOn)) := by
  refine serve_next_ok a rfl ?_
  simp only [action]
  rfl

theorem execLinkEnable_idles (action : par ws 2 % 4 = 2) (idle : namesLive ws s = false) :
    execLinkEnable s
      = .next (okReply n (laneWords (lanesIn ws (· == .online) s)) (forList (lanesIn ws (· == .online) s) (taken s) laneIdle)) := by
  refine serve_next_ok a rfl ?_
  simp only [action]
  exact if_neg (by simpa [namesLive] using idle)

theorem execLinkEnable_exits (action : par ws 2 % 4 = 3) :
    execLinkEnable s
      = .next (okReply n (laneWords (lanesIn ws (· == .idle) s)) (forList (lanesIn ws (· == .idle) s) (taken s) laneExit)) := by
  refine serve_next_ok a rfl ?_
  simp only [action]
  rfl

/-- Neither off nor idle is done to the lanes of a station with a live page (R230, R239). -/
theorem execLinkEnable_liveRefused (action : par ws 2 % 4 = 0 ∨ par ws 2 % 4 = 2) (live : namesLive ws s = true) :
    execLinkEnable s = .next (respond n stPageLocked [] (taken s)) := by
  refine serve_next_refused a rfl ?_ (by decide) (by decide)
  rcases action with off | idle
  · simp only [off]
    exact if_pos live
  · simp only [idle]
    exact if_pos live

end
end

/-- Settles O31: each command's cases are the lemmas above; what LINK.CONFIG leaves is read back from the port that it set. -/
theorem linkCommandsComplete : Obligations.LinkCommandsComplete := by
  unfold Obligations.LinkCommandsComplete
  intro s n ws
  refine ⟨execLinkStatus_reports, ?train, ?config, ?enable, execLinkErrors_reports⟩
  case train =>
    intro a g st tiles named u lane online
    exact ⟨execLinkTrain_completes a lane online, execLinkTrain_defers a lane online⟩
  case config =>
    intro a legal one g known
    refine ⟨_, execLinkConfig_sets a legal one, fun h other => port_setPort_ne g h _ _ other.symm, ?_⟩
    rw [port_setPort_same g _ _ (show g < (taken s).link.ports.length from known)]
    exact ⟨rfl, rfl, rfl, rfl, rfl, rfl, rfl, rfl⟩
  case enable =>
    intro a lanes sel live
    exact ⟨execLinkEnable_off a, execLinkEnable_on a, execLinkEnable_idles a, execLinkEnable_exits a, execLinkEnable_liveRefused a⟩

end Sys2Proof.Machine
end

section
/-! SUPPORT. The tile commands and persistent records: what each command answers once the firmware has taken it, and what the rows of a tile's
power delay and of a record's write do (R248, R249, R250, R256, R257, R267). -/

namespace Sys2Proof.Machine

@[simp] theorem taken_newMargins (s : State) (st w h y : Nat) : newMargins (taken s) st w h y = newMargins s st w h y := rfl

/-- The state with slot `n` ACTIVE: its command answers when the tile does (log entry 39). -/
def heldActive (n : Nat) (s : State) : State :=
  { s with host := { s.host with slots := updAt s.host.slots n (fun q => { q with st := .active }) }
           active := s.active.map (fun c => { c with slot := n }) }

/-- The next state of an accepted command whose work answers later: its slot stays ACTIVE. -/
theorem serve_next_held {code : Nat} {cls : CmdClass} {masks : List Nat} {body : List Word → State → Ans} {s u : State} {n : Nat}
    {ws : List Word} (a : Accepts s code masks n ws) (k : knownCode code = true) (b : body ws (taken s) = { st := u, hold := true }) :
    (.next (serve code cls masks body s) : Host.Outcome State Fault Refusal) = .next (heldActive n u) := by
  rw [serve_run code cls masks body s n ws a k, b]
  rfl

section
variable {s : State} {n : Nat} {ws : List Word}

/-! TILE.INFO. -/

theorem execTileInfo_reports (a : Accepts s 0x0701 [0x7F] n ws) (lane : par ws 2 < 96) (header : (tileOf s (par ws 2)).hdr.isSome = true) :
    ∃ r, r.length = 11 ∧ execTileInfo s = .next (okReply n r (taken s)) := by
  obtain ⟨h, header⟩ := Option.isSome_iff_exists.mp header
  have read : (tileOf (taken s) (par ws 2)).hdr = some h := header
  rw [execTileInfo, serve_run _ _ _ _ s n ws a rfl]
  simp only [if_neg (Nat.not_le.mpr lane), read]
  exact ⟨_, by rfl, rfl⟩

/-! TILE.THERMAL. -/

/-- The state with a station's three thermal margins stored (R250). -/
def marginsSet (st : Nat) (m : Nat × Nat × Nat) (s : State) : State := { s with tile := { s.tile with margins := s.tile.margins.set st m } }

/-- A tile is told its new thresholds now where its link holds, else when it is next ONLINE (R250; log entry 39). -/
def thresholdsTell (g : Nat) (s : State) : State :=
  if linkHeld (port s g).st then thresholdsOut g s else setTile g (fun t => { t with thrDue := true }) s

/-- The station's tiles that take thresholds: those of design generation 2 (R250). -/
def tilesGen2 (st : Nat) (s : State) : List Nat := (tilesOf st).filter (fun g => ((tileOf s g).hdr.map (fun h => h.gen == 2)).getD false)

/-- The state with a station's new margins stored and its tiles told (R250). -/
def thermalSet (st : Nat) (m : Nat × Nat × Nat) (s : State) : State :=
  forList (tilesGen2 st (marginsSet st m s)) (marginsSet st m s) thresholdsTell

theorem execTileThermal_one (a : Accepts s 0x0702 [0x3F, allBits, 0xFFFF] n ws) {st : Nat} (one : bitList 6 (par ws 2) = [st]) :
    let m := newMargins s st (bits (par ws 3) 0 16) (bits (par ws 3) 16 16) (par ws 4)
    marginsOk m = true →
    execTileThermal s = .next (okReply n [fld (marginsOf (thermalSet st m (taken s)) st).1 0 16
        + fld (marginsOf (thermalSet st m (taken s)) st).2.1 16 16, (marginsOf (thermalSet st m (taken s)) st).2.2]
      (thermalSet st m (taken s))) := by
  intro m legal
  have legal : ¬ (!([st].all fun st => marginsOk (newMargins (taken s) st (bits (par ws 3) 0 16) (bits (par ws 3) 16 16) (par ws 4)))) = true := by
    simpa using legal
  refine serve_next_ok a rfl ?_
  simp only [one]
  exact (if_neg legal).trans (by simp only [List.map_cons, List.map_nil, List.flatten_cons, List.flatten_nil, List.append_nil]; rfl)

/-! TILE.MEM. -/

/-- The management request that TILE.MEM sends to the host area of a tile's memory (Table 8.12). -/
def memRequest (ws : List Word) (s : State) : State :=
  let write := bitOf (par ws 2) 8
  mgmtSend (bits (par ws 2) 0 7) (if write then 2 else 1) (0xA000 + par ws 3) (par ws 4) (if write then memData ws (par ws 4) else []) .hostMem
    { s with active := some { slot := 0, lane := bits (par ws 2) 0 7, write := write } }

theorem execTileMem_sends (a : Accepts s 0x0703 ([0x17F, 0x1FFF, 0xFF] ++ List.replicate 56 allBits) n ws) (lane : bits (par ws 2) 0 7 < 96)
    (nonempty : 1 ≤ par ws 4) (fits : par ws 4 ≤ 224) (inside : par ws 3 + par ws 4 ≤ 8192)
    (standard : (port s (bits (par ws 2) 0 7)).legacy = false) (linked : linkHeld (port s (bits (par ws 2) 0 7)).st = true) :
    execTileMem s = .next (heldActive n (memRequest ws (taken s))) := by
  have legal : ¬ (96 ≤ bits (par ws 2) 0 7 ∨ par ws 4 = 0 ∨ 224 < par ws 4 ∨ 8192 < par ws 3 + par ws 4) := by omega
  exact serve_next_held a rfl ((if_neg legal).trans ((if_neg (by simp [standard])).trans (if_neg (by simp [linked]))))

/-! REC.DISCARD. -/

theorem execRecDiscard_discards (a : Accepts s 0x0704 [7, 0xFFFF] n ws) (place : locOk (par ws 2) (par ws 3) = true) :
    execRecDiscard s = .next (okReply n [] (recDiscard (par ws 2) (par ws 3) (taken s))) :=
  serve_next_ok a rfl (if_neg (by simp [place]))

/-! TILE.POWER. -/

/-- The delay that TILE.POWER asks for, in ms: 0 stands for 100 (R257). -/
def powerDelay (ws : List Word) : Nat := if par ws 3 = 0 then 100 else par ws 3

/-- A sideband driven on, its delay running to `t`. -/
def TileSideband.turnedOn (high : Bool) (t : Nat) (b : TileSideband) : TileSideband :=
  { b with driven := true, on := true, activeHigh := high, delayEnd := some t }

/-- A sideband driven off, no delay running. -/
def TileSideband.turnedOff (high : Bool) (b : TileSideband) : TileSideband :=
  { b with driven := true, on := false, activeHigh := high, delayEnd := none }

section
variable (a : Accepts s 0x0705 [0x307, 0x3FF] n ws) (station : bits (par ws 2) 0 3 < 6) (short : powerDelay ws ≤ 1000)
include a station short

theorem execTilePower_on (on : bitOf (par ws 2) 8 = true) :
    execTilePower s = .next (okReply n [] (setTsb (bits (par ws 2) 0 3)
      (.turnedOn (bitOf (par ws 2) 9) (s.now + powerDelay ws * msPs)) (taken s))) :=
  serve_next_ok a rfl ((if_neg (by simpa [powerDelay] using ⟨station, short⟩)).trans (if_pos on))

theorem execTilePower_off (off : bitOf (par ws 2) 8 = false) (idle : stationLive s (bits (par ws 2) 0 3) = false) :
    execTilePower s = .next (okReply n [] (lanesOff ((tilesOf (bits (par ws 2) 0 3)).filter (fun g => (port s g).st != .off))
      (setTsb (bits (par ws 2) 0 3) (.turnedOff (bitOf (par ws 2) 9)) (taken s)))) :=
  serve_next_ok a rfl ((if_neg (by simpa [powerDelay] using ⟨station, short⟩)).trans ((if_neg (by simp [off])).trans (if_neg (by simp [idle]))))

/-- A station with a live page is not turned off (R257). -/
theorem execTilePower_liveRefused (off : bitOf (par ws 2) 8 = false) (live : stationLive s (bits (par ws 2) 0 3) = true) :
    execTilePower s = .next (respond n stPageLocked [] (taken s)) :=
  serve_next_refused a rfl ((if_neg (by simpa [powerDelay] using ⟨station, short⟩)).trans ((if_neg (by simp [off])).trans
    (if_pos (by simp [live])))) (by decide) (by decide)

end

/-- When the delay that runs has ended, the station's 16 lanes are turned on (R257). -/
theorem execTilePowerDelayExpiry_powers {st t : Nat} (runs : (s.tile.tsb[st]?).bind TileSideband.delayEnd = some t) :
    execTilePowerDelayExpiry st s
      = .next (forList (tilesOf st) (setTsb st (fun x => { x with delayEnd := none }) (atTime t s)) laneOn) := by
  simp only [execTilePowerDelayExpiry, runs]

/-! RECORD_WRITE. -/

/-- The state no sooner than 10 s after a record's last write, if it was ever written (R249). -/
def tenSecondsAfter (last : Option Nat) (s : State) : State := last.elim s (fun t => atTime (t + 10000000000000) s)

section
variable {kind loc : Nat} {o : Nat × Nat} (changed : s.tile.dirty.contains { kind := kind, location := loc } = true)
  (may : recMayWrite s kind loc = true) (object : recObject s kind loc = some o)
include changed may object

theorem execRecordWrite_writes : execRecordWrite kind loc s
    = .next (recWrite kind loc o.1 o.2 (tenSecondsAfter (mapGet s.tile.lastWrite (kind * 65536 + loc)) s)) := by
  refine (if_neg (by simp only [changed, may]; decide)).trans ?_
  simp only [object]
  cases mapGet s.tile.lastWrite (kind * 65536 + loc) with
  | none => rfl
  | some t => rfl

theorem execRecordWrite_first (never : mapGet s.tile.lastWrite (kind * 65536 + loc) = none) :
    execRecordWrite kind loc s = .next (recWrite kind loc o.1 o.2 s) := by
  rw [execRecordWrite_writes changed may object, never]
  rfl

theorem execRecordWrite_again {t : Nat} (last : mapGet s.tile.lastWrite (kind * 65536 + loc) = some t) :
    execRecordWrite kind loc s = .next (recWrite kind loc o.1 o.2 (atTime (t + 10000000000000) s)) := by
  rw [execRecordWrite_writes changed may object, last]
  rfl

end
end

/-- Settles O32: each command's cases are the lemmas above, on the command's own row of `exec`. -/
theorem tileCommandsAndRecords : Obligations.TileCommandsAndRecords := by
  unfold Obligations.TileCommandsAndRecords
  intro s n ws
  refine ⟨execTileInfo_reports, fun a st one => execTileThermal_one a one, ?memory, execRecDiscard_discards, ?power,
    fun st t => execTilePowerDelayExpiry_powers, fun kind loc o changed may object => ?write⟩
  case memory =>
    intro a g wr lane nonempty fits inside standard linked
    exact execTileMem_sends a lane nonempty fits inside standard linked
  case power =>
    intro a st ms station short
    exact ⟨execTilePower_on a station short, execTilePower_off a station short, execTilePower_liveRefused a station short⟩
  case write => exact ⟨execRecordWrite_first changed may object, fun t => execRecordWrite_again changed may object⟩

end Sys2Proof.Machine
end

section
/-! SUPPORT. Consumables: what each command answers once the firmware has taken it, and what polls, timers and a chip's answers do to a slot
(R259 to R264, R267). -/

namespace Sys2Proof.Machine

theorem slotOf_setCons_same (i : Nat) (f : ConsSlot → ConsSlot) (s : State) (h : i < s.tile.slots.length) :
    slotOf (setCons i f s) i = f (slotOf s i) := getD_updAt_same _ _ _ _ h

section
variable {s : State} {n : Nat} {ws : List Word}

/-! CONS.STATUS and CONS.BIND. -/

theorem execConsStatus_reports (a : Accepts s 0x0710 [0x1F] n ws) :
    let c := slotOf s (par ws 2)
    execConsStatus s = .next (okReply n ([c.st.code + c.stations * 256] ++ two c.uid
      ++ [fld c.kind 0 8 + fld c.keyIdx 8 8, c.max, c.confirmed, c.pending]) (taken s)) :=
  serve_next_ok a rfl rfl

/-- A slot as CONS.BIND's words bind it: the accumulator goes on only under the same unit and divider (R262). -/
def ConsSlot.bound (ws : List Word) (c : ConsSlot) : ConsSlot :=
  { c with stations := bits (par ws 2) 8 6, byLines := bitOf (par ws 3) 0, div := par ws 4
           acc := if c.byLines = bitOf (par ws 3) 0 ∧ c.div = par ws 4 then c.acc else 0 }

theorem execConsBind_binds (a : Accepts s 0x0711 [0x3F1F, 1, allBits] n ws) (nonzero : 1 ≤ par ws 4) (most : par ws 4 ≤ 1000000000) :
    execConsBind s = .next (okReply n [] (setCons (bits (par ws 2) 0 5) (.bound ws) (taken s))) :=
  serve_next_ok a rfl (if_neg (by omega))

/-! CONS.AUTH. -/

/-- A slot that CONS.AUTH names: an EMPTY one has no chip to answer, another one authenticates (R260; log entry 42). -/
def authAsk (i : Nat) (s : State) : State := if (slotOf s i).st = .empty then authSettle i 0x0702 s else authStart i s

/-- The state with a CONS.AUTH of the slots of `mask` entered among those that wait (R267). -/
def authEntered (mask : Nat) (s : State) : State :=
  { s with tile := { s.tile with auths := s.tile.auths ++ [{ oid := s.host.nextOid, left := mask }] } }

theorem execConsAuth_starts (a : Accepts s 0x0712 [allBits] n ws) :
    execConsAuth s = .next (authDone (pendingReply n ws s.host.nextOid
      (forList (bitList 32 (par ws 2)) (authEntered (par ws 2) (taken s)) authAsk))) :=
  congrArg _ (congrArg _ (serve_later _ _ _ _ s n ws a rfl _ stPending rfl (.inr rfl)))

/-! CONS.OTP_KEY. -/

section
variable (a : Accepts s 0x0713 (7 :: List.replicate 16 allBits) n ws)
include a

theorem execConsOtpKey_storesRoot (root : par ws 2 < 4) (point : onCurve (beNat (octets ws 3 8)) (beNat (octets ws 11 8)) = true)
    (empty : s.tile.roots.getD (par ws 2) none = none) :
    execConsOtpKey s = .next (okReply n [] { taken s with tile := { s.tile with
      roots := s.tile.roots.set (par ws 2) (some (beNat (octets ws 3 8), beNat (octets ws 11 8))) } }) := by
  have free : ¬ ((taken s).tile.roots.getD (par ws 2) none).isSome = true := by rw [taken_tile, empty]; decide
  exact serve_next_ok a rfl ((if_neg (by omega)).trans ((if_neg (by omega)).trans ((if_neg (by simp [point])).trans (if_neg free))))

theorem execConsOtpKey_storesMaster (master : par ws 2 = 4) (zero : (octets ws 11 8).all (· == 0) = true) (empty : s.tile.master = none) :
    execConsOtpKey s = .next (okReply n [] { taken s with tile := { s.tile with master := some (octets ws 3 8) } }) := by
  have free : ¬ (taken s).tile.master.isSome = true := by simp [empty]
  exact serve_next_ok a rfl ((if_neg (by omega)).trans ((if_pos master).trans ((if_neg (by rw [zero]; decide)).trans (if_neg free))))

end
end

section
variable {s : State} {i : Nat}

/-! CONS_POLL, CONS_AUTH_TIMER and CONS_INCREMENT. -/

/-- The state with the next poll a quarter of a second away (R261). -/
def pollArmed (s : State) : State := { s with tile := { s.tile with nextPoll := s.now + 250 * msPs } }

theorem execConsPoll_polls (acks : Nat) (ready : fwReady s = true) :
    execConsPoll acks s = .next (authDone (forRange 32 (pollArmed (atTime s.tile.nextPoll s))
      (fun n s => pollSlot n (bitOf acks n) (recordRead n s)))) :=
  if_neg (by simp [ready])

theorem execConsAuthTimer_starts (ready : fwReady s = true) (chip : (slotOf s i).st ≠ .empty) (sound : (slotOf s i).st ≠ .failed) :
    execConsAuthTimer i s = .next (authStart i (atTime (slotOf s i).authAt s)) :=
  if_neg (by simp [ready, chip, sound])

/-- An AUTHENTICATED slot that is idle and holds charges sends them under a fresh nonce (R263). -/
theorem execConsIncrement_sends (ready : fwReady s = true) (passed : (slotOf s i).st = .authenticated) (charges : (slotOf s i).pending ≠ 0)
    (idle : (slotOf s i).req = .none) (key : s.tile.master.isSome = true) :
    execConsIncrement i s = .next (consSend i (setCons i (fun c => { c with
      req := .increment ((drawNat s).2 % 2 ^ 128) c.pending }) (drawNat s).1)) := by
  obtain ⟨k, key⟩ := Option.isSome_iff_exists.mp key
  exact if_neg (by simp [ready, passed, charges, idle, key])

/-! What a chip answers. -/

/-- A chip's bytes are a whole response: as long as they say, with the CRC of what they hold (R259). -/
def chipSound (data : List Byte) : Prop :=
  leAt data (3 + leAt data 1 2) 2 = crc16Ccitt (data.take (3 + leAt data 1 2)) ∧ data.length = leAt data 1 2 + 5

section
variable {data : List Byte} (asked : (slotOf s i).req ≠ .none)
include asked

/-- CONS_CHIP_RESPONSE of a slot whose request is under way goes by the bus, the chip's being busy and the CRC, in this order (R259). -/
theorem execConsChipResponse_asked (ok : Bool) : execConsChipResponse i data ok s =
    if !ok then .next (authDone (busError i s))
    else if leAt data 0 1 = 0xFF then .next (setCons i (fun c => { c with busy := c.busy + 1, retryAt := some (s.now + msPs) }) s)
    else if leAt data (3 + leAt data 1 2) 2 ≠ crc16Ccitt (data.take (3 + leAt data 1 2)) ∨ data.length ≠ leAt data 1 2 + 5 then
      if (slotOf s i).crcBad < 2 then .next (setCons i (fun c => { c with crcBad := c.crcBad + 1 }) s) else .next (authDone (busError i s))
    else .next (authDone (consAnswer i (leAt data 0 1) (slice data 3 (leAt data 1 2)) (setCons i (fun c => { c with busErrs := 0 }) s))) :=
  if_neg (by simp [asked])

theorem execConsChipResponse_busError : execConsChipResponse i data false s = .next (authDone (busError i s)) :=
  (execConsChipResponse_asked asked false).trans (if_pos rfl)

theorem execConsChipResponse_busy (busy : leAt data 0 1 = 0xFF) : execConsChipResponse i data true s
    = .next (setCons i (fun c => { c with busy := c.busy + 1, retryAt := some (s.now + msPs) }) s) :=
  (execConsChipResponse_asked asked true).trans ((if_neg (by decide)).trans (if_pos busy))

theorem execConsBusTimeout_busError : execConsBusTimeout i s = .next (authDone (busError i s)) := if_neg (by simp [asked])

section
variable (answers : leAt data 0 1 ≠ 0xFF)
include answers

theorem execConsChipResponse_uses (sound : chipSound data) : execConsChipResponse i data true s
    = .next (authDone (consAnswer i (leAt data 0 1) (slice data 3 (leAt data 1 2)) (setCons i (fun c => { c with busErrs := 0 }) s))) := by
  obtain ⟨crc, whole⟩ := sound
  refine (execConsChipResponse_asked asked true).trans ((if_neg (by decide)).trans ((if_neg answers).trans (if_neg ?_)))
  exact fun bad => bad.elim (fun other => other crc) (fun other => other whole)

variable (corrupt : ¬ chipSound data)
include corrupt

theorem execConsChipResponse_corrupt : execConsChipResponse i data true s =
    if (slotOf s i).crcBad < 2 then .next (setCons i (fun c => { c with crcBad := c.crcBad + 1 }) s) else .next (authDone (busError i s)) :=
  (execConsChipResponse_asked asked true).trans ((if_neg (by decide)).trans ((if_neg answers).trans (if_pos (Decidable.not_and_iff_not_or_not.mp corrupt))))

theorem execConsChipResponse_rereads (again : (slotOf s i).crcBad < 2) : execConsChipResponse i data true s
    = .next (setCons i (fun c => { c with crcBad := c.crcBad + 1 }) s) :=
  (execConsChipResponse_corrupt asked answers corrupt).trans (if_pos again)

theorem execConsChipResponse_givesUp (spent : 2 ≤ (slotOf s i).crcBad) : execConsChipResponse i data true s
    = .next (authDone (busError i s)) :=
  (execConsChipResponse_corrupt asked answers corrupt).trans (if_neg (Nat.not_lt.mpr spent))

end
end

/-! CONS_BUSY_RETRY. -/

/-- The state at a slot's retry, due at `t`, with the retry no longer awaited (R259). -/
def retryTaken (i t : Nat) (s : State) : State := setCons i (fun c => { c with retryAt := none }) (atTime t s)

section
variable {t : Nat} (due : (slotOf s i).retryAt = some t) (known : i < s.tile.slots.length)
include due known

/-- A busy chip is read again, unless it has been read 50 times (R259). -/
theorem execConsBusyRetry_due : execConsBusyRetry i s =
    if 50 ≤ (slotOf s i).busy then .next (authDone (busError i (retryTaken i t s))) else .next (retryTaken i t s) := by
  have busy : (slotOf (retryTaken i t s) i).busy = (slotOf s i).busy := by
    rw [retryTaken, slotOf_setCons_same _ _ _ (show i < (atTime t s).tile.slots.length from known)]
    rfl
  simp only [execConsBusyRetry, due, ← retryTaken.eq_1, busy]

theorem execConsBusyRetry_waits (again : (slotOf s i).busy < 50) : execConsBusyRetry i s = .next (retryTaken i t s) :=
  (execConsBusyRetry_due due known).trans (if_neg (Nat.not_le.mpr again))

theorem execConsBusyRetry_givesUp (spent : 50 ≤ (slotOf s i).busy) :
    execConsBusyRetry i s = .next (authDone (busError i (retryTaken i t s))) :=
  (execConsBusyRetry_due due known).trans (if_pos spent)

end
end

/-- Settles O34: each command's and each row's cases are the lemmas above. -/
theorem consumablesAreAuthenticated : Obligations.ConsumablesAreAuthenticated := by
  unfold Obligations.ConsumablesAreAuthenticated
  intro s n ws i
  refine ⟨execConsStatus_reports, execConsBind_binds, execConsAuth_starts, fun a => ⟨execConsOtpKey_storesRoot a,
    execConsOtpKey_storesMaster a⟩, execConsPoll_polls, execConsAuthTimer_starts, execConsIncrement_sends, ?response, ?retry⟩
  case response =>
    intro data asked k good
    exact ⟨execConsChipResponse_busError asked, execConsChipResponse_busy asked, execConsChipResponse_uses asked,
      execConsChipResponse_rereads asked, execConsChipResponse_givesUp asked, execConsBusTimeout_busError asked⟩
  case retry =>
    intro t due known u
    exact ⟨execConsBusyRetry_waits due known, execConsBusyRetry_givesUp due known⟩

end Sys2Proof.Machine
end

section
/-! SUPPORT. The arithmetic of a loop sample (R328), and the one coefficient write that a sample takes (R337). -/

namespace Sys2Proof.Machine

/-! Saturation and rounding. -/

theorem clampInt_eq_max_min {lo hi : Int} (h : lo ≤ hi) (x : Int) : clampInt lo hi x = max lo (min hi x) := by
  unfold clampInt
  split
  case isTrue below => omega
  case isFalse notBelow => split <;> omega

theorem sat16_eq_max_min (x : Int) : sat16 x = max (-32768) (min 32767 x) := clampInt_eq_max_min (by decide) x

theorem sat40_eq_max_min (x : Int) : sat40 x = max (-2 ^ 39) (min (2 ^ 39 - 1) x) := clampInt_eq_max_min (by decide) x

theorem sat40_below {x : Int} (below : x < -2 ^ 39) : sat40 x = -2 ^ 39 := by rw [sat40_eq_max_min]; omega

theorem sat40_above {x : Int} (above : 2 ^ 39 - 1 < x) : sat40 x = 2 ^ 39 - 1 := by rw [sat40_eq_max_min]; omega

theorem sat40_fits {x : Int} (least : -2 ^ 39 ≤ x) (most : x ≤ 2 ^ 39 - 1) : sat40 x = x := by rw [sat40_eq_max_min]; omega

/-- The product of two Q15 values is at most 2^30 in size. -/
theorem natAbs_mul_q15_le {a b : Int} (ha : a.natAbs ≤ 2 ^ 15) (hb : b.natAbs ≤ 2 ^ 15) : (a * b).natAbs ≤ 2 ^ 30 :=
  calc (a * b).natAbs = a.natAbs * b.natAbs := Int.natAbs_mul a b
    _ ≤ 2 ^ 15 * 2 ^ 15 := Nat.mul_le_mul ha hb
    _ = 2 ^ 30 := by decide

theorem sat40_mul_q15 {a b : Int} (aLeast : -32768 ≤ a) (aMost : a ≤ 32767) (bLeast : -32768 ≤ b) (bMost : b ≤ 32767) :
    sat40 (a * b) = a * b := by
  have size : (a * b).natAbs ≤ 2 ^ 30 := natAbs_mul_q15_le (by omega) (by omega)
  exact sat40_fits (by omega) (by omega)

/-- A quotient by a power of two, rounded down, is the arithmetic shift. -/
theorem floorDiv_two_pow (a : Int) (n : Nat) : floorDiv a (2 ^ n) = a >>> n :=
  (Int.fdiv_eq_ediv_of_nonneg a (Int.natCast_nonneg _)).trans (Int.shiftRight_eq_div_pow a n).symm

/-- The shift by 15 places does not depend on the type that the numeral 15 is read in. -/
theorem shiftRight_fifteen (x : Int) : x >>> (15 : Nat) = x >>> 15 := by cases x <;> rfl

theorem toQ15_eq_shift (a : Int) : toQ15 a = max (-32768) (min 32767 ((a + 2 ^ 14) >>> 15)) :=
  (sat16_eq_max_min _).trans (by rw [← shiftRight_fifteen, ← floorDiv_two_pow]; rfl)

/-- Settles O52: the products, the sums, the rounding to Q15, and the two differences that a sample forms. -/
theorem loopArithmeticSaturates : Obligations.LoopArithmeticSaturates := by
  unfold Obligations.LoopArithmeticSaturates
  refine ⟨fun a b => sat40_mul_q15, fun x => ⟨sat40_below, sat40_above, sat40_fits⟩, toQ15_eq_shift, fun l sp fb prev => ⟨?error, ?change⟩⟩
  case error => exact sat16_eq_max_min (sp - fb)
  case change => rw [← sat16_eq_max_min]; rfl

/-! Coefficient writes. -/

@[simp] theorem loopOf_tick (id i : Nat) (s : State) (n : Nat) : loopOf (tick id i s) n = loopOf s n := by simp [loopOf]

section
variable {s : State} {n : Nat}

theorem loopQueue_empty (queue : (loopOf s n).queue = []) : loopQueue n s = s := by simp only [loopQueue, queue]

/-- The slot that takes its oldest coefficient write has that coefficient's new value and the writes behind it. -/
theorem loopOf_loopQueue_same {i : Nat} {v : Int} {t : List (Nat × Int)} (known : n < s.loop.slots.length)
    (queue : (loopOf s n).queue = (i, v) :: t) :
    loopOf (loopQueue n s) n = { loopOf s n with queue := t, coef := (loopOf s n).coef.set i v } := by
  simp only [loopQueue, queue, loopOf_tick, loopOf_setLoop_same n _ s known]

theorem loopOf_loopQueue_ne {m : Nat} (other : m ≠ n) : loopOf (loopQueue n s) m = loopOf s m := by
  unfold loopQueue
  split
  case h_1 => rfl
  case h_2 => rw [loopOf_tick, loopOf_setLoop_ne n m _ s other.symm]

end

/-- Settles O53: after `loopQueue` a sample changes no coefficient and no queue (`loopSample_same`), so what `loopQueue` does is what the
sample does. -/
theorem samplesTakeOneCoefficientWrite : Obligations.SamplesTakeOneCoefficientWrite := by
  unfold Obligations.SamplesTakeOneCoefficientWrite
  intro s n known
  have rest (m : Nat) : (loopOf (loopSample n s) m).coef = (loopOf (loopQueue n s) m).coef
      ∧ (loopOf (loopSample n s) m).queue = (loopOf (loopQueue n s) m).queue := loopSample_same n s m
  refine ⟨fun i v t queue => ?oldest, fun queue => ?empty, fun m other => ?others⟩
  case oldest =>
    have took := loopOf_loopQueue_same known queue
    obtain ⟨coef, left⟩ := rest n
    exact ⟨left.trans (by rw [took]), coef.trans (by rw [took])⟩
  case empty =>
    obtain ⟨coef, left⟩ := rest n
    rw [loopQueue_empty queue] at coef left
    exact ⟨left.trans queue, coef⟩
  case others =>
    obtain ⟨coef, left⟩ := rest m
    rw [loopOf_loopQueue_ne other] at coef left
    exact ⟨left, coef⟩

end Sys2Proof.Machine
end

section
/-! SUPPORT. What a power-on reset leaves of the loop engine and of the counters (R360, R437). -/

namespace Sys2Proof.Machine

@[simp] theorem porRelease_loop (s : State) : (porRelease s).loop = s.loop := by
  unfold porRelease; dsimp only
  split <;> rfl

@[simp] theorem porRelease_ctr (s : State) : (porRelease s).ctr = s.ctr := by
  unfold porRelease; dsimp only
  split <;> rfl

theorem execSysRstN_resets {s : State} (on : macOn s = true) : execSysRstN s = .next (porRelease (porReset s)) :=
  congrArg _ (when_pos _ _ s on)

/-- The loop engine and the counters as a power-on reset leaves them: all but the number of the next tick is as it was built. -/
structure LoopsReset (r : State) : Prop where
  loop : ∃ t, r.loop = { tick := t }
  ctr : r.ctr = {}

theorem loopsReset_reset : LoopsReset State.reset := ⟨⟨0, rfl⟩, rfl⟩

theorem loopsReset_porRelease (s : State) : LoopsReset (porRelease (porReset s)) :=
  ⟨⟨_, porRelease_loop (porReset s)⟩, porRelease_ctr (porReset s)⟩

theorem loopsReset_of_sysRstN {s r : State} (on : macOn s = true) (step : exec .sysRstN s = .next r) : LoopsReset r := by
  obtain rfl : porRelease (porReset s) = r := Host.Outcome.next.inj ((execSysRstN_resets on).symm.trans step)
  exact loopsReset_porRelease s

/-- What holds of the one element that a list was built from holds of its every element. -/
theorem replicate_all {α : Type} {a : α} {p : α → Prop} (n : Nat) (h : p a) : (List.replicate n a).length = n ∧ ∀ x ∈ List.replicate n a, p x :=
  ⟨List.length_replicate, fun _ mem => List.eq_of_mem_replicate mem ▸ h⟩

/-- Settles O49: both resets leave the loop engine as it is built and no counter, and each part of it is one value repeated. -/
theorem resetLeavesTheLoopsUnconfigured : Obligations.ResetLeavesTheLoopsUnconfigured := by
  unfold Obligations.ResetLeavesTheLoopsUnconfigured
  intro r reset
  obtain ⟨⟨t, loop⟩, ctr⟩ : LoopsReset r := by
    rcases reset with rfl | ⟨s, on, step⟩
    · exact loopsReset_reset
    · exact loopsReset_of_sysRstN on step
  rw [loop]
  refine ⟨replicate_all 64 ⟨rfl, rfl, rfl, rfl, rfl⟩, replicate_all 24 ⟨rfl, rfl, rfl, rfl, rfl⟩, replicate_all 4 ⟨rfl, rfl, rfl⟩,
    replicate_all 32 rfl, rfl, replicate_all 8 rfl, replicate_all 8 rfl, fun id inst _ => ?counters⟩
  case counters => rw [ctrVal, ctr]; rfl

end Sys2Proof.Machine
end

section
/-! SUPPORT. The rows of the loop tick, the high voltage, the fuser and the engine sequencer: each row where it acts, and what each of its
cases does (R325, R340, R341, R343 to R346, R350, R352, R353). -/

namespace Sys2Proof.Machine

section
variable {s : State} {c : Nat}

/-! LOOP_TICK. -/

/-- The tick is counted and the monitors' newest 12-bit codes are taken; a channel without a new code keeps its own (R325). -/
def tickTaken (vmon imon : List Nat) (s : State) : State := { s with loop := { s.loop with
  tick := s.loop.tick + 1
  hv := (List.range 24).map (fun c => { hvOf s c with
    vmon := vmon.getD c (hvOf s c).vmon % 4096, imon := imon.getD c (hvOf s c).imon % 4096 }) } }

/-- A safe state that began since the last tick reaches the loops before they sample (R336). -/
def safeStateTaken (s : State) : State :=
  if s.sup.loopsDue then loopsSafe (withSup (fun x => { x with loopsDue := false }) s) else s

/-- Every transfer loop that is due at tick `j` samples, in slot order (R325). -/
def samplesTaken (j : Nat) (s : State) : State :=
  forList transferSlots s (fun n s => if loopDue (loopOf s n) j then loopSample n s else s)

/-- The order of a tick: the samples, the ramps of the axes, the overruns, the sequencer (R325; log entry 66). -/
theorem execLoopTick_runs (vmon imon : List Nat) (overruns : Nat) (on : macOn s = true) : execLoopTick vmon imon overruns s
    = .next (progTick (forList (bitList 64 overruns)
        (forRange 8 (samplesTaken s.loop.tick (safeStateTaken (tickTaken vmon imon (atTime (s.loop.tick * 10000000) s)))) rampTick) overrun)) :=
  congrArg _ (if_neg (by simp [on]))

/-! High voltage. -/

/-- The times of a channel's arcs of the last second, the one of now first (R342). -/
def arcsNow (s : State) (c : Nat) : List Nat := s.now :: (hvOf s c).arcs.filter (fun t => decide (s.now < t + 1000000000000))

/-- An arc of a channel is counted and reported; its reference is 0, and the channel latches where `latch` says so (R341, R342). -/
def arcReported (c : Nat) (latch : Bool) (s : State) : State :=
  raise 0x0A03 c 0 0 (arcsNow s c).length (b2n latch) 0 (when latch (tick 0x0A06 c)
    (setHv c (fun h => { h with ref := 0, arcs := arcsNow s c, latched := h.latched || latch }) (tick 0x0A05 c s)))

/-- The loop that regulates an arcing channel is asked to manual at 0, and the pages that need it spoil (R341, R342, R354). -/
def arcToLoop (c cause : Nat) (s : State) : State :=
  match loopOfHv s c with
  | none => s
  | some n => needSpoil n (askMode n { auto := false, man := some 0, cause := cause } s)

/-- An arc of a channel that is not latched latches it where its arcs of a second exceed its limit. -/
theorem execHvArcEdge_notLatched {latch : Bool} (on : macOn s = true) (known : c < 24) (notLatched : (hvOf s c).latched = false)
    (exceeds : decide ((hvOf s c).arcMax < (arcsNow s c).length) = latch) :
    execHvArcEdge c s = .next (arcToLoop c (if latch then 4 else 3) (arcReported c latch s)) := by
  subst exceeds
  refine congrArg _ ((if_neg (by simp [on, known])).trans ?_)
  simp only [notLatched, Bool.not_false, Bool.true_and, Bool.false_or, Bool.false_eq_true, if_false]
  rfl

section
variable {n t : Nat} (loop : loopOfHv s c = some n) (hold : (loopOf s n).arcUntil = some t)
include loop hold

theorem execHvArcHoldExpiry_toManual (auto : (loopOf s n).arcAuto = false) : execHvArcHoldExpiry c s
    = .next (askMode n { auto := false, man := some (loopOf s n).arcMan, cause := 0 }
        (setLoop n (fun l => { l with arcUntil := none, arcAuto := false, arcMan := 0 }) (atTime t s))) := by
  simp [execHvArcHoldExpiry, loop, hold, auto]

theorem execHvArcHoldExpiry_toAuto (auto : (loopOf s n).arcAuto = true) :
    let u := setLoop n (fun l => { l with arcUntil := none, arcAuto := false, arcMan := 0 }) (atTime t s)
    execHvArcHoldExpiry c s = .next (askMode n { auto := true, man := none, cause := 3, arcRamp := some (hvOf u c).arcRamp } u) := by
  simp [execHvArcHoldExpiry, loop, hold, auto]

end

theorem execHvComplianceEnd_ends {t : Nat} (episode : (hvOf s c).episode = true) (since : (hvOf s c).belowSince = some t) :
    execHvComplianceEnd c s = .next (setHv c (fun h => { h with episode := false, belowSince := none }) (atTime (t + 1000000000) s)) := by
  simp [execHvComplianceEnd, episode, since]

/-! The fuser. -/

theorem execThermistorSample_steps (codes : List Nat) (on : macOn s = true) : execThermistorSample codes s
    = .next (forRange 16 s (fun i s => match codes[i]? with | none => s | some rho => thermStep i rho s)) :=
  congrArg _ (if_neg (by simp [on]))

theorem execFusZcEdge_runs (on : macOn s = true) :
    execFusZcEdge s = .next (forRange 4 { s with loop := { s.loop with zcAt := s.now } } zoneCross) :=
  congrArg _ (if_neg (by simp [on]))

/-- The zones that run in zero-cross mode. -/
def zonesCrossing (s : State) : List Nat :=
  (List.range 4).filter (fun z => (zoneOf s z).configured && (zoneOf s z).zeroCross && !(zoneOf s z).stopped)

/-- A zone without zero-cross edges stops, and its loops are asked to manual at 0 (R345). -/
def zoneStopped (z : Nat) (s : State) : State :=
  let u := setZone z (fun f => { f with stopped := true }) s
  forList (loopsOfZone u z) u (fun n s => askMode n { auto := false, man := some 0, cause := 6 } s)

theorem execFusZcTimeout_stops (on : macOn s = true) (zones : zonesCrossing s ≠ []) : execFusZcTimeout s
    = .next (raise 0x0A06 dev 0 0 (maskOf (zonesCrossing s)) 0 0
        (forList (zonesCrossing s) (atTime (s.loop.zcAt + 25000000000) s) zoneStopped)) := by
  have acts : ¬ ((zonesCrossing s).isEmpty || !macOn s) = true := by simp [on, zones]
  exact congrArg _ (if_neg acts)

theorem execFuserComparatorTrip_trips (on : macOn s = true) (known : c < 4) (enabled : (zoneOf s c).tripEn = true) :
    execFuserComparatorTrip c s = .next (trip 3 c (withSup (fun u => { u with
      fuser := updAt u.fuser c (fun x => { x with beyond := true, tripped := true, safeSince := s.now }) }) s)) :=
  congrArg _ (if_pos (by simp [on, known, enabled]))

/-! The sequencer. -/

section
variable {i : Instance} (runs : s.loop.instances[c]? = some i)
include runs

theorem execProgStepTimeout_fails {p : ProgStep} (step : i.steps[i.next]? = some p) (limit : stepTimeout p ≠ 0) :
    execProgStepTimeout c s = .next (progFail i 1 (atTime (i.prevAt + stepTimeout p) s)) := by
  simp [execProgStepTimeout, runs, step, limit]

theorem execProgInstanceExpiry_ends {t : Nat} (expiry : i.expiry = some t) :
    execProgInstanceExpiry c s = .next (progEnd i (atTime t s)) := by
  simp [execProgInstanceExpiry, runs, expiry]

end

/-- An input at a new level: the edge is rising or falling as the level is the active one or not (Table 11.8). -/
def SeqIn.atLevel (level : Bool) (i : SeqIn) : SeqIn :=
  if i.level = level then i
  else if level = i.activeHigh then { i with level := level, rose := true }
  else { i with level := level, fell := true }

/-- What the input then says: its level, its active level as before, and the edges since the last tick with the new one. -/
theorem SeqIn.atLevel_says (level : Bool) (i : SeqIn) : (i.atLevel level).level = level ∧ (i.atLevel level).activeHigh = i.activeHigh
    ∧ (i.atLevel level).rose = (i.rose || (level != i.level && level == i.activeHigh))
    ∧ (i.atLevel level).fell = (i.fell || (level != i.level && level != i.activeHigh)) := by
  unfold SeqIn.atLevel
  split
  case isTrue same => simp [same]
  case isFalse edge =>
    have edge : (level != i.level) = true := bne_iff_ne.mpr (Ne.symm edge)
    split
    case isTrue rising => simp [edge, ← rising]
    case isFalse falling => simp [edge, falling]

/-- The state with a sequencer input at a new level. -/
def seqInAt (c : Nat) (level : Bool) (s : State) : State :=
  { s with loop := { s.loop with seqIn := updAt s.loop.seqIn c (.atLevel level) } }

theorem seqInAt_same {i : SeqIn} (level : Bool) (input : s.loop.seqIn[c]? = some i) :
    (seqInAt c level s).loop.seqIn[c]? = some (i.atLevel level) := by
  simp [seqInAt, updAt, input]

theorem seqInAt_ne {x : Nat} (level : Bool) (other : x ≠ c) : (seqInAt c level s).loop.seqIn[x]? = s.loop.seqIn[x]? := by
  simp [seqInAt, updAt, other.symm]

theorem execSeqInEdge_notes (level : Bool) (on : macOn s = true) : execSeqInEdge c level s = .next (seqInAt c level s) :=
  congrArg _ (if_neg (by simp [on]))

end

/-- Settles O37: every case of every row is one of the lemmas above, on the row's own arm of `exec`. -/
theorem loopsFuserAndSequencerRun : Obligations.LoopsFuserAndSequencerRun := by
  unfold Obligations.LoopsFuserAndSequencerRun
  intro s c
  refine ⟨execLoopTick_runs, ?arc, fun n t loop hold => ⟨execHvArcHoldExpiry_toManual loop hold, execHvArcHoldExpiry_toAuto loop hold⟩,
    fun t => execHvComplianceEnd_ends, execThermistorSample_steps, execFusZcEdge_runs, execFusZcTimeout_stops, execFuserComparatorTrip_trips,
    fun i p runs => execProgStepTimeout_fails runs, fun i t runs => execProgInstanceExpiry_ends runs, ?seqIn⟩
  case arc =>
    intro on known notLatched
    exact ⟨fun within => execHvArcEdge_notLatched (latch := false) on known notLatched (decide_eq_false (Nat.not_lt.mpr within)),
      fun beyond => execHvArcEdge_notLatched (latch := true) on known notLatched (decide_eq_true beyond)⟩
  case seqIn =>
    intro level on _
    exact ⟨_, execSeqInEdge_notes level on, fun x other => seqInAt_ne level other,
      fun i input => ⟨_, seqInAt_same level input, i.atLevel_says level⟩⟩

end Sys2Proof.Machine
end

section
/-! SUPPORT. The commands of loops, high voltage, the fuser and programs once the firmware has taken them: what each answers (R333, R335,
R337 to R339, R343, R347, R355, R357, Table 11.12). -/

namespace Sys2Proof.Machine

/-! Taking the slot moves only the ring order, which no reading of the loops looks at. -/

@[simp] theorem taken_loopOf (s : State) (n : Nat) : loopOf (taken s) n = loopOf s n := rfl
@[simp] theorem taken_hvOf (s : State) (c : Nat) : hvOf (taken s) c = hvOf s c := rfl
@[simp] theorem taken_zoneOf (s : State) (z : Nat) : zoneOf (taken s) z = zoneOf s z := rfl
@[simp] theorem taken_loopProtected (s : State) (n : Nat) : loopProtected (taken s) n = loopProtected s n := rfl
@[simp] theorem taken_sourcesBad (s : State) (l : LoopSlot) : sourcesBad (taken s) l = sourcesBad s l := rfl
@[simp] theorem taken_loopOfHv (s : State) (c : Nat) : loopOfHv (taken s) c = loopOfHv s c := rfl
@[simp] theorem taken_fuserLoopsOff (s : State) : fuserLoopsOff (taken s) = fuserLoopsOff s := rfl
@[simp] theorem taken_progBound (s : State) (n : Nat) : progBound (taken s) n = progBound s n := rfl

section
variable {s : State} {n : Nat} {ws : List Word}

/-! LOOP.CONFIG. -/

/-- LOOP.CONFIG's words name a transfer slot with sources that exist, and a divisor, phase and band in range (Tables 11.6 and 11.12). -/
structure LoopConfigLegal (ws : List Word) : Prop where
  transfer : 8 ≤ bits (par ws 2) 0 6
  sources : sourcesOk (bits (par ws 3) 0 8) (bits (par ws 3) 8 8) (bits (par ws 3) 16 8) (bits (par ws 3) 24 8) (bits (par ws 4) 0 8)
    (bits (par ws 4) 8 8) (par ws 6) = true
  div : 5 ≤ bits (par ws 5) 0 16
  phase : bits (par ws 5) 16 16 < bits (par ws 5) 0 16
  bandLeast : 1 ≤ bits (par ws 8) 0 16
  bandMost : bits (par ws 8) 0 16 ≤ 32767

/-- A slot as LOOP.CONFIG's words configure it (Table 11.12). -/
def LoopSlot.configuredAs (ws : List Word) (l : LoopSlot) : LoopSlot :=
  { l with configured := true, fbKind := bits (par ws 3) 0 8, fbIdx := bits (par ws 3) 8 8, spKind := bits (par ws 3) 16 8
           spIdx := bits (par ws 3) 24 8, outKind := bits (par ws 4) 0 8, outIdx := bits (par ws 4) 8 8, div := bits (par ws 5) 0 16
           phase := bits (par ws 5) 16 16, fs := par ws 6, pref := sint (par ws 7) 32, band := bits (par ws 8) 0 16, fresh := true, inBand := 0 }

/-- A loop notes whether its sources are valid (R332). -/
def sourcesNoted (k : Nat) (s : State) : State := setLoop k (fun l => { l with fbInvalid := sourcesBad s l }) s

theorem execLoopConfig_configures (a : Accepts s 0x0A01 [0x3F, allBits, 0xFFFF, allBits, allBits, allBits, 0xFFFF] n ws)
    (legal : LoopConfigLegal ws) (free : loopProtected s (bits (par ws 2) 0 6) = false) (manual : (loopOf s (bits (par ws 2) 0 6)).auto = false) :
    execLoopConfig s = .next (okReply n [] (sourcesNoted (bits (par ws 2) 0 6)
      (setLoop (bits (par ws 2) 0 6) (.configuredAs ws) (taken s)))) := by
  obtain ⟨transfer, sources, div, phase, bandLeast, bandMost⟩ := legal
  refine serve_next_ok a rfl ((if_neg (Nat.not_lt.mpr transfer)).trans ((if_neg ?_).trans ((if_neg (by simp [free])).trans
    (if_neg (by simp [manual])))))
  rintro (other | shortDiv | latePhase | noBand | wideBand)
  · simp [sources] at other
  · omega
  · omega
  · omega
  · omega

/-! LOOP.COEF. -/

/-- The writes that LOOP.COEF's words spell (Table 11.9). -/
def coefWrites (ws : List Word) : List (Nat × Int) := (List.range (bits (par ws 2) 8 5)).map (fun i => coefParam (par ws (3 + i)))

/-- A slot's coefficients once its waiting writes have taken effect. -/
def LoopSlot.coefLater (l : LoopSlot) : List Int := l.queue.foldl (fun (c : List Int) w => c.set w.1 w.2) l.coef

theorem execLoopCoef_queues (a : Accepts s 0x0A02 (0x1F3F :: List.replicate 16 0xFFFF0007) n ws)
    (least : 1 ≤ bits (par ws 2) 8 5) (most : bits (par ws 2) 8 5 ≤ 16) (rest : ∀ i, bits (par ws 2) 8 5 ≤ i → i < 16 → par ws (3 + i) = 0)
    (legal : coefsOk (bits (par ws 2) 0 6) (coefWrites ws) (loopOf s (bits (par ws 2) 0 6)).coefLater = true)
    (room : (loopOf s (bits (par ws 2) 0 6)).queue.length + bits (par ws 2) 8 5 ≤ 16) :
    execLoopCoef s = .next (okReply n [(loopOf s (bits (par ws 2) 0 6)).queue.length + bits (par ws 2) 8 5]
      (setLoop (bits (par ws 2) 0 6) (fun l => { l with queue := l.queue ++ coefWrites ws }) (taken s))) := by
  refine serve_next_ok a rfl ((if_neg ?_).trans (if_neg (Nat.not_lt.mpr room)))
  rintro (few | many | other | illegal)
  · omega
  · omega
  · obtain ⟨i, inside, behind, nonzero⟩ : ∃ i < 16, bits (par ws 2) 8 5 ≤ i ∧ ¬ par ws (3 + i) = 0 := by simpa using other
    exact nonzero (rest i behind inside)
  · exact absurd (illegal.symm.trans (congrArg not legal)) (by decide)

/-! LOOP.MODE, LOOP.SETPOINT and LOOP.STATUS. -/

section
variable (a : Accepts s 0x0A03 [0x33F, 0xFFFF] n ws) (transfer : 8 ≤ bits (par ws 2) 0 6)
include a transfer

theorem execLoopMode_toAuto (auto : bitOf (par ws 2) 8 = true)
    (notLatched : ¬ ((loopOf s (bits (par ws 2) 0 6)).outKind = 1 ∧ (hvOf s (loopOf s (bits (par ws 2) 0 6)).outIdx).latched = true))
    (sources : sourcesBad s (loopOf s (bits (par ws 2) 0 6)) = false) :
    execLoopMode s = .next (okReply n [] (askMode (bits (par ws 2) 0 6) { auto := true, man := none, cause := 0 } (taken s))) :=
  serve_next_ok a rfl ((if_neg (Nat.not_lt.mpr transfer)).trans ((if_pos auto).trans ((if_neg notLatched).trans (if_neg (by simp [sources])))))

theorem execLoopMode_toManual (manual : bitOf (par ws 2) 8 = false) (free : loopProtected s (bits (par ws 2) 0 6) = false) :
    execLoopMode s = .next (okReply n [] (askMode (bits (par ws 2) 0 6) {
      auto := false, man := if bitOf (par ws 2) 9 then some (sbits (par ws 3) 0 16) else none, cause := 0 } (taken s))) :=
  serve_next_ok a rfl ((if_neg (Nat.not_lt.mpr transfer)).trans ((if_neg (by simp [manual])).trans (if_neg (by simp [free]))))

end

theorem execLoopSetpoint_queues (a : Accepts s 0x0A04 [0x3F, 0xFFFF, 0xFFFF] n ws) : execLoopSetpoint s
    = .next (okReply n [] (askSetpoint (bits (par ws 2) 0 6) (sbits (par ws 3) 0 16) (bits (par ws 4) 0 16) (taken s))) :=
  serve_next_ok a rfl rfl

theorem execLoopStatus_reports (a : Accepts s 0x0A05 [0x3F] n ws) : ∃ r, r.length = 7 ∧ execLoopStatus s = .next (okReply n r (taken s)) := by
  refine ⟨_, ?length, serve_next_ok a rfl rfl⟩
  case length => split <;> rfl

/-! HV.CONFIG. -/

/-- HV.CONFIG's words name a channel and its times in range (Table 11.12). -/
structure HvConfigLegal (ws : List Word) : Prop where
  channel : bits (par ws 2) 0 5 ≤ 23
  hold : zeroOrIn 1 1000 (bits (par ws 4) 0 16) = true
  ramp : zeroOrIn 1 32767 (bits (par ws 4) 16 16) = true

/-- HV.CONFIG's words disable a channel that is enabled. -/
def hvDisables (ws : List Word) (s : State) : Bool := (hvOf s (bits (par ws 2) 0 5)).en && !bitOf (par ws 2) 8

/-- A page needs the loop that regulates a channel (R355). -/
def hvProtected (s : State) (c : Nat) : Bool := match loopOfHv s c with | some k => loopProtected s k | none => false

theorem hvProtected_eq_false {c : Nat} (free : ∀ k, loopOfHv s c = some k → loopProtected s k = false) : hvProtected s c = false := by
  unfold hvProtected
  split
  case h_1 k loop => exact free k loop
  case h_2 => rfl

/-- The loop that regulates a channel is asked to manual at 0 where the channel is disabled (R339). -/
def hvLoopOff (c : Nat) (off : Bool) (s : State) : State :=
  match loopOfHv s c with
  | some k => if off then askMode k { auto := false, man := some 0, cause := 0 } s else s
  | none => s

/-- A channel as HV.CONFIG's words set it: a field of 0 keeps the setting (R339, R340, R342). -/
def HvChan.configuredAs (ws : List Word) (h : HvChan) : HvChan :=
  { h with configured := true, en := bitOf (par ws 2) 8, latched := h.latched && !bitOf (par ws 2) 9, arcHigh := bitOf (par ws 2) 10
           lim := sbits (par ws 3) 0 16, arcHold := orKeep (bits (par ws 4) 0 16) h.arcHold, arcRamp := orKeep (bits (par ws 4) 16 16) h.arcRamp
           arcMax := orKeep (bits (par ws 5) 0 8) h.arcMax, arcs := if bitOf (par ws 2) 9 then [] else h.arcs
           ref := if bitOf (par ws 2) 8 then h.ref else 0, episode := h.episode && bits (par ws 3) 0 16 != 0 }

theorem execHvConfig_sets (a : Accepts s 0x0A06 [0x71F, 0xFFFF, allBits, 0xFF] n ws) (legal : HvConfigLegal ws)
    (free : hvDisables ws s = true → hvProtected s (bits (par ws 2) 0 5) = false) : execHvConfig s
    = .next (okReply n [] (setHv (bits (par ws 2) 0 5) (.configuredAs ws)
        (hvLoopOff (bits (par ws 2) 0 5) (hvDisables ws s) (taken s)))) := by
  obtain ⟨channel, hold, ramp⟩ := legal
  have unlocked : ¬ (hvDisables ws s && hvProtected s (bits (par ws 2) 0 5)) = true := by simpa using free
  refine serve_next_ok a rfl ((if_neg ?_).trans (if_neg unlocked))
  rintro (beyond | badHold | badRamp)
  · omega
  · simp [hold] at badHold
  · simp [ramp] at badRamp

/-! FUS.CONFIG. -/

/-- FUS.CONFIG's values are in range (Table 11.12). -/
structure FusConfigLegal (ws : List Word) : Prop where
  period : 100 ≤ bits (par ws 3) 0 16
  delay : bits (par ws 3) 16 16 ≤ 5000
  widthLeast : 10 ≤ bits (par ws 4) 0 16
  widthMost : bits (par ws 4) 0 16 ≤ 2000
  betaLeast : 1000 ≤ bits (par ws 5) 16 16
  betaMost : bits (par ws 5) 16 16 ≤ 10000

/-- FUS.CONFIG's words leave a zone's trip as it is (R346). -/
def tripKept (ws : List Word) (o : FuserZone) : Prop :=
  bits (par ws 8) 0 10 = o.tripThr ∧ bitOf (par ws 8) 12 = o.tripRising ∧ bitOf (par ws 8) 13 = o.tripOpen ∧ bitOf (par ws 8) 14 = o.tripEn

/-- A zone as FUS.CONFIG's words set it (R343, R346). -/
def FuserZone.configuredAs (ws : List Word) (g : FuserZone) : FuserZone :=
  { g with configured := true, zeroCross := bitOf (par ws 2) 4, gateHigh := bitOf (par ws 2) 5, fper := bits (par ws 3) 0 16
           zcDelay := bits (par ws 3) 16 16, zcWidth := bits (par ws 4) 0 16, stopped := false, tripThr := bits (par ws 8) 0 10
           tripRising := bitOf (par ws 8) 12, tripOpen := bitOf (par ws 8) 13, tripEn := bitOf (par ws 8) 14 }

/-- The thermistor that FUS.CONFIG names takes its constants, and the wait for a zero-cross edge starts unless a zone already runs in that
mode (R344, R345; log entry 66). -/
def fuserInputsSet (ws : List Word) (runs : Bool) (s : State) : State := { s with loop := { s.loop with
  zcAt := if runs then s.loop.zcAt else s.now
  therms := updAt s.loop.therms (bits (par ws 5) 0 4) (fun t => { t with beta := bits (par ws 5) 16 16, r25 := par ws 6, rbias := par ws 7 }) } }

theorem execFusConfig_sets (a : Accepts s 0x0A07 [0x33, allBits, 0xFFFF, 0xFFFF000F, allBits, allBits, 0x73FF] n ws) (legal : FusConfigLegal ws)
    (mayTrip : fuserLoopsOff s = true ∨ tripKept ws (zoneOf s (bits (par ws 2) 0 2))) :
    execFusConfig s = .next (okReply n [] (fuserInputsSet ws (s.loop.zones.any (fun g => g.configured && g.zeroCross && !g.stopped))
      (setZone (bits (par ws 2) 0 2) (.configuredAs ws) (taken s)))) := by
  obtain ⟨period, delay, widthLeast, widthMost, betaLeast, betaMost⟩ := legal
  refine serve_next_ok a rfl ((if_neg (by omega)).trans (if_neg ?allowed))
  case allowed =>
    rcases mayTrip with off | ⟨thr, rising, opn, en⟩
    · simp [off]
    · simp [thr, rising, opn, en]

/-! PROG.LOAD and PROG.STATUS. -/

theorem execProgLoad_queues (a : Accepts s 0x0A08 [0x1F, allBits, allBits, allBits] n ws) (unbound : progBound s (bits (par ws 2) 0 5) = false) :
    execProgLoad s = .next (pendingReply n ws s.host.nextOid { taken s with loop := { s.loop with
      loads := s.loop.loads ++ [{ oid := s.host.nextOid, prog := bits (par ws 2) 0 5, addr := par64 ws 3, crc := par ws 5 }] } }) :=
  serve_next_pending a rfl (if_neg (by simp [unbound]))

theorem execProgStatus_reports (a : Accepts s 0x0A09 [0x1F] n ws) : ∃ r, r.length = 3 ∧ execProgStatus s = .next (okReply n r (taken s)) :=
  ⟨_, rfl, serve_next_ok a rfl rfl⟩

/-! SEQ.IO. -/

section
variable (a : Accepts s 0x0A0A [0x707, 0xFFFFFF] n ws)
include a

theorem execSeqIo_output (output : bitOf (par ws 2) 8 = true) : execSeqIo s = .next (okReply n [] { taken s with loop := { s.loop with
    seqOut := updAt s.loop.seqOut (bits (par ws 2) 0 3) (fun o => { o with driven := bitOf (par ws 2) 9, activeHigh := bitOf (par ws 2) 10 }) } }) :=
  serve_next_ok a rfl (if_pos output)

theorem execSeqIo_input (input : bitOf (par ws 2) 8 = false) (least : 1 ≤ par ws 3) (most : par ws 3 ≤ 10000) :
    execSeqIo s = .next (okReply n [] { taken s with loop := { s.loop with
      seqIn := updAt s.loop.seqIn (bits (par ws 2) 0 3) (fun i => { i with activeHigh := bitOf (par ws 2) 10, debounce := par ws 3 }) } }) :=
  serve_next_ok a rfl ((if_neg (by simp [input])).trans (if_neg (by omega)))

end
end

/-- Settles O38: every case of every command is one of the lemmas above, on the command's own row of `exec`. -/
theorem loopCommandsComplete : Obligations.LoopCommandsComplete := by
  unfold Obligations.LoopCommandsComplete
  intro s n ws
  refine ⟨?config, execLoopCoef_queues, fun a => ?mode, execLoopSetpoint_queues, execLoopStatus_reports, ?hv, ?fuser, execProgLoad_queues,
    execProgStatus_reports, fun a => ⟨execSeqIo_output a, execSeqIo_input a⟩⟩
  case config =>
    intro a k f transfer sources div phase bandLeast bandMost
    exact execLoopConfig_configures a ⟨transfer, sources, div, phase, bandLeast, bandMost⟩
  case mode =>
    intro k l transfer
    exact ⟨execLoopMode_toAuto a transfer, execLoopMode_toManual a transfer⟩
  case hv =>
    intro a c en clear channel hold ramp off free
    exact execHvConfig_sets a ⟨channel, hold, ramp⟩ (fun disables => hvProtected_eq_false (free disables))
  case fuser =>
    intro a z f o period delay widthLeast widthMost betaLeast betaMost
    exact execFusConfig_sets a ⟨period, delay, widthLeast, widthMost, betaLeast, betaMost⟩

end Sys2Proof.Machine
end

section
/-! SUPPORT. What a power-on reset leaves of the axes, of Goose and of the counters (R393, R437, R452). -/

namespace Sys2Proof.Machine

/-- The release of a power-on reset changes the power state alone (R436, R438). -/
theorem porRelease_changesPower (s : State) : ∃ p, porRelease s = { s with sup := { s.sup with power := p } } := by
  unfold porRelease; dsimp only
  split
  case isTrue => exact ⟨_, rfl⟩
  case isFalse => exact ⟨_, rfl⟩

/-- Goose as it is built, with the levels and times at the device's balls and the power state that are there. -/
def supBuilt (safeIn : List SafeChan) (bothHigh vin vinAt : Nat) (ilkLevels : List Bool) (power : PowerState) : SupState :=
  { safeIn := safeIn, bothHigh := bothHigh, vin := vin, vinAt := vinAt, ilks := ilkLevels.map (fun l => { level := l }), power := power }

/-- The axes, Goose and the counters as a power-on reset leaves them: each is as it was built. -/
structure MachineReset (r : State) : Prop where
  motion : r.motion = {}
  sup : ∃ safeIn bothHigh vin vinAt levels power, r.sup = supBuilt safeIn bothHigh vin vinAt levels power ∧ levels.length = 4
  ctr : r.ctr = {}

theorem machineReset_reset : MachineReset State.reset :=
  ⟨rfl, ⟨[{}, {}], 0, 1200, 0, List.replicate 4 true, {}, rfl, rfl⟩, rfl⟩

theorem machineReset_porReset {s : State} (four : s.sup.ilks.length = 4) : MachineReset (porReset s) := by
  refine ⟨rfl, ⟨s.sup.safeIn.map (fun c => { high := c.high }), s.now, s.sup.vin, s.sup.vinAt, s.sup.ilks.map HvIlk.level,
    { por := true, phase := .off, en := 0, pg := 0, engRst := true }, ?_, by simp [four]⟩, rfl⟩
  rw [supBuilt, List.map_map]
  rfl

theorem machineReset_porRelease {s : State} (h : MachineReset s) : MachineReset (porRelease s) := by
  obtain ⟨p, released⟩ := porRelease_changesPower s
  obtain ⟨motion, ⟨c, b, v, t, levels, _, sup, four⟩, ctr⟩ := h
  rw [released]
  exact ⟨motion, ⟨c, b, v, t, levels, p, by rw [sup]; rfl, four⟩, ctr⟩

theorem machineReset_of_sysRstN {s r : State} (on : macOn s = true) (four : s.sup.ilks.length = 4) (step : exec .sysRstN s = .next r) :
    MachineReset r := by
  obtain rfl : porRelease (porReset s) = r := Host.Outcome.next.inj ((execSysRstN_resets on).symm.trans step)
  exact machineReset_porRelease (machineReset_porReset four)

/-- Settles O50: both resets leave the axes as they are built, Goose as it is built but for levels and power, and no counter. -/
theorem resetLeavesTheMachineDie : Obligations.ResetLeavesTheMachineDie := by
  unfold Obligations.ResetLeavesTheMachineDie
  intro r reset
  obtain ⟨motion, ⟨_, _, _, _, levels, _, sup, four⟩, ctr⟩ : MachineReset r := by
    rcases reset with rfl | ⟨s, on, four, step⟩
    · exact machineReset_reset
    · exact machineReset_of_sysRstN on four step
  have enables : r.sup.enables = 0x100 := by rw [sup]; rfl
  have actions : r.sup.actions = [] := by rw [sup]; rfl
  refine ⟨?drives, ?steppers, ?buses, ?safe, ?latched, ?causes, ?vinWarn, ?wdPeriod, ?ilks, ?autoRestart, ?actions, ?limits⟩
  case drives => rw [motion]; exact replicate_all 8 ⟨rfl, rfl, rfl, rfl, rfl, rfl⟩
  case steppers => rw [motion]; exact replicate_all 8 rfl
  case buses => rw [motion]; exact replicate_all 2 ⟨rfl, rfl, rfl, rfl⟩
  case causes => simp [causeEnabled, enables]
  case ilks =>
    rw [sup]
    refine ⟨by simp [supBuilt, four], fun i mem => ?_⟩
    obtain ⟨level, _, rfl⟩ := List.mem_map.mp mem
    exact ⟨rfl, rfl⟩
  case actions => intro g i; rw [safeAction, actions]; rfl
  case limits =>
    rw [sup]
    exact ⟨rfl, rfl, rfl, rfl, rfl, rfl, fun id inst _ => by rw [ctrVal, ctr]; rfl⟩
  all_goals rw [sup]; rfl

end Sys2Proof.Machine
end

section
/-! SUPPORT. The rows of drive axes, motor buses and stepper axes on a machine die that runs: each row where it acts, and what each of its
cases does (R362, R366 to R369, R377, R379, R382, R383, R385, R386). -/

namespace Sys2Proof.Machine

section
variable {s : State} {a : Nat}

/-! PWM_PERIOD. -/

/-- An axis at the start of a PWM period at time `t`: the next sample, and the advance table that waits is taken (R366). -/
def Drive.periodBegun (t : Nat) (d : Drive) : Drive :=
  { d with pwmAt := t, n := d.n + 1, advSpd := (d.advNext.map Prod.fst).getD d.advSpd
           adv := (d.advNext.map Prod.snd).getD d.adv, advNext := none }

/-- The state at the sample of an axis's next PWM period: time, table, velocity, the end of ASC and the alignment have gone on. -/
def pwmBegun (a : Nat) (s : State) : State :=
  let t := atTime ((drv s a).pwmAt + 1000000000 / Nat.max 1 (drv s a).cfg.fpwm) s
  alignTick a (ascEnd a (velStep a (setDrv a (.periodBegun t.now) t)))

/-- Whether the shunt window of each phase can be used under the duties in force (R370). -/
def Drive.windows (d : Drive) : Bool × Bool × Bool := (usable d.cfg d.duty.1, usable d.cfg d.duty.2.1, usable d.cfg d.duty.2.2)

/-- The phase currents of three shunt codes: the trims are taken off (R373). -/
def Drive.trimmed (d : Drive) (codes : Int × Int × Int) : Int × Int × Int :=
  (codes.1 - d.trims.1, codes.2.1 - d.trims.2.1, codes.2.2 - d.trims.2.2)

/-- An axis's sample of three shunt codes shows overcurrent (R362). -/
def Drive.overCurrentOn (d : Drive) (codes : Int × Int × Int) : Bool :=
  overCurrent d d.windows.1 d.windows.2.1 d.windows.2.2 (d.trimmed codes)

/-- What a sample of three shunt codes without overcurrent does: the current law runs while the axis drives (R369). -/
def pwmLaw (a : Nat) (d : Drive) (codes : Int × Int × Int) (s : State) : State :=
  if d.st.driving then currentSample a (phases d.windows.1 d.windows.2.1 d.windows.2.2 (d.trimmed codes)) s else s

theorem Drive.overCurrentOn_eq (d : Drive) (su sv sw : Int) : d.overCurrentOn (su, sv, sw)
    = overCurrent d (usable d.cfg d.duty.1) (usable d.cfg d.duty.2.1) (usable d.cfg d.duty.2.2)
        (su - d.trims.1, sv - d.trims.2.1, sw - d.trims.2.2) := rfl

theorem pwmLaw_eq (d : Drive) (su sv sw : Int) : pwmLaw a d (su, sv, sw) s
    = if d.st.driving then currentSample a (phases (usable d.cfg d.duty.1) (usable d.cfg d.duty.2.1) (usable d.cfg d.duty.2.2)
        (su - d.trims.1, sv - d.trims.2.1, sw - d.trims.2.2)) s else s := rfl

section
variable (su sv sw : Int) (on : macOn s = true) (known : a < 8) (used : (drv s a).st ≠ .off)
include on known used

theorem execPwmPeriod_samples : execPwmPeriod a su sv sw s
    = .next (let u := pwmBegun a s
        if (drv u a).overCurrentOn (su, sv, sw) then drvFault a 2 (offsetSample a (su, sv, sw) u)
        else pwmLaw a (drv u a) (su, sv, sw) (offsetSample a (su, sv, sw) u)) := by
  rw [execPwmPeriod, when_pos _ _ s (by simp [on, known, used])]
  rfl

theorem execPwmPeriod_faults (faulty : (drv (pwmBegun a s) a).overCurrentOn (su, sv, sw) = true) :
    execPwmPeriod a su sv sw s = .next (drvFault a 2 (offsetSample a (su, sv, sw) (pwmBegun a s))) :=
  (execPwmPeriod_samples su sv sw on known used).trans (congrArg _ (if_pos faulty))

theorem execPwmPeriod_runs (within : (drv (pwmBegun a s) a).overCurrentOn (su, sv, sw) = false) :
    execPwmPeriod a su sv sw s = .next (pwmLaw a (drv (pwmBegun a s) a) (su, sv, sw) (offsetSample a (su, sv, sw) (pwmBegun a s))) :=
  (execPwmPeriod_samples su sv sw on known used).trans (congrArg _ (if_neg (by simp [within])))

end

/-! DRV_FAULT_INPUT and AXIS_STOP_TIMEOUT. -/

theorem execDrvFaultInput_faults (on : macOn s = true) (known : a < 8) : execDrvFaultInput a s = .next (drvFault a 1 s) :=
  congrArg _ (when_pos _ _ s (by simp [on, known]))

/-- The state when an axis's count has not changed for STOP_TO (R367). -/
def stopTimePassed (a : Nat) (s : State) : State := atTime ((drv s a).xChanged + (drv s a).cfg.stopTo * 1000000) s

theorem execAxisStopTimeout_stops (on : macOn s = true) (known : a < 8) (used : (drv s a).st ≠ .off) : execAxisStopTimeout a s
    = .next (ascEnd a (setDrv a (fun d => { d with omega := 0, omegaAt := (stopTimePassed a s).now }) (stopTimePassed a s))) :=
  congrArg _ (when_pos _ _ s (by simp [on, known, used]))

/-! AXIS_ALIGN_DONE. -/

/-- The axis at the end of its alignment: DISABLED and aligned, with the ANG_OFF of its present place where step 4 set none (R368). -/
def alignEnded (a : Nat) (g : AlignRun) (s : State) : State :=
  drvTo a .disabled 0 (setDrv a (fun d => { d with angOff := if g.angSet then d.angOff else angZero d, aligned := true, align := none })
    (atTime (g.began + 100000000000 + g.hold * 1000000000) s))

theorem execAxisAlignDone_ends {g : AlignRun} (aligning : (drv s a).st = .aligning) (run : (drv s a).align = some g) :
    execAxisAlignDone a s = .next (if g.start = none then completeOpt g.oid stOk [] (alignEnded a g s)
      else startGo a (setDrv a (fun d => { d with align := some g }) (alignEnded a g s))) := by
  simp only [execAxisAlignDone, aligning, run]
  cases g.start <;> rfl

/-! BUS_SAMPLE, CHOPPER_DETECT_TIMEOUT and VBUS_HARD_TRIP. -/

/-- The chopper is on after a sample of the bus voltage: on from V_ON, off from V_OFF down, as it was between them (R377). -/
def MotorBus.onAt (v : Nat) (x : MotorBus) : Bool :=
  x.configured && !x.fault && (if x.vOn ≤ v then true else if v ≤ x.vOff then false else x.on)

/-- A bus with the codes `v` and `i` of a sample at time `t`, its chopper on or off (R377). -/
def MotorBus.sampled (t v i : Nat) (on : Bool) (x : MotorBus) : MotorBus :=
  { x with sampledAt := t, vbus := v, isns := i, on := on, onSince := if on && !x.on then t else x.onSince
           lowSince := if on && decide (i < x.iMin) then some (x.lowSince.getD t) else none
           highSince := if on && decide (x.vOn < v) then some (x.highSince.getD (t, v)) else none }

/-- The state after a bus's next sample of the codes `v` and `i`, before the chopper is judged: a sample with the chopper on is counted. -/
def busSampled (b v i : Nat) (s : State) : State :=
  let x := busOf s b
  let t := atTime (x.sampledAt + 1000000) s
  let u := withSup (fun u => { u with busCmp := updAt u.busCmp b (fun c => { c with
      lowSince := if v < x.vOff then some (c.lowSince.getD t.now) else none }) })
    (setBus b (.sampled t.now v i (x.onAt v)) t)
  if x.onAt v then tick 0x0B06 b u else u

theorem execBusSample_judges (vbus isns : Nat) (on : macOn s = true) (known : a < 2) :
    execBusSample a vbus isns s = .next (chopperJudge a (busSampled a (vbus % 4096) (isns % 4096) s)) :=
  congrArg _ (when_pos _ _ s (by simp [on, known]))

theorem execChopperDetectTimeout_judges {t : Nat} (on : macOn s = true) (known : a < 2) (due : chopperDue (busOf s a) = some t) :
    execChopperDetectTimeout a s = .next (chopperJudge a (atTime t s)) := by
  simp [execChopperDetectTimeout, on, known, due]

/-- The hard comparator of a bus has tripped (R379, R429). -/
def busTripped (b : Nat) (s : State) : State :=
  withSup (fun u => { u with busCmp := updAt u.busCmp b (fun _ => { tripped := true, lowSince := none }) }) s

theorem execVbusHardTrip_trips (on : macOn s = true) (known : a < 2) :
    execVbusHardTrip a s = .next (trip 6 a (chopperAct a 3 (freshOmega s.now) (busTripped a s))) :=
  congrArg _ (when_pos _ _ s (by simp [on, known]))

/-! MICROSTEP and STEP_HOLD_TIMEOUT. -/

theorem execMicrostep_plans {t : Nat} (on : macOn s = true) (next : (stp s a).nextAt = some t) (moves : (stp s a).st.moves = true) :
    execMicrostep a s = .next (stepPlan a (atTime t s)) := by
  simp [execMicrostep, on, next, moves]

theorem execStepHoldTimeout_holds {t : Nat} (on : macOn s = true) (hold : (stp s a).holdAt = some t) (idle : (stp s a).st = .idle) :
    execStepHoldTimeout a s = .next (setStp a (fun x => { x with held := true, holdAt := none }) (atTime t s)) := by
  simp [execStepHoldTimeout, on, hold, idle]

/-! SWITCH_EDGE and CHATTER_WINDOW_END. -/

/-- Switch input `i` of an axis. -/
def switchOf (s : State) (a i : Nat) : SwitchIn := (stp s a).switches.getD i {}

section
variable {i : Nat} {level : Bool} (on : macOn s = true) (known : a < 8) (input : i < 3) (used : (stp s a).st ≠ .off)
include on known input used

theorem execSwitchEdge_raw : execSwitchEdge a i level false s = .next (rawEdge a i level s) :=
  congrArg _ (when_pos _ _ s (by simp [on, known, input, used]))

/-- A level that has held for DEB since its raw edge is forgotten where it is the level in force, and else accepted. -/
theorem execSwitchEdge_held {t pos : Nat} (raw : (switchOf s a i).raw = some (level, t, pos)) : execSwitchEdge a i level true s
    = .next (let u := atTime (t + (stp s a).cfg.deb * 1000000) s
        if level = (switchOf s a i).level then setSwitch a i (fun w => { w with raw := none }) u else acceptEdge a i level pos u) := by
  unfold switchOf at raw
  rw [execSwitchEdge, when_pos _ _ s (by simp [on, known, input, used])]
  simp only [raw, switchOf]
  rw [if_neg (by decide), if_neg (not_not_intro rfl)]
  rfl

end

/-- The state when a chatter window of an input may end: two windows after its last edge too many, if it had one (R386). -/
def chatterPassed (a i : Nat) (s : State) : State :=
  match (switchOf s a i).edges[(stp s a).cfg.chatEdges]? with
  | none => s
  | some t => atTime (t + 2 * ((stp s a).cfg.chatWin * 1000000000)) s

theorem execChatterWindowEnd_ends {i : Nat} (on : macOn s = true) (chatter : (switchOf s a i).chatter = true) :
    execChatterWindowEnd a i s = .next (setSwitch a i (fun w => { w with chatter := false }) (chatterPassed a i s)) := by
  unfold switchOf at chatter
  rw [execChatterWindowEnd, when_pos _ _ s (by rw [on]; exact chatter), chatterPassed, switchOf]
  cases (((stp s a).switches.getD i {}).edges[(stp s a).cfg.chatEdges]?) <;> rfl

end

/-- Settles O41: every case of every row is one of the lemmas above, on the row's own arm of `exec`. -/
theorem axesRunTheirTimers : Obligations.AxesRunTheirTimers := by
  unfold Obligations.AxesRunTheirTimers
  intro s a on
  refine ⟨?pwm, execDrvFaultInput_faults on, execAxisStopTimeout_stops on, fun g => execAxisAlignDone_ends,
    fun vbus isns => execBusSample_judges vbus isns on, fun t => execChopperDetectTimeout_judges on, execVbusHardTrip_trips on,
    fun t => execMicrostep_plans on, fun t => execStepHoldTimeout_holds on, ?switch, ?chatter⟩
  case pwm =>
    intro su sv sw known used
    refine ⟨fun faulty => ?_, fun within => ?_⟩
    · exact execPwmPeriod_faults su sv sw on known used ((Drive.overCurrentOn_eq _ su sv sw).trans faulty)
    · exact (execPwmPeriod_runs su sv sw on known used ((Drive.overCurrentOn_eq _ su sv sw).trans within)).trans
        (congrArg _ (pwmLaw_eq _ su sv sw))
  case switch =>
    intro i level known input used
    refine ⟨execSwitchEdge_raw on known input used, fun t pos raw => ?held⟩
    have held := execSwitchEdge_held on known input used raw
    exact ⟨fun edge => held.trans (congrArg _ (if_neg edge)), fun same => held.trans (congrArg _ (if_pos same))⟩
  case chatter =>
    rintro i chatter _ rfl
    exact execChatterWindowEnd_ends on chatter

end Sys2Proof.Machine
end

section
/-! SUPPORT. The commands of drive axes and motor buses once the firmware has taken them: what each reads is not changed by taking the slot,
and what each answers (R362, R365, R366, R368, R373 to R377, R380, Table 12.4). -/

namespace Sys2Proof.Machine

/-! Taking the slot moves only the ring order, which no reading of the axes looks at. -/

@[simp] theorem taken_drv (s : State) (a : Nat) : drv (taken s) a = drv s a := rfl
@[simp] theorem taken_busOf (s : State) (b : Nat) : busOf (taken s) b = busOf s b := rfl
@[simp] theorem taken_commAligned (s : State) (d : Drive) : commAligned (taken s) d = commAligned s d := rfl
@[simp] theorem taken_offsetRuns (s : State) (a : Nat) : offsetRuns (taken s) a = offsetRuns s a := rfl
@[simp] theorem taken_busQuiet (s : State) (b : Nat) : busQuiet (taken s) b = busQuiet s b := rfl

section
variable {s : State} {n : Nat} {ws : List Word}

/-! AXIS.CONFIG. -/

/-- The configuration that AXIS.CONFIG's words spell (Table 12.4). -/
def drvCfgOf (ws : List Word) : DrvCfg :=
  { input := bits (par ws 2) 4 3, bus := bits (par ws 2) 8 1, absolute := bitOf (par ws 2) 9, busComp := bitOf (par ws 2) 10
    gateHigh := bitOf (par ws 2) 11, fltHigh := bitOf (par ws 2) 12, pp := bits (par ws 2) 16 6, cpr := bits (par ws 3) 0 24
    fpwm := bits (par ws 4) 16 7, dt := bits (par ws 5) 0 8, twin := bits (par ws 5) 8 8, maxPred := bits (par ws 5) 16 3
    exp := sbits (par ws 5) 24 6, oc := bits (par ws 6) 0 16, idRef := sbits (par ws 6) 16 16, zeroSpd := par ws 7, ascSpd := par ws 8
    sslot := bits (par ws 9) 0 6, stopTo := bits (par ws 9) 16 16, vnom := bits (par ws 10) 0 12 }

/-- A configuration of an axis whose values are in range, with a speed slot that drives the axis, and a position input that is absolute
where the configuration says so (R365, R390). -/
structure DrvCfgLegal (s : State) (a : Nat) (c : DrvCfg) : Prop where
  pp : 1 ≤ c.pp
  cpr : 1 ≤ c.cpr
  fpwmLeast : 8 ≤ c.fpwm
  fpwmMost : c.fpwm ≤ 100
  dt : 5 ≤ c.dt
  twinLeast : 5 ≤ c.twin
  twinMost : c.twin ≤ 100
  maxPredLeast : 1 ≤ c.maxPred
  maxPredMost : c.maxPred ≤ 4
  ocLeast : 1 ≤ c.oc
  ocMost : c.oc ≤ 32767
  stopTo : 10 ≤ c.stopTo
  slot : sslotOk s c.sslot a c.input = true
  mode : c.absolute = false ∨ (posIn s c.input).mode = 3 ∨ (posIn s c.input).mode = 4

/-- An axis with a new configuration at time `now`; `keep` says whether the velocity of its position input goes on, and `raw` is the
input's raw count (R365, R367). -/
def Drive.configuredAs (c : DrvCfg) (angOff raw now : Nat) (keep : Bool) (d : Drive) : Drive :=
  { d with cfg := c, angOff := angOff, aligned := c.absolute, xm := if c.absolute then raw % c.cpr else d.xm % c.cpr
           x := if keep then d.x else 0, xTime := if keep then d.xTime else now, xChanged := if keep then d.xChanged else now
           vel := if keep then d.vel else [], omegaValid := keep && d.omegaValid, pwmAt := if d.st = .off then now else d.pwmAt }

/-- The state with the slot taken and AXIS.CONFIG's configuration in its axis. -/
def axisConfigured (ws : List Word) (s : State) : State :=
  let d := drv s (bits (par ws 2) 0 3)
  setDrv (bits (par ws 2) 0 3) (.configuredAs (drvCfgOf ws) (bits (par ws 4) 0 16) (posIn s (drvCfgOf ws).input).raw s.now
    (d.st != .off && d.cfg.input == (drvCfgOf ws).input)) (taken s)

theorem execAxisConfig_configures
    (a : Accepts s 0x0B01 [0x3F1F77, 0xFFFFFF, 0x7FFFFF, 0x3F07FFFF, allBits, allBits, allBits, 0xFFFF003F, 0xFFF] n ws)
    (legal : DrvCfgLegal s (bits (par ws 2) 0 3) (drvCfgOf ws)) (rests : (drv s (bits (par ws 2) 0 3)).st = .off
      ∨ (drv s (bits (par ws 2) 0 3)).st = .disabled ∨ (drv s (bits (par ws 2) 0 3)).st = .fault) :
    execAxisConfig s = .next (okReply n [] (if (drv s (bits (par ws 2) 0 3)).st = .off
      then drvTo (bits (par ws 2) 0 3) .disabled 0 (axisConfigured ws s) else axisConfigured ws s)) := by
  obtain ⟨pp, cpr, fpwmLeast, fpwmMost, dt, twinLeast, twinMost, maxPredLeast, maxPredMost, ocLeast, ocMost, stopTo, slot, mode⟩ := legal
  refine serve_next_ok a rfl ((if_neg ?inRange).trans ((if_neg ?atRest).trans rfl))
  case inRange =>
    simp only [not_or, Nat.not_lt]
    refine ⟨pp, cpr, fpwmLeast, fpwmMost, dt, twinLeast, twinMost, maxPredLeast, maxPredMost, ocLeast, ocMost, stopTo, ?_, ?_⟩
    · exact fun bad => absurd (bad.symm.trans (congrArg not slot)) (by decide)
    · rintro ⟨absolute, not3, not4⟩
      rcases mode with relative | is3 | is4
      · exact absurd (absolute.symm.trans relative) (by decide)
      · exact not3 is3
      · exact not4 is4
  case atRest =>
    rintro ⟨notOff, notDisabled, notFault⟩
    exact rests.elim notOff (Or.elim · notDisabled notFault)

/-! AXIS.ADVANCE and AXIS.ALIGN. -/

/-- The phase-advance entries that AXIS.ADVANCE's words spell (R366). -/
def advanceOf (ws : List Word) : List Int := (List.range 32).map (fun i => sbits (par ws (4 + i / 2)) (16 * (i % 2)) 16)

theorem execAxisAdvance_waits (a : Accepts s 0x0B02 ([7, allBits] ++ List.replicate 16 allBits) n ws) (least : 31 ≤ par ws 3) :
    execAxisAdvance s = .next (okReply n [] (setDrv (bits (par ws 2) 0 3)
      (fun d => { d with advNext := some (par ws 3, advanceOf ws) }) (taken s))) :=
  serve_next_ok a rfl (if_neg (Nat.not_lt.mpr least))

/-- The alignment that a command's word and its target ask for, beginning in a state and served by that state's next command. -/
def alignAsked (w : Nat) (start : Option (Int × Nat × Nat)) (s : State) : AlignRun :=
  { alignI := bits w 0 16, hold := bits w 16 16, began := s.now, oid := some s.host.nextOid, start := start }

theorem execAxisAlign_begins (a : Accepts s 0x0B03 [7, allBits] n ws) (legal : alignOk (bits (par ws 3) 0 16) (bits (par ws 3) 16 16) = true)
    (relative : (drv s (bits (par ws 2) 0 3)).cfg.absolute = false) (disabled : (drv s (bits (par ws 2) 0 3)).st = .disabled)
    (stands : standing (drv s (bits (par ws 2) 0 3)) = true) :
    execAxisAlign s = .next (pendingReply n ws s.host.nextOid (setDrv (bits (par ws 2) 0 3)
      (fun d => { d with align := some (alignAsked (par ws 3) none s) }) (drvTo (bits (par ws 2) 0 3) .aligning 0 (taken s)))) :=
  serve_next_pending a rfl ((if_neg (by simp [legal])).trans (if_neg (by simp [relative, disabled, stands])))

/-! AXIS.ENABLE. -/

section
variable (a : Accepts s 0x0B04 [0x307] n ws) (noOffsets : offsetRuns s (bits (par ws 2) 0 3) = false)
include a noOffsets

theorem execAxisEnable_disables (disable : bits (par ws 2) 8 2 = 0) (free : loopProtected s (drv s (bits (par ws 2) 0 3)).cfg.sslot = false) :
    execAxisEnable s = .next (okReply n [] (if (drv s (bits (par ws 2) 0 3)).st.driving
      then drvTo (bits (par ws 2) 0 3) .disabled 0 (taken s) else taken s)) :=
  serve_next_ok a rfl (by simp only [disable]; exact (if_neg (by simp [free])).trans (if_neg (by simp [noOffsets])))

theorem execAxisEnable_runs (enable : bits (par ws 2) 8 2 = 1) (disabled : (drv s (bits (par ws 2) 0 3)).st = .disabled)
    (aligned : commAligned s (drv s (bits (par ws 2) 0 3)) = true) :
    execAxisEnable s = .next (okReply n [] (axisEnable (bits (par ws 2) 0 3) 0 (taken s))) :=
  serve_next_ok a rfl (by simp [enable, disabled, aligned, noOffsets])

theorem execAxisEnable_endsFault (endFault : bits (par ws 2) 8 2 = 2) (fault : (drv s (bits (par ws 2) 0 3)).st = .fault) :
    execAxisEnable s = .next (okReply n [] (drvTo (bits (par ws 2) 0 3) .disabled 0 (taken s))) :=
  serve_next_ok a rfl (by simp [endFault, fault, noOffsets])

end

/-! AXIS.START. -/

/-- An axis can start: it runs, or it is disabled and either aligned or standing with legal parameters of an alignment (R375). -/
def mayStart (s : State) (a w : Nat) : Prop :=
  (drv s a).st = .run
  ∨ ((drv s a).st = .disabled ∧ (commAligned s (drv s a) = true ∨ (alignOk (bits w 0 16) (bits w 16 16) = true ∧ standing (drv s a) = true)))

/-- The state in which AXIS.START's words wait on their axis: the AXIS.START that had not gone on yet has ended. -/
def axisStartAsked (ws : List Word) (s : State) : State :=
  let a := bits (par ws 2) 0 3
  let u := alignDone a stOk [(drv s a).st.code] (taken s)
  let ramps := (sint (par ws 3) 32, bits (par ws 4) 0 16, bits (par ws 4) 16 16)
  setDrv a (fun d => { d with align := some (alignAsked (par ws 5) (some ramps) u) }) u

theorem execAxisStart_goesOn (a : Accepts s 0x0B05 [7, allBits, allBits, allBits] n ws) (accLeast : 1 ≤ bits (par ws 4) 0 16)
    (accMost : bits (par ws 4) 0 16 ≤ 32767) (decLeast : 1 ≤ bits (par ws 4) 16 16) (decMost : bits (par ws 4) 16 16 ≤ 32767)
    (noOffsets : offsetRuns s (bits (par ws 2) 0 3) = false) (may : mayStart s (bits (par ws 2) 0 3) (par ws 5)) :
    execAxisStart s = .next (startPending s.host.nextOid (pendingReply n ws s.host.nextOid (axisStartAsked ws s))) := by
  refine congrArg (fun u => Host.Outcome.next (startPending s.host.nextOid u))
    (serve_later _ _ _ _ s n ws a rfl (axisStartAsked ws s) stPending ?work (.inr rfl))
  refine (if_neg ?legal).trans ((if_neg ?ready).trans (if_neg ?free))
  case legal =>
    rintro (noAcc | wideAcc | noDec | wideDec | badAlign)
    · omega
    · omega
    · omega
    · omega
    · rcases may with run | ⟨disabled, aligned | ⟨legal, _⟩⟩
      · simp [run] at badAlign
      · simp [aligned] at badAlign
      · simp [legal] at badAlign
  case ready =>
    rcases may with run | ⟨disabled, aligned | ⟨_, stands⟩⟩
    · simp [run]
    · simp [disabled, aligned]
    · simp [disabled, stands]
  case free =>
    rcases may with run | ⟨disabled, _⟩
    · simp [noOffsets, run]
    · simp [noOffsets, disabled]

/-! AXIS.STATUS. -/

theorem execAxisStatus_reports (a : Accepts s 0x0B06 [7] n ws) : ∃ r, r.length = 7 ∧ execAxisStatus s = .next (okReply n r (taken s)) :=
  ⟨_, rfl, serve_next_ok a rfl rfl⟩

/-! AXIS.BUS. -/

/-- The V_ON that AXIS.BUS's words leave of a bus: a field of 0 keeps the value (Table 12.4). -/
def MotorBus.newOn (ws : List Word) (x : MotorBus) : Nat := orKeep (bits (par ws 3) 0 12) x.vOn

/-- The V_OFF that they leave. -/
def MotorBus.newOff (ws : List Word) (x : MotorBus) : Nat := orKeep (bits (par ws 3) 16 12) x.vOff

/-- The V_HARD that they leave. -/
def MotorBus.newHard (ws : List Word) (x : MotorBus) : Nat := orKeep (bits (par ws 4) 0 12) x.vHard

/-- AXIS.BUS's words give a bus times and thresholds in range, V_OFF below V_ON below V_HARD, or V_OFF 0 where V_ON is 0 (R377, R379). -/
structure AxisBusLegal (ws : List Word) (x : MotorBus) : Prop where
  detect : zeroOrIn 5 1000 (bits (par ws 5) 0 16) = true
  fault : zeroOrIn 50 10000 (bits (par ws 5) 16 16) = true
  configured : x.newOn ws ≠ 0 → x.newOff ws < x.newOn ws
  unconfigured : x.newOn ws = 0 → x.newOff ws = 0
  hard : x.newOn ws < x.newHard ws

/-- A bus as AXIS.BUS's words set it, from its thresholds before (R377, R380). -/
def MotorBus.configuredAs (ws : List Word) (old x : MotorBus) : MotorBus :=
  { x with configured := decide (old.newOn ws ≠ 0), gateHigh := bitOf (par ws 2) 9, vOn := old.newOn ws, vOff := old.newOff ws
           vHard := old.newHard ws, iMin := orKeep (bits (par ws 4) 16 12) x.iMin, tDet := orKeep (bits (par ws 5) 0 16) x.tDet
           tFault := orKeep (bits (par ws 5) 16 16) x.tFault, fault := x.fault && !bitOf (par ws 2) 8 }

/-- AXIS.BUS's answer about a bus: its newest sample, and whether its chopper is on or in fault (Table 12.4). -/
def MotorBus.report (x : MotorBus) : Nat := fld x.vbus 0 12 + 65536 * b2n x.on + 131072 * b2n x.fault

theorem execAxisBus_sets (a : Accepts s 0x0B07 [0x301, 0x0FFF0FFF, 0x0FFF0FFF, allBits] n ws)
    (legal : AxisBusLegal ws (busOf s (bits (par ws 2) 0 1)))
    (clearable : bitOf (par ws 2) 8 = true →
      (busOf s (bits (par ws 2) 0 1)).vbus < (busOf s (bits (par ws 2) 0 1)).newOff ws ∧ busQuiet s (bits (par ws 2) 0 1) = true) :
    let u := setBus (bits (par ws 2) 0 1) (.configuredAs ws (busOf s (bits (par ws 2) 0 1))) (taken s)
    execAxisBus s = .next (okReply n [(busOf u (bits (par ws 2) 0 1)).report] u) := by
  obtain ⟨detect, fault, configured, unconfigured, hard⟩ := legal
  refine serve_next_ok a rfl ((if_neg ?inRange).trans ((if_neg ?mayClear).trans rfl))
  case inRange =>
    rintro (badDetect | badFault | ⟨nonzero, high⟩ | ⟨zero, nonzero⟩ | low)
    · simp [detect] at badDetect
    · simp [fault] at badFault
    · exact absurd (configured nonzero) (Nat.not_lt.mpr high)
    · exact nonzero (unconfigured zero)
    · exact absurd hard (Nat.not_lt.mpr low)
  case mayClear =>
    intro refused
    obtain ⟨⟨clear, _⟩, high | busy⟩ : (bitOf (par ws 2) 8 = true ∧ _) ∧ (_ ∨ _) := by
      simpa only [Bool.and_eq_true, Bool.or_eq_true] using refused
    · exact absurd (clearable clear).1 (Nat.not_lt.mpr (of_decide_eq_true high))
    · simp [(clearable clear).2] at busy

end

/-- Settles O39: every case of every command is one of the lemmas above, on the command's own row of `exec`. -/
theorem driveCommandsComplete : Obligations.DriveCommandsComplete := by
  unfold Obligations.DriveCommandsComplete
  intro s n ws
  refine ⟨?config, execAxisAdvance_waits, execAxisAlign_begins, fun a noOffsets => ?enable, ?start, execAxisStatus_reports, ?bus⟩
  case config =>
    intro a c p keep u pp cpr fpwmLeast fpwmMost dt twinLeast twinMost maxPredLeast maxPredMost ocLeast ocMost stopTo slot mode
    have legal : DrvCfgLegal s (bits (par ws 2) 0 3) (drvCfgOf ws) :=
      ⟨pp, cpr, fpwmLeast, fpwmMost, dt, twinLeast, twinMost, maxPredLeast, maxPredMost, ocLeast, ocMost, stopTo, slot, mode⟩
    refine ⟨fun off => ?_, fun rests => ?_⟩
    · exact (execAxisConfig_configures a legal (.inl off)).trans (by rw [if_pos off]; rfl)
    · have notOff : (drv s (bits (par ws 2) 0 3)).st ≠ .off := by rcases rests with st | st <;> simp [st]
      exact (execAxisConfig_configures a legal (.inr rests)).trans (by rw [if_neg notOff]; rfl)
  case enable => exact ⟨execAxisEnable_disables a noOffsets, execAxisEnable_runs a noOffsets, execAxisEnable_endsFault a noOffsets⟩
  case start =>
    intro a acc dec i hold accLeast accMost decLeast decMost noOffsets may
    exact execAxisStart_goesOn a accLeast accMost decLeast decMost noOffsets may
  case bus =>
    intro a b clear x tDet tFault vOn vOff vHard detect fault configured unconfigured hard clearable
    exact execAxisBus_sets a ⟨detect, fault, configured, unconfigured, hard⟩ clearable

end Sys2Proof.Machine
end

section
/-! SUPPORT. The commands of stepper axes once the firmware has taken them: what each answers (R382, R384 to R388, Table 12.4). -/

namespace Sys2Proof.Machine

@[simp] theorem taken_stp (s : State) (a : Nat) : stp (taken s) a = stp s a := rfl
@[simp] theorem taken_moveRefused (s : State) (a : Nat) (d : Int) : moveRefused (taken s) a d = moveRefused s a d := rfl

section
variable {s : State} {n : Nat} {ws : List Word}

/-! STEP.CONFIG. -/

/-- The configuration that STEP.CONFIG's words spell (Table 12.4). -/
def stepCfgOf (ws : List Word) : StepCfg :=
  { bus := bits (par ws 2) 8 1, mres := bits (par ws 2) 12 3, rampP := bitOf (par ws 2) 16, rampN := bitOf (par ws 2) 17
    active := bits (par ws 2) 20 3, spdHi := bits (par ws 3) 0 16, spdLo := bits (par ws 3) 16 16
    ampQ := sbits (par ws 4) 0 16, ampS := sbits (par ws 4) 16 16, hold := sbits (par ws 5) 0 16, holdDelay := bits (par ws 5) 16 16
    toff := bits (par ws 6) 0 8, spwm := bits (par ws 6) 16 8, deb := bits (par ws 7) 0 14, chatEdges := bits (par ws 7) 16 8
    chatWin := bits (par ws 8) 0 10, decLim := par ws 9 }

/-- A stepper configuration whose values are in range (R382, R385, R386). -/
structure StepCfgLegal (c : StepCfg) : Prop where
  speeds : c.spdLo < c.spdHi
  toffLeast : 1 ≤ c.toff
  toffMost : c.toff ≤ 100
  spwmLeast : 20 ≤ c.spwm
  spwmMost : c.spwm ≤ 100
  debLeast : 1 ≤ c.deb
  debMost : c.deb ≤ 10000
  chatEdges : 2 ≤ c.chatEdges
  chatWinLeast : 1 ≤ c.chatWin
  chatWinMost : c.chatWin ≤ 1000

theorem execStepConfig_configures (a : Accepts s 0x0B10 [0x737107, allBits, allBits, allBits, 0xFF00FF, 0xFF3FFF, 0x3FF, allBits] n ws)
    (legal : StepCfgLegal (stepCfgOf ws)) : execStepConfig s = .next (okReply n [] (setStp (bits (par ws 2) 0 3)
      (fun x => { x with cfg := stepCfgOf ws, st := if x.st = .off then .disabled else x.st }) (taken s))) := by
  obtain ⟨speeds, toffLeast, toffMost, spwmLeast, spwmMost, debLeast, debMost, chatEdges, chatWinLeast, chatWinMost⟩ := legal
  refine serve_next_ok a rfl (if_neg ?_)
  simp only [not_or, Nat.not_lt, Nat.not_le]
  exact ⟨speeds, toffLeast, toffMost, spwmLeast, spwmMost, debLeast, debMost, chatEdges, chatWinLeast, chatWinMost⟩

/-! STEP.MOVE. -/

/-- A standing axis as STEP.MOVE's words start it at time `now`, from VSTART (R383). -/
def Stepper.started (ws : List Word) (now : Nat) (x : Stepper) : Stepper :=
  { x with st := .moving, target := par ws 3, vmax := par ws 4, vstart := par ws 5, acc := par ws 6, dec := par ws 7, v2 := 0
           deEnergise := false, holdAt := none, nextAt := some now }

/-- A moving axis with STEP.MOVE's target and ramps waiting for the next microstep (R384). -/
def Stepper.redirected (ws : List Word) (x : Stepper) : Stepper :=
  { x with st := .moving, pend := some (par ws 3, par ws 4, par ws 6, par ws 7), deEnergise := false }

section
variable (a : Accepts s 0x0B11 [7, allBits, allBits, allBits, allBits, allBits] n ws) (speeds : par ws 5 ≤ par ws 4)
  (allowed : moveRefused s (bits (par ws 2) 0 3) (posDiff (par ws 3) (stp s (bits (par ws 2) 0 3)).pos) = false)
include a speeds allowed

theorem execStepMove_starts (stands : (stp s (bits (par ws 2) 0 3)).st.moves = false) :
    execStepMove s = .next (okReply n [] (setStp (bits (par ws 2) 0 3) (.started ws s.now) (taken s))) :=
  serve_next_ok a rfl ((if_neg (Nat.not_lt.mpr speeds)).trans ((if_neg (by simp [allowed])).trans (if_neg (by simp [stands]))))

theorem execStepMove_redirects (moves : (stp s (bits (par ws 2) 0 3)).st.moves = true) : execStepMove s
    = .next (okReply n [] (setStp (bits (par ws 2) 0 3) (.redirected ws) (homeFail (bits (par ws 2) 0 3) 4 (taken s)))) :=
  serve_next_ok a rfl ((if_neg (Nat.not_lt.mpr speeds)).trans ((if_neg (by simp [allowed])).trans (if_pos moves)))

end

/-! STEP.HOME. -/

/-- The homing that STEP.HOME's words ask for, as the command `oid` (Table 12.2). -/
def homingOf (ws : List Word) (oid : Nat) : Homing :=
  { oid := oid, neg := bitOf (par ws 2) 8, fast := par ws 3, creep := par ws 4, backoff := par ws 5, max := par ws 6
    homePos := par ws 7, dec := par ws 8 }

/-- An axis that starts homing at time `now`, with its acceleration and, from standstill, its VSTART (R387; log entry 49). -/
def Stepper.homes (h : Homing) (acc vstart now : Nat) (x : Stepper) : Stepper :=
  { x with st := .homing, homing := some h, target := farTarget x.pos (hdir h), vmax := h.fast, acc := acc, dec := h.dec
           vstart := if x.st.moves then x.vstart else vstart, pend := none, deEnergise := false, holdAt := none
           nextAt := some (x.nextAt.getD now) }

/-- The state in which an axis starts homing, its acceleration and VSTART drawn as free values. -/
def homingBegun (a : Nat) (h : Homing) (s : State) : State :=
  let r := drawNat s
  let q := drawNat r.1
  setStp a (.homes h r.2 q.2 s.now) q.1

theorem execStepHome_homes (a : Accepts s 0x0B12 [0x107, allBits, allBits, allBits, allBits, allBits, allBits] n ws)
    (allowed : moveRefused s (bits (par ws 2) 0 3) (hdir (homingOf ws s.host.nextOid)) = false)
    (noHoming : (stp s (bits (par ws 2) 0 3)).homing = none) : execStepHome s = .next (pendingReply n ws s.host.nextOid
      (homingBegun (bits (par ws 2) 0 3) (homingOf ws s.host.nextOid) (taken s))) := by
  refine serve_next_pending a rfl ((if_neg ?allowed).trans ((if_neg (by simp [noHoming])).trans rfl))
  case allowed => exact fun refused => absurd (refused.symm.trans allowed) (by decide)

/-! STEP.STOP. -/

section
variable (a : Accepts s 0x0B13 [0x307] n ws)
include a

theorem execStepStop_hard (hard : bitOf (par ws 2) 8 = true) :
    execStepStop s = .next (okReply n [] (stepHard (bits (par ws 2) 0 3) (bitOf (par ws 2) 9) (taken s))) :=
  serve_next_ok a rfl (if_pos hard)

section
variable (soft : bitOf (par ws 2) 8 = false)
include soft

theorem execStepStop_stands (stands : (stp s (bits (par ws 2) 0 3)).st.moves = false) :
    execStepStop s = .next (okReply n [] (if bitOf (par ws 2) 9 then stepRest (bits (par ws 2) 0 3) true (taken s) else taken s)) :=
  serve_next_ok a rfl ((if_neg (by simp [soft])).trans (if_neg (by simp [stands])))

/-- The state with the slot taken and the axis to be de-energised after stopping or not. -/
def stopAsked (a : Nat) (off : Bool) (s : State) : State := setStp a (fun x => { x with deEnergise := off }) (taken s)

/-- The deceleration in force of an axis: that of a STEP.MOVE that waits, or its own (R384). -/
def Stepper.decNow (x : Stepper) : Nat := (x.pend.map (fun p => p.2.2.2)).getD x.dec

variable (moves : (stp s (bits (par ws 2) 0 3)).st.moves = true)
include moves

theorem execStepStop_moves : execStepStop s = .next (okReply n [] (if (stp s (bits (par ws 2) 0 3)).homing.isSome
    then homeAbort (bits (par ws 2) 0 3) 4 (stopAsked (bits (par ws 2) 0 3) (bitOf (par ws 2) 9) s)
    else rampStop (bits (par ws 2) 0 3) (stp s (bits (par ws 2) 0 3)).decNow (stopAsked (bits (par ws 2) 0 3) (bitOf (par ws 2) 9) s))) :=
  serve_next_ok a rfl ((if_neg (by simp [soft])).trans ((if_pos moves).trans rfl))

end
end

/-! STEP.STATUS. -/

/-- Reading the speed changes at most the stream of free values. -/
theorem speedNow_free (a : Nat) (s : State) : { (speedNow a s).1 with free := s.free } = s := by
  simp only [speedNow]
  split
  case isTrue => rfl
  case isFalse => rfl

theorem execStepStatus_reports (a : Accepts s 0x0B14 [7] n ws) :
    ∃ r u, r.length = 4 ∧ { u with free := s.free } = taken s ∧ execStepStatus s = .next (okReply n r u) :=
  ⟨_, (speedNow (bits (par ws 2) 0 3) (taken s)).1, rfl, speedNow_free _ (taken s), serve_next_ok a rfl rfl⟩

end

/-- Settles O40: every case of every command is one of the lemmas above, on the command's own row of `exec`. -/
theorem stepperCommandsComplete : Obligations.StepperCommandsComplete := by
  unfold Obligations.StepperCommandsComplete
  intro s n ws
  refine ⟨?config, fun a speeds allowed => ?move, execStepHome_homes, fun a => ?stop, execStepStatus_reports⟩
  case config =>
    intro a c speeds toffLeast toffMost spwmLeast spwmMost debLeast debMost chatEdges chatWinLeast chatWinMost
    exact execStepConfig_configures a
      ⟨speeds, toffLeast, toffMost, spwmLeast, spwmMost, debLeast, debMost, chatEdges, chatWinLeast, chatWinMost⟩
  case move => exact ⟨execStepMove_starts a speeds allowed, execStepMove_redirects a speeds allowed⟩
  case stop =>
    refine ⟨execStepStop_hard a, execStepStop_stands a, fun soft moves => ?_⟩
    have stop := execStepStop_moves a soft moves
    refine ⟨fun homing => stop.trans ?_, fun noHoming => stop.trans ?_⟩
    · rw [if_pos homing]; rfl
    · rw [if_neg (by simp [noHoming])]; rfl

end Sys2Proof.Machine
end

section
/-! SUPPORT. MEM.STATUS, MEM.CONFIG, MEM.FILL, MEM.TRAIN and CHK.SCAN once the firmware has taken them: what each of their cases answers
(R399, R407, R413, R417, R418, R420). -/

namespace Sys2Proof.Machine

section
variable {s : State} {n : Nat} {ws : List Word}

/-! MEM.STATUS. -/

/-- Seconds since a pass of Hen began, as MEM.STATUS gives them (Table 13.9). -/
def passSeconds (s : State) (c : Scrub) : Nat := (s.now - c.started) / 1000000000000 % 2 ^ 32

/-- The words of MEM.STATUS for an SRAM store (Table 13.9). -/
def storeStatusWords (s : State) (m : Nat) : List Nat :=
  [1, ctrVal s 0x0C00 m, ctrVal s 0x0C01 m, fld (sram s m).spares 0 16 + fld (sram s m).pending.length 16 16, ctrVal s 0x0C04 m,
    passSeconds s (sram s m).scrub, 0, 0]

/-- The words of MEM.STATUS for the memory with number `m` that is DDR5 channel `m - 8` (Table 13.9). -/
def chanStatusWords (s : State) (m : Nat) : List Nat :=
  let d := ddr s (m - 8)
  [d.st.code + fld d.rate 8 3 + fld (b2n d.uncal) 16 1, ctrVal s 0x0C00 m, ctrVal s 0x0C01 m, 0, ctrVal s 0x0C04 m, passSeconds s d.scrub,
    d.sets, ctrVal s 0x0C06 m]

section
variable (a : Accepts s 0x0C01 [0xF] n ws)
include a

theorem execMemStatus_store (store : par ws 2 ≤ 4) :
    execMemStatus s = .next (okReply n (storeStatusWords s (par ws 2)) (taken s)) := by
  have sramMem : decide (8 ≤ par ws 2) = false := by simp; omega
  refine serve_next_ok a rfl ((if_neg (by omega)).trans ?_)
  simp only [sramMem, Bool.false_eq_true, if_false]
  rfl

theorem execMemStatus_chan (least : 8 ≤ par ws 2) (most : par ws 2 ≤ 11) :
    execMemStatus s = .next (okReply n (chanStatusWords s (par ws 2)) (taken s)) := by
  have dramMem : decide (8 ≤ par ws 2) = true := decide_eq_true least
  refine serve_next_ok a rfl ((if_neg (by omega)).trans ?_)
  simp only [dramMem, if_true]
  rfl

end

/-! MEM.CONFIG. -/

/-- Every field of MEM.CONFIG's words is 0 or legal (R407, R420). -/
def memConfigOk (ws : List Word) : Bool :=
  zeroOrIn 1 3600 (bits (par ws 2) 0 16) && zeroOrIn 1 168 (bits (par ws 2) 16 8) && zeroOrIn 2 15 (bits (par ws 3) 0 4)
    && zeroOrIn 8 16 (bits (par ws 3) 8 8) && zeroOrIn 20 1000 (bits (par ws 3) 16 16) && zeroOrIn 100 0xFFFFFFFF (par ws 4)

/-- The memory with what MEM.CONFIG's words give that is not 0 (Table 13.9). -/
def memConfigured (ws : List Word) (m : MemState) : MemState :=
  { m with
    sramPeriod := orKeep (bits (par ws 2) 0 16) m.sramPeriod, dramPeriod := orKeep (bits (par ws 2) 16 8) m.dramPeriod
    rowLimit := orKeep (bits (par ws 3) 0 4) m.rowLimit, log2Grain := orKeep (bits (par ws 3) 8 8) m.log2Grain
    idleClose := orKeep (bits (par ws 3) 16 16) m.idleClose, ceLimit := orKeep (par ws 4) m.ceLimit }

section
variable (a : Accepts s 0x0C02 [0xFFFFFF, 0xFFFFFF0F, allBits] n ws) (legal : memConfigOk ws = true)
include a legal

theorem execMemConfig_sets
    (grain : bits (par ws 3) 8 8 = 0 ∨ bits (par ws 3) 8 8 = s.mem.log2Grain ∨ s.spool.extents.isEmpty = true) :
    execMemConfig s = .next (okReply n [] { taken s with mem := memConfigured ws s.mem }) := by
  have keeps : ¬ (bits (par ws 3) 8 8 ≠ 0 ∧ bits (par ws 3) 8 8 ≠ s.mem.log2Grain ∧ ¬ s.spool.extents.isEmpty = true) := by
    rintro ⟨changed, other, used⟩
    exact grain.elim changed (fun keeps => keeps.elim other used)
  unfold memConfigOk at legal
  exact serve_next_ok a rfl ((if_neg (by simp [legal])).trans (if_neg keeps))

theorem execMemConfig_grainInUse (changed : bits (par ws 3) 8 8 ≠ 0) (other : bits (par ws 3) 8 8 ≠ s.mem.log2Grain)
    (used : s.spool.extents.isEmpty = false) : execMemConfig s = .next (respond n stState [] (taken s)) := by
  unfold memConfigOk at legal
  exact serve_next_refused a rfl ((if_neg (by simp [legal])).trans (if_pos ⟨changed, other, by simp [used]⟩)) (by decide) (by decide)

end

/-! MEM.FILL. -/

theorem execMemFill_queues (a : Accepts s 0x0C03 [allBits, allBits, 0xF] n ws) :
    execMemFill s = .next (pendingReply n ws s.host.nextOid { taken s with mem := { s.mem with
      fills := s.mem.fills ++ [{ oid := s.host.nextOid, pattern := BitVec.ofNat 64 (par64 ws 2), channels := par ws 4 &&& healthyMask s }] } }) :=
  serve_next_pending a rfl rfl

/-! MEM.TRAIN. -/

section
variable (a : Accepts s 0x0C06 [0x703] n ws) (rate : bits (par ws 2) 8 3 ≤ 4)
include a rate

theorem execMemTrain_begins (idle : anyLive s = false) (runs : memRuns s (8 + bits (par ws 2) 0 2) = true) (untrained : s.mem.train = none) :
    execMemTrain s = .next (pendingReply n ws s.host.nextOid { taken s with mem := { s.mem with
      train := some { oid := some s.host.nextOid, chan := bits (par ws 2) 0 2, rate := bits (par ws 2) 8 3 } } }) :=
  serve_next_pending a rfl ((if_neg (Nat.not_lt.mpr rate)).trans ((if_neg (by simp [idle, runs])).trans (if_neg (by simp [untrained]))))

theorem execMemTrain_live (live : anyLive s = true) : execMemTrain s = .next (respond n stState [] (taken s)) :=
  serve_next_refused a rfl ((if_neg (Nat.not_lt.mpr rate)).trans (if_pos (by simp [live]))) (by decide) (by decide)

end

/-! CHK.SCAN. -/

/-- The state with the scan of CHK.SCAN's words queued, given an engine where one is free (R417). -/
def scanQueued (ws : List Word) (sid : Option Nat) (s : State) : State :=
  scanAssign { s with mem := { s.mem with scans := s.mem.scans ++
    [{ oid := s.host.nextOid, words := (List.range 8).map (fun i => BitVec.ofNat 32 (par ws (i + 2))), sid := sid }] } }

section
variable (a : Accepts s 0x0C08 [0x10303, allBits, allBits, allBits, allBits, 0xFFFF, allBits, allBits] n ws)
include a

theorem execChkScan_hostMemory (source : bits (par ws 2) 8 2 = 0) (bytes : par ws 5 ≠ 0) :
    execChkScan s = .next (pendingReply n ws s.host.nextOid (scanQueued ws none (taken s))) := by
  refine serve_next_pending a rfl ?_
  simp only [source, if_neg bytes]
  rfl

theorem execChkScan_region (source : bits (par ws 2) 8 2 = 1) (bytes : par ws 5 ≠ 0) (readable : par ws 7 % 16 < 4)
    (inside : par64 ws 3 + par ws 5 ≤ (diagRegion (par ws 7 % 16)).1) :
    execChkScan s = .next (pendingReply n ws s.host.nextOid (scanQueued ws none (taken s))) := by
  refine serve_next_pending a rfl ?_
  simp only [source, if_neg bytes, if_neg (Nat.not_le.mpr readable), if_neg (Nat.not_lt.mpr inside)]
  rfl

theorem execChkScan_stream {p : Page} (source : bits (par ws 2) 8 2 = 2) (plane : bits (par ws 7) 0 8 ≤ 5) (band : bits (par ws 7) 8 8 ≤ 15)
    (page : findPage s (par ws 6) = some p) (spooled : p.st ≠ .queued) (has : bitOf p.planes (bits (par ws 7) 0 8) = true) :
    execChkScan s = .next (pendingReply n ws s.host.nextOid (scanQueued ws ((ingestOf s p.key).map Ingest.sid) (taken s))) := by
  have legal : ¬ (5 < bits (par ws 7) 0 8 ∨ 15 < bits (par ws 7) 8 8) := by omega
  refine serve_next_pending a rfl ?_
  simp only [source, if_neg legal, taken_findPage, page, if_neg spooled, has, Bool.not_true, Bool.false_eq_true, if_false]
  rfl

end
end

/-- Settles O42: every case of every command is one of the lemmas above. -/
theorem memoryCommandsComplete : Obligations.MemoryCommandsComplete := by
  unfold Obligations.MemoryCommandsComplete
  intro s n ws
  exact ⟨fun a => ⟨execMemStatus_store a, execMemStatus_chan a⟩, fun a legal => ⟨execMemConfig_sets a legal, execMemConfig_grainInUse a legal⟩,
    execMemFill_queues, fun a rate => ⟨execMemTrain_begins a rate, execMemTrain_live a rate⟩,
    fun a => ⟨execChkScan_hostMemory a, execChkScan_region a, fun p => execChkScan_stream a⟩⟩

end Sys2Proof.Machine
end

section
/-! SUPPORT. The rows of the memories on an engine die that runs: Hen's reads, live sweeps, migration, fills, training and scans, each row
where it acts, and what each of its cases does (R396, R399 to R401, R409, R410, R413 to R415, R417, Table 13.1). -/

namespace Sys2Proof.Machine

section
variable {s : State}

/-! SCRUB_READ and SCRUB_LATE_TIMEOUT. -/

/-- The store or channel that a memory's number names (Table 13.9). -/
def memIndex (m : Nat) : Nat := if decide (8 ≤ m) then m - 8 else m

/-- The state when Hen's next read of a memory is due. -/
def henDue (m : Nat) (s : State) : State := atTime (scrubDue s (decide (8 ≤ m)) (memIndex m)) s

/-- Hen's place in a memory. -/
def henAt (m : Nat) (s : State) : Scrub := scrubOf s (decide (8 ≤ m)) (memIndex m)

/-- The word that Hen reads in a memory. -/
def henWord (m : Nat) (s : State) : Nat := scrubWord s (decide (8 ≤ m)) (memIndex m) (henAt m s).pos

/-- Hen finds a correctable error: it is recorded with its pass, and a write-back dropped in SRAM is counted (R396, R402). -/
def henCorrects (m bit : Nat) (dropped : Bool) (s : State) : State :=
  let ce := memCe (decide (8 ≤ m)) (memIndex m) (henWord m s) bit (some (henAt m s).pass) s
  if dropped && !decide (8 ≤ m) then tick 0x0C02 (memIndex m) ce else ce

/-- Hen finds a lost word: it is recorded with its action, and an SRAM word is treated as Table 13.1 gives. -/
def henLoses (m bit : Nat) (s : State) : State :=
  let a := ueAction (decide (8 ≤ m)) (memIndex m) (henAt m s).pos bit
  let ue := memUe (decide (8 ≤ m)) (memIndex m) (henWord m s) a s
  if a = 1 ∧ !decide (8 ≤ m) then lineWordLost (henWord m s) ue
  else if a = 2 ∧ !decide (8 ≤ m) then corrWordLost (henWord m s) bit ue
  else if a = 6 ∧ !decide (8 ≤ m) then fwFault .restart ue else ue

/-- Hen goes on to a memory's next word. -/
def henGoesOn (m : Nat) (s : State) : State := scrubStep (decide (8 ≤ m)) (memIndex m) s

section
variable {m : Nat} (on : engOn s = true) (runs : memRuns s m = true)
include on runs

section
variable (run : s.fw.power = .run)
include run

theorem execScrubRead_clean (bit : Nat) (dropped : Bool) : execScrubRead m 0 bit dropped s = .next (henGoesOn m (henDue m s)) :=
  congrArg _ (when_pos _ _ s (by simp [on, run, runs]))

theorem execScrubRead_corrects (bit : Nat) (dropped : Bool) :
    execScrubRead m 1 bit dropped s = .next (henGoesOn m (henCorrects m bit dropped (henDue m s))) :=
  congrArg _ (when_pos _ _ s (by simp [on, run, runs]))

theorem execScrubRead_loses (bit : Nat) (dropped : Bool) :
    execScrubRead m 2 bit dropped s = .next (henGoesOn m (henLoses m bit (henDue m s))) :=
  congrArg _ (when_pos _ _ s (by simp [on, run, runs]))

end

/-- EV_SCRUB_LATE of a memory whose pass is late at twice its period (R400). -/
def scrubLate (m : Nat) (s : State) : State :=
  let t := atTime ((henAt m s).started + 2 * scrubPeriod s (decide (8 ≤ m)) * 1000000000000) s
  raise 0x0C04 m 0 0 ((t.now - (henAt m s).started) / 1000000000000) (scrubPeriod s (decide (8 ≤ m))) 0
    (setScrub (decide (8 ≤ m)) (memIndex m) (fun c => { c with late := true }) t)

/-- SCRUB_LATE_TIMEOUT raises its event once for a pass. -/
theorem execScrubLateTimeout_once : execScrubLateTimeout m s = .next (if (henAt m s).late then s else scrubLate m s) := by
  cases late : (henAt m s).late with
  | true =>
    have idle : (engOn s && memRuns s m && !(henAt m s).late) = false := by simp [late]
    exact congrArg _ (when_neg _ _ s idle)
  | false =>
    have due : (engOn s && memRuns s m && !(henAt m s).late) = true := by simp [on, runs, late]
    exact congrArg _ (when_pos _ _ s due)

end

/-! DDR_SWEEP_START and DDR_SWEEP_PAUSE. -/

/-- When a channel's sweep starts: at once where a temperature has moved by 5 °C, else 256 ms after the last (R409). -/
def sweepDue (c : Nat) (temps : DramTemps) (s : State) : State :=
  if sweepStep ≤ (temps.mr4 - (ddr s c).lastTemp).natAbs ∨ sweepStep ≤ (temps.die - (ddr s c).lastDie).natAbs then s
  else atTime ((ddr s c).lastSweep + sweepPs) s

theorem execDdrSweepStart_starts {c : Nat} (temps : DramTemps) (on : engOn s = true) (run : s.fw.power = .run)
    (used : (ddr s c).st = .inUse ∨ (ddr s c).st = .failing) (idle : (ddr s c).sweep = none) (free : s.mem.train.map TrainJob.chan ≠ some c) :
    execDdrSweepStart c temps s = .next (tick 0x0C05 (8 + c) (setDdr c (fun d => { d with
      sweep := some {}, lastSweep := (sweepDue c temps s).now, lastTemp := temps.mr4, lastDie := temps.die }) (sweepDue c temps s))) :=
  congrArg _ (when_pos _ _ s (by simpa [on, run, idle, free] using used))

/-- The state at a channel's earliest pause: 50 µs after its own last and clear of every other channel's (R409). -/
def pauseDue (c : Nat) (s : State) : State :=
  atTime (Nat.max ((ddr s c).lastPause + 50000000)
    ((List.range 4).foldl (fun t k => if k = c then t else Nat.max t ((ddr s k).lastPause + 1500000)) 0)) s

/-- A channel with one more point of its sweep read at time `t`. -/
def DdrChan.pointRead (t : Nat) (d : DdrChan) : DdrChan :=
  { d with lastPause := t, sweep := d.sweep.map (fun w => { w with points := w.points + 1, lastPause := some t }) }

theorem execDdrSweepPause_reads {c : Nat} (last found : Bool) (centre : List Int) (on : engOn s = true) (sweeps : (ddr s c).sweep.isSome = true) :
    execDdrSweepPause c last found centre s = .next (let u := setDdr c (.pointRead (pauseDue c s).now) (pauseDue c s)
      if last then sweepEnd c found centre u else u) :=
  congrArg _ (when_pos _ _ s (by simp [on, sweeps]))

/-! EXTENT_MIGRATE. -/

/-- The state with an extent's contents in the next free extent, on the healthy channels, and its marks carried over (R415). -/
def extentMigrated (e : Extent) (s : State) : State :=
  let k := nextExtent s
  let mask := ((s.mem.marks.find? (fun m => m.extent == e.no)).map Marks.mask).getD 0
  let t := repoint e.no k s
  let u := { t with spool := { t.spool with
    extents := t.spool.extents.filter (fun x => x.no != e.no) ++ [{ no := k, channels := healthyMask t }] } }
  spoolLow (forRange 4 (markExtent k (healthyMask u) mask (tick 0x0C08 0 u)) retirePend)

section
variable {e : Extent} (ok : Bool) (on : engOn s = true) (next : migrateNext s = some e)
include on next

theorem execExtentMigrate_full (full : extentsFree s = 0) : execExtentMigrate ok s = .next (spoolLow s) := by
  refine congrArg _ ((when_pos _ _ s on).trans ?_)
  simp only [next, full, if_true]

/-- With an extent free, the extent moves where its copy's check has passed, and stays where it failed. -/
theorem execExtentMigrate_moves (free : extentsFree s ≠ 0) : execExtentMigrate ok s = .next (if ok then extentMigrated e s else s) := by
  refine congrArg _ ((when_pos _ _ s on).trans ?_)
  simp only [next, if_neg free]
  cases ok <;> rfl

end

/-! MEM_FILL_EXTENT_DONE. -/

/-- The state with extent `k` filled with a fill's pattern, all of its granules marked (R399). -/
def extentFilled (f : FillJob) (k : Nat) (s : State) : State :=
  let u := markExtent k f.channels 15 s
  { u with mem := { u.mem with filled := (k, f.pattern) :: u.mem.filled.filter (fun p => p.1 != k) } }

/-- A fill that has filled extent `k`. -/
def FillJob.past (f : FillJob) (k : Nat) : FillJob := { f with next := k + 1, done := f.done + 1 }

section
variable {f : FillJob} {rest : List FillJob} (on : engOn s = true) (oldest : s.mem.fills = f :: rest)
include on oldest

theorem execMemFillExtentDone_none (left : fillAt s f = none) :
    execMemFillExtentDone s = .next (complete f.oid stOk [f.done] { s with mem := { s.mem with fills := rest } }) := by
  refine congrArg _ ((when_pos _ _ s on).trans ?_)
  simp only [oldest, left]

section
variable {k : Nat} (place : fillAt s f = some k)
include place

theorem execMemFillExtentDone_last (left : fillAt (extentFilled f k s) (f.past k) = none) : execMemFillExtentDone s
    = .next (complete f.oid stOk [f.done + 1] { extentFilled f k s with mem := { (extentFilled f k s).mem with fills := rest } }) := by
  unfold extentFilled FillJob.past at left
  refine congrArg _ ((when_pos _ _ s on).trans ?_)
  simp only [oldest, place, left]
  rfl

theorem execMemFillExtentDone_more (left : fillAt (extentFilled f k s) (f.past k) ≠ none) : execMemFillExtentDone s
    = .next { extentFilled f k s with mem := { (extentFilled f k s).mem with fills := f.past k :: rest } } := by
  obtain ⟨l, left⟩ := Option.ne_none_iff_exists'.mp left
  unfold extentFilled FillJob.past at left
  refine congrArg _ ((when_pos _ _ s on).trans ?_)
  simp only [oldest, place, left]
  rfl

end
end

/-! MEM_TRAIN_DONE. -/

/-- The state at the end of a training: where it found a set, the set is valid and to be recorded (R413). -/
def trainEnded (found : Bool) (j : TrainJob) (s : State) : State :=
  if found then recDirty 3 (16 * j.chan + j.rate) (setDdr j.chan (fun d => { d with sets := d.sets ||| (1 <<< j.rate) }) s) else s

theorem execMemTrainDone_completes (found : Bool) {j : TrainJob} (on : engOn s = true) (training : s.mem.train = some j) :
    execMemTrainDone found s
      = .next (trainNext (completeOpt j.oid stOk [] (trainEnded found j { s with mem := { s.mem with train := none } }))) := by
  refine congrArg _ ((when_pos _ _ s on).trans ?_)
  simp only [training]
  rfl

/-! CHK_SCAN_DONE. -/

/-- The state at the end of a scan on engine `e`: counted, its engine given to the next scan (R417). -/
def scanEnded (e : Nat) (j : ScanJob) (s : State) : State :=
  scanAssign (tick 0x0C09 e { s with mem := { s.mem with scans := s.mem.scans.filter (fun q => q.oid != j.oid) } })

/-- The seed of a scan, where it has one (R420). -/
def scanSeed (j : ScanJob) : Option Nat := if bitOf (scanPar j 2) 16 then some (scanPar j 8 + 2 ^ 32 * scanPar j 9) else none

section
variable {e : Nat} {j : ScanJob} (on : engOn s = true) (scan : s.mem.scans.find? (fun j => j.engine == some e) = some j)
include on scan

theorem execChkScanDone_hostError (host : bits (scanPar j 2) 8 2 = 0) :
    execChkScanDone e true s = .next (complete j.oid stDmaFault [] (scanEnded e j s)) := by
  refine congrArg _ ((when_pos _ _ s on).trans ?_)
  simp only [scan, host, beq_self_eq_true, Bool.and_self, if_true]
  rfl

theorem execChkScanDone_answers {bs : List Byte} (read : scanData s j = (0, some bs)) : execChkScanDone e false s
    = .next (complete j.oid stOk (two (scanCrc (bits (scanPar j 2) 0 2) (scanSeed j) bs)) (scanEnded e j s)) := by
  refine congrArg _ ((when_pos _ _ s on).trans ?_)
  simp only [scan, read, Bool.false_and, Bool.false_eq_true, if_false]
  rfl

end
end

/-- Settles O43: every case of every row is one of the lemmas above. -/
theorem memoryIsScrubbedSweptAndMigrated : Obligations.MemoryIsScrubbedSweptAndMigrated := by
  unfold Obligations.MemoryIsScrubbedSweptAndMigrated
  intro s on
  refine ⟨fun m bit dropped run runs => ?scrub, fun m => execScrubLateTimeout_once on,
    fun c temp die => execDdrSweepStart_starts { mr4 := temp, die := die } on, fun c last found centre => execDdrSweepPause_reads last found centre on,
    fun e ok next => ⟨execExtentMigrate_full ok on next, execExtentMigrate_moves (e := e) ok on next⟩, fun f rest oldest => ?fill,
    fun found j => execMemTrainDone_completes found on, fun e err j scan => ?scan⟩
  case scrub =>
    exact ⟨execScrubRead_clean on runs run bit dropped, execScrubRead_corrects on runs run bit dropped, execScrubRead_loses on runs run bit dropped⟩
  case fill =>
    exact ⟨execMemFillExtentDone_none on oldest,
      fun k place => ⟨execMemFillExtentDone_last on oldest place, execMemFillExtentDone_more on oldest place⟩⟩
  case scan =>
    refine ⟨fun fails => ?_, fun bs passes => ?_⟩
    · subst fails
      exact execChkScanDone_hostError on scan
    · subst passes
      exact execChkScanDone_answers on scan

end Sys2Proof.Machine
end

section
/-! SUPPORT. Trip causes: those that are always enabled, and what a cause does while the safe state holds (R426, R428). -/

namespace Sys2Proof.Machine

section
variable {s : State} {c : Nat} (detail : Nat)

/-- A cause that arises while the safe state holds: counted, logged and latched (R428). -/
def causeLatched (c detail : Nat) (s : State) : State :=
  let t := gooseLog c detail (tick 0x0D00 c s)
  { t with sup := { t.sup with latched := t.sup.latched ||| (1 <<< c) } }

/-- None of these causes has an enable (R426). -/
theorem causeEnabled_always (always : c = 1 ∨ c = 2 ∨ c = 3 ∨ c = 4 ∨ c = 9 ∨ c = 11) : causeEnabled s c = true := by
  rcases always with rfl | rfl | rfl | rfl | rfl | rfl <;> rfl

theorem trip_disabled (off : causeEnabled s c = false) : trip c detail s = s := if_pos (by simp [off])

theorem trip_latches (safe : s.sup.safe = true) (on : causeEnabled s c = true) : trip c detail s = causeLatched c detail s := by
  have stillSafe : (gooseLog c detail (tick 0x0D00 c s)).sup.safe = true := by simpa [gooseLog, withSup] using safe
  exact (if_neg (by simp [on])).trans (if_pos stillSafe)

end

theorem execSupTrip_trips {s : State} {n : Nat} {ws : List Word} (a : Accepts s 0x0D04 [] n ws) :
    execSupTrip s = .next (okReply n [] (trip 11 0 (taken s))) :=
  serve_next_ok a rfl rfl

/-- Settles O54: a cause that is not enabled ends `trip` at once, and one that is joins the latched causes; SUP.TRIP is cause 11. -/
theorem safeStateLatchesCauses : Obligations.SafeStateLatchesCauses := by
  unfold Obligations.SafeStateLatchesCauses
  intro s c detail
  refine ⟨trip_disabled detail, causeEnabled_always, trip_latches detail, fun n ws a safe => ?supTrip⟩
  have latches : trip 11 0 (taken s) = causeLatched 11 0 (taken s) := trip_latches 0 safe rfl
  exact (execSupTrip_trips a).trans (by rw [latches]; rfl)

end Sys2Proof.Machine
end

section
/-! SUPPORT. Goose's watchdogs, the emergency-stop chain, the HV interlocks and the temperature sensors on a machine die that runs: each row
where it acts, and what each of its cases does (R424 to R426, R429, R431, R432, R442 to R445). -/

namespace Sys2Proof.Machine

section
variable {s : State} (on : macOn s = true)

section
include on

/-! GOOSE_WATCHDOG_EXPIRY and CORE_WATCHDOG_EXPIRY. -/

theorem execGooseWatchdogExpiry_trips :
    execGooseWatchdogExpiry s = .next (trip 9 0 (raise 0x0D07 dev 0 0 1 10 0 (tick 0x0D03 256 s))) :=
  congrArg _ (when_pos _ _ s on)

/-- The state when firmware's time to kick Goose's watchdog has run out (R425). -/
def kickMissed (s : State) : State := atTime (s.sup.kick + s.sup.wdPeriod * 1000000000) s

theorem execCoreWatchdogExpiry_restarts (eng : engOn s = true) (runs : s.fw.st = .ready ∨ s.fw.st = .handover) : execCoreWatchdogExpiry s
    = .next (tripLogged 7 0 (raise 0x0D07 dev 0 0 0 (((kickMissed s).now - s.sup.kick) / 1000000000) 0
        (fwFault .restart (tick 0x0D03 0 (kickMissed s))))) :=
  congrArg _ (when_pos _ _ s (by simpa [on, eng] using runs))

/-! SAFE_IN_EDGE, SAFE_IN_HEALTHY and SAFE_IN_DETAIL_TIMER. -/

/-- Channel `c` of a chain has gone low. -/
def chanLow (c : Nat) (chain : List SafeChan) : List SafeChan := updAt chain c (fun _ => { high := false, wentLow := true })

section
variable {c : Nat} {x : SafeChan} (chan : s.sup.safeIn[c]? = some x)
include chan

section
variable (high : x.high = true)
include high

theorem execSafeInEdge_opens (closed : s.sup.safeIn.all SafeChan.high = true) (settled : s.sup.safeLowAt = none) :
    execSafeInEdge c s = .next (
      let low := chanLow c (s.sup.safeIn.map (fun y => { y with wentLow := false }))
      trip 1 0 { s with sup := { s.sup with
        safeIn := low, needBothLow := s.sup.needBothLow && low.any SafeChan.high, safeLowAt := some s.now } }) := by
  refine congrArg _ ((if_neg (by simp [on, chan, high])).trans ?_)
  simp only [closed, settled, withSup, Option.isNone_none, Bool.and_self, if_true]
  rfl

theorem execSafeInEdge_notes (opened : s.sup.safeIn.all SafeChan.high = false) : execSafeInEdge c s = .next (
    let low := chanLow c s.sup.safeIn
    { s with sup := { s.sup with safeIn := low, needBothLow := s.sup.needBothLow && low.any SafeChan.high } }) := by
  refine congrArg _ ((if_neg (by simp [on, chan, high])).trans ?_)
  simp only [opened, withSup, Bool.false_and, Bool.false_eq_true, if_false]
  rfl

end

theorem execSafeInHealthy_notes (low : x.high = false) : execSafeInHealthy c s = .next { s with sup := { s.sup with
    safeIn := updAt s.sup.safeIn c (fun y => { y with high := true }), bothHigh := s.now } } :=
  congrArg _ (if_neg (by simp [on, chan, low]))

end
end

/-- The detail of a stop (R431): 1 where both channels went low, else 2. -/
def safeDetail (s : State) : Nat := if s.sup.safeIn.all SafeChan.wentLow then 1 else 2

theorem execSafeInDetailTimer_fixes {t : Nat} (first : s.sup.safeLowAt = some t) :
    execSafeInDetailTimer s = .next (tripEvent (withSup (fun u => { u with
      safeLowAt := none, log := logDetail (safeDetail s) u.log
      firstDetail := if u.tripDue && u.firstCause == 1 then safeDetail s else u.firstDetail
      needBothLow := u.needBothLow || (safeDetail s == 2 && u.safeIn.any SafeChan.high) }) (atTime (t + 10000000000) s))) := by
  unfold execSafeInDetailTimer
  rw [first]
  rfl

/-! HV_INTERLOCK_CHANGE. -/

section
variable {k : Nat}

/-- The state with interlock `k`'s input at a level. -/
def ilkLevel (k : Nat) (level : Bool) (s : State) : State :=
  withSup (fun u => { u with ilks := updAt u.ilks k (fun i => { i with level := level }) }) s

section
variable {held : Nat} {i : HvIlk} (now : s.sup.ilks.getD k {} = i)
include now

/-- An interlock that opens: its channels are held off, it is counted and raised, and trips for cause 10 (R432). -/
theorem ilkApply_opens (opens : ilkOpen i = true) : ilkApply k false held s
    = trip 10 k (raise 0x0D04 k 0 0 0 i.mask 0 (tick 0x0D05 k (ilkHold i.mask s))) := by
  subst now
  exact if_pos opens

theorem ilkApply_closes (closes : ilkOpen i = false) : ilkApply k true held s = raise 0x0D04 k 0 0 1 i.mask 0 s := by
  subst now
  exact if_neg (ne_true_of_eq_false closes)

theorem ilkApply_staysClosed (closed : ilkOpen i = false) : ilkApply k false held s = s := by
  subst now
  exact if_neg (ne_true_of_eq_false closed)

end

section
variable {i : HvIlk} (ilk : s.sup.ilks[k]? = some i)
include ilk

/-- An interlock's input takes the level, and what it is configured to stays. -/
theorem ilkLevel_getD (level : Bool) : (ilkLevel k level s).sup.ilks.getD k {} = { i with level := level } := by
  simp [ilkLevel, withSup, updAt, List.getD_eq_getElem?_getD, ilk]

include on

theorem execHvInterlockChange_applies (level : Bool) :
    execHvInterlockChange k level s = .next (ilkApply k (ilkOpen i) i.mask (ilkLevel k level s)) := by
  refine congrArg _ ((if_neg (by simp [on])).trans ?_)
  rw [ilk]
  rfl

theorem execHvInterlockChange_opens {level : Bool} (was : ilkOpen i = false) (opens : level ≠ i.closedHigh) : execHvInterlockChange k level s
    = .next (trip 10 k (raise 0x0D04 k 0 0 0 i.mask 0 (tick 0x0D05 k (ilkHold i.mask (ilkLevel k level s))))) := by
  rw [execHvInterlockChange_applies on ilk, was, ilkApply_opens (ilkLevel_getD ilk level) (by simpa [ilkOpen] using opens)]

theorem execHvInterlockChange_closes {level : Bool} (was : ilkOpen i = true) (closes : level = i.closedHigh) :
    execHvInterlockChange k level s = .next (raise 0x0D04 k 0 0 1 i.mask 0 (ilkLevel k level s)) := by
  rw [execHvInterlockChange_applies on ilk, was, ilkApply_closes (ilkLevel_getD ilk level) (by simpa [ilkOpen] using closes)]

theorem execHvInterlockChange_staysClosed {level : Bool} (was : ilkOpen i = false) (closed : level = i.closedHigh) :
    execHvInterlockChange k level s = .next (ilkLevel k level s) := by
  rw [execHvInterlockChange_applies on ilk, was, ilkApply_staysClosed (ilkLevel_getD ilk level) (by simpa [ilkOpen] using closed)]

end
end

/-! DIE_TEMP_SAMPLE. -/

/-- The state when a die's next temperature sample is due (R442). -/
def tempDue (machine : Bool) (s : State) : State :=
  atTime ((therm s machine).at_ + if fastSampling (therm s machine) then 250000000 else 10000000000) s

/-- The state with every sensor of a die read (R443). -/
def sensorsTaken (machine : Bool) (values : List Int) (s : State) : State :=
  let d := therm s machine
  let t := tempDue machine s
  let w := forRange d.sensors.length (setTherm machine (fun d => { d with at_ := t.now }) t) (fun i s =>
    sensorTake machine i (values.getD i (sensorOf s machine i).value) (tempValid machine d.sensors values i) s)
  if machine then w else setTherm false (fun d => { d with manyRaised := d.manyRaised && sensorsLost w }) w

section
variable {machine : Bool} {values : List Int} (runs : (if machine then macOn s else engOn s) = true)
include runs

theorem execDieTempSample_invalid (noReading : hottestAt (therm (sensorsTaken machine values s) machine) = none) :
    execDieTempSample machine values s = .next (sensorsTaken machine values s) := by
  refine congrArg _ ((if_neg (by simp [runs])).trans ?_)
  unfold sensorsTaken tempDue at noReading
  simp only [noReading]
  rfl

/-- A die's thresholds applied at its hottest reading and that reading's sensor (R444, R445). -/
def thresholdsApplied (machine : Bool) (hot : Int) (i : Nat) (s : State) : State :=
  critStep machine hot i (warnStep machine hot (if machine then s else throttle hot s))

theorem execDieTempSample_applies {hot : Int} {i : Nat} (hottest : hottestAt (therm (sensorsTaken machine values s) machine) = some (hot, i)) :
    execDieTempSample machine values s = .next (
      let v := thresholdsApplied machine hot i (sensorsTaken machine values s)
      if machine = false ∧ 2160 ≤ hot then engineLoss .shut i v else v) := by
  refine congrArg _ ((if_neg (by simp [runs])).trans ?_)
  unfold sensorsTaken tempDue at hottest
  simp only [hottest, Bool.and_eq_true, Bool.not_eq_true', decide_eq_true_eq]
  rfl

end
end

/-- Settles O44: every case of every row is one of the lemmas above, on the row's own arm of `exec`. -/
theorem watchdogsStopChainAndTemperature : Obligations.WatchdogsStopChainAndTemperature := by
  unfold Obligations.WatchdogsStopChainAndTemperature
  intro s on
  refine ⟨execGooseWatchdogExpiry_trips on, execCoreWatchdogExpiry_restarts on, fun c x chan high => ?edge,
    fun c x chan low => execSafeInHealthy_notes on chan low, fun t first => execSafeInDetailTimer_fixes first, fun k i level ilk => ?interlock,
    fun machine values die => ?temperature⟩
  case edge => exact ⟨execSafeInEdge_opens on chan high, execSafeInEdge_notes on chan high⟩
  case interlock =>
    exact ⟨execHvInterlockChange_opens on ilk, execHvInterlockChange_closes on ilk, execHvInterlockChange_staysClosed on ilk⟩
  case temperature =>
    have runs : (if machine then macOn s else engOn s) = true := by
      cases machine with
      | true => exact on
      | false => simpa using die
    exact ⟨execDieTempSample_invalid runs, fun hot i => execDieTempSample_applies runs⟩

end Sys2Proof.Machine
end

section
/-! SUPPORT. The supply, the resets and the power sequence of the engine die: each row where it acts, and what each of its cases does
(R436 to R438, R440, R441, R455, Tables 14.5 and 14.7). -/

namespace Sys2Proof.Machine

section
variable {s : State}

/-! VIN_SAMPLE. -/

/-- The supply's code lies beyond the threshold that the power-on reset's next change waits for (Table 14.5). -/
def vinBeyond (code : Nat) (p : PowerState) : Bool := if p.por then vinOver code else vinUnder code

/-- The state with a supply sample taken 10 µs after the last one (R436). -/
def vinTaken (code : Nat) (s : State) : State :=
  let t := atTime (s.sup.vinAt + 10000000) s
  withSup (fun u => { u with
    vin := code, vinAt := t.now
    power := { u.power with vinSince := if vinBeyond code u.power then some (u.power.vinSince.getD t.now) else none } }) t

theorem execVinSample_takes (code : Nat) :
    execVinSample code s = .next (if s.sup.power.por then vinTaken code s else vinOverStep (vinWarnStep (vinTaken code s))) := rfl

/-! MACHINE_POR_ASSERT, MACHINE_POR_RELEASE and ENG_WAKE. -/

section
variable {t : Nat} (since : s.sup.power.vinSince = some t)
include since

theorem execMachinePorAssert_resets (runs : s.sup.power.por = false) : execMachinePorAssert s = .next (porReset (atTime (t + 5000000) s)) := by
  unfold execMachinePorAssert
  simp only [since, runs, Bool.false_eq_true, if_false]

theorem execMachinePorRelease_releases (held : s.sup.power.por = true) :
    execMachinePorRelease s = .next (porRelease (atTime (t + 2000000000) s)) := by
  unfold execMachinePorRelease
  simp only [since, held, if_true]

end

section
variable (on : macOn s = true)
include on

theorem execEngWake_powersUp (off : s.sup.power.phase = .off) : execEngWake s = .next (powerUp s) :=
  congrArg _ ((if_neg (by simp [on])).trans (if_pos off))

theorem execEngWake_unparks (notOff : s.sup.power.phase ≠ .off) (eng : engOn s = true) (parked : s.fw.parked = true) :
    execEngWake s = .next { s with fw := { s.fw with parked := false, why := .cold } } :=
  congrArg _ ((if_neg (by simp [on])).trans ((if_neg notOff).trans (if_pos (by simp [eng, parked]))))

end

/-! POWER_SEQ_STEP and POWER_SEQ_TIMEOUT. -/

section
variable {rail : Nat} (up : s.sup.power.phase = .up rail)
include up

theorem execPowerSeqStep_enablesNext (more : rail < 6) : execPowerSeqStep rail s = .next (
    let t := atTime (s.sup.power.stepAt + 1000000000) s
    { t with sup := { s.sup with power := { s.sup.power with
        pg := s.sup.power.pg ||| (1#7 <<< rail), phase := .up (rail + 1), en := s.sup.power.en ||| (1#7 <<< (rail + 1)), stepAt := t.now } } }) := by
  have waited : ¬ (s.sup.power.phase ≠ .up rail ∨ 6 < rail) := by simp [up]; omega
  refine congrArg _ ((if_neg waited).trans ?_)
  simp only [if_neg (Nat.ne_of_lt more)]
  rfl

theorem execPowerSeqTimeout_powersDown : execPowerSeqTimeout s = .next (powerDown .sequence (tick 0x0D02 rail
    (gooseLog (16 + rail) rail (atTime (s.sup.power.stepAt + 10000000000) s)))) := by
  unfold execPowerSeqTimeout
  rw [up]

end

theorem execPowerSeqStep_releasesDie (up : s.sup.power.phase = .up 6) : execPowerSeqStep 6 s = .next (engRelease
    { atTime (s.sup.power.stepAt + 10000000000) s with sup := { s.sup with power := { s.sup.power with pg := s.sup.power.pg ||| (1#7 <<< 6) } } }) :=
  congrArg _ (if_neg (by simp [up]))

/-! POWER_DOWN_STEP and PWR_PG_LOSS. -/

/-- The state when the release of `rail` is due (R440). -/
def railDue (rail : Nat) (s : State) : State :=
  let p := s.sup.power
  atTime (if rail = 6 then p.stepAt + 100000000 else if p.pg.getLsbD (rail + 1) then p.stepAt + 5000000000 else s.now) s

theorem execPowerDownStep_releases {rail : Nat} (down : s.sup.power.phase = .down rail) : execPowerDownStep s = .next (
    let t := railDue rail s
    let off := { s.sup.power with en := s.sup.power.en &&& ~~~(1#7 <<< rail), stepAt := t.now }
    { t with sup := { s.sup with power :=
      if rail = 0 then { off with phase := .off, pg := 0, offAt := t.now } else { off with phase := .down (rail - 1) } } }) := by
  unfold execPowerDownStep
  rw [down]
  cases rail <;> rfl

/-- A rail that was good is lost: a running die with it, one that powers up waits for the rail again (R438, R441). -/
theorem execPwrPgLoss_clears {rail : Nat} (good : s.sup.power.pg.getLsbD rail = true) : execPwrPgLoss rail s = .next (
    let u := withPower (fun q => { q with pg := s.sup.power.pg &&& ~~~(1#7 <<< rail) }) s
    if s.sup.power.phase = .on then engineLoss .loss rail u else u) :=
  congrArg _ (if_neg (by simp [good]))

/-! ENGINE_AUTO_RESTART. -/

/-- The time of the automatic restart: 1 s after the power-down (R441). -/
def restartDue (s : State) : Nat := Nat.max s.now (s.sup.power.offAt + 1000000000000)

/-- The automatic restarts of the hour before the next one. -/
def restartsBefore (s : State) : List Nat := s.sup.power.restarts.filter (fun x => decide (restartDue s < x + 3600000000000000))

theorem execEngineAutoRestart_powersUp (on : macOn s = true) (auto : s.sup.autoRestart = true) (off : s.sup.power.phase = .off)
    (loss : s.sup.power.why = .loss) (few : (restartsBefore s).length < 3) : execEngineAutoRestart s
    = .next (powerUp (withPower (fun q => { q with restarts := restartDue s :: restartsBefore s }) (atTime (restartDue s) s))) := by
  unfold restartsBefore restartDue at few
  exact congrArg _ (if_pos (by rw [on, auto, off, loss, decide_eq_true few]; rfl))

end

/-- Settles O45: every case of every row is one of the lemmas above, on the row's own arm of `exec`. -/
theorem supplyAndPowerSequence : Obligations.SupplyAndPowerSequence := by
  unfold Obligations.SupplyAndPowerSequence
  intro s p
  refine ⟨execVinSample_takes, fun t since => execMachinePorAssert_resets since, fun t since => execMachinePorRelease_releases since,
    execSysRstN_resets, execEngWake_powersUp, execEngWake_unparks, fun rail up => ?sequence, fun rail => execPowerDownStep_releases,
    fun rail => execPwrPgLoss_clears, execEngineAutoRestart_powersUp⟩
  intro good
  refine ⟨execPowerSeqStep_enablesNext up, fun last => ?_, execPowerSeqTimeout_powersDown up⟩
  subst last
  exact execPowerSeqStep_releasesDie up

end Sys2Proof.Machine
end

section
/-! SUPPORT. The commands of the supervisor and of temperature once the firmware has taken them: what each answers (R426, R429, R432, R435,
R441, R444, R447, R449, Tables 14.4, 14.11 and 14.12). -/

namespace Sys2Proof.Machine

@[simp] theorem taken_therm (s : State) (machine : Bool) : therm (taken s) machine = therm s machine := rfl
@[simp] theorem taken_presentMask (s : State) : presentMask (taken s) = presentMask s := rfl

section
variable {s : State} {n : Nat} {ws : List Word}

/-! SUP.STATUS and SUP.CONFIG. -/

theorem execSupStatus_reports (a : Accepts s 0x0D01 [] n ws) : ∃ r, r.length = 7 ∧ execSupStatus s = .next (okReply n r (taken s)) :=
  ⟨_, rfl, serve_next_ok a rfl rfl⟩

/-- Goose as SUP.CONFIG's words configure it (Table 14.11). -/
def supConfigured (ws : List Word) (u : SupState) : SupState :=
  { u with
    enables := if bitOf (par ws 2) 16 then BitVec.ofNat 16 (par ws 2) else u.enables
    vinWarn := orKeep (bits (par ws 3) 0 12) u.vinWarn, wdPeriod := orKeep (bits (par ws 3) 16 12) u.wdPeriod, autoRestart := bitOf (par ws 9) 0
    ilks := (List.range 4).map (fun k => { level := (u.ilks.getD k {}).level, closedHigh := bitOf (par ws 4) k, mask := par ws (5 + k) }) }

/-- The four interlocks applied in order after a change from the configurations `old` (R432). -/
def ilksApplied (old : List HvIlk) (s : State) : State :=
  forRange 4 s (fun k s => ilkApply k (ilkOpen (old.getD k {})) (old.getD k {}).mask s)

theorem execSupConfig_configures (a : Accepts s 0x0D02 [0x105E0, 0x0FFF0FFF, 0xF, 0xFFFFFF, 0xFFFFFF, 0xFFFFFF, 0xFFFFFF, 1] n ws)
    (warn : zeroOrIn 300 2400 (bits (par ws 3) 0 12) = true) (period : zeroOrIn 10 1000 (bits (par ws 3) 16 12) = true) :
    execSupConfig s = .next (okReply n [] (ilksApplied s.sup.ilks (withSup (supConfigured ws) (taken s)))) :=
  serve_next_ok a rfl (if_neg (by simp [warn, period]))

/-! SUP.OUTPUT. -/

/-- The outputs that SUP.OUTPUT's words name: one of a group, or all of it. -/
def outputsNamed (ws : List Word) : List Nat :=
  if bitOf (par ws 2) 16 then List.range (groupSize (bits (par ws 2) 0 4)) else [bits (par ws 2) 8 7]

theorem execSupOutput_sets (a : Accepts s 0x0D03 [0x17F0F, 3] n ws) (group : groupSize (bits (par ws 2) 0 4) ≠ 0)
    (output : bitOf (par ws 2) 16 = true ∨ bits (par ws 2) 8 7 < groupSize (bits (par ws 2) 0 4))
    (action : par ws 3 ≤ groupAction (bits (par ws 2) 0 4)) (notSafe : s.sup.safe = false) :
    execSupOutput s = .next (okReply n [] { taken s with sup := { s.sup with
      actions := (outputsNamed ws).foldl (fun m i => natSet m (bits (par ws 2) 0 4 * 128 + i) (par ws 3)) s.sup.actions } }) := by
  have legal : ¬ (groupSize (bits (par ws 2) 0 4) = 0 ∨ (¬ bitOf (par ws 2) 16 ∧ groupSize (bits (par ws 2) 0 4) ≤ bits (par ws 2) 8 7)
      ∨ groupAction (bits (par ws 2) 0 4) < par ws 3) := by
    rintro (noGroup | ⟨notAll, beyond⟩ | above)
    · exact group noGroup
    · exact output.elim notAll (Nat.not_lt.mpr beyond)
    · exact Nat.not_lt.mpr action above
  exact serve_next_ok a rfl ((if_neg legal).trans (if_neg (by simp [notSafe])))

/-! SUP.CLEAR. -/

/-- The loops that no loop tick has reached since the trip go to manual now (R429). -/
def loopsTaken (s : State) : State :=
  if s.sup.loopsDue = true then loopsSafe (withSup (fun x => { x with loopsDue := false }) s) else s

/-- The end of the safe state: its latches and trips are cleared, and EV_SUP_CLEAR gives how long it held (R429). -/
def safeEnded (s : State) : State :=
  raise 0x0D02 dev 0 0 ((s.now - s.sup.tripAt.getD s.now) / 1000000000) s.sup.latched.toNat 0
    { s with sup := { s.sup with
      safe := false, latched := 0, fuser := s.sup.fuser.map (fun f => { f with tripped := false }), busCmp := s.sup.busCmp.map (fun _ => {}) } }

theorem safeClear_eq (s : State) : safeClear s = safeEnded (loopsTaken s) := rfl

theorem execSupClear_ends (a : Accepts s 0x0D05 [] n ws) (safe : s.sup.safe = true) (gone : presentMask s = 0) :
    execSupClear s = .next (okReply n [] (safeEnded (loopsTaken (taken s)))) :=
  serve_next_ok a rfl ((if_neg (by simp [safe])).trans (if_neg (by simp [gone])))

/-! SUP.LOG. -/

/-- Three words for every record. -/
theorem flatten_threes_length {α β : Type} (f g h : α → β) (l : List α) : (l.map (fun x => [f x, g x, h x])).flatten.length = 3 * l.length := by
  simp [List.length_flatten, Function.comp_def, Nat.mul_comm]

/-- The records of Goose's log from number `start` that one SUP.LOG answers. -/
def logPage (s : State) (start : Nat) : List LogRec := (s.sup.log.drop start).take 20

/-- The words of SUP.LOG: the count, and three for each record (Table 14.11). -/
def supLogWords (s : State) (start : Nat) : List Nat :=
  (logPage s start).length :: ((logPage s start).map (fun r => [r.ms % 2 ^ 32, r.code + 256 * b2n r.powered, r.detail])).flatten

theorem execSupLog_reports (a : Accepts s 0x0D06 [0x3F] n ws) : ∃ r, r.length = 1 + 3 * Nat.min 20 (s.sup.log.length - par ws 2)
    ∧ r.head? = some (Nat.min 20 (s.sup.log.length - par ws 2)) ∧ execSupLog s = .next (okReply n r (taken s)) := by
  have count : (logPage s (par ws 2)).length = Nat.min 20 (s.sup.log.length - par ws 2) := by
    rw [logPage, List.length_take, List.length_drop]
  refine ⟨supLogWords s (par ws 2), ?length, congrArg some count, serve_next_ok a rfl rfl⟩
  rw [supLogWords, List.length_cons, flatten_threes_length, count, Nat.add_comm]

/-! THERM.STATUS and THERM.CONFIG. -/

/-- The words of THERM.STATUS of a die whose hottest valid reading is `hot` (Table 14.11). -/
def thermStatusWords (s : State) (d : DieTherm) (hot : Int × Nat) : List Nat :=
  [unsig hot.1 16 + fld hot.2 16 7,
    fld s.sup.level 0 8 + fld (b2n (fastSampling d)) 8 1 + fld (countBy (fun (t : TempSensor) => t.excluded) d.sensors) 16 7,
    unsig (forecastPower s (popCount 6 (liveStations s)) (presentRate s) / 100000) 16] ++ (List.range (d.sensors.length / 2)).map (sensorWord d)

theorem thermStatusWords_length (s : State) (d : DieTherm) (hot : Int × Nat) :
    (thermStatusWords s d hot).length = 3 + d.sensors.length / 2 := by
  rw [thermStatusWords, List.length_append, List.length_map, List.length_range]
  rfl

theorem execThermStatus_reports (a : Accepts s 0x0D07 [1] n ws) {hot : Int × Nat}
    (hottest : hottestAt (therm s (bitOf (par ws 2) 0)) = some hot) :
    execThermStatus s = .next (okReply n (thermStatusWords s (therm s (bitOf (par ws 2) 0)) hot) (taken s)) := by
  refine serve_next_ok a rfl ?_
  simp only [taken_therm, hottest]
  rfl

theorem execThermConfig_sets (a : Accepts s 0x0D08 [0xFFFFFF, 0xFFFFFF, 0xFFFF, allBits] n ws) (order : thermOk (thermWanted ws s.sup) = true)
    (margin : zeroOrIn 2 30 (bits (par ws 3) 16 8) = true) (kth : zeroOrIn 50 2000 (par ws 4) = true)
    (engine : thermLow (bits (par ws 2) 16 8) s.sup.engine = false) (machine : thermLow (bits (par ws 3) 8 8) s.sup.machine = false) :
    execThermConfig s = .next (okReply n [] { taken s with sup := thermWanted ws s.sup }) :=
  serve_next_ok a rfl ((if_neg (by simp [order, margin, kth])).trans (if_neg (by simp [engine, machine])))

end

/-- Settles O46: every command's answer is one of the lemmas above, on the command's own row of `exec`. -/
theorem supervisorCommandsComplete : Obligations.SupervisorCommandsComplete := by
  unfold Obligations.SupervisorCommandsComplete
  intro s n ws
  exact ⟨execSupStatus_reports, execSupConfig_configures, execSupOutput_sets, execSupTrip_trips, execSupClear_ends, execSupLog_reports,
    fun a hot hottest => ⟨_, thermStatusWords_length s _ hot, execThermStatus_reports a hottest⟩,
    execThermConfig_sets⟩

end Sys2Proof.Machine
end

section
/-! SUPPORT. The start, the restart and the replacement of firmware, its heartbeat and the changes of power state: each row where it acts, and
what each of its cases does (R425, R454 to R456, R458 to R462, R464, Table 15.4). -/

namespace Sys2Proof.Machine

section
variable {s : State}

/-! BOOT_ROM_START and CORE_RESTART. -/

/-- The start of the boot ROM's bank counted, where it has one (R455). -/
def bankCounted (s : State) : State :=
  match s.fw.bank with
  | some b => tick 0x0E00 b s
  | none => s

theorem execBootRomStart_selects (eng : engOn s = true) (boot : s.fw.st = .boot) (unselected : s.fw.bank = none) (unparked : s.fw.parked = false) :
    execBootRomStart s = .next (bankCounted (bootSelect .cold s)) :=
  congrArg _ (when_pos _ _ s (by simp [eng, boot, unselected, unparked]))

theorem execCoreRestart_selects {t : Nat} (eng : engOn s = true) (fault : s.fw.st = .fault) (since : s.fw.resetSince = some t) :
    execCoreRestart s = .next (let u := atTime (t + 10000000000) s
      bootSelect s.fw.why (tick 0x0E03 0 (withFw (fun f => { f with restarts := u.now :: f.restarts, resetSince := none }) u))) := by
  unfold execCoreRestart
  simp only [eng, fault, since, beq_self_eq_true, Bool.and_self]
  rfl

/-! FW_READY and HEARTBEAT_TICK. -/

/-- Firmware of bank `b` is READY in power state `pw`: Goose is kicked, and the events held go out (R456). -/
def fwStarted (b : Nat) (pw : PowerSt) (s : State) : State :=
  drain (withSup (fun u => { u with kick := s.now }) (withFw (fun f => { f with
    st := .ready, running := (s.fw.banks[b]?).bind FlashBank.hdr, machineOk := true, power := pw
    wakeAt := none, recover := false, beatAt := s.now + 1000000000 }) s))

/-- EV_LIFE of a cold start from another power state than RUN (Table 15.12; log entry 64). -/
def lifeAnnounced (old : PowerSt) (s : State) : State := if old != .run then raise 0x0E02 dev 0 0 0 old.code 0 s else s

/-- The event of Goose's records that are new, where there are some. -/
def logAnnounced (s : State) : State :=
  if s.sup.logNew = 0 then s else raise 0x0D08 dev 0 0 s.sup.logNew 0 0 (withSup (fun x => { x with logNew := 0 }) s)

/-- What READY announces of Goose: its new records, and a trip that is still to be raised. -/
def gooseAnnounced (s : State) : State := tripEvent (logAnnounced s)

section
variable {b : Nat} (eng : engOn s = true) (boot : s.fw.st = .boot) (bank : s.fw.bank = some b) (chan : bitOf s.board.ddrMask.toNat 0 = true)
include eng boot bank chan

theorem execFwReady_cold (cold : s.fw.recover = false) : execFwReady s
    = .next (gooseAnnounced (lifeAnnounced s.fw.power (fwEvent s.fw.why.code (forRange 4 (fwStarted b .run s) chanBringUp)))) := by
  unfold execFwReady
  simp only [eng, boot, bank, chan, cold, beq_self_eq_true, Bool.and_self, Bool.not_false, Bool.true_and, if_true]
  rfl

theorem execFwReady_restart (restart : s.fw.recover = true) : execFwReady s
    = .next (abandonCommands (gooseAnnounced (fwEvent s.fw.why.code (fwStarted b s.fw.power s)))) := by
  unfold execFwReady
  simp only [eng, boot, bank, chan, restart, beq_self_eq_true, Bool.and_self, Bool.not_true, Bool.false_and, Bool.false_eq_true, if_false]
  rfl

end

theorem execHeartbeatTick_beats (ready : fwReady s = true) : execHeartbeatTick s = .next (
    let t := atTime s.fw.beatAt s
    trainNext (withSup (fun u => { u with kick := t.now }) (withFw (fun f => { f with beatAt := t.now + 1000000000 }) (tick 0x0100 0 t)))) := by
  refine congrArg _ ((when_pos _ _ s ready).trans ?_)
  simp only [tick_now, withFw]

/-! FW_LOAD_DONE. -/

/-- The state with the load that was under way over. -/
def loadEnded (s : State) : State := withFw (fun f => { f with load := none }) s

/-- The standby bank `k` written with an image (R460). -/
def bankWritten (k : Nat) (image : List Byte) (s : State) : State :=
  withFw (fun f => { f with banks := f.banks.set k { hdr := some (hdrOf image), sound := imageSound image } }) s

section
variable {l : FwLoad} {k : Nat} (ready : fwReady s = true) (load : s.fw.load = some l) (bank : standby s = some k)
include ready load bank

theorem execFwLoadDone_unread (unread : hostRead (loadEnded s) l.addr l.bytes = none) :
    execFwLoadDone s = .next (complete l.oid stDmaFault [] (loadEnded s)) := by
  unfold loadEnded at unread
  unfold execFwLoadDone
  simp only [ready, load, bank, unread]
  rfl

section
variable {image : List Byte} (read : hostRead (loadEnded s) l.addr l.bytes = some image)
include read

theorem execFwLoadDone_badCrc (differs : crc32c image ≠ l.crc) : execFwLoadDone s = .next (complete l.oid stCheck [] (loadEnded s)) := by
  unfold loadEnded at read
  unfold execFwLoadDone
  simp only [ready, load, bank, read, if_pos differs]
  rfl

/-- An image that arrived whole is written, and the answer says whether it is valid (R454, R460). -/
theorem execFwLoadDone_writes (agrees : crc32c image = l.crc) : execFwLoadDone s = .next (
    let v := bankWritten k image (loadEnded s)
    if bankOk v k then complete l.oid stOk [] v else complete l.oid 0x0E01 [] (tick 0x0E04 0 v)) := by
  unfold loadEnded at read
  unfold execFwLoadDone
  simp only [ready, load, bank, read, if_neg (not_not.mpr agrees)]
  rfl

end
end

/-! FW_PRELOAD_DONE, HANDOVER_COMPLETE and TRIAL_FAILED. -/

section
variable {w : FwActivate} {k : Nat} (ready : fwReady s = true) (activate : s.fw.activate = some w) (bank : standby s = some k)
  (pending : w.preloaded = false)
include ready activate bank pending

theorem execFwPreloadDone_handsOver (ok : Bool) : execFwPreloadDone ok s = .next (if ok && bankOk s k
    then gapPend .handover (some (1 <<< leadStation s)) (some w.oid)
      { s with fw := { s.fw with preload := (s.fw.banks[k]?).bind FlashBank.hdr, activate := some { w with preloaded := true } } }
    else complete w.oid 0x0E01 [] (tick 0x0E04 0 { s with fw := { s.fw with activate := none } })) := by
  unfold execFwPreloadDone
  simp only [ready, activate, bank, pending, Bool.false_eq_true, if_false]
  rfl

end

section
variable (eng : engOn s = true) (handover : s.fw.st = .handover)
include eng handover

/-- The new image READY on trial, with Goose kicked and the events held sent (R461, Table 15.4). -/
def trialStarted (s : State) : State :=
  drain (withSup (fun u => { u with kick := s.now }) (tick 0x0E02 0 { s with fw := { s.fw with
    st := .ready, why := .handover, bank := if (standby s).isSome then standby s else s.fw.bank, running := s.fw.preload, trial := true
    preload := none, activate := none, beatAt := s.now + 1000000000 } }))

section
variable {r : GapRun} (gap : s.page.gapRunning.find? (fun r => r.item.work == .handover) = some r)
include gap

theorem execHandoverComplete_faults : execHandoverComplete false s = .next (fwFault .trialFailed s) := by
  unfold execHandoverComplete
  simp only [eng, handover, gap, beq_self_eq_true, Bool.and_self, Bool.not_false, if_true]

theorem execHandoverComplete_starts : execHandoverComplete true s = .next (gapFinish r (fwEvent 3 (trialStarted s))) := by
  unfold execHandoverComplete
  simp only [eng, handover, gap, beq_self_eq_true, Bool.and_self, Bool.not_true, Bool.false_eq_true, if_false]
  rfl

end

theorem execTrialFailed_faults : execTrialFailed s = .next (fwFault .trialFailed s) :=
  congrArg _ (when_pos _ _ s (by simp [eng, handover]))

end

/-! LIFECYCLE_POWER_DOWN and WAKE_TIMER. -/

theorem execLifecyclePowerDown_powersDown (eng : engOn s = true) (due : s.fw.standbyDue = true) : execLifecyclePowerDown s = .next (
    let u := powerTo .standby (writeRecords s)
    powerDown .standby (tick 0x0E05 0 (withFw (fun f => { f with
      standbyDue := false, wakeAt := if f.wakeTimer = 0 then none else some (u.now + f.wakeTimer * 1000000000000) }) u))) :=
  congrArg _ (when_pos _ _ s (by simp [eng, due]))

theorem execWakeTimer_powersUp {t : Nat} (on : macOn s = true) (standby : s.fw.power = .standby) (off : s.sup.power.phase = .off)
    (wake : s.fw.wakeAt = some t) : execWakeTimer s = .next (powerUp (withFw (fun f => { f with wakeAt := none }) (atTime t s))) := by
  unfold execWakeTimer
  simp only [on, standby, off, wake, beq_self_eq_true, Bool.and_self]

end

/-- Settles O47: every case of every row is one of the lemmas above, on the row's own arm of `exec`. -/
theorem firmwareStartsRestartsAndHandsOver : Obligations.FirmwareStartsRestartsAndHandsOver := by
  unfold Obligations.FirmwareStartsRestartsAndHandsOver
  intro s
  refine ⟨execBootRomStart_selects, fun b eng boot bank chan => ?ready, execHeartbeatTick_beats, fun t => execCoreRestart_selects,
    fun l k ready load bank => ?loaded, fun w k ok ready activate bank pending => execFwPreloadDone_handsOver ready activate bank pending ok,
    fun r eng handover gap => ?handover, execTrialFailed_faults, execLifecyclePowerDown_powersDown, fun t => execWakeTimer_powersUp⟩
  case ready => exact ⟨execFwReady_cold eng boot bank chan, execFwReady_restart eng boot bank chan⟩
  case loaded =>
    exact ⟨execFwLoadDone_unread ready load bank,
      fun image read => ⟨execFwLoadDone_badCrc ready load bank read, execFwLoadDone_writes ready load bank read⟩⟩
  case handover => exact ⟨execHandoverComplete_faults eng handover gap, execHandoverComplete_starts eng handover gap⟩

end Sys2Proof.Machine
end

section
/-! SUPPORT. The commands of firmware and power states once the firmware has taken them: what each answers (R454, R460 to R464, R467, R468,
Tables 15.6 and 15.10). -/

namespace Sys2Proof.Machine

@[simp] theorem taken_standby (s : State) : standby (taken s) = standby s := rfl
@[simp] theorem taken_bankOk (s : State) (k : Nat) : bankOk (taken s) k = bankOk s k := rfl
@[simp] theorem taken_lifeMay (s : State) : lifeMay (taken s) = lifeMay s := rfl

section
variable {s : State} {n : Nat} {ws : List Word}

/-! FW.STATUS, FW.LOAD, FW.ACTIVATE and FW.COMMIT. -/

theorem execFwStatus_reports (a : Accepts s 0x0E01 [] n ws) : ∃ r, r.length = 6 ∧ execFwStatus s = .next (okReply n r (taken s)) :=
  ⟨_, rfl, serve_next_ok a rfl rfl⟩

theorem execFwLoad_begins (a : Accepts s 0x0E02 [allBits, allBits, allBits, allBits] n ws) (fits : par ws 4 ≤ 3145856)
    (bank : (standby s).isSome = true) (noActivation : s.fw.activate = none) (noLoad : s.fw.load = none) :
    execFwLoad s = .next (pendingReply n ws s.host.nextOid { taken s with fw := { s.fw with
      load := some { oid := s.host.nextOid, addr := par64 ws 2, bytes := par ws 4, crc := par ws 5 } } }) := by
  have mayLoad : ¬ ((standby s).isNone || s.fw.activate.isSome) = true := by simp [Option.isSome_iff_ne_none.mp bank, noActivation]
  exact serve_next_pending a rfl ((if_neg (Nat.not_lt.mpr fits)).trans ((if_neg mayLoad).trans (if_neg (by simp [noLoad]))))

theorem execFwActivate_waits (a : Accepts s 0x0E03 [] n ws) {k : Nat} (bank : standby s = some k) (valid : bankOk s k = true)
    (noLoad : s.fw.load = none) (noActivation : s.fw.activate = none) : execFwActivate s = .next (deferredReply n ws s.host.nextOid
      { taken s with fw := { s.fw with activate := some { oid := s.host.nextOid } } }) :=
  serve_next_deferred a rfl (if_neg (by simp [bank, valid, noLoad, noActivation]))

theorem execFwCommit_commits (a : Accepts s 0x0E04 [1] n ws) {b : Nat} (bank : s.fw.bank = some b) (uncommitted : b ≠ committed s) :
    execFwCommit s = .next (okReply n [] (withFw (fun f => { f with
      trial := false
      svnMin := if bitOf (par ws 2) 0 then Nat.max f.svnMin (((s.fw.running).map ImgHdr.svn).getD 0) else f.svnMin }) (bootWrite b (taken s)))) := by
  refine serve_next_ok a rfl ?_
  simp only [taken_fw, bank]
  exact if_neg uncommitted

/-! LIFE.IDLE, LIFE.STANDBY and LIFE.WAKE. -/

section
variable (may : lifeMay s = true)
include may

/-- Every online link goes to IDLE, and the camera ports stop (R463). -/
def quieted (s : State) : State :=
  forRange 4 (forRange 96 s (fun g s => if (port s g).st = .online then laneIdle g s else s))
    (fun p s => if (camPort s p).en then camStop p s else s)

theorem execLifeIdle_idles (a : Accepts s 0x0E05 [] n ws) : execLifeIdle s = .next (okReply n [] (powerTo .idle (quieted (taken s)))) :=
  serve_next_ok a rfl (if_neg (by simp [may]))

theorem execLifeStandby_asks (a : Accepts s 0x0E06 [allBits] n ws) : execLifeStandby s
    = .next (okReply n [] (writeRecords { taken s with fw := { s.fw with standbyDue := true, wakeTimer := par ws 2 } })) :=
  serve_next_ok a rfl (if_neg (by simp [may]))

end

/-- Every idle link exits 100 µs from now (R463). -/
def linksExit (s : State) : State :=
  forRange 96 s (fun g s => if (port s g).st = .idle then setPort g (fun p => { p with exitAt := some (s.now + 100 * usPs) }) s else s)

/-- A verification sweep is due on every DDR5 channel (R463; log entry 64). -/
def sweepsDue (s : State) : State := forRange 4 s (fun c s => setDdr c (fun d => { d with lastSweep := s.now - sweepPs }) s)

theorem execLifeWake_wakes (a : Accepts s 0x0E07 [] n ws) (idle : s.fw.power = .idle) :
    execLifeWake s = .next (okReply n [] (powerTo .run (sweepsDue (linksExit (taken s))))) :=
  serve_next_ok a rfl (if_neg (by simp [idle]))

end

/-- Settles O48: every command's answer is one of the lemmas above, on the command's own row of `exec`. -/
theorem firmwareCommandsComplete : Obligations.FirmwareCommandsComplete := by
  unfold Obligations.FirmwareCommandsComplete
  intro s n ws
  exact ⟨execFwStatus_reports, execFwLoad_begins, fun a k => execFwActivate_waits a, fun a b => execFwCommit_commits a,
    fun a may => execLifeIdle_idles may a, fun a may => execLifeStandby_asks may a, execLifeWake_wakes⟩

end Sys2Proof.Machine
end

section
/-! SUPPORT. The commands of counters, raw PRBS and injections once the firmware has taken them, and the rows of the spine, the test access
port and the PRBS checkers (R474, R477, R478, R481, R482, R484 to R488, Table 16.8). -/

namespace Sys2Proof.Machine

@[simp] theorem taken_rawOf (s : State) (g : Nat) : rawOf (taken s) g = rawOf s g := rfl
@[simp] theorem taken_injLive (s : State) (kind index : Nat) : injLive (taken s) kind index = injLive s kind index := rfl

section
variable {s : State} {n : Nat} {ws : List Word}

/-! CTR.READ and CTR.CLEAR. -/

/-- The words of CTR.READ for `k` instances of a counter from `first` on (Table 16.8). -/
def ctrReadWords (s : State) (d : CtrDesc) (id first k : Nat) : List Nat :=
  two (captureTime s id)
    ++ [d.cls.code + 256 * d.width,
        maskOf ((List.range k).filter (fun i => ctrInst d.per (first + i) && s.ctr.sat.contains (ctrKey id (first + i))))]
    ++ ((List.range k).map (fun i => two (if ctrInst d.per (first + i) then ctrRead s id (first + i) else 0))).flatten

/-- A counter's key is not that of one of the `k` instances of `id` from `first` on. -/
def ctrUnnamed (id first k key : Nat) : Bool := !(key / 65536 == id && decide (first ≤ key % 65536 ∧ key % 65536 < first + k))

/-- The counters with the values and SAT bits of the named instances cleared (R474). -/
def CtrState.clear (id first k : Nat) (c : CtrState) : CtrState :=
  { c with vals := c.vals.filter (fun v => ctrUnnamed id first k v.1), sat := c.sat.filter (ctrUnnamed id first k) }

/-- The counter has one of the `k` instances from `first` on. -/
theorem any_ctrInst {per : CtrPer} {first k : Nat} (has : ∃ i, i < k ∧ ctrInst per (first + i) = true) :
    (List.range k).any (fun i => ctrInst per (first + i)) = true := by
  obtain ⟨i, inside, inst⟩ := has
  exact List.any_eq_true.mpr ⟨i, List.mem_range.mpr inside, inst⟩

/-- Instances that include one the counter has are at least one. -/
theorem ctrInst_legal {per : CtrPer} {first k : Nat} (has : ∃ i, i < k ∧ ctrInst per (first + i) = true) :
    ¬ (k < 1 ∨ (!(List.range k).any (fun i => ctrInst per (first + i))) = true) := by
  have listed := any_ctrInst has
  obtain ⟨_, inside, _⟩ := has
  simp only [listed, Bool.not_true, Bool.false_eq_true, or_false]
  omega

section
variable {d : CtrDesc} (desc : ctrDesc (bits (par ws 2) 0 16) = some d)
include desc

theorem execCtrRead_reports (a : Accepts s 0x0F01 [0xFFFF, 0x1FFFFF] n ws) (least : 1 ≤ bits (par ws 3) 16 5) (most : bits (par ws 3) 16 5 ≤ 28)
    (has : ∃ i, i < bits (par ws 3) 16 5 ∧ ctrInst d.per (bits (par ws 3) 0 16 + i) = true) : execCtrRead s = .next (okReply n
      (ctrReadWords (taken s) d (bits (par ws 2) 0 16) (bits (par ws 3) 0 16) (bits (par ws 3) 16 5)) (taken s)) := by
  refine serve_next_ok a rfl ?_
  simp only [desc]
  refine if_neg ?_
  simp only [any_ctrInst has, Bool.not_true, Bool.false_eq_true, or_false, not_or, Nat.not_lt]
  exact ⟨least, most⟩

section
variable (a : Accepts s 0x0F02 [0xFFFF, 0xFFFF, 0xFFFF] n ws)
  (has : ∃ i, i < bits (par ws 4) 0 16 ∧ ctrInst d.per (bits (par ws 3) 0 16 + i) = true)
include a has

theorem execCtrClear_clears (saturates : d.cls = .s) : execCtrClear s = .next (okReply n []
    { taken s with ctr := s.ctr.clear (bits (par ws 2) 0 16) (bits (par ws 3) 0 16) (bits (par ws 4) 0 16) }) := by
  refine serve_next_ok a rfl ?_
  simp only [desc]
  exact (if_neg (ctrInst_legal has)).trans (if_neg (not_not.mpr saturates))

theorem execCtrClear_refuses (other : d.cls ≠ .s) : execCtrClear s = .next (respond n stState [] (taken s)) := by
  refine serve_next_refused a rfl ?_ (by decide) (by decide)
  simp only [desc]
  exact (if_neg (ctrInst_legal has)).trans (if_pos other)

end
end

/-! TEST.PRBS. -/

section
variable (a : Accepts s 0x0F03 [0x7303, allBits, allBits, allBits] n ws)

section
variable (raw : ∀ g, g ∈ maskLanes ws → (rawOf s g).isSome = true)
include raw

theorem maskLanes_inRaw : ¬ (maskLanes ws).any (fun g => (rawOf s g).isNone) = true := by
  simpa [Option.isSome_iff_ne_none] using raw

include a

theorem execTestPrbs_stops (stop : bits (par ws 2) 0 2 = 0) :
    execTestPrbs s = .next (okReply n (laneWords (maskLanes ws)) (lanesOff (maskLanes ws) (taken s))) := by
  refine serve_next_ok a rfl ?_
  simp only [stop]
  exact if_neg (maskLanes_inRaw raw)

/-- One more bit error is to be inserted on a lane in raw test (R481). -/
def rawInsert (g : Nat) (s : State) : State := setRaw g ((rawOf s g).map (fun r => { r with insert := r.insert + 1 })) s

theorem execTestPrbs_inserts (insert : bits (par ws 2) 0 2 = 3) :
    execTestPrbs s = .next (okReply n (laneWords (maskLanes ws)) (forList (maskLanes ws) (taken s) rawInsert)) := by
  refine serve_next_ok a rfl ?_
  simp only [insert]
  exact if_neg (maskLanes_inRaw raw)

end

include a

theorem execTestPrbs_starts (start : bits (par ws 2) 0 2 = 1) (least : 2 ≤ bits (par ws 2) 12 3) (most : bits (par ws 2) 12 3 ≤ 6)
    (off : ∀ g, g ∈ maskLanes ws → (port s g).st = .off) : execTestPrbs s = .next (okReply n (laneWords (maskLanes ws))
      (forList (maskLanes ws) (taken s) (rawStart (bits (par ws 2) 12 3) (bitOf (par ws 2) 9) (bitOf (par ws 2) 8)))) := by
  have legal : ¬ (bits (par ws 2) 12 3 < 2 ∨ 6 < bits (par ws 2) 12 3) := by omega
  have allOff : ¬ (maskLanes ws).any (fun g => (port (taken s) g).st != .off) = true := by simpa using off
  refine serve_next_ok a rfl ?_
  simp only [start]
  exact (if_neg legal).trans (if_neg allOff)

theorem execTestPrbs_reads {g : Nat} {rest : List Nat} {r : RawPrbs} (read : bits (par ws 2) 0 2 = 2) (lanes : maskLanes ws = g :: rest)
    (raw : rawOf s g = some r) : execTestPrbs s = .next (okReply n
      ([b2n r.chk.inSync] ++ two (ctrVal s 0x0F01 g) ++ [ctrVal s 0x0F02 g, ctrVal s 0x0F03 g]) (taken s)) := by
  refine serve_next_ok a rfl ?_
  simp only [read, lanes, taken_rawOf, raw]
  rfl

end

/-! INJ.ARM. -/

/-- What was left of the injection armed on a target (Table 16.8). -/
def injLeft (s : State) (kind index : Nat) : Nat := ((injOf s kind index).map Injection.remaining).getD 0

/-- The DROP injection that INJ.ARM's words spell (Table 16.8). -/
def dropOf (ws : List Word) : Injection :=
  { kind := bits (par ws 2) 0 2, index := bits (par ws 2) 8 7, action := .drop, live := bitOf (par ws 2) 24, ftype := bits (par ws 3) 0 8
    line := par ws 4, remaining := bits (par ws 5) 0 16, interval := bits (par ws 5) 16 16, offset := bits (par ws 6) 0 16
    mask := BitVec.ofNat 32 (par ws 7), delay := bits (par ws 8) 0 16 }

section
variable (a : Accepts s 0x0F04 [0x1077F03, 0xFF, allBits, allBits, 0xFFFF, allBits, 0xFFFF] n ws)
  (target : injTarget (bits (par ws 2) 0 2) (bits (par ws 2) 8 7) = true)
include a target

theorem execInjArm_disarms (noAction : bits (par ws 2) 16 3 = 0) : execInjArm s = .next (okReply n
    [injLeft s (bits (par ws 2) 0 2) (bits (par ws 2) 8 7)] (setInj (bits (par ws 2) 0 2) (bits (par ws 2) 8 7) none (taken s))) :=
  serve_next_ok a rfl ((if_neg (by simp [target])).trans (if_pos noAction))

theorem execInjArm_arms (drop : bits (par ws 2) 16 3 = 1) (remaining : 1 ≤ bits (par ws 5) 0 16) (interval : 1 ≤ bits (par ws 5) 16 16)
    (may : injLive s (bits (par ws 2) 0 2) (bits (par ws 2) 8 7) = false ∨ bitOf (par ws 2) 24 = true) : execInjArm s = .next (okReply n
      [injLeft s (bits (par ws 2) 0 2) (bits (par ws 2) 8 7)] (setInj (bits (par ws 2) 0 2) (bits (par ws 2) 8 7) (some (dropOf ws)) (taken s))) := by
  have action : injAction (bits (par ws 2) 16 3) = some .drop := by rw [drop]; rfl
  have allowed : ¬ (injLive (taken s) (bits (par ws 2) 0 2) (bits (par ws 2) 8 7) && !bitOf (par ws 2) 24) = true := by
    rcases may with quiet | live
    · simp [quiet]
    · simp [live]
  refine serve_next_ok a rfl ((if_neg (by simp [target])).trans ((if_neg (by simp [drop])).trans ?_))
  simp only [action]
  refine (if_neg ?_).trans (if_neg allowed)
  simpa using And.intro (Nat.ne_of_gt remaining) (Nat.ne_of_gt interval)

end

/-! SPINE_FRAME_RX. -/

/-- A frame offered to a target on which nothing is armed passes as it is. -/
theorem injOffer_unarmed {kind index : Nat} (ftype : Nat) (line : Option Nat) (len page : Nat) (unarmed : injOf s kind index = none) :
    injOffer kind index ftype line len page s = (s, none) := by
  unfold injOffer
  rw [unarmed]

theorem execSpineFrameRx_counts (toMachine corrected ok : Bool) (eng : engOn s = true) (unarmed : s.test.injections = []) :
    execSpineFrameRx toMachine corrected ok s = .next (spineCount (if toMachine then 0 else 1) corrected ok s) := by
  have nothing : injOf s 2 (if toMachine then 0 else 1) = none := by rw [injOf, unarmed]; rfl
  refine congrArg _ ((when_pos _ _ s eng).trans ?_)
  simp only [injOffer_unarmed 0 none 64 0 nothing]
  rfl

/-! JTAG_INSTRUCTION. -/

/-- The instruction that a code selects: EXTEST under TEST_MODE alone (R488; log entry 63). -/
def jtagSelected (s : State) (code : Nat) : JtagInstr :=
  if code = 1 then .idcode else if code = 2 then .samplePreload else if code = 3 ∧ s.board.testMode = true then .extest else .bypass

/-- A die's instruction register. -/
def jtagSet (machine : Bool) (j : JtagInstr) (s : State) : State :=
  { s with test := { s.test with jtag := s.test.jtag.set (if machine then 1 else 0) j } }

theorem execJtagInstruction_selects (machine : Bool) (code : Nat) (on : macOn s = true) (eng : engOn s = true) :
    execJtagInstruction machine code s = .next (jtagSet machine (jtagSelected s code) s) := by
  have runs : (if machine then macOn s else engOn s) = true := by cases machine <;> assumption
  refine congrArg _ ((when_pos _ _ s runs).trans (congrArg (jtagSet machine · s) ?_))
  match code with
  | 0 | 1 | 2 => rfl
  | 3 => cases test : s.board.testMode <;> simp [jtagSelected, test]
  | _ + 4 => simp [jtagSelected]

/-! PRBS_CHECKER_SYNC. -/

/-- What a lane's checker holds after received bits have gone through it (R482). -/
def rawChecked (r : RawPrbs) (bs : List Bool) : PrbsCount := (rawLine r bs).2.foldl (prbsCheck r.pattern) { chk := r.chk }

theorem execPrbsCheckerSync_raw {i : Nat} {bs : List Bool} {r : RawPrbs} (eng : engOn s = true) (raw : rawOf s i = some r) :
    execPrbsCheckerSync false i bs s = .next (bump 0x0F03 i (rawChecked r bs).resyncs (bump 0x0F02 i (rawChecked r bs).errs
      (bump 0x0F01 i (rawChecked r bs).bits (setRaw i (some { (rawLine r bs).1 with chk := (rawChecked r bs).chk })
        (if r.nearEnd = true then s else emit (.rawBits i (rawSent r bs.length)) s))))) := by
  unfold execPrbsCheckerSync
  simp only [raw, Bool.false_eq_true, if_false]
  exact congrArg _ (when_pos _ _ s eng)

theorem execPrbsCheckerSync_spine {i : Nat} {bs : List Bool} (eng : engOn s = true) (inside : i < 2) : execPrbsCheckerSync true i bs s = .next (
    let c := bs.foldl (prbsCheck 6) { chk := s.test.spine.getD i {} }
    bump 0x0F06 (256 * i) c.errs { s with test := { s.test with spine := s.test.spine.set i c.chk } }) :=
  congrArg _ ((if_pos rfl).trans (when_pos _ _ s (by simp [eng, inside])))

end

/-- Settles O33: every case of every command and every row is one of the lemmas above, on its own row of `exec`. -/
theorem countersAndTestAccess : Obligations.CountersAndTestAccess := by
  unfold Obligations.CountersAndTestAccess
  intro s n ws
  refine ⟨fun a d desc => execCtrRead_reports desc a, fun a d desc has => ⟨execCtrClear_clears desc a has, execCtrClear_refuses desc a has⟩,
    fun a => ?prbs, fun a target => ⟨execInjArm_disarms a target, execInjArm_arms a target⟩, execSpineFrameRx_counts,
    execJtagInstruction_selects, fun i bs eng => ⟨fun r => execPrbsCheckerSync_raw eng, execPrbsCheckerSync_spine eng⟩⟩
  exact ⟨fun stop raw => execTestPrbs_stops a raw stop, execTestPrbs_starts a, fun g rest r => execTestPrbs_reads a,
    fun insert raw => execTestPrbs_inserts a raw insert⟩

end Sys2Proof.Machine
end

section
/-! SUPPORT. Writes of the host interface's registers by their access codes (R7, R42, R54, Tables 2.4, 2.8 and 2.10). -/

namespace Sys2Proof.Machine

section
variable {off : Nat} {v : Word} {s : State}

theorem execRegisterWrite_decoded (bar : barOn s = true) : execRegisterWrite off v s = .next (registerWrite off v s) :=
  congrArg _ (when_pos _ _ s bar)

theorem execRegisterWrite_undecoded (bar : barOn s = false) : execRegisterWrite off v s = .next s := congrArg _ (when_neg _ _ s bar)

theorem registerWrite_unlisted (unlisted : regListed off = false) : registerWrite off v s = accErr 1 off false s := if_pos (by simp [unlisted])

/-! The identity and mailbox blocks (Tables 2.4 and 2.8). -/

theorem registerWrite_identity : registerWrite 0 v s = s := rfl

theorem registerWrite_scratch : registerWrite 0x028 v s = { s with host := { s.host with scratch := v } } := rfl

theorem registerWrite_accErr : registerWrite 0x030 v s = { s with host := { s.host with accErr := s.host.accErr &&& ~~~(v.setWidth 6) } } := rfl

theorem registerWrite_diag :
    registerWrite 0x040 v s = { s with host := { s.host with diagEn := v.getLsbD 0, diagRegion := (v >>> 4).setWidth 2 } } := rfl

theorem registerWrite_slotDone :
    registerWrite 0x2008 v s = { s with host := { s.host with slotDone := s.host.slotDone &&& ~~~(v.setWidth 16) } } := rfl

/-! The interrupt and event ring block (Table 2.10). -/

theorem registerWrite_moderation : registerWrite 0x301C v s
    = { s with host := { s.host with modCount := v.setWidth 16, modTimer := (v >>> 16).setWidth 16 } } := rfl

theorem registerWrite_intStatus :
    registerWrite 0x3020 v s = { s with host := { s.host with intStatus := s.host.intStatus &&& ~~~(v.setWidth 4) } } := rfl

theorem registerWrite_intEn : registerWrite 0x3024 v s = { s with host := { s.host with intEn := v.setWidth 4 } } := rfl

/-- The ring base takes its value while the ring is disabled (R54). -/
theorem registerWrite_ringBase (disabled : s.host.evrEn = false) :
    registerWrite 0x3000 v s = { s with host := { s.host with evrBaseLo := v &&& 0xFFFFF000 } } :=
  if_neg (by simp [disabled])

end

/-- Settles O11: a decoded write is the register's own lemma above, and one that is not decoded changes nothing. -/
theorem registerWritesFollowAccessCodes : Obligations.RegisterWritesFollowAccessCodes := by
  unfold Obligations.RegisterWritesFollowAccessCodes
  intro v s
  refine ⟨fun bar => ?_, fun bar off => execRegisterWrite_undecoded bar⟩
  have writes {off : Nat} {t : State} (w : registerWrite off v s = t) : execRegisterWrite off v s = .next t :=
    (execRegisterWrite_decoded bar).trans (congrArg _ w)
  exact ⟨writes registerWrite_scratch, writes registerWrite_accErr, writes registerWrite_diag, writes registerWrite_slotDone,
    writes registerWrite_intStatus, writes registerWrite_intEn, writes registerWrite_moderation,
    fun enabled => execRegisterWrite_ringLocked enabled (.inl rfl), fun disabled => writes (registerWrite_ringBase disabled),
    writes registerWrite_identity, fun off unlisted => writes (registerWrite_unlisted unlisted)⟩

end Sys2Proof.Machine
end

section
/-! SUPPORT. A step: the front command, or the idle tick where none waits (log entries 1 and 2); and the words that spell a command. -/

namespace Sys2Proof.Machine

theorem step_front (c : Instr) (q : List Instr) (s : State) : step { s with pending := c :: q } = exec c { s with pending := q } := rfl

section
variable {s : State}

theorem step_idle (empty : s.pending = []) : step s = .next (idleTick s) := by
  unfold step
  rw [empty]

/-- The clock moves to a time that lies ahead. -/
theorem atTime_ahead (d : Nat) (s : State) : atTime (s.now + d) s = { s with now := s.now + d } := by
  have later : Nat.max s.now (s.now + d) = s.now + d := Nat.max_eq_right (Nat.le_add_right s.now d)
  rw [atTime, later]

theorem idleTick_notReady (notReady : fwReady s = false) : idleTick s = { s with now := s.now + 2500 } :=
  (when_neg _ _ _ notReady).trans (atTime_ahead 2500 s)

/-- With no load open, the background work is the end of EXP.TONE_NEUTRAL. -/
theorem idleWork_neutral (noScreen : loadingScreen s = none) (noProgram : s.loop.loads = []) : idleWork s = neutralEnd s := by
  simp only [idleWork, noScreen, noProgram]

theorem idleTick_ready (ready : fwReady s = true) (noScreen : loadingScreen s = none) (noProgram : s.loop.loads = []) :
    idleTick s = neutralEnd { s with now := s.now + 2500 } :=
  (when_pos _ _ _ ready).trans ((idleWork_neutral (s := atTime (s.now + 2500) s) noScreen noProgram).trans
    (congrArg neutralEnd (atTime_ahead 2500 s)))

end

/-- Settles O1: on a queue that is not empty `step` is `exec` of the front command by definition. -/
theorem stepRunsTheFrontCommand : Obligations.StepRunsTheFrontCommand := step_front

/-- Settles O2: an idle step moves the clock, and firmware that is READY ends background work. -/
theorem emptyQueueIdles : Obligations.EmptyQueueIdles := by
  unfold Obligations.EmptyQueueIdles
  intro s empty
  rw [step_idle empty]
  exact ⟨fun notReady => congrArg _ (idleTick_notReady notReady),
    fun ready noScreen noProgram => congrArg _ (idleTick_ready ready noScreen noProgram)⟩

/-- The table gives no row any bits. -/
theorem decodeTableWord_none (nbits w : Nat) : decodeTableWord nbits w = none := rfl

/-- A word that spells no command leaves the queue as it is. -/
theorem withFetchWord_spellsNone {s : State} {nbits w : Nat} (spellsNone : decodeTableWord nbits w = none) : s.withFetchWord nbits w = s := by
  unfold State.withFetchWord
  rw [spellsNone]

/-- Settles O3: no word spells a command, so none is fetched. -/
theorem tableWordsSpellNoCommand : Obligations.TableWordsSpellNoCommand := by
  unfold Obligations.TableWordsSpellNoCommand
  intro nbits w s
  have spellsNone := decodeTableWord_none nbits w
  exact ⟨spellsNone, withFetchWord_spellsNone spellsNone⟩

end Sys2Proof.Machine
end
